-- ==== Sys2Proof/Word.lean ====
section
/-! DEFINITION. The words of the PLX-256: bytes, 32-bit object words, 64-bit Spores, and the bit fields cut out of them.
Numbers follow 00_scope.md, "Conventions": multi-byte values are little-endian, bit ranges are [msb:lsb]. -/
set_option Elab.async false
namespace Sys2Proof

/-- One byte of a memory. -/
abbrev Byte := BitVec 8

/-- One 32-bit word of the object map (R12). -/
abbrev Word := BitVec 32

/-- One 64-bit Spore of a record (R95). -/
abbrev Spore := BitVec 64

/-- The field of `w` bits whose bit 0 is bit `lo` of `x`. -/
def bits (x lo w : Nat) : Nat := x / 2 ^ lo % 2 ^ w

/-- Bit `k` of `x`. -/
def bit (x k : Nat) : Bool := bits x k 1 == 1

/-- `x` with the field of `w` bits at bit `lo` replaced by `v`. -/
def setBits (x lo w v : Nat) : Nat := x - bits x lo w * 2 ^ lo + v % 2 ^ w * 2 ^ lo

/-- A truth value as one bit. -/
def b2n (b : Bool) : Nat := if b then 1 else 0

/-- The value of `x`, a pattern of `w` bits, in two's complement. -/
def toSigned (x w : Nat) : Int := if x % 2 ^ w < 2 ^ (w - 1) then (x % 2 ^ w : Nat) else (x % 2 ^ w : Nat) - (2 ^ w : Nat)

/-- The pattern of `w` bits of the integer `v`, in two's complement. -/
def ofSigned (v : Int) (w : Nat) : Nat := (v % (2 ^ w : Nat)).toNat

/-- `v` limited to the interval from `lo` to `hi`. -/
def clampInt (lo hi v : Int) : Int := if v < lo then lo else if hi < v then hi else v

/-- `v` limited to the interval from `lo` to `hi`. -/
def clampNat (lo hi v : Nat) : Nat := if v < lo then lo else if hi < v then hi else v

/-- The quotient rounded up. -/
def ceilDiv (a b : Nat) : Nat := (a + b - 1) / b

end Sys2Proof
end

