-- ==== Sys2Proof/Syntax.lean ====
section
/-! DEFINITION. The commands of the module: the rows of spec/opcode_table.json, one constructor each, with what the outside
world or the moment supplies as operands. `t` is the moment of a command, in picoseconds since power-on (log 2). What only a
circuit or a cryptographic computation outside the model can tell (a tag that verifies, a level, a measured phase) is an
operand of the command that reports it (log 3). -/
set_option Elab.async false
namespace Sys2Proof

/-- An execution stamp (R45), its four fields apart. -/
structure Stamp where
  frame : Nat
  line : Nat
  dom : Nat
  imm : Bool
  deriving DecidableEq, Repr

/-- A record (R95): head, stamp and body Spores. The tag is the `ok` operand of the command that delivers the record. -/
structure Rec where
  kind : Nat
  order : Nat
  sender : Nat
  target : Nat
  stamp : Stamp
  body : List Nat
  deriving DecidableEq, Repr

/-- What surrounds a Trarad message (R379, R380): the moment, the session slot, the sequence number, the MORE flag, whether
the tag verifies, and whether the body's length matches its COUNT or BYTES (R385). -/
structure Msg where
  t : Nat
  sess : Nat
  seq : Nat
  more : Bool
  tagOk : Bool
  lenOk : Bool
  deriving DecidableEq, Repr

/-- One destination of a TAKE or SALVO (R385). -/
structure Dest where
  dest : Nat
  group : Bool
  src : Nat
  black : Bool
  deriving DecidableEq, Repr

/-- A certificate as Xithaid reads it (R423): whether its chain verifies to the owner, whether it is self-signed P-384,
its serial, its validity in seconds, its role, and the controller extension. -/
structure Cert where
  chainOk : Bool
  selfSigned : Bool
  serial : Nat
  notBefore : Nat
  notAfter : Nat
  controller : Bool
  ctrlId : Nat
  priv : Nat
  deriving DecidableEq, Repr

/-- What the output stage measures at a destination when a take lands (R128, R131): the output, whether the incoming stream
and the outgoing stream have their line 1 at the frame start, the incoming stream's format code, and its interface (the
VO_STD code of R144). -/
structure TakeMeas where
  out : Nat
  inTimed : Bool
  outTimed : Bool
  inFmt : Nat
  inStd : Nat
  /-- The identifier of the incoming stream's source, if it has one (R153), and whether the stream comes from transparent alignment (R157). -/
  inVpid : Option Nat
  inTransp : Bool
  deriving DecidableEq, Repr

/-- One audio action entry (R220): a body Spore, or the image part of a node. -/
abbrev AudEntry := Nat

/-- A stream's place on a fabric link (R90, R107): the sender and its link, the direction (`up` from an edge module to a
centre), plane, centre and edge position, slot, first sub-slot and slot format (0 S12, 1 S6, 2 S3, 3 S1), the router input,
the router outputs that use it, and, in the manager's model, the point (domain and frame) from which none does (R106). `hand`
marks a stream that waits for a handover in the slot (R109). -/
structure Leg where
  node : Nat
  link : Nat
  outs : List Nat
  hand : Bool
  up : Bool
  plane : Nat
  centre : Nat
  edge : Nat
  slot : Nat
  sub : Nat
  fmt : Nat
  src : Nat
  until_ : Option (Nat × Nat)
  deriving DecidableEq, Repr

/-- One object of a state image (R34, log 12), of which the spec gives no layout: an output (its source and path as a body Spore of R97, its
lock and holder), an audio node or an IMPORT as an entry of R221, words of an ordered field (entry and address each with 2^64 times its node's
number added), a stream in a fabric slot, or an action ordered up to k and not yet executed. -/
inductive ImgObj where
  | output (spore lock holder : Nat)
  | node (entry : Nat)
  | words (addr : Nat) (data : List Nat)
  | slot (g : Leg)
  | action (r : Rec)
  deriving DecidableEq, Repr

/-- A measured SDI frame (R66 to R73). -/
structure SdiFrame where
  /-- Arrival of the line-1 EAV, house time, ps. -/
  start : Nat
  complete : Bool
  /-- The structure as measured: samples a line, lines, two fields. -/
  samples : Nat
  total : Nat
  interlaced : Bool
  /-- VI_RATE, VI_RATE_FRAC, VI_LEVEL codes. -/
  rate : Nat
  frac : Nat
  level : Nat
  /-- The structure is one that R63 does not accept. -/
  unsupported : Bool
  /-- ST 352 identifier, if one is present. -/
  vpid : Option Nat
  /-- The identifier declares segmented frame. -/
  psf : Bool
  /-- The identifier agrees with the measurement. -/
  vpidAgrees : Bool
  /-- Link number 1 to 4 in the identifier, 0 if none. -/
  linkNo : Nat
  /-- The identifier declares the square-division mapping of ST 425-5. -/
  square : Bool
  /-- Skew against the group's first link, in samples. -/
  skew : Nat
  /-- Lines failing CRC, ancillary checksum failures, uncorrectable audio packets. -/
  crcLines : Nat
  ancErrs : Nat
  audErrs : Nat
  /-- The interface words of 10 bits, line by line from line 1, each line from its EAV: chroma and luma in turn. -/
  lines : List (List Nat)
  deriving DecidableEq, Repr

/-- The stream delivered to an output has changed without a take: the output, the stream's interface (VO_STD code, 0 none) and format, whether
it is timed, its source's identifier, if it has one, and whether it comes from transparent alignment (R78, R146, R153, R157). -/
structure StreamObs where
  out : Nat
  std : Nat
  fmt : Nat
  timed : Bool
  vpid : Option Nat
  transp : Bool
  deriving DecidableEq, Repr

/-- The topology entry of a node (R37, R370): role, plane, the active partner of a node from N48 on, its fabric position. -/
structure TopoEntry where
  node : Nat
  role : Nat
  plane : Nat
  partner : Nat
  fabPos : Nat
  deriving DecidableEq, Repr

/-- A Fern program or library block (R254): its number, entry bundle, bundle image (four slot words for each bundle), data image, shared
region (first word and length), algorithmic latency, worst-case cycles, input, output, line and tap counts, and whether a library block
verifies. -/
structure FernProg where
  prog : Nat
  entry : Nat
  code : List Nat
  data : List Nat
  shBase : Nat
  shLen : Nat
  algLat : Nat
  wcet : Nat
  ins : Nat
  outs : Nat
  lines : Nat
  taps : Nat
  sigOk : Bool
  deriving DecidableEq, Repr

/-- A firmware set as the module reads it from its slot (R442): length, the set ids of its three components, its security
version, its digest, whether its signature and tags verify, and what its manifest lists. -/
structure FwImage where
  len : Nat
  setIds : List Nat
  svn : Nat
  digest : Nat
  sigOk : Bool
  revs : List Nat
  formats : List Nat
  peers : List Nat
  /-- The Fern library: its set id and its blocks. -/
  libSet : Nat
  lib : List FernProg
  deriving DecidableEq, Repr

/-- A configuration image as the module reads it from its slot (R440, R443). `records` are the field records of section 4:
address and words. -/
structure CfgImage where
  len : Nat
  svn : Nat
  format : Nat
  digest : Nat
  named : Bool
  sigOk : Bool
  signerOk : Bool
  wellFormed : Bool
  geom : Nat
  edgeCount : Nat
  mgrA : Nat
  mgrB : Nat
  topoDigest : Nat
  formats : List Nat
  topo : List TopoEntry
  fabricGen : Nat
  revoked : List Nat
  records : List (Nat × List Nat)
  progs : List FernProg
  groups : List (Nat × List Nat)
  startSalvo : Option (List Dest)
  filters : List (Nat × List Nat)
  deriving DecidableEq, Repr

/-- A copy of the NVM directory (R439): generation, active pair (0 A, 1 B), the states of the slots in the order firmware A,
configuration A, firmware B, configuration B (0 EMPTY, 1 VALID, 2 UNCONFIRMED), and whether its CRC-32C is good. -/
structure Directory where
  gen : Nat
  active : Nat
  slots : List Nat
  crcOk : Bool
  deriving DecidableEq, Repr

/-- The update record of a pair (R464). -/
structure UpdRec where
  confirmS : Nat
  healthS : Nat
  source : Nat
  setId : Nat
  result : Nat
  deriving DecidableEq, Repr

/-- The NVM device (R438, R439): the modes its SFDP tables declare (codes of SU_NVM_IF, none where the tables are absent or
fail), the clock they declare in MHz, its size in MiB, whether it answers, its directory copies and its slots. -/
structure Nvm where
  sfdp : List Nat
  mhz : Nat
  mib : Nat
  answers : Bool
  dir0 : Directory
  dir1 : Directory
  fw : List (Option FwImage)
  cfg : List (Option CfgImage)
  upd : List UpdRec
  deriving DecidableEq, Repr

/-- What the lands and the device show when power comes up (R20, R494): the six node straps, the input voltage in 10 mV,
whether the rails and LO_IN are good, the case temperature in 0.1 degree, and the NVM device if one is newly fitted. -/
structure PowerPins where
  nid : Nat
  vin : Nat
  railsOk : Bool
  loOk : Bool
  tcase : Int
  nvm : Option Nvm
  deriving DecidableEq, Repr

/-- What Xithaid finds of a claim request or a debug token (R422, R431): the certificate parses, the claim code's digest
equals the fused one, the release signature verifies, the new owner's digest; the token's signature verifies, it names this
module. -/
structure ClaimVerdict where
  certOk : Bool
  codeOk : Bool
  releaseOk : Bool
  ownerDigest : Nat
  tokenOk : Bool
  tokenHere : Bool
  deriving DecidableEq, Repr

/-- The manager's answer to a JOIN (R449, R427). -/
inductive JoinAns where
  | peerUntested (setId : Nat)
  | mismatch
  | admitted (routerStart gen incarnation : Nat)
  deriving DecidableEq, Repr

/-- What the circuits report at a frame start: the inputs whose next frame has begun to arrive and is not yet complete, with
the arrival of its line-1 EAV in house time (R76); the outputs at which the stream delivered has changed without a take; the uncorrectable
frame-store codewords that the reading which now begins meets, as (input, line, first byte in the line) (R82); how many codewords the store has
corrected since the frame start before (R82); and the bits in which a Moss region's composed or check CRC over the frame that has just ended is wrong by a fault of its
path, as (head, region, composed, check) (R350, R351). -/
structure FrameObs where
  begun : List (Nat × Nat)
  streams : List StreamObs
  peat : List (Nat × Nat × Nat)
  corrected : Nat
  sigs : List (Nat × Nat × Nat × Nat)
  deriving DecidableEq, Repr


/-- What a frame to send is (R188): tagged with a priority, a PTP message, a Trarad message, of a video or an audio send flow, or anything else of the
module's own. -/
inductive TxKind where
  | tagged (pcp : Nat)
  | ptp
  | trarad
  | video (flow : Nat)
  | audio (flow : Nat)
  | other
  deriving DecidableEq, Repr

/-- A received Ethernet frame: whether the media engines of IP media flows take it, its length in octets with FCS, whether its FCS
is good, its 802.1Q tag (VID, PCP), EtherType, its destination address (byte 0 in bits 7 to 0), its first four payload bytes,
whether it is a fragment sequence that breaks IEEE 802.3br, whether it is a verify message (1) or a response to one (2), its
time-stamp's eighths of a tick, how many descriptors of its queue firmware has handed back since the queue's last frame, and its
octets; and the version of the IGMP or MLD general query that it holds, if it holds one (R161). -/
structure EthFrame where
  media : Bool
  len : Nat
  fcsOk : Bool
  tag : Option (Nat × Nat)
  etype : Nat
  dst : Nat
  key : Nat
  broken : Bool
  verify : Nat
  fine : Nat
  freed : Nat
  data : List Nat
  querier : Option Nat
  deriving DecidableEq, Repr

/-- The frame sync and data in lands of a TDM port at the rising and at the falling edge of one bit clock (R269). -/
structure TdmClk where
  fsRise : Bool
  dRise : Bool
  fsFall : Bool
  dFall : Bool
  deriving DecidableEq, Repr

/-- A frame received at a slave TDM port (R269, R273, R275, R283, R285): the lands through its bit clocks, from where the port frames it to the bit
clock before the next frame, the frame rate over the last 16 frames in mHz, the measured bit clock in kHz, frames gained (or lost, below 0) when a
missing sync is found at another count, and a completed 1 s window's deviation from the house audio rate in hundredths of a ppm. -/
structure TdmFrame where
  pins : List TdmClk
  mHz : Nat
  kHz : Nat
  gain : Int
  win : Option Int
  deriving DecidableEq, Repr

/-- A sample that enters an ingress source of the audio matrix in this sample period (R208): the source, the sample, and its V, U, C and
block-start bits in bits 0 to 3, where the source carries channel status. -/
structure AudioIn where
  src : Nat
  v : Int
  cs : Option Nat
  deriving DecidableEq, Repr

/-- A cell (R86): CLASS, PLANE, SP, SU, SL, FS, VER; SLOT, SUB and FMT; STREAM, SEQ, CRC; the Spore; the payload of 512 bytes as one number, byte
16 least significant. -/
structure Cell where
  cls : Nat
  plane : Nat
  sp : Bool
  su : Bool
  sl : Bool
  fs : Bool
  ver : Nat
  slot : Nat
  sub : Nat
  fmt : Nat
  stream : Nat
  seq : Nat
  crc : Nat
  spore : Nat
  payload : Nat
  deriving DecidableEq, Repr

/-- The full cell of a stream in line or transparent alignment that stands ready (R88, R102): its place among the stream's cells, whether it opens
a frame, its 4,096 bits. What stands ready of a stream in frame alignment the module's own frames tell. -/
structure CellReady where
  n : Nat
  fs : Bool
  payload : Nat
  deriving DecidableEq, Repr

/-- A frame received on the Lichen link (R359): its Spores, its CRC, and whether a K28.1 cut it off. -/
structure LichenIn where
  spores : List Nat
  crc : Nat
  cut : Bool
  deriving DecidableEq, Repr

/-- A cell received on a fabric link (R87, R103): the cell, whether it overlaps an uncorrectable codeword and is the first cell to do so, codewords
corrected since the cell before, and, for a stream whose delivery moments the domain does not tell, whether the copy is too late for its own. -/
structure CellIn where
  cell : Cell
  uncorr : Bool
  newCw : Bool
  corr : Nat
  late : Bool
  deriving DecidableEq, Repr

/-- An ancillary packet in a -40 packet: the line and the place of its first word in the raster, the distance from word to word (1 on ST 259, 2
elsewhere), and its words from 000h, 3FFh, 3FFh on (R165). -/
structure AncIn where
  line : Nat
  off : Nat
  step : Nat
  words : List Nat
  deriving DecidableEq, Repr

/-- A copy of a media packet (R165 to R170, R172): the flow it belongs to (that of an audio flow where `aud`), the target of that flow (0 the one
delivered, 1 the one that waits, 2 the one being left), its leg, its RTP sequence number, its RTP timestamp (of a frame of two fields that of
field 1), the frame count of ST 2022-6, whether it ends its frame, whether it is of the -40 companion. -/
structure IpPacket where
  aud : Bool
  flow : Nat
  target : Nat
  leg : Nat
  seq : Nat
  ts : Nat
  frc : Nat
  marker : Bool
  companion : Bool
  /-- Where its words stand: the row of the active picture (from 0) and the word in it, or, in ST 2022-6, the line (from 1) and the word in it. -/
  row : Nat
  off : Nat
  words : List Nat
  anc : List AncIn
  /-- An audio packet's sample periods: each channel's value, 24 bits, and in ST 2110-31 its V, U, C and block-start bits. -/
  smps : List (List (Int × Nat))
  /-- At the end of a frame: what is measured of it as of an SDI frame, whose `start` and `lines` the module makes. -/
  measured : Option SdiFrame
  /-- Of an audio flow, a completed 1 s window's deviation in hundredths of a ppm. -/
  win : Option Int
  deriving DecidableEq, Repr

/-- What a HEARTBEAT carries (R358). -/
structure Beat where
  epoch : Nat
  active : Nat
  state : Nat
  health : Nat
  held : Nat
  deriving DecidableEq, Repr

/-- Which condition of R494 ends power-good, but for a TRIP: the lockout, the overvoltage shut-down, a rail, LO_IN. -/
inductive PgLoss where
  | lockout
  | overvoltage
  | rail
  | oscillator
  deriving DecidableEq, Repr

/-- How far a burst comes at the command that names it (R405, R408): it waits for its grant; it is granted, its target has not answered
yet, and (a write) so many beats are delivered; it is answered (log 21). -/
inductive BurstFate where
  | waiting
  | granted (beats : Nat)
  | answered
  deriving DecidableEq, Repr

/-- The body of an UPDATE OPEN (R461). -/
structure Offer where
  content : Nat
  fwLen : Nat
  cfgLen : Nat
  setId : Nat
  fwSvn : Nat
  cfgSvn : Nat
  format : Nat
  targets : Nat
  fwDigest : Nat
  cfgDigest : Nat
  confirmS : Nat
  healthS : Nat
  deriving DecidableEq, Repr

/-- The commands: one constructor for every row of the table of operations and events. -/
inductive Instr where
  /-- POWER_GOOD_RISE (R494): Power-good asserts once VIN, rails, LO_IN, thermal state and case temperature allow it, and a start begins under R435. -/
  | powerGoodRise (t : Nat) (pins : PowerPins)
  /-- POWER_GOOD_FALL (R494): Power-good falls; lanes go idle within 1 us, GPOs drive low, EVT pins release, SW_D floats, and any start in progress ends under R437. -/
  | powerGoodFall (t : Nat) (why : PgLoss)
  /-- RST_N_RELEASE (R435): Release of RST_N after at least 10 us low begins a new start from step 1. -/
  | rstNRelease (t lowPs : Nat)
  /-- START (R435): The start sequence runs POWER_UP, VERIFY, LOADING and RUNNING, choosing a pair, loading and checking every field and starting the role. -/
  | start (t : Nat)
  /-- SYS_RESTART_WRITE (R453): A write of 5A5Ah to SYS_RESTART schedules a start at the next D0 frame start, or 1 ms later without D0 locked. -/
  | sysRestartWrite (t value : Nat)
  /-- COMMANDED_RESTART (R453): The restart that a SYS_RESTART write, an ACTIVATE or a fall-back scheduled begins at its D0 frame start or after its delay. -/
  | commandedRestart (t : Nat)
  /-- REGISTER_WRITE (R6): A write to a field without a row of its own takes effect under its access code, with range checks under R11 and R507. -/
  | registerWrite (t addr : Nat) (data : List Nat)
  /-- COUNTER_CLEAR_WRITE (R83): A write of 1 to a CNT_CLR field clears every counter of its object. -/
  | counterClearWrite (t addr value : Nat)
  /-- OPEN (R376): A controller OPEN is checked against the owner chain and answered with OPEN_ACK, or NOT_AUTHORISED. -/
  | open_ (t port : Nat) (cert : Cert)
  /-- CONFIRM (R376): A CONFIRM signature completes session set-up and the session becomes OPEN. -/
  | confirm (t sess : Nat) (sigOk : Bool)
  /-- SESSION_CONFIRM_TIMEOUT (R376): With no CONFIRM 2 s after OPEN_ACK, the session closes and counts as an authentication failure. -/
  | sessionConfirmTimeout (t sess : Nat)
  /-- CLOSE (R375): CLOSE ends a session and releases its subscriptions and event queue. -/
  | close (m : Msg)
  /-- SESSION_IDLE_TIMEOUT (R375): A session with no valid message for TC_IDLE_S closes. -/
  | sessionIdleTimeout (t sess : Nat)
  /-- MESSAGE_PART_TIMEOUT (R379): A multi-part message with a part still missing 100 ms after the first is discarded and answered BAD_MESSAGE. -/
  | messagePartTimeout (t sess : Nat)
  /-- TAKE (R122): The active manager validates a TAKE, sets up paths, assigns an order number and stamp, and sends the records. -/
  | take (m : Msg) (req : Stamp) (d : Dest)
  /-- SALVO (R123): The active manager validates and orders a SALVO as one action, with one order number and one stamp. -/
  | salvo (m : Msg) (req : Stamp) (count : Nat) (ds : List Dest)
  /-- LOCK (R134): The active manager validates and orders a LOCK message that sets UNLOCK, LOCK or PROTECT on outputs. -/
  | lock (m : Msg) (req : Stamp) (mode : Nat) (force : Bool) (count : Nat) (outs : List Nat)
  /-- REALIGN (R302): The active manager validates a REALIGN in SLEW or STEP mode, computes delta and orders it. -/
  | realign (m : Msg) (req : Stamp) (mode : Nat)
  /-- WRITE (R386): The active manager checks the fields of a WRITE and orders it as a KIND 5 record, or as KIND 4 for AM_NODE_PORT. -/
  | write (m : Msg) (req : Stamp) (node addr bytes : Nat) (data : List Nat)
  /-- AUDIO_ACTION (R222): A WRITE to AM_NODE_PORT is validated entry by entry and ordered as one audio action, with bundles routed under R214. -/
  | audioAction (m : Msg) (req : Stamp) (node bytes : Nat) (entries : List AudEntry)
  /-- SVC_DIRECT_WRITE (R382): A WRITE on SVC to the claim objects, SEC_DEBUG_TOKEN or SYS_RESTART acts directly on the receiving module. -/
  | svcDirectWrite (m : Msg) (addr bytes : Nat) (data : List Nat) (v : ClaimVerdict)
  /-- READ (R387): A READ returns the module's own words, from one instant within a 64-byte line. -/
  | read (m : Msg) (addr bytes : Nat)
  /-- QUERY_LATENCY (R235): A QUERY of kind LATENCY returns the total and each term of an audio path, or NO_PATH. -/
  | queryLatency (m : Msg) (srcNode as dstNode ad : Nat)
  /-- QUERY_NODE (R237): A QUERY of kind NODE returns the fields of one audio node. -/
  | queryNode (m : Msg) (dst dbus src : Nat)
  /-- QUERY_SDP (R176): A QUERY of kind SDP returns the SDP text of a send flow. -/
  | querySdp (m : Msg) (kind index : Nat)
  /-- QUERY_CLAMP_REPORT (R447): A QUERY of kind CLAMP_REPORT returns one part of the clamp report. -/
  | queryClampReport (m : Msg) (part : Nat)
  /-- SUBSCRIBE (R392): A SUBSCRIBE mask replaces the session's event subscription. -/
  | subscribe (m : Msg) (mask : Nat)
  /-- EVENT_ACK (R392): An EVENT_ACK removes the records of the acknowledged EVENT from the session queue. -/
  | eventAck (m : Msg) (ackSeq : Nat)
  /-- HEARTBEAT (R381): A Trarad HEARTBEAT is answered with house time, ORD_APPLIED and RD_STATE. -/
  | heartbeat (m : Msg)
  /-- EVENT_SEND (R392): When records wait and no EVENT is unacknowledged, the module sends an EVENT of up to 16 records. -/
  | eventSend (t sess : Nat)
  /-- EVENT_RESEND_TIMEOUT (R392): TC_RESEND_MS after an unacknowledged EVENT, the module sends it again unchanged. -/
  | eventResendTimeout (t sess : Nat)
  /-- EQ_ACK (R393): A write of EQ_ACK pops the oldest record from the firmware event queue. -/
  | eqAck (value : Nat)
  /-- EP_LATCH_CLEAR (R394): A W1C write to EP_LATCH clears bits, and EVTn releases within 1 us when no masked bit remains. -/
  | epLatchClear (word mask : Nat)
  /-- GPI_CHANGE (R397): A GPI level that has held for GP_DEBOUNCE_US changes GP_IN and raises GPI_CHANGE. -/
  | gpiChange (t line : Nat) (level : Bool)
  /-- GPO_PULSE_START (R398): An ordered GPO pulse inverts its lines from the stamped line and sample. -/
  | gpoPulseStart (t : Nat)
  /-- GPO_PULSE_END (R398): GP_PULSE_US after its start, a GPO pulse ends and the lines return to GP_OUT_LEVEL. -/
  | gpoPulseEnd (t line : Nat)
  /-- ORDERED_RECORD_ARRIVAL (R31): A worker applies, buffers, discards or counts as lost an arriving ordered record by its order number. -/
  | orderedRecordArrival (t : Nat) (r : Rec) (ok : Bool)
  /-- REPLAY_REPEAT (R32): In GAP the worker repeats its replay request every 1 ms for the numbers still missing. -/
  | replayRepeat (t : Nat)
  /-- GAP_TIMEOUT (R32): A GAP that lasts 64 ms enters ORDER_LOST. -/
  | gapTimeout (t : Nat)
  /-- REPLAY_REQ (R389): The manager answers a replay request with the held records or notices, then a REPLAY_ANS. -/
  | replayReq (t sender first count : Nat)
  /-- REPLAY_ANS (R389): A worker receives REPLAY_ANS, and GONE = 1 takes it to ORDER_LOST. -/
  | replayAns (t sender first count : Nat) (gone : Bool)
  /-- ORD_RESYNC_REQ (R33): A write of 1 to ORD_RESYNC_REQ in ORDER_LOST requests resynchronisation. -/
  | ordResyncReq (value : Nat)
  /-- IMAGE (R34): An IMAGE record part from the active manager is taken into RESYNC or a join, or discarded. -/
  | image (t sender k : Nat) (stamp : Stamp) (objs : List ImgObj) (last : Bool)
  /-- STATE_IMAGE_LOAD (R34): At its stamp the worker loads the state image, changing only differing objects, and sets ORD_APPLIED to k. -/
  | stateImageLoad (t : Nat)
  /-- JOIN_SEND (R449): A module that is not the active manager sends a JOIN every 10 ms until it is answered. -/
  | joinSend (t : Nat)
  /-- JOIN (R449): The active manager answers a JOIN with PEER_UNTESTED, a topology mismatch, or a state image. -/
  | join (t node setId digest : Nat) (sigOk : Bool)
  /-- JOIN_ANSWER (R35): A worker receives the JOIN answer and enters RESTRICTED, TOPOLOGY_MISMATCH or proceeds to load the image. -/
  | joinAnswer (t sender : Nat) (a : JoinAns) (sigOk : Bool)
  /-- OCCUPANCY (R113): The manager compares an OCCUPANCY digest with its model and resynchronises on a mismatch. -/
  | occupancy (t node applied digest openLinks : Nat)
  /-- FAB_FRAME_COUNT_RECEIVE (R48): A worker receives the manager's D0 frame count in the fabric reference. -/
  | fabFrameCountReceive (t count : Nat)
  /-- FRAME_COUNT_SLIP (R48): At its next D0 frame start a worker whose count differs adopts the manager's count and judges pending actions again. -/
  | frameCountSlip (t : Nat)
  /-- RASTER_FRAME_START (R46): At a domain's frame start, RWS writes apply, readers choose frames and frame-start actions execute. -/
  | rasterFrameStart (t dom : Nat) (obs : FrameObs)
  /-- CLEAN_SWITCH_POINT (R126): At an output's clean switch point a take executes, updating the status group and counting untimed or conflicting takes. -/
  | cleanSwitchPoint (t dom : Nat) (meas : List TakeMeas)
  /-- PATH_RELEASE (R108): The present source's path is released at the end of the switching line. -/
  | pathRelease (t src out : Nat)
  /-- IMMEDIATE_TAKE_EXECUTE (R54): An immediate take executes at the next line boundary after it falls due, untimed. -/
  | immediateTakeExecute (t : Nat) (meas : TakeMeas)
  /-- VO_OFFSET_WRITE (R148): A VO_OFFSET write that needs a frame buffer reserves one, or is refused with NO_BUFFER. -/
  | voOffsetWrite (out value : Nat)
  /-- LANE_SIGNAL_DETECT (R478): Signal detected for 1 us takes a receiver from NO_SIGNAL to ACQUIRING. -/
  | laneSignalDetect (t lane : Nat)
  /-- LANE_SIGNAL_LOSS (R478): No signal for 10 us takes a receiver to NO_SIGNAL. -/
  | laneSignalLoss (t lane : Nat)
  /-- LANE_CDR_LOCK (R478): CDR lock at an accepted rate takes the receiver to RATE_LOCKED. -/
  | laneCdrLock (t lane rate frac : Nat) (ppm : Int)
  /-- LANE_ACQUIRE_TIMEOUT (R480): No lock within 2.5 ms or 100 ms restarts acquisition, at the next SDI rate in AUTO. -/
  | laneAcquireTimeout (t lane : Nat)
  /-- LANE_CDR_LOSS (R478): Loss of CDR lock or a rate outside the window returns the receiver to ACQUIRING. -/
  | laneCdrLoss (t lane : Nat)
  /-- LANE_ALIGNED (R481): Block lock or TRS alignment takes the receiver to ALIGNED. -/
  | laneAligned (t lane : Nat)
  /-- LANE_ALIGN_LOSS (R482): Loss of block lock or TRS alignment returns the receiver to RATE_LOCKED. -/
  | laneAlignLoss (t lane errs : Nat)
  /-- LANE_TX_FAULT (R477): A transmitter fault sends the lane to electrical idle and TX_FAULT, or HELD at the third fault within 1 s. -/
  | laneTxFault (t lane : Nat)
  /-- LANE_TX_RESUME (R477): 10 ms after a transmitter fault the lane resumes sending if the cause has cleared. -/
  | laneTxResume (t lane : Nat) (cleared : Bool)
  /-- QUAD_CLOCK_LOSS (R489): A quad clock's loss of lock faults all four transmitters and raises QUAD_CLOCK_LOSS. -/
  | quadClockLoss (t quad : Nat)
  /-- LN_TX_RETRY (R477): A write of 1 to LN_TX_RETRY in HELD lets the transmitter send again. -/
  | lnTxRetry (t lane value : Nat)
  /-- LN_PRBS_TX (R485): A write of LN_PRBS_TX starts or stops the PRBS generator, or is refused. -/
  | lnPrbsTx (t lane value : Nat)
  /-- LN_INJ_GO (R487): A write of 1 to LN_INJ_GO injects one bit or a burst of bit errors. -/
  | lnInjGo (t lane value : Nat)
  /-- LN_ES_GO (R488): A write of 1 to LN_ES_GO starts an eye-scan measurement, or is refused BUSY. -/
  | lnEsGo (t lane value : Nat)
  /-- EYE_SCAN_DONE (R488): An eye-scan measurement completes or is aborted and raises EYE_SCAN_DONE. -/
  | eyeScanDone (t lane errs : Nat)
  /-- SDI_FRAME_RECEIVED (R66): A received SDI frame is measured and checked, moving the input between TRS_LOCKED, READY and MISMATCH. -/
  | sdiFrameReceived (t input : Nat) (f : SdiFrame)
  /-- SDI_RATE_MEASURE (R68): A 16-frame rate measurement judges the ppm window and the synchronous state. -/
  | sdiRateMeasure (t input : Nat) (ppm : Int)
  /-- FABRIC_CELL_SEND (R91): At each calendar position the sender sends a video, control, audio or idle cell with its Spore. -/
  | fabricCellSend (t link : Nat) (r : Option CellReady)
  /-- FABRIC_CELL_RECEIVE (R87): A received cell is checked, discarded or passed on by class, with its Spore handled. -/
  | fabricCellReceive (t link : Nat) (c : CellIn)
  /-- CREDIT_SEND (R92): A CREDIT Spore is sent after 16 freed cells or 1 us after a cell is freed. -/
  | creditSend (t link ctrl aud : Nat)
  /-- FABRIC_DELIVERY_MOMENT (R103): At a cell's delivery moment the selector takes a plane copy or substitutes the previous line. -/
  | fabricDeliveryMoment (t out src seq : Nat)
  /-- FL_ENABLE_WRITE (R114): A write of FL_ENABLE starts link training or holds the link DOWN. -/
  | flEnableWrite (t link value : Nat)
  /-- LINK_CELL_LOCK (R114): Block lock, codeword decode and cell lock take a link from TRAINING to ADMITTING. -/
  | linkCellLock (t link : Nat)
  /-- LINK_BER_WINDOW (R114): A link's BER over 10 s or 60 s moves it between IN_SERVICE and DEGRADED. -/
  | linkBerWindow (t link secs errors total : Nat)
  /-- LINK_FAILED (R114): Loss of lock or excess uncorrectable codewords takes a link to FAILED, then TRAINING or HELD_DOWN. -/
  | linkFailed (t link : Nat)
  /-- LINK_HOLDDOWN_EXPIRY (R114): After FAB_HOLDDOWN_S a held-down link returns to TRAINING. -/
  | linkHolddownExpiry (t link : Nat)
  /-- LINK_NEW_PATHS_OPEN (R114): A link that has stayed in service for 1 s is opened to new paths. -/
  | linkNewPathsOpen (t link : Nat)
  /-- CHALLENGE (R428): An admission CHALLENGE from the far end is received. -/
  | challenge (t link node index : Nat) (known : Bool)
  /-- CHAIN (R428): An admission CHAIN is received and verified to the Zeagrim root. -/
  | chain (t link : Nat) (chainOk : Bool)
  /-- PROOF (R429): An admission PROOF is verified and the owner digests are compared, answered by RESULT. -/
  | proof (t link : Nat) (sigOk : Bool) (ownerDigest : Nat)
  /-- RESULT (R428): An admission RESULT admits or refuses the link; an admitted link is checked against the wiring. -/
  | result (t link reason : Nat)
  /-- ADMISSION_TIMEOUT (R429): No RESULT within 50 ms of the own CHALLENGE refuses admission. -/
  | admissionTimeout (t link : Nat)
  /-- HEARTBEAT_SEND (R357): At every whole millisecond a pair member sends HEARTBEAT on both paths and the manager beats all nodes. -/
  | heartbeatSend (t : Nat)
  /-- HEARTBEAT_CHECK (R360): At each whole millisecond the miss counts are updated and a warning or a partner failure is declared. -/
  | heartbeatCheck (t : Nat)
  /-- HEARTBEAT_RECEIVE (R361): A received heartbeat or manager beat clears misses and may move, fence or lapse the pair state. -/
  | heartbeatReceive (t sender : Nat) (lichen : Bool) (plane : Nat) (b : Beat) (ok : Bool)
  /-- ACK (R362): The active manager receives the standby's ACK and releases the ordered record to the other nodes. -/
  | ack (t sender upTo : Nat) (ok : Bool)
  /-- STANDBY_RECORD_STORE (R362): The standby stores an ordered record and answers with an ACK on both paths. -/
  | standbyRecordStore (t : Nat) (r : Rec) (ok : Bool)
  /-- STANDBY_RESEND (R362): Until the ACK arrives, the manager re-sends the record to the standby every 1 ms. -/
  | standbyResend (t : Nat)
  /-- LICHEN_FRAME_RECEIVE (R359): A Lichen frame is checked by CRC and moves the receiver toward UP or DOWN. -/
  | lichenFrameReceive (t : Nat) (f : LichenIn)
  /-- LICHEN_COMMA_TIMEOUT (R359): 10 us without a comma takes the Lichen receiver DOWN. -/
  | lichenCommaTimeout (t : Nat)
  /-- LISTEN_TIMEOUT (R361): With no ACTIVE beat for 100 ms, or plus RD_START_WAIT_S, a member becomes ACTIVE with epoch 1. -/
  | listenTimeout (t : Nat)
  /-- FENCE_EXPIRY (R361): 10 ms after fencing, the member goes to SYNCING. -/
  | fenceExpiry (t : Nat)
  /-- TAKEBACK_ORDER (R367): When the preferred standby has been healthy for RD_HOLD_S, the active member orders RD_TAKEBACK. -/
  | takebackOrder (t : Nat)
  /-- RD_REARM (R369): A write of 1 to RD_REARM clears the revert block and the failure history. -/
  | rdRearm (t value : Nat)
  /-- MANAGER_BEAT_LOSS (R372): An active IP edge partner that has had no manager beat for 3 ms stops its IP send flows. -/
  | managerBeatLoss (t : Nat)
  /-- REF_INPUT_LOST (R293): A reference input lost under R290 takes its entry to ABSENT. -/
  | refInputLost (t input : Nat)
  /-- REF_INPUT_PRESENT (R293): A reference input becoming present takes its entry to QUALIFYING. -/
  | refInputPresent (t input : Nat)
  /-- REF_Y_MEASURE (R291): A new measurement of y moves an entry between QUALIFIED, DRIFTING and QUALIFYING. -/
  | refYMeasure (t entry : Nat) (y freq : Int)
  /-- REF_QUALIFY_TIMER (R293): Expiry of q takes an entry to QUALIFIED, or DRIFTING to DISQUALIFIED. -/
  | refQualifyTimer (t entry : Nat)
  /-- REF_SELECT_EVAL (R294): The selection is evaluated within 1 ms of an entry change and every 100 ms, choosing c or entering Ember. -/
  | refSelectEval (t : Nat) (refs : List Int)
  /-- REF_START_WAIT_EXPIRY (R299): REF_START_WAIT_S with no candidate takes ACQUIRING to FREE_RUN. -/
  | refStartWaitExpiry (t : Nat)
  /-- REF_EMBER_HOLD_EXPIRY (R299): REF_EMBER_HOLD_S in HOLDOVER takes the reference to FREE_RUN. -/
  | refEmberHoldExpiry (t : Nat)
  /-- REF_10M_LOSS (R290): A 10 MHz input lost while its frame pulse is selected moves frequency to the pulse. -/
  | ref10mLoss (t n : Nat)
  /-- REALIGN_SLEW_DONE (R306): Completion of a SLEW profile counts in REF_REALIGNS and raises REALIGN_DONE. -/
  | realignSlewDone (t : Nat)
  /-- PULSE_OUTPUT (R301): FPO0 or FPO1 pulses at each frame start or each whole second of house time. -/
  | pulseOutput (t out : Nat)
  /-- PTP_SYNC_RECEIVE (R317): A Sync on the slave port yields theta, which moves the servo state and may step the scale. -/
  | ptpSyncReceive (t port num seq fine : Nat) (twoStep : Bool) (origin : Int)
  /-- PTP_FOLLOW_UP_RECEIVE (R317): A Follow_Up supplies a two-step Sync's origin time for theta. -/
  | ptpFollowUpReceive (t port num seq : Nat) (origin : Int)
  /-- PTP_DELAY_REQ_RECEIVE (R308): A master port answers a received Delay_Req with Delay_Resp. -/
  | ptpDelayReqReceive (t port num seq fine : Nat)
  /-- PTP_DELAY_RESP_RECEIVE (R317): A Delay_Resp adds a path-delay measurement to the filter. -/
  | ptpDelayRespReceive (t port num seq : Nat) (rx : Int)
  /-- PTP_ANNOUNCE_RECEIVE (R315): An Announce feeds the best master clock algorithm, which sets port states. -/
  | ptpAnnounceReceive (t port num sender prio1 cls acc var prio2 gm steps utc : Nat)
  /-- PTP_ANNOUNCE_TIMEOUT (R317): Announce receipt timeout on the slave port returns the servo to LISTENING or GRANDMASTER. -/
  | ptpAnnounceTimeout (t port k : Nat)
  /-- PTP_MANAGEMENT_GET (R308): A management GET returns a data set; any other action is answered NOT_SUPPORTED. -/
  | ptpManagementGet (t port num id : Nat) (get : Bool)
  /-- PTP_SYNC_INTERVAL (R325): A master port sends Sync, one-step or two-step, at each sync interval. -/
  | ptpSyncInterval (t port k : Nat)
  /-- PTP_ANNOUNCE_INTERVAL (R316): A master port sends Announce at each announce interval. -/
  | ptpAnnounceInterval (t port k : Nat)
  /-- PTP_DELAY_REQ_INTERVAL (R308): A slave port sends Delay_Req at its interval. -/
  | ptpDelayReqInterval (t port k : Nat)
  /-- PTP_TX_TIMESTAMP (R326): A sent event message is stamped, written one-step or queued two-step, or lost at a full queue. -/
  | ptpTxTimestamp (t port k type seq fine : Nat) (ptp : Bool)
  /-- PT_SNAP (R313): A write of 1 to PT_SNAP latches the counter and every scale at the next tick. -/
  | ptSnap (t value : Nat)
  /-- PQ_ACK (R326): A write of PQ_ACK pops the head of the two-step queue. -/
  | pqAck (port value : Nat)
  /-- PQ_LOST_ACK (R327): A write of PQ_LOST_ACK pops the lost list. -/
  | pqLostAck (port value : Nat)
  /-- PD_SCALE_WRITE (R311): A write of PD_INCR or PD_OFFSET changes slope without a step, or steps the scale, at the next tick. -/
  | pdScaleWrite (t k : Nat) (incr off : Option Nat)
  /-- PT_ACT_ADJ_SETTLE (R322): PT_ACT_ADJ reaches 0 at its slew rate and holds there. -/
  | ptActAdjSettle (t : Nat)
  /-- IP_PACKET_RECEIVE (R168): A received media packet copy is written, discarded as a duplicate, or counted late. -/
  | ipPacketReceive (t : Nat) (p : IpPacket)
  /-- IP_LEG_DOWN (R169): A leg goes down after 10 ms without a packet. -/
  | ipLegDown (t : Nat) (aud : Bool) (flow leg : Nat)
  /-- IP_LEG_UP (R169): A leg comes up after 100 ms of packets with no gap above 1 ms. -/
  | ipLegUp (t : Nat) (aud : Bool) (flow leg : Nat)
  /-- IP_FLOW_QUALIFY (R172): Two complete frames of the new flow qualify it for change-over at C. -/
  | ipFlowQualify (t : Nat) (aud : Bool) (flow : Nat)
  /-- IP_JOIN_TIMEOUT (R173): No qualification within IV_JOIN_TIMEOUT_MS raises IP_JOIN_TIMEOUT once. -/
  | ipJoinTimeout (t : Nat) (aud : Bool) (flow : Nat)
  /-- IP_SEND_PACKET (R174): A send flow emits its next -20, -40 or audio packet on its schedule. -/
  | ipSendPacket (t : Nat) (aud anc : Bool) (index : Nat)
  /-- MAC_FRAME_RECEIVE (R196): A received frame is length- and FCS-checked, filtered and written into its queue ring. -/
  | macFrameReceive (t port : Nat) (f : EthFrame)
  /-- MAC_FRAME_TRANSMIT (R193): The transmitter starts the head frame of the highest open class that completes before its gate closes. -/
  | macFrameTransmit (t port : Nat) (arrived : List (TxKind × Nat))
  /-- MAC_LINK_UP (R187): Block lock or synchronisation with no fault for 1 ms takes a port UP. -/
  | macLinkUp (t port : Nat) (speedOk : Bool)
  /-- MAC_LINK_DOWN (R187): Loss of lock or a fault sequence takes a port DOWN, closing its sessions. -/
  | macLinkDown (t port why : Nat)
  /-- MC_SLEEP_WRITE (R203): A write of MC_SLEEP starts draining for SLEEP, wakes the port, or is refused. -/
  | mcSleepWrite (t port value : Nat)
  /-- SLEEP_DRAIN_DONE (R203): After draining for up to 1 ms the port drops the rest and enters SLEEP. -/
  | sleepDrainDone (t port : Nat)
  /-- WAKING_EXPIRY (R187): 100 us after WAKING begins, the port returns UP. -/
  | wakingExpiry (t port : Nat)
  /-- PREEMPT_VERIFY_TIMER (R190): A verify message is sent every MC_VERIFY_MS, and after 3 unanswered verification fails. -/
  | preemptVerifyTimer (t port : Nat)
  /-- GATE_CYCLE_START (R192): A gate cycle starts and runs its entries, applying a new list when one is in effect. -/
  | gateCycleStart (t port : Nat)
  /-- LPI_ENTER (R205): With every transmit class empty and no gate due to open, the transmitter enters low-power idle. -/
  | lpiEnter (t port : Nat) (quiet : Bool)
  /-- AUDIO_SAMPLE_TICK (R224): Each matrix sample period computes every destination from the previous sources, stepping ramps and flags. -/
  | audioSampleTick (t : Nat) (ins : List AudioIn) (st337 : List Nat)
  /-- FERN_BLOCK_START (R257): At a block start the frames are exchanged, delay lines and parameters updated, and the core restarts at its entry. -/
  | fernBlockStart (t core : Nat) (lost : List (Nat × Nat))
  /-- FC_RESTART (R261): A write of 1 to FC_RESTART restarts the core at the next control-cycle start. -/
  | fcRestart (core value : Nat)
  /-- FP_LEN_WRITE (R247): An external FP_LEN write sets a pending length applied at the pointer's next wrap. -/
  | fpLenWrite (core ptr value : Nat)
  /-- NOP (R241): A slot with no operation. -/
  | nop (t core : Nat)
  /-- MPY_4 (R241): Four products are written to an accumulator quad. -/
  | mpy4 (t core : Nat)
  /-- MAC_4 (R241): Four products are added to an accumulator quad. -/
  | mac4 (t core : Nat)
  /-- MSU_4 (R241): Four products are subtracted from an accumulator quad. -/
  | msu4 (t core : Nat)
  /-- CLR_4 (R241): An accumulator quad is cleared. -/
  | clr4 (t core : Nat)
  /-- LD_4 (R241): Four words are loaded through an address register, which then steps. -/
  | ld4 (t core : Nat)
  /-- ST_4 (R241): Four registers are stored through an address register, which then steps. -/
  | st4 (t core : Nat)
  /-- STX_4 (R244): Four accumulators are extracted with rounding and saturation to memory. -/
  | stx4 (t core : Nat)
  /-- EXT_4 (R244): Four accumulators are extracted with rounding and saturation into registers. -/
  | ext4 (t core : Nat)
  /-- LD_1 (R241): One word is loaded through an address register. -/
  | ld1 (t core : Nat)
  /-- ST_1 (R241): One word is stored through an address register. -/
  | st1 (t core : Nat)
  /-- FERN_SRAM_ACCESS_DONE (R242): A shared audio SRAM access completes and issue resumes. -/
  | fernSramAccessDone (t core cycles : Nat)
  /-- MOV_4 (R241): Four registers are copied. -/
  | mov4 (t core : Nat)
  /-- ADD (R241): 24-bit wrapping addition. -/
  | add (t core : Nat)
  /-- SUB (R241): 24-bit wrapping subtraction. -/
  | sub (t core : Nat)
  /-- AND (R241): 24-bit bitwise AND. -/
  | and_ (t core : Nat)
  /-- OR (R241): 24-bit bitwise OR. -/
  | or_ (t core : Nat)
  /-- XOR (R241): 24-bit bitwise XOR. -/
  | xor (t core : Nat)
  /-- SHL (R241): 24-bit shift left. -/
  | shl (t core : Nat)
  /-- SHR (R241): 24-bit shift right. -/
  | shr (t core : Nat)
  /-- LDI (R241): A sign-extended immediate is loaded into a register. -/
  | ldi (t core : Nat)
  /-- SETP (R247): A field or mode of an address register is set from a register. -/
  | setp (t core : Nat)
  /-- LOOP (R249): A hardware loop runs its body count times. -/
  | loop (t core : Nat)
  /-- RLOOP (R251): A rotating modulo-scheduled loop runs N + S - 1 passes with stage predicates and rotation. -/
  | rloop (t core : Nat)
  /-- BR (R241): A branch, unconditional or on a non-zero register, leaving loops whose body excludes the target. -/
  | br (t core : Nat)
  /-- SETWB (R251): The rotating window base is set. -/
  | setwb (t core : Nat)
  /-- STAT (R259): The core status word is read into a register. -/
  | stat (t core : Nat)
  /-- END (R241): The block ends and the core idles until the next block start. -/
  | end_ (t core : Nat)
  /-- TDM_MASTER_FRAME_START (R272): A master port starts a frame from house time, sending and receiving one sample period of every slot. -/
  | tdmMasterFrameStart (t port : Nat) (pins : List TdmClk)
  /-- TDM_SLAVE_FRAME_RECEIVED (R285): A slave frame is received, counted toward qualification and checked for glitches and rate. -/
  | tdmSlaveFrameReceived (t port : Nat) (f : TdmFrame)
  /-- TDM_CLOCK_DETECT (R273): External bit clock edges and a frame sync seen take TD_CLK to QUALIFYING. -/
  | tdmClockDetect (t port : Nat)
  /-- TDM_CLOCK_STOP (R284): Missing bit clock or frame sync takes TD_CLK to ABSENT and the port to MUTED. -/
  | tdmClockStop (t port : Nat)
  /-- TDM_ZC_TIMEOUT (R277): No zero crossing within TD_ZC_TIMEOUT_MS ramps the channel over 64 samples. -/
  | tdmZcTimeout (t port : Nat)
  /-- TDM_TRIGGER_WRITE (R289): An ordered write of the trigger object arms a START or STOP on the named ports. -/
  | tdmTriggerWrite (t order dom : Nat) (data : List Nat)
  /-- TDM_START (R281): A START fire moves each named port toward STARTING under its silent mode. -/
  | tdmStart (t port : Nat)
  /-- TDM_STOP (R281): A STOP fire moves each named port to STOPPING or IDLE. -/
  | tdmStop (t port : Nat)
  /-- PROXY_SURFACE_COMPLETE (R337): A generator completes a surface, resetting PX_MISS. -/
  | proxySurfaceComplete (t gen uncorr : Nat)
  /-- BUS_READ (R404): A master issues a read burst, which is arbitrated and answered DONE, REJECT or UNMAPPED. -/
  | busRead (t master id qos addr beats : Nat) (fate : BurstFate)
  /-- BUS_WRITE (R404): A master issues a write burst with byte enables, answered when it completes at the target. -/
  | busWrite (t master id qos addr : Nat) (beats : List (Nat × Nat)) (fate : BurstFate)
  /-- BUS_TIMEOUT (R408): A target silent for BM_TIMEOUT_CYC is answered REJECT by the matrix. -/
  | busTimeout (t master id : Nat)
  /-- MASTER_RESET (R409): A master reset withdraws pending requests and completes granted bursts with clear byte enables. -/
  | masterReset (t master : Nat)
  /-- BUS_MASTER_DRAIN (R409): When every ID of a reset master is released, the port accepts requests again. -/
  | busMasterDrain (t master : Nat)
  /-- SYS_REMAP_WRITE (R414): A write of SYS_REMAP stops new low-range grants, waits for outstanding transactions, then switches. -/
  | sysRemapWrite (t master value : Nat)
  /-- SYS_REMAP_SWITCH (R414): Once outstanding low-range transactions complete, the mapping switches. -/
  | sysRemapSwitch (t : Nat)
  /-- SEC_CLAIM_GO (R422): A write of SEC_CLAIM_GO checks a claim or transfer, burns an owner slot and restarts. -/
  | secClaimGo (t sess value : Nat) (v : ClaimVerdict)
  /-- SEC_DEBUG_TOKEN (R431): An owner-signed debug token opens the debug master until the next start. -/
  | secDebugToken (t sess : Nat) (v : ClaimVerdict)
  /-- UPDATE_OPEN (R459): An UPDATE OPEN is checked and takes the update lock, emptying the inactive slots. -/
  | updateOpen (m : Msg) (o : Offer)
  /-- UPDATE_BLOCK (R462): An UPDATE BLOCK is CRC-checked and written to its slot or the relay buffer. -/
  | updateBlock (m : Msg) (img index : Nat) (crcOk : Bool)
  /-- NVM_BLOCK_WRITTEN (R462): An accepted block's NVM write completes and the block is answered. -/
  | nvmBlockWritten (t img index : Nat)
  /-- UPDATE_VERIFY (R463): VERIFY completes the inactive pair and checks it, raising UPDATE_VERIFIED. -/
  | updateVerify (m : Msg) (targets : Nat) (fw : Option FwImage) (cfg : Option CfgImage)
  /-- UPDATE_ACTIVATE (R464): ACTIVATE marks the inactive pair UNCONFIRMED and active, then schedules a restart. -/
  | updateActivate (m : Msg) (targets : Nat)
  /-- UPDATE_CONFIRM (R466): CONFIRM marks the running pair VALID, burns anti-rollback fuses and releases the lock. -/
  | updateConfirm (m : Msg) (targets : Nat)
  /-- UPDATE_ABORT (R458): ABORT releases the update lock. -/
  | updateAbort (m : Msg) (targets : Nat)
  /-- UPDATE_LOCK_IDLE_TIMEOUT (R458): 60 s without a message from the holder before ACTIVATE releases the lock. -/
  | updateLockIdleTimeout (t : Nat)
  /-- UPDATE_HEALTH_TIMEOUT (R465): HEALTH_S ending before the health check passes causes a fall-back. -/
  | updateHealthTimeout (t : Nat)
  /-- UPDATE_WINDOW_EXPIRY (R465): CONFIRM_S ending without CONFIRM causes a fall-back. -/
  | updateWindowExpiry (t : Nat)
  /-- RELAY_OFFER (R467): A relayed OFFER is handled at the target as an OPEN from the relay. -/
  | relayOffer (t sender : Nat) (o : Offer) (ok : Bool)
  /-- RELAY_BLOCKS (R467): A relayed BLOCKS record is handled at the target as BLOCK messages. -/
  | relayBlocks (t sender img first : Nat) (crcs : List Bool) (ok : Bool)
  /-- RELAY_COMMAND (R467): A relayed COMMAND is handled at the target as VERIFY, ACTIVATE, CONFIRM or ABORT. -/
  | relayCommand (t sender op : Nat) (fw : Option FwImage) (cfg : Option CfgImage) (ok : Bool)
  /-- RELAY_ANSWER (R467): The manager records a target's relay answer in UP_RELAY_STATE. -/
  | relayAnswer (t sender status subtype missing : Nat) (ok : Bool)
  /-- RELAY_RESEND_TIMEOUT (R467): After 200 ms without an answer the manager re-sends, marking the target FAILED after 10 sends. -/
  | relayResendTimeout (t node : Nat)
  /-- VIN_RANGE_CHANGE (R495): VIN leaving or re-entering 36-75 V sets PW_VIN_OK and raises PWR_VIN_LOW or PWR_VIN_HIGH. -/
  | vinRangeChange (t vin : Nat)
  /-- THERMAL_SAMPLE (R496): Each 1 ms sample of case and junction moves PW_STATE among NORMAL, WARM, HOT and COLD. -/
  | thermalSample (t vin iin pin : Nat) (tcase tj : Int)
  /-- THERMAL_TRIP (R496): Case above 135 C for 100 ms, or a hot junction, enters TRIP and power-good falls. -/
  | thermalTrip (t : Nat)
  /-- TRIP_RECOVERY (R496): Case below 110 C for 10 s leaves TRIP and power-good returns. -/
  | tripRecovery (t : Nat)
  /-- CLEAR_FAULTS (R504): PMBus CLEAR_FAULTS clears every STATUS bit whose condition has ended. -/
  | clearFaults (t : Nat)
  /-- STATUS_BYTE (R504): PMBus STATUS_BYTE returns the standard status bits. -/
  | statusByte (t : Nat)
  /-- STATUS_WORD (R504): PMBus STATUS_WORD returns the standard status bits. -/
  | statusWord (t : Nat)
  /-- STATUS_INPUT (R504): PMBus STATUS_INPUT returns the input status bits. -/
  | statusInput (t : Nat)
  /-- STATUS_TEMPERATURE (R504): PMBus STATUS_TEMPERATURE returns the temperature status bits. -/
  | statusTemperature (t : Nat)
  /-- READ_VIN (R504): PMBus READ_VIN returns input voltage in Linear11. -/
  | readVin (t : Nat)
  /-- READ_IIN (R504): PMBus READ_IIN returns input current in Linear11. -/
  | readIin (t : Nat)
  /-- READ_PIN (R504): PMBus READ_PIN returns input power in Linear11. -/
  | readPin (t : Nat)
  /-- READ_TEMPERATURE_1 (R504): PMBus READ_TEMPERATURE_1 returns case temperature. -/
  | readTemperature1 (t : Nat)
  /-- READ_TEMPERATURE_2 (R504): PMBus READ_TEMPERATURE_2 returns the hottest junction temperature. -/
  | readTemperature2 (t : Nat)
  /-- PMBUS_REVISION (R504): PMBus PMBUS_REVISION returns 33h. -/
  | pmbusRevision (t : Nat)
  /-- MFR_ID (R504): PMBus MFR_ID returns ZSS. -/
  | mfrId (t : Nat)
  /-- MFR_MODEL (R504): PMBus MFR_MODEL returns PLX-256. -/
  | mfrModel (t : Nat)
  /-- PMBUS_UNSUPPORTED (R504): Any other PMBus command or write is not acknowledged and sets the communication bit. -/
  | pmbusUnsupported (t cmd : Nat)
  /-- SMBUS_ALERT_RESPONSE (R504): The module answers the SMBus alert response address while PMB_ALERT_N is low. -/
  | smbusAlertResponse (t : Nat)
  /-- REF_SLEW_DONE (R298): House frequency reaches its new target at the slew limit; REF_SLEWING clears and REF_OFFSET is held with the accumulated phase. -/
  | refSlewDone (t : Nat)
  /-- REF_10M_PRESENT (R290): A 10 MHz input TEN0 or TEN1 returns, RI_10M_OK is set, and its frame-pulse input takes frequency from the 10 MHz again. -/
  | ref10mPresent (t n : Nat)
  /-- LICHEN_COMMA_RECEIVE (R359): A K28.5 comma arrives on the Lichen link, restarting the 10 us comma timer and counting toward the 16 that take the receiver UP. -/
  | lichenCommaReceive (t : Nat)
  /-- PRBS_CHECKER_LOCK (R486): The PRBS checker locks after 64 matching bits, or loses lock at 64 errors in 128 bits and seeds again, starting or stopping its counts. -/
  | prbsCheckerLock (t lane : Nat) (locked : Bool) (compared errs : Nat)
  /-- PARTNER_LOW_POWER_IDLE (R205): The link partner enters or leaves the low-power idle of Clause 78, changing MC_LPI_RX. -/
  | partnerLowPowerIdle (t port : Nat) (enters : Bool)
  deriving DecidableEq, Repr

end Sys2Proof
end

