-- ==== Sys2Proof/Config.lean ====
section
/-! DEFINITION. What the spec leaves open. The constants have no body: no proof can rest on a value of them. -/
set_option Elab.async false
namespace Sys2Proof

/-- A fresh value each time one is needed, for a value that the spec leaves open (log 4). The argument is the counter
`State.freed`, which every use advances. -/
opaque Config.freeValue : Nat → Nat

/-- The digest function over slot tables that OCCUPANCY records carry (R113), which the spec does not state (log 4). -/
opaque Config.slotDigest : List Nat → Nat

/-- Where a quotient is not a whole number and the spec gives no rounding for it: whether it is rounded up (log 16). -/
opaque Config.roundsUp : Int → Nat → Bool

/-- Where a rounding to the nearest integer meets a tie and the spec does not settle it: whether it goes up (log 16). -/
opaque Config.tieUp : Int → Nat → Bool

/-- The sample of a tone generator (R233): frequency in Hz, level code, phase as a fraction n / rate of a cycle (log 16). -/
opaque Config.tone : Nat → Nat → Nat → Nat → Int

/-- The gain code of R218 at which a peak magnitude is shown (R236, log 16). -/
opaque Config.peakCode : Nat → Nat

/-- A bit of the AES3 channel status of a destination that carries no transparent route (R232), where the spec names AES3 for it:
whether the rate is 96 kHz, and the bit's place in the block (log 16). -/
opaque Config.channelStatus : Bool → Nat → Bool

/-- Whether SHR of R241 shifts the sign in (log 16). -/
opaque Config.shrSigned : Bool

/-- The result of SHL (false) or SHR (true) of R241 for a shift amount of 24 or more (log 16). -/
opaque Config.bigShift : Bool → Nat → Nat → Nat

/-- The bytes of the boot ROM (R403, R410): the spec gives no contents (log 21). -/
opaque Config.romByte : Nat → Nat

/-- The octets of the SDP text of a send flow (R176), by entry kind, index, and the values of the flow's fields: the spec names its content and
gives no wording (log 24). -/
opaque Config.sdpText : Nat → Nat → List Nat → List Nat

/-- Bytes 1 and 2 of an ST 352 identifier (R153), by interface (VO_STD code), format and link number (0 on a single link): the spec names the
standard for them (log 48). -/
opaque Config.vpidHead : Nat → Nat → Nat → Nat

/-- The lines on which ST 352 places its packet for an interface and a format (R153, log 48). -/
opaque Config.vpidLines : Nat → Nat → List Nat

/-- The raster line of row `r` of a format's active picture, top row 0 (R165, log 48). -/
opaque Config.activeLine : Nat → Nat → Nat

/-- The CRC-32 over the active-picture words of a frame (R159), by format and lines: the spec gives neither the polynomial's form nor the bounds of
the active picture (log 48). -/
opaque Config.frameCrc : Nat → List (List Nat) → Nat

/-- A proxy surface as decoded (R336, R337): from the picture's lines, its format and PX_SCALE, the surface's lines of interface words. The spec gives no
filter and lets a decoded sample lie within 4 codes of the scaled one (log 51). -/
opaque Config.proxy : Nat → Nat → List (List Nat) → List (List Nat)

/-- Y, Cb, Cr of a tile's sample (R340): vertical taps, the surface, the tile's size, the place in it. The spec gives no filter coefficients (log 51). -/
opaque Config.tileSample : Nat → List (List Nat) → Nat → Nat → Nat → Nat → Nat × Nat × Nat

/-- The font of overlay text (R344, R347), which the spec does not give: a character's width in canvas units by size, and its ink (log 51). -/
opaque Config.charWidth : Nat → Nat
opaque Config.glyph : Nat → Nat → Nat → Nat → Bool

/-- The AES-256-GCM tag of a record (R98), by generation of the router fabric key, IV and Spores: the key is a secret of Xithaid (log 50). -/
opaque Config.gcmTag : Nat → Nat → List Nat → Nat

/-- What Xithaid finds of a debug token that an ordered WRITE brings (R431), by the token and SEC_ID_DIGEST: 0 signed by the owner for this module. The
key is not in the map (log 37). -/
opaque Config.tokenVerdict : Nat → Nat → Nat

/-- How many records a link's transmit queue holds before a reply that finds it full is discarded (R115): the spec gives no number (log 50). -/
opaque Config.txQueue : Nat

/-- The wake time of IEEE 802.3 Clause 78, ps, by MC_MODE (R205): the spec names the clause for it (log 20). -/
opaque Config.lpiWake : Nat → Nat

/-- The unicast address of a MAC, by port and address family (R180): no field of the object map gives it (log 20). -/
opaque Config.ownAddress : Nat → Nat → Nat

end Sys2Proof
end

