-- ==== Sys2Proof/Machine/Names.lean ====
section
/-! DEFINITION. The names of the object map: one constructor for every field of the spec's object-map tables (the tables'
own names), the shape of a field's row in those tables, the events (R390, R433, R455, R469, R489, R505 and chapter 17) and
the statuses (R384, R432, R454, R468). The rows themselves stand in Machine/FieldMap.lean. -/
set_option Elab.async false
namespace Sys2Proof.Machine

/-- Every object-map field. RD_STATE is the name of two fields of the manual: RD_STATE_RASTER is block 0Bh's (R60),
RD_STATE_PAIR is block 0Eh's (R374). TL_METER_AD0 to TL_METER_AD15 are the sixteen half words of TL_METER_AD (R353). -/
inductive Fld where
  -- R39 (01_system_geometry.md)
  | SYS_ROLE | SYS_PLANE | SYS_GEOM | SYS_NODE | SYS_NODE_VALID | SYS_EDGE_COUNT
  | SYS_MGR_A | SYS_MGR_B | SYS_MGR_ROLE | SYS_TOPO_DIGEST | ORD_APPLIED | ORD_SEEN
  | ORD_NEXT | ORD_STATE | ORD_RESYNC_AUTO | ORD_RESYNC_REQ | ORD_GAPS | ORD_LOSSES
  | ORD_DUPLICATES | ORD_LATE | ORD_REFUSED_LATE | LINK_MAP_FAULTS
  -- R60 (02_raster_time.md)
  | RD_FORMAT | RD_STATE_RASTER | RD_COUNT_VALID | RD_FRAME_LO | RD_FRAME_HI | RD_LINE
  | RD_SAMPLE | RD_SWITCH_LINE1 | RD_SWITCH_LINE2 | RD_LATE | RD_REFUSED | SCHED_LEAD_US
  | RT_HOUSE_SRC | RT_COUNT_SLIPS | SCHED_PENDING | SCHED_PENDING_PEAK
  -- R83 (03_video_ingress.md)
  | VI_PORT_MODE | VI_LINK_MODE | VI_DOMAIN | VI_ALIGN | VI_FS_MIN | VI_ANC_MODE
  | VI_AUD_GROUPS | VI_LOSS_MODE | VI_HOLD_FRAMES | VI_CNT_CLR | VI_STATE | VI_MISMATCH_WHY
  | VI_ALIGN_STATE | VI_TIMED | VI_SYNC_SRC | VI_ASRC | VI_PSF | VI_RATE
  | VI_RATE_FRAC | VI_LEVEL | VI_FMT | VI_VPID | VI_VPID_PRESENT | VI_VPID_CONFLICT
  | VI_PHASE | VI_OFFSET_PPM | VI_LATENCY_LINES | VI_QL_ORDER | VI_QL_SKEW | VI_FS_DROPS
  | VI_FS_REPEATS | VI_HOLDS | VI_BAD_FRAMES | VI_CRC_LINES | VI_TRS_LOSSES | VI_WINDOW_EXITS
  | VI_ANC_CS_ERRS | VI_AUD_PKT_ERRS | VI_PEAT_UNCORR | VI_ALIGN_CHANGES
  -- R84 (03_video_ingress.md)
  | VI_PEAT_CORR | VI_FS_TOP | VI_FS_BW
  -- R117 (04_rophor_fabric.md)
  | FL_ENABLE | FL_STATE | FL_PLANE | FL_NEW_PATHS | FL_FAR_NODE | FL_FAR_LINK
  | FL_FAR_VALID | FL_BER | FL_SLOT_FMT | FL_SUB_BUSY | FL_AUD_TX | FL_AUD_RX
  | FL_CREDITS_CTRL | FL_CREDITS_AUD | FL_CW_CORR | FL_CW_UNCORR | FL_CRC_ERRS | FL_LATE_CELLS
  | FL_CREDIT_OVERRUNS | FL_FAILS | FL_CTRL_GAPS | FL_CNT_CLR
  -- R118 (04_rophor_fabric.md)
  | FAB_DELIVERY_NS | FAB_HOLDDOWN_S | FAB_CENTRES_OK_A | FAB_CENTRES_OK_B | FAB_OCC_A | FAB_OCC_B
  | FAB_BOUND_A | FAB_BOUND_B | FAB_GUAR | FAB_PATHS | FAB_BLOCKED | FAB_SINGLE_PLANE
  | FAB_HANDOVERS | FAB_RESTORES | FAB_LOST_BOTH | FAB_TAG_FAILS | FAB_MODEL_DIVERGE | FAB_UMAX_A
  | FAB_UMAX_B | FAB_CNT_CLR | FAB_PAIR_OCC | FAB_PAIR_OCC_IN
  -- R142 (05_takes_and_clean_switching.md)
  | XS_CUR | XS_PEND | XS_GEN | XS_PENDING | XS_CUR_BLACK | XS_PEND_BLACK
  | XS_UNTIMED | XS_PSTAMP_LO | XS_PSTAMP_HI | XS_LAST_ORDER | XS_LOCK_MODE | XS_PLANES
  | XS_LOCAL | XS_LAST_KIND | XS_PEND_CNT | XS_HOLDER | XS_LAST_STAMP_LO | XS_LAST_STAMP_HI
  | XS_SEL_MODE | XS_PLANE_PREF | XS_TAKES | XS_UNTIMED_CNT | XS_ALT_CELLS | XS_FMT_CONFLICTS
  | XS_IMMEDIATE_CNT | XS_CNT_CLR
  -- R143 (05_takes_and_clean_switching.md)
  | XP_OUTPUTS | XP_OUT_BASE | XP_PENDING_OUTS | XP_LOCKED_OUTS | XP_GROUPS | XP_START_SALVO
  | XP_REPL_LEGS | XP_TAKES_ALL | XP_UNTIMED_ALL | XP_CNT_CLR
  -- R159 (06_video_egress.md)
  | VO_PORT_MODE | VO_LINK_MODE | VO_DOMAIN | VO_STD | VO_IDLE_STD | VO_TRANSP_MODE
  | VO_OFFSET | VO_EMB_MAP | VO_VPID_SRC | VO_VPID_DEFAULT | VO_CNT_CLR | VO_STATE
  | VO_CHARCOAL | VO_CHARCOAL_WHY | VO_STD_NOW | VO_EMB_DROPPED | VO_BUF | VO_BUF_INDEX
  | VO_VPID_SENT | VO_LAND_NS | VO_FRAME_CRC | VO_FRAMES | VO_CHARCOAL_FRAMES | VO_CHARCOAL_LINES
  | VO_RATE_CHANGES | VO_TIMING_CHANGES | VO_TX_FAULTS
  -- R160 (06_video_egress.md)
  | VO_FB_FREE | VO_FB_BASE | VO_FB_BW
  -- R180 (07_ip_media_flows.md)
  | IV_MODE | IV_ANC | IV_DUAL | IV_IPV6 | IV_FMT | IV_MAC_A
  | IV_MAC_B | IV_UDP_A | IV_UDP_B | IV_ANC_UDP | IV_PLAYOUT_US | IV_SKEW_ALARM_US
  | IV_JOIN_TIMEOUT_MS | IV_GRP_A | IV_SRC_A | IV_GRP_B | IV_SRC_B | IV_STATE
  | IV_LEG_A_UP | IV_LEG_B_UP | IV_SKEW_US | IV_PKTS | IV_ALT_PKTS | IV_LATE_PKTS
  | IV_LOST_BOTH | IV_CHANGES | OV_MODE | OV_ANC | OV_DUAL | OV_IPV6
  | OV_SHAPE | OV_COLOR | OV_MAC_A | OV_MAC_B | OV_UDP_A | OV_UDP_B
  | OV_ANC_UDP | OV_DSCP | OV_TTL | OV_VLAN | OV_PCP | OV_PT_VID
  | OV_PT_ANC | OV_GRP_A | OV_GRP_B | OV_PKTS | OV_LAST_TS | IP_CNT_CLR
  -- R181 (07_ip_media_flows.md)
  | IA_MODE | IA_DUAL | IA_IPV6 | IA_L16 | IA_PTIME | IA_CHANNELS
  | IA_FIRST_AS | IA_MAC_A | IA_MAC_B | IA_UDP_A | IA_UDP_B | IA_PLAYOUT
  | IA_GRP_A | IA_SRC_A | IA_GRP_B | IA_SRC_B | IA_STATE | IA_LEG_A_UP
  | IA_LEG_B_UP | IA_SYNC | IA_ASRC | IA_PKTS | IA_LATE_PKTS | IA_LOST_BOTH
  | IA_CNT_CLR | OA_MODE | OA_DUAL | OA_IPV6 | OA_L16 | OA_PTIME
  | OA_CHANNELS | OA_FIRST_AD | OA_MAC_A | OA_MAC_B | OA_UDP_A | OA_UDP_B
  | OA_DSCP | OA_TTL | OA_PT | OA_VLAN | OA_PCP | OA_GRP_A
  | OA_GRP_B | OA_PKTS | OA_CNT_CLR
  -- R182 (07_ip_media_flows.md)
  | IP_POSITIONS | IP_AUD_RX_CH | IP_AUD_TX_CH
  -- R206 (08_ethernet_mac.md)
  | MC_MODE | MC_FEC | MC_URGENT_MODE | MC_MAX_FRAME | MC_EXPRESS | MC_VERIFY_MS
  | MC_GATE_LOCK | MC_GATE_DOMAIN | MC_GATE_ENTRIES | MC_GATE_PER_FRAME | MC_GATE_OFFSET_NS | MC_GATE_CYCLE_NS
  | MC_DEFAULT_Q | MC_DEFAULT_DROP | MC_SLEEP | MC_EEE | MC_WAKE_ETYPE | MC_WAKE_KEY
  | MC_CNT_CLR | MC_STATE | MC_DOWN_WHY | MC_VERIFY_STATE | MC_LPI_TX | MC_LPI_RX
  | MC_ADDR_LO | MC_ADDR_HI | MC_RX_FRAMES | MC_RX_FCS_ERRS | MC_RX_LEN_ERRS | MC_RX_FILTER_DROPS
  | MC_RX_REASM_ERRS | MC_RX_WAKE_DROPS | MC_TX_FRAMES | MC_TX_PREEMPTS | MC_TX_GATE_WAITS | MC_TX_GATE_DROPS
  | MC_TX_SLEEP_DROPS | MC_LINK_DOWNS | MC_LPI_ENTRIES | MC_WAKES | GL_INTERVAL_NS | GL_GATES
  | MF_ETYPE | MF_ETYPE_ANY | MF_TAG | MF_VID | MF_VID_ANY | MF_PCP_MASK
  | MF_QUEUE | MF_DROP | MF_EN | MQ_RING_LEN | MQ_URGENT | MQ_FILL
  | MQ_FILL_PEAK | MQ_FRAMES | MQ_TRUNC | MQ_NOBUF
  -- R207 (08_ethernet_mac.md)
  | MC_MEDIA_MACS | MC_POOL_USED | MC_BASE_LO | MC_BASE_HI
  -- R236 (09_audio_matrix.md)
  | AD_NODES | AD_TRANSP | AD_NA_MUTE | AD_RAMPING | AD_MM_EN | AD_MM_BUS
  | AD_MM_AS | AD_PEAK | AD_SAT | BUS_CLASS | BUS_LAW | BUS_INPUTS
  | BUS_DEPTH | BUS_THRESH | BUS_HOLD | BUS_ACTIVE | BUS_SIGMA | BUS_SAT
  -- R237 (09_audio_matrix.md)
  | AN_LOOK_DST | AN_LOOK_DBUS | AN_LOOK_SRC | AN_PRESENT | AN_INV | AN_TRANSP
  | AN_RAMPING | AN_GAIN | AN_RAMP | AN_COEF
  -- R238 (09_audio_matrix.md)
  | AS_NONAUDIO | AS_CS_NA | AS_ST337 | AS_ASRC | AS_FANOUT | AX_USED
  | AX_LEGS | AI_BUNDLE | AI_VALID | AI_PLANES | AI_LATE | AI_LOST
  | GEN_MODE | GEN_FREQ_HZ | GEN_LEVEL | GEN_GAP_MS | GEN_PERIOD_MS | AM_RATE
  | AM_NODES | AM_NODES_PEAK | AM_NODE_REFUSALS | AM_NA_MUTES | AM_CNT_CLR | AM_DEEMB_PORT
  | AM_DEEMB_EN | AM_EMB_PORT | AM_EMB_EN
  -- R265 (10_fern_dsp.md)
  | FC_STATE | FC_LOAD_WHY | FC_FAULT | FC_FAULT_PC | FC_PROG | FC_BLOCK
  | FC_CTRL_DIV | FC_DOMAIN | FC_RUN_INIT | FC_IN_FIRST | FC_IN_COUNT | FC_OUT_FIRST
  | FC_OUT_COUNT | FC_DL_FIRST | FC_DL_COUNT | FC_TAP_COUNT | FC_ALG_LAT | FC_LATENCY
  | FC_WCET | FC_BUDGET | FC_CYCLES_PEAK | FC_RUN | FC_RESTART | FC_AOV
  | FC_LEN_CLAMP | FC_OVERRUNS | FC_SAT | FC_PEAT_UNCORR | FC_CNT_CLR | FP_MODE
  | FP_PEND | FP_FOLD | FP_BASE | FP_MOD | FP_LEN | FP_LEN_PEND
  | FP_PTR | FR_RESULT | FT_DELAY | FT_LINE | FT_EN | FP_PARAM
  -- R266 (10_fern_dsp.md)
  | FERN_RUNNING | FERN_LIB_SET | FERN_DL_USED | FERN_IN_USED
  -- R288 (11_tdm_audio_ports.md)
  | TD_MODE | TD_MASTER | TD_RATE | TD_FMT | TD_FS_POL | TD_FS_LEN
  | TD_BCLK_INV | TD_HIZ | TD_SLOTS | TD_WIDTH | TD_OFFSET | TD_FRAME_BCLK
  | TD_DOMAIN | TD_ZC_TIMEOUT_MS | TD_TX_MASK | TD_RX_MASK | TD_CNT_CLR | TD_STATE
  | TD_CLK | TD_RATE_NOW | TD_SILENT_MODE | TD_SYNC | TD_ASRC | TD_QUAL_COUNT
  | TD_FIRE_LO | TD_FIRE_HI | TD_SLIP_NET | TD_BCLK_KHZ | TD_UNDERRUNS | TD_OVERRUNS
  | TD_GLITCHES | TD_CLK_STOPS | TD_RATE_CHANGES | TD_ZC_TIMEOUTS | TD_PARITY_ERRS | TD_TRIG_MISSED
  -- R289 (11_tdm_audio_ports.md)
  | TT_PORTS | TT_OP | TT_KIND | TT_PTP_DOM | TT_PTP_SEC_LO | TT_PTP_SEC_HI
  | TT_PTP_NS | TT_LAST_ORDER
  -- R307 (12_reference_selection.md)
  | REF_STATE | REF_SEL | REF_SLEWING | REF_REALIGNING | REF_NOMAJ | REF_OFFSET_LO
  | REF_OFFSET_HI | REF_FREQ | REF_EMBER_AVG | REF_EMBER_HOLD_S | REF_EMBER_ELAPSED_S | REF_SLEW_PPB_S
  | REF_BW_MHZ | REF_START_WAIT_S | REF_REALIGN_PPB | REF_REALIGN_LEFT_LO | REF_REALIGN_LEFT_HI | REF_SWITCHES
  | REF_NOMAJ_CNT | REF_EMBER_ENTRIES | REF_REALIGNS | REF_CNT_CLR | RE_INPUT | RE_RANK
  | RE_REVERT | RE_EN | RE_QUAL_S | RE_TOL | RE_STATE | RE_QUAL_LEFT_S
  | RE_VOTES | RE_Y | RE_LOSSES | RE_DISQUALS | RI_SYN0_FMT | RI_SYN1_FMT
  | RI_SYN_OK | RI_FP0_RATE | RI_FP1_RATE | RI_10M_OK | RI_VIN0_PORT | PO_MODE
  | PO_DOMAIN | PO_WIDTH_US
  -- R330 (13_ptp_timestamps.md)
  | PT_SNAP | PT_SNAP_DONE | PT_ACTIVE | PT_TOD_VALID | PT_SNAP_CNT | PT_SNAP_HOUSE
  | PT_SNAP_T0 | PT_SNAP_T1 | PT_SNAP_ACT | PT_HOUSE_INCR | PT_ACT_ADJ | PT_ACT_SLEW_NS_S
  | PT_SWITCHES | PT_SWITCH_REFUSED | PT_CNT_CLR
  -- R331 (13_ptp_timestamps.md)
  | PD_EN | PD_PROFILE | PD_NUMBER | PD_LOG_SYNC | PD_LOG_ANNC | PD_LOG_DREQ
  | PD_ANNC_TMO | PD_PRIO1 | PD_PRIO2 | PD_CLASS | PD_GM_OK | PD_HYBRID
  | PD_LOCK_NS | PD_STEP_NS | PD_SERVO_EN | PD_SERVO | PD_SLAVE_PORT | PD_INCR
  | PD_OFFSET | PD_THETA | PD_MPD | PD_GM_ID | PD_UTC_OFFSET | PD_STEPS
  | PD_GM_CHANGES
  -- R332 (13_ptp_timestamps.md)
  | PP_DOM_EN | PP_MASTER_OK | PP_TS_POINT | PP_TWO_STEP | PP_ASYM_RX | PP_ASYM_TX
  | PP_STATE0 | PP_STATE1 | PP_COMP | PP_RX_EVENTS | PP_TX_EVENTS | PP_TS_LOST
  | PP_LOST_OVF | PQ_COUNT | PQ_LOST_COUNT | PQ_HEAD_SEQ | PQ_HEAD_TYPE | PQ_HEAD_DOM
  | PQ_HEAD_COMP | PQ_HEAD_PTP | PQ_HEAD_TS | PQ_ACK | PQ_LOST_SEQ | PQ_LOST_TYPE
  | PQ_LOST_ACK | PP_CNT_CLR
  -- R354 (14_moss_multiviewer.md)
  | MV_EN | MV_OUT_POS | MV_BG_Y | MV_BG_CB | MV_BG_CR | MV_STATE
  | MV_TILES_LIVE | MV_UNVERIFIED | MV_SIG_AREA | MV_HOLDS | MV_NOSIGS | MV_MISMATCHES
  | MV_TAP_CLAMPS | MV_CNT_CLR | PX_KIND | PX_POS | PX_SCALE | PX_STATE
  | PX_MISS | PX_W | PX_H | PX_FRAMES | PX_MISSES | PX_PEAT_UNCORR
  | PX_CNT_CLR | TL_EN | TL_PX | TL_VTAPS | TL_HOLD | TL_X
  | TL_Y | TL_W | TL_H | TL_TALLY | TL_TALLY_GPI | TL_BORDER
  | TL_UMD_EN | TL_UMD_TOP | TL_UMD_SIZE | TL_UMD_TEXT | TL_METERS | TL_METER_AD0
  | TL_METER_AD1 | TL_METER_AD2 | TL_METER_AD3 | TL_METER_AD4 | TL_METER_AD5 | TL_METER_AD6
  | TL_METER_AD7 | TL_METER_AD8 | TL_METER_AD9 | TL_METER_AD10 | TL_METER_AD11 | TL_METER_AD12
  | TL_METER_AD13 | TL_METER_AD14 | TL_METER_AD15 | TL_STATE | TL_HOLD_COUNT | TL_VTAPS_EFF
  | TL_UNVERIFIED | TL_STALE | TL_HOLDS | TL_NOSIGS | TL_CNT_CLR | RG_EN
  | RG_KIND | RG_FORCE | RG_TILE | RG_CLEAR | RG_X | RG_Y
  | RG_W | RG_H | RG_ACT | RG_EXP | RG_STATE | RG_MISMATCHES
  | RG_CNT_CLR | EL_KIND | EL_SIZE | EL_X | EL_Y | EL_OFFSET_S
  | EL_TEXT
  -- R355 (14_moss_multiviewer.md)
  | MV_PX_BASE | MV_PX_BW | MV_PX_RUNNING
  -- R374 (15_redundancy.md)
  | RD_ROLE | RD_PREFERRED | RD_UNPROT | RD_PARTNER | RD_STATE_PAIR | RD_EPOCH
  | RD_ACTIVE_NODE | RD_FAB_POS | RD_HOLD_S | RD_START_WAIT_S | RD_HEALTH | RD_HEALTH_S
  | RD_MISS_LK | RD_MISS_FAB | RD_LK_UP | RD_PLANES | RD_TAKEBACK | RD_REARM
  | RD_REVERT_BLOCKED | RD_PARTNER_FAILS | RD_TAKEOVERS | RD_TAKEBACKS | RD_PATH_WARNS | RD_FENCES
  | RD_STALE_RECORDS | RD_LK_CRC_ERRS | RD_CNT_CLR
  -- R401 (16_trarad_control.md)
  | TC_UDP_PORT | TC_IDLE_S | TC_RESEND_MS | TC_SESSIONS | TC_AUTH_FAILS | TC_TAG_FAILS
  | TC_WRITE_REFUSED | TC_CNT_CLR | EP_MASK0 | EP_MASK1 | EP_LATCH | EP_PINS
  | EQ_COUNT | EQ_HEAD | EQ_ACK | EQ_LOST | GP_IN | GP_POL
  | GP_DEBOUNCE_US | GP_OUT_LEVEL | GP_OUT_NOW | GP_PULSE_LINES | GP_PULSE_SAMPLE | GP_PULSE_US
  | TS_STATE | TS_PORT | TS_CTRL_ID | TS_PRIV | TS_SEQ_RX | TS_SEQ_TX
  | TS_MSGS | TS_RATE_REFUSED | TS_DUPS | TS_EVQ_FILL | TS_EVQ_LOST | ST_TALLY
  | ST_TALLY_GPI
  -- R416 (17_bus_matrix.md)
  | BM_AGE_CYC | BM_TIMEOUT_CYC | BM_ERR_VALID | BM_ERR_RESP | BM_ERR_CODE | BM_ERR_MASTER
  | BM_ERR_WRITE | BM_ERR_STATUS | BM_ERR_ADDR_LO | BM_ERR_ADDR_HI | BM_FILTER_BLOCKS | BM_CNT_CLR
  | BM_QOS | BM_OUTSTANDING | BM_ERRORS | BM_TIMEOUTS | BM_DRAINS
  -- R417 (17_bus_matrix.md)
  | SYS_REMAP
  -- R434 (18_xithaid_security.md)
  | SEC_STATE | SEC_OWNER_SLOT | SEC_TRANSFERS_LEFT | SEC_DEBUG_OPEN | SEC_TIME_UNCHECKED | SEC_CLAIM_FAILS
  | SEC_ID_DIGEST | SEC_OWNER_DIGEST | SEC_ROLLBACK_FW | SEC_ROLLBACK_CFG | SEC_RUN_FW_SVN | SEC_RUN_CFG_SVN
  | SEC_FABRIC_GEN | SEC_INCARNATION | SEC_ROUTER_START | SEC_CLAIM_CODE | SEC_CLAIM_LEN | SEC_CLAIM_GO
  | SEC_RELEASE | SEC_CLAIM_CERT | SEC_DEBUG_TOKEN | SEC_ADMIT_OK | SEC_ADMIT_REFUSED | SEC_IMAGE_REJECTED
  | SEC_CERT_REJECTED
  -- R456 (19_start_up_and_configuration.md)
  | SU_STATE | SU_PAIR | SU_FALLBACK | SU_KINDLING_WHY | SU_KINDLING_SVC | SU_FW_WHY
  | SU_SET_ID | SU_PEER_SET | SU_SI_REV | SU_CFG_FORMAT | SU_NVM_IF | SU_NVM_MHZ
  | SU_NVM_MIB | SU_T_VERIFY_US | SU_T_LOAD_US | SU_T_RUN_US | CR_COUNT | CR_LOST
  | CR_CLAMPED | CR_REFUSED | SYS_RESTART
  -- R470 (20_field_update.md)
  | UP_STATE | UP_SOURCE | UP_HOLDER | UP_CONTENT | UP_LAST_RESULT | UP_SET_ID
  | UP_FW_BLOCKS | UP_FW_TOTAL | UP_CFG_BLOCKS | UP_CFG_TOTAL | UP_CONFIRM_S | UP_HEALTH_S
  | UP_LEFT_S | UP_HEALTH | UP_HEALTH_OK | UP_RELAY_TARGETS | UP_RELAY_STATE | UP_BAD_BLOCKS
  | UP_BUSY_REFUSED | UP_CONFLICTS
  -- R490 (21_serdes_lanes.md)
  | LN_USE | LN_TX_INV | LN_RX_INV | LN_LOOP | LN_ADAPT_HOLD | LN_PRBS_NRZ
  | LN_SDI_RATE | LN_TX_PRE | LN_TX_MAIN | LN_TX_POST | LN_TX_RETRY | LN_RX_STATE
  | LN_RATE_NOW | LN_RX_FRAC | LN_TX_STATE | LN_TEST | LN_RX_PPM | LN_TX_PPM
  | LN_CTLE | LN_DFE | LN_PRBS_TX | LN_PRBS_RX | LN_PRBS_LOCK | LN_PRBS_BITS_LO
  | LN_PRBS_BITS_HI | LN_PRBS_ERRS | LN_INJ_MODE | LN_INJ_LEN | LN_INJ_GO | LN_INJ_P
  | LN_INJ_COUNT | LN_ES_X | LN_ES_Y | LN_ES_EYE | LN_ES_LOG2 | LN_ES_GO
  | LN_ES_STATE | LN_ES_ERRS | LN_LOCK_LOSSES | LN_HDR_ERRS | LN_TX_FAULTS | LN_CNT_CLR
  -- R491 (21_serdes_lanes.md)
  | QD_FAMILY | QD_CLK_LOCK | QD_CLK_LOSSES | LN_ALIGNED_COUNT | LN_TEST_COUNT
  -- R506 (22_module_electrical.md)
  | PW_VIN | PW_IIN | PW_PIN | PW_TCASE | PW_TJ_MAX | PW_STATE
  | PW_VIN_OK | PW_TCASE_WARN | PW_PIN_WARN | PW_PIN_PEAK | PW_TRIPS | PW_PG_LOSSES
  | PW_CNT_CLR
  deriving DecidableEq, Repr

/-- Access codes (R6). -/
inductive Acc where
  | ro | rw | wo | w1c | rws | rww
  deriving DecidableEq, Repr

/-- The "Range or clamp" column (R11): every value in range; clamped to the nearer bound; clamped as a two's complement
number; refused outside the interval; or a rule of its own, written out in Machine/Flags.lean. -/
inductive Rng where
  | any
  | clamp (lo hi : Nat)
  | sclamp (lo hi : Int)
  | refuse (lo hi : Nat)
  | rule
  deriving DecidableEq, Repr

/-- Where the raster domain of a shadowed (RWS) field is named (R9, R59): the input's or the output's domain, D0, the gate
domain of a port, the control cycle of a Fern core, a TDM port's frame, or a head's domain. -/
inductive DomKind where
  | none | vi | vo | d0 | gate | fern | tdm | moss
  deriving DecidableEq, Repr

/-- A row of an object-map table. The field has `n` by `m` copies; copy (i, j) lies `i * stride + j * stride2` bits after
the first; from copy 256 on, `skip` further places lie between (the ports C0, C1 and SVC of R206). -/
structure Desc where
  addr : Nat
  lsb : Nat
  width : Nat
  n : Nat
  stride : Nat
  m : Nat
  stride2 : Nat
  skip : Nat
  reset : Nat
  acc : Acc
  rng : Rng
  dom : DomKind
  inImage : Bool
  deriving DecidableEq, Repr

/-- Every event (R390). -/
inductive Ev where
  | LINK_MISWIRED | MANAGER_UNPROTECTED | ORDER_GAP | ORDER_LOST | ORDER_RESYNC_DONE
  | ACTION_REFUSED_LATE | TOPOLOGY_MISMATCH | START_COMPLETE | FW_FALLBACK | CONFIG_CLAMPED
  | CLAMP_REPORT_FULL | KINDLING_ENTERED | RESTRICTED_ENTERED | NVM_FAULT | LANE_RX_STATE
  | LANE_TX_FAULT | LANE_TX_HELD | LANE_TEST_ACTIVE | EYE_SCAN_DONE | QUAD_CLOCK_LOSS
  | INPUT_STATE_CHANGE | FORMAT_MISMATCH | VPID_CONFLICT | QUAD_LINK_ORDER | QUAD_LINK_FAULT
  | FS_DROP | FS_REPEAT | INPUT_HOLD | INPUT_NO_SOURCE | LINE_WINDOW_EXIT
  | ALIGN_CHANGE | PEAT_UNCORRECTABLE | LINK_STATE_CHANGE | LINK_DEGRADED | LINK_FAILED
  | LINK_HELD_DOWN | FAB_GUARANTEE_LOST | PATH_BLOCKED | PATH_SINGLE_PLANE | CELLS_LOST_BOTH
  | SPORE_TAG_FAIL | CREDIT_OVERRUN | FAB_MODEL_DIVERGE | TAKE_UNTIMED | TAKE_FORMAT_CONFLICT
  | PLANE_ALTERNATE | LOCK_CHANGE | START_SALVO_REFUSED | OUTPUT_CHARCOAL | OUTPUT_IF_CONFLICT
  | OUTPUT_RATE_CHANGE | OUTPUT_TIMING_CHANGE | EMB_GROUP_DROPPED | OUTPUT_STATE_CHANGE | IP_FLOW_CHANGE
  | IP_JOIN_TIMEOUT | IP_LEG_DOWN | IP_LEG_UP | IP_MERGE_SKEW | IP_LOST_BOTH
  | MAC_LINK_CHANGE | MAC_PREEMPT_FAIL | MAC_GATE_STARVED | MAC_RX_TRUNC | MAC_RX_NOBUF
  | MAC_WAKE | AUDIO_NODES_FULL | AUDIO_SATURATION | AUDIO_NONAUDIO_MUTE | AUDIO_BUNDLE_LOST
  | FERN_STATE_CHANGE | FERN_FAULT | FERN_OVERRUN | FERN_SATURATION | FERN_PEAT_UNCORR
  | TDM_STATE_CHANGE | TDM_ZC_TIMEOUT | TDM_TRIGGER_MISSED | TDM_TRIGGER_LATE | TDM_SLIP
  | TDM_CLOCK_STOP | TDM_GLITCH | TDM_CLOCK_RATE | ACTION_LATE | FRAME_COUNT_SLIP
  | DOMAIN_STATE_CHANGE | REF_ENTRY_STATE | REF_DRIFT | REF_SWITCH | REF_NO_MAJORITY
  | REF_LOCAL_SELECTED | REF_EMBER | REF_10M_LOSS | REALIGN_DONE | PTP_SERVO_STATE
  | PTP_STEP | PTP_GM_CHANGE | PTP_PORT_STATE | PTP_ACTIVE_SWITCH | PTP_SWITCH_REFUSED
  | PTP_TS_LOST | MOSS_HEAD_STATE | MOSS_PROXY_MISSING | MOSS_TAP_CLAMP | MOSS_TILE_HOLD
  | MOSS_TILE_NO_SIGNAL | MOSS_SIG_MISMATCH | MOSS_UNVERIFIED | REDUND_STATE_CHANGE | REDUND_PATH_LOST
  | REDUND_PATH_RESTORED | REDUND_FENCED | REDUND_REVERT_BLOCKED | REDUND_PLANE_LOST | ACTIONS_SUPERSEDED
  | SESSION_OPEN | SESSION_CLOSED | SESSION_AUTH_FAIL | SESSION_RATE_LIMIT | EVENT_QUEUE_OVERFLOW
  | WRITE_REFUSED | GPI_CHANGE | SEC_CLAIMED | SEC_CLAIM_LOCKED | SEC_CERT_REJECTED
  | SEC_IMAGE_REJECTED | SEC_ROLLBACK_REFUSED | SEC_FUSE_BURNED | SEC_ADMIT_REFUSED | SEC_DEBUG_UNLOCKED
  | UPDATE_OPENED | UPDATE_VERIFIED | UPDATE_ACTIVATED | UPDATE_CONFIRMED | UPDATE_FALLBACK
  | UPDATE_CONFLICT | BUS_ERROR | BUS_FILTER_BLOCK | BUS_TIMEOUT | BUS_MASTER_DRAIN
  | PWR_VIN_LOW | PWR_VIN_HIGH | PWR_TEMP_WARN | PWR_TEMP_HIGH | PWR_TEMP_LOW
  | PWR_POWER_HIGH | PWR_TRIP_RECOVERED
  deriving DecidableEq, Repr

/-- Every status (R384, R432, R454, R468). -/
inductive Status where
  | ACCEPTED | CLAMPED | REFUSED | READONLY | ROLE_IDLE | NOT_MANAGER
  | NO_SUCH_OBJECT | BAD_ALIGN | TOO_LONG | BUSY | IN_USE | EMPTY
  | NOT_SUPPORTED | NO_PRIVILEGE | RATE_LIMIT | BAD_MESSAGE | NOT_AUTHORISED | SESSIONS_FULL
  | NO_SUCH_KIND | BAD_STAMP | DOMAIN_OFF | DOMAIN_NOT_READY | STAMP_PAST | HORIZON
  | STAMP_ORDER | SCHED_FULL | SALVO_TOO_LARGE | NO_SUCH_OUTPUT | NO_SUCH_INPUT | QUAD_MEMBER
  | QUAD_MISMATCH | DUP_DEST | LOCKED | PROTECTED | FORMAT_CONFLICT | BLOCKED
  | LINK_BUSY | NO_BUFFER | IP_OUTPUT | NOT_IP | RATE_CONFLICT | BANDWIDTH
  | AUDIO_CHANNELS | PACKET_SIZE | BAD_RANGE | BAD_ADDRESS | NO_MAC | GATE_SUM
  | GATE_CYCLE | GATE_OFFSET | GATE_MEDIA | AUDIO_TOO_LARGE | NO_SUCH_SOURCE | NO_SUCH_DEST
  | BAD_OP | BAD_TRANSP | BUS_FULL | BUS_LOOP | BUS_DEPTH | NODES_FULL
  | AUDIO_NO_SLOT | AUDIO_FABRIC_FULL | NO_PATH | CORE_RUNNING | BAD_LENGTH | PORT_RUNNING
  | FRAME_FIT | BCLK_RATE | BAD_RATE | BAD_FORMAT | TRIGGER_PAST | NO_REFERENCE
  | REALIGN_RANGE | NOT_SDI | SERVO_OWNED | DUP_DOMAIN | SIG_AREA | NO_SUCH_TILE
  | NOT_CLAIMED | CLAIM_CODE | CLAIM_LOCKED | ALREADY_CLAIMED | NO_RELEASE | TRANSFER_EXHAUSTED
  | CERT_CHAIN | CERT_REVOKED | CERT_EXPIRED | BAD_SIGNATURE | ROLLBACK | NOT_FOR_MODULE
  | NO_IMAGE | IMAGE_TOO_LARGE | IMAGE_FORMAT | SET_MISMATCH | SET_UNTESTED | PEER_UNTESTED
  | NVM_FAULT | CONFLICT | ALREADY_PRESENT | BAD_BLOCK | INCOMPLETE | NOT_OPEN
  | NOT_UNCONFIRMED | HEALTH_PENDING | WINDOW_EXPIRED | RELAY_TARGET
  deriving DecidableEq, Repr

end Sys2Proof.Machine
end

