-- ==== Sys2Proof/Machine/FieldMap.lean ====
section
/-! DEFINITION. The object map (R12): the row of every field in the object-map tables, the list of all fields, the counters
that each CNT_CLR field clears, the numbers of the events and the codes of the statuses. -/
set_option Elab.async false
namespace Sys2Proof.Machine

/-- The row of a field. Columns: address of the first copy, lowest bit, width, copies, stride in bits, inner copies, inner
stride in bits, places skipped from copy 256 on, reset value, access, range, domain, "in image". -/
def Fld.desc : Fld → Desc
  -- R39
  | .SYS_ROLE => ⟨0x40000100, 0, 4, 1, 0, 1, 0, 0, 0, .ro, .rule, .none, true⟩
  | .SYS_PLANE => ⟨0x40000100, 4, 2, 1, 0, 1, 0, 0, 0, .ro, .rule, .none, false⟩
  | .SYS_GEOM => ⟨0x40000104, 0, 3, 1, 0, 1, 0, 0, 0, .ro, .rule, .none, true⟩
  | .SYS_NODE => ⟨0x40000108, 0, 6, 1, 0, 1, 0, 0, 0, .ro, .any, .none, false⟩
  | .SYS_NODE_VALID => ⟨0x40000108, 8, 1, 1, 0, 1, 0, 0, 0, .ro, .any, .none, false⟩
  | .SYS_EDGE_COUNT => ⟨0x4000010C, 0, 6, 1, 0, 1, 0, 0, 0, .ro, .rule, .none, false⟩
  | .SYS_MGR_A => ⟨0x40000110, 0, 6, 1, 0, 1, 0, 0, 0, .ro, .rule, .none, false⟩
  | .SYS_MGR_B => ⟨0x40000110, 8, 6, 1, 0, 1, 0, 0, 0, .ro, .rule, .none, false⟩
  | .SYS_MGR_ROLE => ⟨0x40000114, 0, 2, 1, 0, 1, 0, 0, 0, .ro, .any, .none, false⟩
  | .SYS_TOPO_DIGEST => ⟨0x40000118, 0, 32, 1, 0, 1, 0, 0, 0, .ro, .any, .none, false⟩
  | .ORD_APPLIED => ⟨0x40000120, 0, 48, 1, 0, 1, 0, 0, 0, .ro, .any, .none, false⟩
  | .ORD_SEEN => ⟨0x40000128, 0, 48, 1, 0, 1, 0, 0, 0, .ro, .any, .none, false⟩
  | .ORD_NEXT => ⟨0x40000130, 0, 48, 1, 0, 1, 0, 0, 0, .ro, .any, .none, false⟩
  | .ORD_STATE => ⟨0x40000138, 0, 3, 1, 0, 1, 0, 0, 0, .ro, .any, .none, false⟩
  | .ORD_RESYNC_AUTO => ⟨0x4000013C, 0, 1, 1, 0, 1, 0, 0, 1, .rw, .any, .none, false⟩
  | .ORD_RESYNC_REQ => ⟨0x40000140, 0, 1, 1, 0, 1, 0, 0, 0, .wo, .rule, .none, false⟩
  | .ORD_GAPS => ⟨0x40000144, 0, 32, 1, 0, 1, 0, 0, 0, .ro, .any, .none, false⟩
  | .ORD_LOSSES => ⟨0x40000148, 0, 32, 1, 0, 1, 0, 0, 0, .ro, .any, .none, false⟩
  | .ORD_DUPLICATES => ⟨0x4000014C, 0, 32, 1, 0, 1, 0, 0, 0, .ro, .any, .none, false⟩
  | .ORD_LATE => ⟨0x40000150, 0, 32, 1, 0, 1, 0, 0, 0, .ro, .any, .none, false⟩
  | .ORD_REFUSED_LATE => ⟨0x40000154, 0, 32, 1, 0, 1, 0, 0, 0, .ro, .any, .none, false⟩
  | .LINK_MAP_FAULTS => ⟨0x40000158, 0, 9, 1, 0, 1, 0, 0, 0, .ro, .any, .none, false⟩
  -- R60
  | .RD_FORMAT => ⟨0x40B08000, 0, 8, 8, 512, 1, 0, 0, 0, .ro, (.refuse 1 21), .none, true⟩
  | .RD_STATE_RASTER => ⟨0x40B08004, 0, 2, 8, 512, 1, 0, 0, 0, .ro, .any, .none, false⟩
  | .RD_COUNT_VALID => ⟨0x40B08004, 4, 1, 8, 512, 1, 0, 0, 0, .ro, .any, .none, false⟩
  | .RD_FRAME_LO => ⟨0x40B08008, 0, 32, 8, 512, 1, 0, 0, 0, .ro, .any, .none, false⟩
  | .RD_FRAME_HI => ⟨0x40B0800C, 0, 16, 8, 512, 1, 0, 0, 0, .ro, .any, .none, false⟩
  | .RD_LINE => ⟨0x40B08010, 0, 12, 8, 512, 1, 0, 0, 0, .ro, .any, .none, false⟩
  | .RD_SAMPLE => ⟨0x40B08010, 16, 13, 8, 512, 1, 0, 0, 0, .ro, .any, .none, false⟩
  | .RD_SWITCH_LINE1 => ⟨0x40B08014, 0, 12, 8, 512, 1, 0, 0, 0, .ro, .any, .none, false⟩
  | .RD_SWITCH_LINE2 => ⟨0x40B08014, 16, 12, 8, 512, 1, 0, 0, 0, .ro, .any, .none, false⟩
  | .RD_LATE => ⟨0x40B08018, 0, 32, 8, 512, 1, 0, 0, 0, .ro, .any, .none, false⟩
  | .RD_REFUSED => ⟨0x40B0801C, 0, 32, 8, 512, 1, 0, 0, 0, .ro, .any, .none, false⟩
  | .SCHED_LEAD_US => ⟨0x40B08200, 0, 14, 1, 0, 1, 0, 0, 0x1f4, .rw, (.clamp 100 10000), .none, false⟩
  | .RT_HOUSE_SRC => ⟨0x40B08204, 0, 3, 1, 0, 1, 0, 0, 0, .ro, .any, .none, false⟩
  | .RT_COUNT_SLIPS => ⟨0x40B08208, 0, 32, 1, 0, 1, 0, 0, 0, .ro, .any, .none, false⟩
  | .SCHED_PENDING => ⟨0x40B0820C, 0, 13, 1, 0, 1, 0, 0, 0, .ro, .any, .none, false⟩
  | .SCHED_PENDING_PEAK => ⟨0x40B0820C, 16, 13, 1, 0, 1, 0, 0, 0, .ro, .any, .none, false⟩
  -- R83
  | .VI_PORT_MODE => ⟨0x40200000, 0, 2, 256, 2048, 1, 0, 0, 0, .ro, (.refuse 0 2), .none, true⟩
  | .VI_LINK_MODE => ⟨0x40200000, 4, 2, 256, 2048, 1, 0, 0, 0, .ro, .rule, .none, true⟩
  | .VI_DOMAIN => ⟨0x40200004, 0, 3, 256, 2048, 1, 0, 0, 0, .rws, .rule, .vi, false⟩
  | .VI_ALIGN => ⟨0x40200004, 4, 2, 256, 2048, 1, 0, 0, 0, .rws, (.refuse 0 2), .vi, false⟩
  | .VI_FS_MIN => ⟨0x40200004, 8, 5, 256, 2048, 1, 0, 0, 0x12, .rws, (.clamp 17 31), .vi, false⟩
  | .VI_ANC_MODE => ⟨0x40200004, 16, 1, 256, 2048, 1, 0, 0, 0, .rws, .any, .vi, false⟩
  | .VI_AUD_GROUPS => ⟨0x40200008, 0, 8, 256, 2048, 1, 0, 0, 0xff, .rws, .any, .vi, false⟩
  | .VI_LOSS_MODE => ⟨0x40200008, 8, 1, 256, 2048, 1, 0, 0, 0, .rw, .any, .none, false⟩
  | .VI_HOLD_FRAMES => ⟨0x40200008, 16, 8, 256, 2048, 1, 0, 0, 5, .rw, (.clamp 1 255), .none, false⟩
  | .VI_CNT_CLR => ⟨0x4020000C, 0, 1, 256, 2048, 1, 0, 0, 0, .wo, .any, .none, false⟩
  | .VI_STATE => ⟨0x40200020, 0, 3, 256, 2048, 1, 0, 0, 0, .ro, .any, .none, false⟩
  | .VI_MISMATCH_WHY => ⟨0x40200020, 4, 3, 256, 2048, 1, 0, 0, 0, .ro, .any, .none, false⟩
  | .VI_ALIGN_STATE => ⟨0x40200020, 8, 3, 256, 2048, 1, 0, 0, 0, .ro, .any, .none, false⟩
  | .VI_TIMED => ⟨0x40200020, 12, 1, 256, 2048, 1, 0, 0, 0, .ro, .any, .none, false⟩
  | .VI_SYNC_SRC => ⟨0x40200020, 13, 1, 256, 2048, 1, 0, 0, 0, .ro, .any, .none, false⟩
  | .VI_ASRC => ⟨0x40200020, 14, 1, 256, 2048, 1, 0, 0, 0, .ro, .any, .none, false⟩
  | .VI_PSF => ⟨0x40200020, 15, 1, 256, 2048, 1, 0, 0, 0, .ro, .any, .none, false⟩
  | .VI_RATE => ⟨0x40200024, 0, 3, 256, 2048, 1, 0, 0, 0, .ro, .any, .none, false⟩
  | .VI_RATE_FRAC => ⟨0x40200024, 3, 1, 256, 2048, 1, 0, 0, 0, .ro, .any, .none, false⟩
  | .VI_LEVEL => ⟨0x40200024, 4, 2, 256, 2048, 1, 0, 0, 0, .ro, .any, .none, false⟩
  | .VI_FMT => ⟨0x40200024, 8, 8, 256, 2048, 1, 0, 0, 0, .ro, .any, .none, false⟩
  | .VI_VPID => ⟨0x40200028, 0, 32, 256, 2048, 1, 0, 0, 0, .ro, .any, .none, false⟩
  | .VI_VPID_PRESENT => ⟨0x4020002C, 0, 1, 256, 2048, 1, 0, 0, 0, .ro, .any, .none, false⟩
  | .VI_VPID_CONFLICT => ⟨0x4020002C, 1, 1, 256, 2048, 1, 0, 0, 0, .ro, .any, .none, false⟩
  | .VI_PHASE => ⟨0x40200030, 0, 24, 256, 2048, 1, 0, 0, 0, .ro, .any, .none, false⟩
  | .VI_OFFSET_PPM => ⟨0x40200034, 0, 20, 256, 2048, 1, 0, 0, 0, .ro, .any, .none, false⟩
  | .VI_LATENCY_LINES => ⟨0x40200038, 0, 13, 256, 2048, 1, 0, 0, 0, .ro, .any, .none, false⟩
  | .VI_QL_ORDER => ⟨0x4020003C, 0, 8, 256, 2048, 1, 0, 0, 0xe4, .ro, .any, .none, false⟩
  | .VI_QL_SKEW => ⟨0x4020003C, 8, 12, 256, 2048, 1, 0, 0, 0, .ro, .any, .none, false⟩
  | .VI_FS_DROPS => ⟨0x40200040, 0, 32, 256, 2048, 1, 0, 0, 0, .ro, .any, .none, false⟩
  | .VI_FS_REPEATS => ⟨0x40200044, 0, 32, 256, 2048, 1, 0, 0, 0, .ro, .any, .none, false⟩
  | .VI_HOLDS => ⟨0x40200048, 0, 32, 256, 2048, 1, 0, 0, 0, .ro, .any, .none, false⟩
  | .VI_BAD_FRAMES => ⟨0x4020004C, 0, 32, 256, 2048, 1, 0, 0, 0, .ro, .any, .none, false⟩
  | .VI_CRC_LINES => ⟨0x40200050, 0, 32, 256, 2048, 1, 0, 0, 0, .ro, .any, .none, false⟩
  | .VI_TRS_LOSSES => ⟨0x40200054, 0, 32, 256, 2048, 1, 0, 0, 0, .ro, .any, .none, false⟩
  | .VI_WINDOW_EXITS => ⟨0x40200058, 0, 32, 256, 2048, 1, 0, 0, 0, .ro, .any, .none, false⟩
  | .VI_ANC_CS_ERRS => ⟨0x4020005C, 0, 32, 256, 2048, 1, 0, 0, 0, .ro, .any, .none, false⟩
  | .VI_AUD_PKT_ERRS => ⟨0x40200060, 0, 32, 256, 2048, 1, 0, 0, 0, .ro, .any, .none, false⟩
  | .VI_PEAT_UNCORR => ⟨0x40200064, 0, 32, 256, 2048, 1, 0, 0, 0, .ro, .any, .none, false⟩
  | .VI_ALIGN_CHANGES => ⟨0x40200068, 0, 32, 256, 2048, 1, 0, 0, 0, .ro, .any, .none, false⟩
  -- R84
  | .VI_PEAT_CORR => ⟨0x402F0000, 0, 32, 1, 0, 1, 0, 0, 0, .ro, .any, .none, false⟩
  | .VI_FS_TOP => ⟨0x402F0004, 0, 32, 1, 0, 1, 0, 0, 0, .ro, .any, .none, false⟩
  | .VI_FS_BW => ⟨0x402F0008, 0, 10, 1, 0, 1, 0, 0, 0, .ro, .any, .none, false⟩
  -- R117
  | .FL_ENABLE => ⟨0x40300000, 0, 1, 256, 512, 1, 0, 0, 1, .rw, .rule, .none, false⟩
  | .FL_STATE => ⟨0x40300004, 0, 3, 256, 512, 1, 0, 0, 0, .ro, .any, .none, false⟩
  | .FL_PLANE => ⟨0x40300004, 4, 1, 256, 512, 1, 0, 0, 0, .ro, .any, .none, false⟩
  | .FL_NEW_PATHS => ⟨0x40300004, 5, 1, 256, 512, 1, 0, 0, 0, .ro, .any, .none, false⟩
  | .FL_FAR_NODE => ⟨0x40300008, 0, 6, 256, 512, 1, 0, 0, 0, .ro, .any, .none, false⟩
  | .FL_FAR_LINK => ⟨0x40300008, 8, 8, 256, 512, 1, 0, 0, 0, .ro, .any, .none, false⟩
  | .FL_FAR_VALID => ⟨0x40300008, 16, 1, 256, 512, 1, 0, 0, 0, .ro, .any, .none, false⟩
  | .FL_BER => ⟨0x4030000C, 0, 11, 256, 512, 1, 0, 0, 0, .ro, .any, .none, false⟩
  | .FL_SLOT_FMT => ⟨0x40300010, 0, 12, 256, 512, 1, 0, 0, 0, .ro, .any, .none, false⟩
  | .FL_SUB_BUSY => ⟨0x40300014, 0, 32, 256, 512, 1, 0, 0, 0, .ro, .any, .none, false⟩
  | .FL_AUD_TX => ⟨0x40300018, 0, 8, 256, 512, 1, 0, 0, 0, .ro, .any, .none, false⟩
  | .FL_AUD_RX => ⟨0x40300018, 16, 8, 256, 512, 1, 0, 0, 0, .ro, .any, .none, false⟩
  | .FL_CREDITS_CTRL => ⟨0x4030001C, 0, 4, 256, 512, 1, 0, 0, 0, .ro, .any, .none, false⟩
  | .FL_CREDITS_AUD => ⟨0x4030001C, 8, 6, 256, 512, 1, 0, 0, 0, .ro, .any, .none, false⟩
  | .FL_CW_CORR => ⟨0x40300020, 0, 32, 256, 512, 1, 0, 0, 0, .ro, .any, .none, false⟩
  | .FL_CW_UNCORR => ⟨0x40300024, 0, 32, 256, 512, 1, 0, 0, 0, .ro, .any, .none, false⟩
  | .FL_CRC_ERRS => ⟨0x40300028, 0, 32, 256, 512, 1, 0, 0, 0, .ro, .any, .none, false⟩
  | .FL_LATE_CELLS => ⟨0x4030002C, 0, 32, 256, 512, 1, 0, 0, 0, .ro, .any, .none, false⟩
  | .FL_CREDIT_OVERRUNS => ⟨0x40300030, 0, 32, 256, 512, 1, 0, 0, 0, .ro, .any, .none, false⟩
  | .FL_FAILS => ⟨0x40300034, 0, 32, 256, 512, 1, 0, 0, 0, .ro, .any, .none, false⟩
  | .FL_CTRL_GAPS => ⟨0x40300038, 0, 32, 256, 512, 1, 0, 0, 0, .ro, .any, .none, false⟩
  | .FL_CNT_CLR => ⟨0x4030003C, 0, 1, 256, 512, 1, 0, 0, 0, .wo, .any, .none, false⟩
  -- R118
  | .FAB_DELIVERY_NS => ⟨0x40380000, 0, 14, 1, 0, 1, 0, 0, 0xbb8, .ro, (.clamp 2000 16000), .none, true⟩
  | .FAB_HOLDDOWN_S => ⟨0x40380000, 16, 8, 1, 0, 1, 0, 0, 0x3c, .rw, (.clamp 10 255), .none, false⟩
  | .FAB_CENTRES_OK_A => ⟨0x40380004, 0, 8, 1, 0, 1, 0, 0, 0, .ro, .any, .none, false⟩
  | .FAB_CENTRES_OK_B => ⟨0x40380004, 8, 8, 1, 0, 1, 0, 0, 0, .ro, .any, .none, false⟩
  | .FAB_OCC_A => ⟨0x40380008, 0, 9, 1, 0, 1, 0, 0, 0, .ro, .any, .none, false⟩
  | .FAB_OCC_B => ⟨0x40380008, 16, 9, 1, 0, 1, 0, 0, 0, .ro, .any, .none, false⟩
  | .FAB_BOUND_A => ⟨0x4038000C, 0, 9, 1, 0, 1, 0, 0, 0, .ro, .any, .none, false⟩
  | .FAB_BOUND_B => ⟨0x4038000C, 16, 9, 1, 0, 1, 0, 0, 0, .ro, .any, .none, false⟩
  | .FAB_GUAR => ⟨0x40380010, 0, 4, 1, 0, 1, 0, 0, 0, .ro, .any, .none, false⟩
  | .FAB_PATHS => ⟨0x40380014, 0, 16, 1, 0, 1, 0, 0, 0, .ro, .any, .none, false⟩
  | .FAB_BLOCKED => ⟨0x40380018, 0, 32, 1, 0, 1, 0, 0, 0, .ro, .any, .none, false⟩
  | .FAB_SINGLE_PLANE => ⟨0x4038001C, 0, 32, 1, 0, 1, 0, 0, 0, .ro, .any, .none, false⟩
  | .FAB_HANDOVERS => ⟨0x40380020, 0, 32, 1, 0, 1, 0, 0, 0, .ro, .any, .none, false⟩
  | .FAB_RESTORES => ⟨0x40380024, 0, 32, 1, 0, 1, 0, 0, 0, .ro, .any, .none, false⟩
  | .FAB_LOST_BOTH => ⟨0x40380028, 0, 32, 1, 0, 1, 0, 0, 0, .ro, .any, .none, false⟩
  | .FAB_TAG_FAILS => ⟨0x4038002C, 0, 32, 1, 0, 1, 0, 0, 0, .ro, .any, .none, false⟩
  | .FAB_MODEL_DIVERGE => ⟨0x40380030, 0, 32, 1, 0, 1, 0, 0, 0, .ro, .any, .none, false⟩
  | .FAB_UMAX_A => ⟨0x40380034, 0, 9, 1, 0, 1, 0, 0, 0, .ro, .any, .none, false⟩
  | .FAB_UMAX_B => ⟨0x40380034, 16, 9, 1, 0, 1, 0, 0, 0, .ro, .any, .none, false⟩
  | .FAB_CNT_CLR => ⟨0x4038003C, 0, 1, 1, 0, 1, 0, 0, 0, .wo, .any, .none, false⟩
  | .FAB_PAIR_OCC => ⟨0x40380100, 0, 9, 32, 32, 1, 0, 0, 0, .ro, .any, .none, false⟩
  | .FAB_PAIR_OCC_IN => ⟨0x40380100, 16, 9, 32, 32, 1, 0, 0, 0, .ro, .any, .none, false⟩
  -- R142
  | .XS_CUR => ⟨0x40400000, 0, 12, 256, 512, 1, 0, 0, 0, .ro, .any, .none, false⟩
  | .XS_PEND => ⟨0x40400000, 12, 12, 256, 512, 1, 0, 0, 0, .ro, .any, .none, false⟩
  | .XS_GEN => ⟨0x40400000, 24, 4, 256, 512, 1, 0, 0, 0, .ro, .any, .none, false⟩
  | .XS_PENDING => ⟨0x40400000, 28, 1, 256, 512, 1, 0, 0, 0, .ro, .any, .none, false⟩
  | .XS_CUR_BLACK => ⟨0x40400000, 29, 1, 256, 512, 1, 0, 0, 1, .ro, .any, .none, false⟩
  | .XS_PEND_BLACK => ⟨0x40400000, 30, 1, 256, 512, 1, 0, 0, 1, .ro, .any, .none, false⟩
  | .XS_UNTIMED => ⟨0x40400000, 31, 1, 256, 512, 1, 0, 0, 0, .ro, .any, .none, false⟩
  | .XS_PSTAMP_LO => ⟨0x40400004, 0, 32, 256, 512, 1, 0, 0, 0, .ro, .any, .none, false⟩
  | .XS_PSTAMP_HI => ⟨0x40400008, 0, 32, 256, 512, 1, 0, 0, 0, .ro, .any, .none, false⟩
  | .XS_LAST_ORDER => ⟨0x4040000C, 0, 32, 256, 512, 1, 0, 0, 0, .ro, .any, .none, false⟩
  | .XS_LOCK_MODE => ⟨0x40400010, 0, 2, 256, 512, 1, 0, 0, 0, .ro, .any, .none, false⟩
  | .XS_PLANES => ⟨0x40400010, 2, 2, 256, 512, 1, 0, 0, 0, .ro, .any, .none, false⟩
  | .XS_LOCAL => ⟨0x40400010, 4, 1, 256, 512, 1, 0, 0, 0, .ro, .any, .none, false⟩
  | .XS_LAST_KIND => ⟨0x40400010, 5, 3, 256, 512, 1, 0, 0, 0, .ro, .any, .none, false⟩
  | .XS_PEND_CNT => ⟨0x40400010, 8, 8, 256, 512, 1, 0, 0, 0, .ro, .any, .none, false⟩
  | .XS_HOLDER => ⟨0x40400010, 16, 16, 256, 512, 1, 0, 0, 0, .ro, .any, .none, false⟩
  | .XS_LAST_STAMP_LO => ⟨0x40400014, 0, 32, 256, 512, 1, 0, 0, 0, .ro, .any, .none, false⟩
  | .XS_LAST_STAMP_HI => ⟨0x40400018, 0, 32, 256, 512, 1, 0, 0, 0, .ro, .any, .none, false⟩
  | .XS_SEL_MODE => ⟨0x4040001C, 0, 2, 256, 512, 1, 0, 0, 0, .rw, (.refuse 0 2), .none, false⟩
  | .XS_PLANE_PREF => ⟨0x4040001C, 2, 1, 256, 512, 1, 0, 0, 0, .rw, .any, .none, false⟩
  | .XS_TAKES => ⟨0x40400020, 0, 32, 256, 512, 1, 0, 0, 0, .ro, .any, .none, false⟩
  | .XS_UNTIMED_CNT => ⟨0x40400024, 0, 32, 256, 512, 1, 0, 0, 0, .ro, .any, .none, false⟩
  | .XS_ALT_CELLS => ⟨0x40400028, 0, 32, 256, 512, 1, 0, 0, 0, .ro, .any, .none, false⟩
  | .XS_FMT_CONFLICTS => ⟨0x4040002C, 0, 32, 256, 512, 1, 0, 0, 0, .ro, .any, .none, false⟩
  | .XS_IMMEDIATE_CNT => ⟨0x40400030, 0, 32, 256, 512, 1, 0, 0, 0, .ro, .any, .none, false⟩
  | .XS_CNT_CLR => ⟨0x4040003C, 0, 1, 256, 512, 1, 0, 0, 0, .wo, .any, .none, false⟩
  -- R143
  | .XP_OUTPUTS => ⟨0x40480000, 0, 9, 1, 0, 1, 0, 0, 0, .ro, .any, .none, false⟩
  | .XP_OUT_BASE => ⟨0x40480004, 0, 12, 1, 0, 1, 0, 0, 0, .ro, .any, .none, false⟩
  | .XP_PENDING_OUTS => ⟨0x40480008, 0, 9, 1, 0, 1, 0, 0, 0, .ro, .any, .none, false⟩
  | .XP_LOCKED_OUTS => ⟨0x40480008, 16, 9, 1, 0, 1, 0, 0, 0, .ro, .any, .none, false⟩
  | .XP_GROUPS => ⟨0x4048000C, 0, 11, 1, 0, 1, 0, 0, 0, .ro, (.clamp 0 1024), .none, true⟩
  | .XP_START_SALVO => ⟨0x4048000C, 16, 1, 1, 0, 1, 0, 0, 0, .ro, .any, .none, false⟩
  | .XP_REPL_LEGS => ⟨0x40480010, 0, 16, 1, 0, 1, 0, 0, 0, .ro, .any, .none, false⟩
  | .XP_TAKES_ALL => ⟨0x40480014, 0, 32, 1, 0, 1, 0, 0, 0, .ro, .any, .none, false⟩
  | .XP_UNTIMED_ALL => ⟨0x40480018, 0, 32, 1, 0, 1, 0, 0, 0, .ro, .any, .none, false⟩
  | .XP_CNT_CLR => ⟨0x4048003C, 0, 1, 1, 0, 1, 0, 0, 0, .wo, .any, .none, false⟩
  -- R159
  | .VO_PORT_MODE => ⟨0x40500000, 0, 2, 256, 2048, 1, 0, 0, 0, .ro, (.refuse 0 2), .none, true⟩
  | .VO_LINK_MODE => ⟨0x40500000, 4, 2, 256, 2048, 1, 0, 0, 0, .ro, .rule, .none, true⟩
  | .VO_DOMAIN => ⟨0x40500004, 0, 3, 256, 2048, 1, 0, 0, 0, .rws, .rule, .vo, false⟩
  | .VO_STD => ⟨0x40500004, 8, 4, 256, 2048, 1, 0, 0, 0, .rws, .rule, .vo, false⟩
  | .VO_IDLE_STD => ⟨0x40500004, 12, 4, 256, 2048, 1, 0, 0, 0, .rws, .rule, .vo, false⟩
  | .VO_TRANSP_MODE => ⟨0x40500004, 16, 1, 256, 2048, 1, 0, 0, 0, .rws, .any, .vo, false⟩
  | .VO_OFFSET => ⟨0x40500008, 0, 25, 256, 2048, 1, 0, 0, 0, .rws, .rule, .vo, false⟩
  | .VO_EMB_MAP => ⟨0x4050000C, 0, 32, 256, 2048, 1, 0, 0, 0x87654321, .rws, .rule, .vo, false⟩
  | .VO_VPID_SRC => ⟨0x40500010, 0, 1, 256, 2048, 1, 0, 0, 0, .rws, .any, .vo, false⟩
  | .VO_VPID_DEFAULT => ⟨0x40500010, 16, 16, 256, 2048, 1, 0, 0, 0, .rws, .any, .vo, false⟩
  | .VO_CNT_CLR => ⟨0x4050001C, 0, 1, 256, 2048, 1, 0, 0, 0, .wo, .any, .none, false⟩
  | .VO_STATE => ⟨0x40500020, 0, 3, 256, 2048, 1, 0, 0, 0, .ro, .any, .none, false⟩
  | .VO_CHARCOAL => ⟨0x40500020, 4, 1, 256, 2048, 1, 0, 0, 0, .ro, .any, .none, false⟩
  | .VO_CHARCOAL_WHY => ⟨0x40500020, 5, 3, 256, 2048, 1, 0, 0, 0, .ro, .any, .none, false⟩
  | .VO_STD_NOW => ⟨0x40500020, 8, 4, 256, 2048, 1, 0, 0, 0, .ro, .any, .none, false⟩
  | .VO_EMB_DROPPED => ⟨0x40500020, 16, 8, 256, 2048, 1, 0, 0, 0, .ro, .any, .none, false⟩
  | .VO_BUF => ⟨0x40500020, 24, 1, 256, 2048, 1, 0, 0, 0, .ro, .any, .none, false⟩
  | .VO_BUF_INDEX => ⟨0x40500020, 25, 6, 256, 2048, 1, 0, 0, 0, .ro, .any, .none, false⟩
  | .VO_VPID_SENT => ⟨0x40500024, 0, 32, 256, 2048, 1, 0, 0, 0, .ro, .any, .none, false⟩
  | .VO_LAND_NS => ⟨0x40500028, 0, 32, 256, 2048, 1, 0, 0, 0, .ro, .any, .none, false⟩
  | .VO_FRAME_CRC => ⟨0x4050002C, 0, 32, 256, 2048, 1, 0, 0, 0, .ro, .any, .none, false⟩
  | .VO_FRAMES => ⟨0x40500030, 0, 32, 256, 2048, 1, 0, 0, 0, .ro, .any, .none, false⟩
  | .VO_CHARCOAL_FRAMES => ⟨0x40500034, 0, 32, 256, 2048, 1, 0, 0, 0, .ro, .any, .none, false⟩
  | .VO_CHARCOAL_LINES => ⟨0x40500038, 0, 32, 256, 2048, 1, 0, 0, 0, .ro, .any, .none, false⟩
  | .VO_RATE_CHANGES => ⟨0x4050003C, 0, 32, 256, 2048, 1, 0, 0, 0, .ro, .any, .none, false⟩
  | .VO_TIMING_CHANGES => ⟨0x40500040, 0, 32, 256, 2048, 1, 0, 0, 0, .ro, .any, .none, false⟩
  | .VO_TX_FAULTS => ⟨0x40500044, 0, 32, 256, 2048, 1, 0, 0, 0, .ro, .any, .none, false⟩
  -- R160
  | .VO_FB_FREE => ⟨0x405F0000, 0, 7, 1, 0, 1, 0, 0, 0x40, .ro, .any, .none, false⟩
  | .VO_FB_BASE => ⟨0x405F0004, 0, 32, 1, 0, 1, 0, 0, 0x87880000, .ro, .any, .none, false⟩
  | .VO_FB_BW => ⟨0x405F0008, 0, 10, 1, 0, 1, 0, 0, 0, .ro, .any, .none, false⟩
  -- R180
  | .IV_MODE => ⟨0x40600000, 0, 2, 256, 2048, 1, 0, 0, 0, .rws, (.refuse 0 2), .vi, false⟩
  | .IV_ANC => ⟨0x40600000, 2, 1, 256, 2048, 1, 0, 0, 0, .rws, .rule, .vi, false⟩
  | .IV_DUAL => ⟨0x40600000, 3, 1, 256, 2048, 1, 0, 0, 0, .rws, .any, .vi, false⟩
  | .IV_IPV6 => ⟨0x40600000, 4, 1, 256, 2048, 1, 0, 0, 0, .rws, .any, .vi, false⟩
  | .IV_FMT => ⟨0x40600000, 8, 8, 256, 2048, 1, 0, 0, 0, .rws, .rule, .vi, false⟩
  | .IV_MAC_A => ⟨0x40600004, 0, 8, 256, 2048, 1, 0, 0, 0, .rws, .rule, .vi, false⟩
  | .IV_MAC_B => ⟨0x40600004, 8, 8, 256, 2048, 1, 0, 0, 0, .rws, .rule, .vi, false⟩
  | .IV_UDP_A => ⟨0x40600008, 0, 16, 256, 2048, 1, 0, 0, 0, .rws, (.refuse 1 65535), .vi, false⟩
  | .IV_UDP_B => ⟨0x40600008, 16, 16, 256, 2048, 1, 0, 0, 0, .rws, (.refuse 1 65535), .vi, false⟩
  | .IV_ANC_UDP => ⟨0x4060000C, 0, 16, 256, 2048, 1, 0, 0, 0, .rws, (.refuse 1 65535), .vi, false⟩
  | .IV_PLAYOUT_US => ⟨0x40600010, 0, 14, 256, 2048, 1, 0, 0, 0x3e8, .rws, (.clamp 100 16000), .vi, false⟩
  | .IV_SKEW_ALARM_US => ⟨0x40600010, 16, 14, 256, 2048, 1, 0, 0, 0x3e8, .rw, (.clamp 10 16000), .none, false⟩
  | .IV_JOIN_TIMEOUT_MS => ⟨0x40600014, 0, 14, 256, 2048, 1, 0, 0, 0x3e8, .rw, (.clamp 100 10000), .none, false⟩
  | .IV_GRP_A => ⟨0x40600020, 0, 128, 256, 2048, 1, 0, 0, 0, .rws, .rule, .vi, false⟩
  | .IV_SRC_A => ⟨0x40600030, 0, 128, 256, 2048, 1, 0, 0, 0, .rws, .rule, .vi, false⟩
  | .IV_GRP_B => ⟨0x40600040, 0, 128, 256, 2048, 1, 0, 0, 0, .rws, .rule, .vi, false⟩
  | .IV_SRC_B => ⟨0x40600050, 0, 128, 256, 2048, 1, 0, 0, 0, .rws, .rule, .vi, false⟩
  | .IV_STATE => ⟨0x40600060, 0, 2, 256, 2048, 1, 0, 0, 0, .ro, .any, .none, false⟩
  | .IV_LEG_A_UP => ⟨0x40600060, 4, 1, 256, 2048, 1, 0, 0, 0, .ro, .any, .none, false⟩
  | .IV_LEG_B_UP => ⟨0x40600060, 5, 1, 256, 2048, 1, 0, 0, 0, .ro, .any, .none, false⟩
  | .IV_SKEW_US => ⟨0x40600064, 0, 14, 256, 2048, 1, 0, 0, 0, .ro, .any, .none, false⟩
  | .IV_PKTS => ⟨0x40600068, 0, 32, 256, 2048, 1, 0, 0, 0, .ro, .any, .none, false⟩
  | .IV_ALT_PKTS => ⟨0x4060006C, 0, 32, 256, 2048, 1, 0, 0, 0, .ro, .any, .none, false⟩
  | .IV_LATE_PKTS => ⟨0x40600070, 0, 32, 256, 2048, 1, 0, 0, 0, .ro, .any, .none, false⟩
  | .IV_LOST_BOTH => ⟨0x40600074, 0, 32, 256, 2048, 1, 0, 0, 0, .ro, .any, .none, false⟩
  | .IV_CHANGES => ⟨0x40600078, 0, 32, 256, 2048, 1, 0, 0, 0, .ro, .any, .none, false⟩
  | .OV_MODE => ⟨0x40600080, 0, 2, 256, 2048, 1, 0, 0, 0, .rws, (.refuse 0 1), .vo, false⟩
  | .OV_ANC => ⟨0x40600080, 2, 1, 256, 2048, 1, 0, 0, 0, .rws, .any, .vo, false⟩
  | .OV_DUAL => ⟨0x40600080, 3, 1, 256, 2048, 1, 0, 0, 0, .rws, .any, .vo, false⟩
  | .OV_IPV6 => ⟨0x40600080, 4, 1, 256, 2048, 1, 0, 0, 0, .rws, .any, .vo, false⟩
  | .OV_SHAPE => ⟨0x40600080, 5, 2, 256, 2048, 1, 0, 0, 0, .rws, (.refuse 0 1), .vo, false⟩
  | .OV_COLOR => ⟨0x40600080, 8, 4, 256, 2048, 1, 0, 0, 0, .rws, (.refuse 0 3), .vo, false⟩
  | .OV_MAC_A => ⟨0x40600084, 0, 8, 256, 2048, 1, 0, 0, 0, .rws, .rule, .vo, false⟩
  | .OV_MAC_B => ⟨0x40600084, 8, 8, 256, 2048, 1, 0, 0, 0, .rws, .rule, .vo, false⟩
  | .OV_UDP_A => ⟨0x40600088, 0, 16, 256, 2048, 1, 0, 0, 0, .rws, (.refuse 1 65535), .vo, false⟩
  | .OV_UDP_B => ⟨0x40600088, 16, 16, 256, 2048, 1, 0, 0, 0, .rws, (.refuse 1 65535), .vo, false⟩
  | .OV_ANC_UDP => ⟨0x4060008C, 0, 16, 256, 2048, 1, 0, 0, 0, .rws, (.refuse 1 65535), .vo, false⟩
  | .OV_DSCP => ⟨0x4060008C, 16, 6, 256, 2048, 1, 0, 0, 0x22, .rws, .any, .vo, false⟩
  | .OV_TTL => ⟨0x4060008C, 24, 8, 256, 2048, 1, 0, 0, 0x40, .rws, (.clamp 1 255), .vo, false⟩
  | .OV_VLAN => ⟨0x40600090, 0, 12, 256, 2048, 1, 0, 0, 0, .rws, (.refuse 0 4094), .vo, false⟩
  | .OV_PCP => ⟨0x40600090, 12, 3, 256, 2048, 1, 0, 0, 4, .rws, .any, .vo, false⟩
  | .OV_PT_VID => ⟨0x40600094, 0, 7, 256, 2048, 1, 0, 0, 0x60, .rws, (.clamp 96 127), .vo, false⟩
  | .OV_PT_ANC => ⟨0x40600094, 8, 7, 256, 2048, 1, 0, 0, 0x64, .rws, (.clamp 96 127), .vo, false⟩
  | .OV_GRP_A => ⟨0x406000A0, 0, 128, 256, 2048, 1, 0, 0, 0, .rws, .rule, .vo, false⟩
  | .OV_GRP_B => ⟨0x406000B0, 0, 128, 256, 2048, 1, 0, 0, 0, .rws, .rule, .vo, false⟩
  | .OV_PKTS => ⟨0x406000C4, 0, 32, 256, 2048, 1, 0, 0, 0, .ro, .any, .none, false⟩
  | .OV_LAST_TS => ⟨0x406000C8, 0, 32, 256, 2048, 1, 0, 0, 0, .ro, .any, .none, false⟩
  | .IP_CNT_CLR => ⟨0x406000FC, 0, 1, 256, 2048, 1, 0, 0, 0, .wo, .any, .none, false⟩
  -- R181
  | .IA_MODE => ⟨0x40640000, 0, 2, 512, 1024, 1, 0, 0, 0, .rws, (.refuse 0 2), .d0, false⟩
  | .IA_DUAL => ⟨0x40640000, 2, 1, 512, 1024, 1, 0, 0, 0, .rws, .any, .d0, false⟩
  | .IA_IPV6 => ⟨0x40640000, 3, 1, 512, 1024, 1, 0, 0, 0, .rws, .any, .d0, false⟩
  | .IA_L16 => ⟨0x40640000, 4, 1, 512, 1024, 1, 0, 0, 0, .rws, .rule, .d0, false⟩
  | .IA_PTIME => ⟨0x40640000, 5, 2, 512, 1024, 1, 0, 0, 0, .rws, (.refuse 0 2), .d0, false⟩
  | .IA_CHANNELS => ⟨0x40640000, 8, 7, 512, 1024, 1, 0, 0, 0, .rws, .rule, .d0, false⟩
  | .IA_FIRST_AS => ⟨0x40640000, 16, 13, 512, 1024, 1, 0, 0, 0, .rws, .rule, .d0, false⟩
  | .IA_MAC_A => ⟨0x40640004, 0, 8, 512, 1024, 1, 0, 0, 0, .rws, .rule, .d0, false⟩
  | .IA_MAC_B => ⟨0x40640004, 8, 8, 512, 1024, 1, 0, 0, 0, .rws, .rule, .d0, false⟩
  | .IA_UDP_A => ⟨0x40640008, 0, 16, 512, 1024, 1, 0, 0, 0, .rws, (.refuse 1 65535), .d0, false⟩
  | .IA_UDP_B => ⟨0x40640008, 16, 16, 512, 1024, 1, 0, 0, 0, .rws, (.refuse 1 65535), .d0, false⟩
  | .IA_PLAYOUT => ⟨0x4064000C, 0, 13, 512, 1024, 1, 0, 0, 0x60, .rws, .rule, .d0, false⟩
  | .IA_GRP_A => ⟨0x40640010, 0, 128, 512, 1024, 1, 0, 0, 0, .rws, .rule, .d0, false⟩
  | .IA_SRC_A => ⟨0x40640020, 0, 128, 512, 1024, 1, 0, 0, 0, .rws, .rule, .d0, false⟩
  | .IA_GRP_B => ⟨0x40640030, 0, 128, 512, 1024, 1, 0, 0, 0, .rws, .rule, .d0, false⟩
  | .IA_SRC_B => ⟨0x40640040, 0, 128, 512, 1024, 1, 0, 0, 0, .rws, .rule, .d0, false⟩
  | .IA_STATE => ⟨0x40640050, 0, 2, 512, 1024, 1, 0, 0, 0, .ro, .any, .none, false⟩
  | .IA_LEG_A_UP => ⟨0x40640050, 2, 1, 512, 1024, 1, 0, 0, 0, .ro, .any, .none, false⟩
  | .IA_LEG_B_UP => ⟨0x40640050, 3, 1, 512, 1024, 1, 0, 0, 0, .ro, .any, .none, false⟩
  | .IA_SYNC => ⟨0x40640050, 4, 1, 512, 1024, 1, 0, 0, 0, .ro, .any, .none, false⟩
  | .IA_ASRC => ⟨0x40640050, 5, 1, 512, 1024, 1, 0, 0, 0, .ro, .any, .none, false⟩
  | .IA_PKTS => ⟨0x40640054, 0, 32, 512, 1024, 1, 0, 0, 0, .ro, .any, .none, false⟩
  | .IA_LATE_PKTS => ⟨0x40640058, 0, 32, 512, 1024, 1, 0, 0, 0, .ro, .any, .none, false⟩
  | .IA_LOST_BOTH => ⟨0x4064005C, 0, 32, 512, 1024, 1, 0, 0, 0, .ro, .any, .none, false⟩
  | .IA_CNT_CLR => ⟨0x4064007C, 0, 1, 512, 1024, 1, 0, 0, 0, .wo, .any, .none, false⟩
  | .OA_MODE => ⟨0x40660000, 0, 2, 512, 1024, 1, 0, 0, 0, .rws, (.refuse 0 2), .d0, false⟩
  | .OA_DUAL => ⟨0x40660000, 2, 1, 512, 1024, 1, 0, 0, 0, .rws, .any, .d0, false⟩
  | .OA_IPV6 => ⟨0x40660000, 3, 1, 512, 1024, 1, 0, 0, 0, .rws, .any, .d0, false⟩
  | .OA_L16 => ⟨0x40660000, 4, 1, 512, 1024, 1, 0, 0, 0, .rws, .rule, .d0, false⟩
  | .OA_PTIME => ⟨0x40660000, 5, 2, 512, 1024, 1, 0, 0, 0, .rws, (.refuse 0 1), .d0, false⟩
  | .OA_CHANNELS => ⟨0x40660000, 8, 7, 512, 1024, 1, 0, 0, 0, .rws, .rule, .d0, false⟩
  | .OA_FIRST_AD => ⟨0x40660000, 16, 13, 512, 1024, 1, 0, 0, 0, .rws, .rule, .d0, false⟩
  | .OA_MAC_A => ⟨0x40660004, 0, 8, 512, 1024, 1, 0, 0, 0, .rws, .rule, .d0, false⟩
  | .OA_MAC_B => ⟨0x40660004, 8, 8, 512, 1024, 1, 0, 0, 0, .rws, .rule, .d0, false⟩
  | .OA_UDP_A => ⟨0x40660008, 0, 16, 512, 1024, 1, 0, 0, 0, .rws, (.refuse 1 65535), .d0, false⟩
  | .OA_UDP_B => ⟨0x40660008, 16, 16, 512, 1024, 1, 0, 0, 0, .rws, (.refuse 1 65535), .d0, false⟩
  | .OA_DSCP => ⟨0x4066000C, 0, 6, 512, 1024, 1, 0, 0, 0x2e, .rws, .any, .d0, false⟩
  | .OA_TTL => ⟨0x4066000C, 8, 8, 512, 1024, 1, 0, 0, 0x40, .rws, (.clamp 1 255), .d0, false⟩
  | .OA_PT => ⟨0x4066000C, 16, 7, 512, 1024, 1, 0, 0, 0x61, .rws, (.clamp 96 127), .d0, false⟩
  | .OA_VLAN => ⟨0x40660010, 0, 12, 512, 1024, 1, 0, 0, 0, .rws, (.refuse 0 4094), .d0, false⟩
  | .OA_PCP => ⟨0x40660010, 12, 3, 512, 1024, 1, 0, 0, 5, .rws, .any, .d0, false⟩
  | .OA_GRP_A => ⟨0x40660020, 0, 128, 512, 1024, 1, 0, 0, 0, .rws, .rule, .d0, false⟩
  | .OA_GRP_B => ⟨0x40660030, 0, 128, 512, 1024, 1, 0, 0, 0, .rws, .rule, .d0, false⟩
  | .OA_PKTS => ⟨0x40660054, 0, 32, 512, 1024, 1, 0, 0, 0, .ro, .any, .none, false⟩
  | .OA_CNT_CLR => ⟨0x4066007C, 0, 1, 512, 1024, 1, 0, 0, 0, .wo, .any, .none, false⟩
  -- R182
  | .IP_POSITIONS => ⟨0x406F0000, 0, 9, 1, 0, 1, 0, 0, 0, .ro, .any, .none, false⟩
  | .IP_AUD_RX_CH => ⟨0x406F0004, 0, 13, 1, 0, 1, 0, 0, 0, .ro, .any, .none, false⟩
  | .IP_AUD_TX_CH => ⟨0x406F0004, 16, 13, 1, 0, 1, 0, 0, 0, .ro, .any, .none, false⟩
  -- R206
  | .MC_MODE => ⟨0x40700000, 0, 3, 259, 8192, 1, 0, 256, 0, .ro, .rule, .none, true⟩
  | .MC_FEC => ⟨0x40700000, 4, 2, 259, 8192, 1, 0, 256, 0, .ro, .rule, .none, true⟩
  | .MC_URGENT_MODE => ⟨0x40700000, 8, 2, 259, 8192, 1, 0, 256, 0, .ro, (.refuse 0 2), .none, true⟩
  | .MC_MAX_FRAME => ⟨0x40700004, 0, 14, 259, 8192, 1, 0, 256, 0x5f2, .rw, (.clamp 1518 9216), .none, false⟩
  | .MC_EXPRESS => ⟨0x40700008, 0, 8, 259, 8192, 1, 0, 256, 0x80, .rw, .rule, .none, false⟩
  | .MC_VERIFY_MS => ⟨0x40700008, 8, 8, 259, 8192, 1, 0, 256, 0xa, .rw, (.clamp 1 128), .none, false⟩
  | .MC_GATE_LOCK => ⟨0x4070000C, 0, 1, 259, 8192, 1, 0, 256, 0, .rws, .any, .gate, false⟩
  | .MC_GATE_DOMAIN => ⟨0x4070000C, 4, 3, 259, 8192, 1, 0, 256, 0, .rws, .rule, .gate, false⟩
  | .MC_GATE_ENTRIES => ⟨0x4070000C, 8, 5, 259, 8192, 1, 0, 256, 1, .rws, (.refuse 1 16), .gate, false⟩
  | .MC_GATE_PER_FRAME => ⟨0x4070000C, 16, 11, 259, 8192, 1, 0, 256, 1, .rws, .rule, .gate, false⟩
  | .MC_GATE_OFFSET_NS => ⟨0x40700010, 0, 32, 259, 8192, 1, 0, 256, 0, .rws, .rule, .gate, false⟩
  | .MC_GATE_CYCLE_NS => ⟨0x40700014, 0, 32, 259, 8192, 1, 0, 256, 0xf4240, .rws, (.clamp 1000 1000000000), .gate, false⟩
  | .MC_DEFAULT_Q => ⟨0x40700018, 0, 4, 259, 8192, 1, 0, 256, 0xf, .rw, .any, .none, false⟩
  | .MC_DEFAULT_DROP => ⟨0x40700018, 4, 1, 259, 8192, 1, 0, 256, 0, .rw, .any, .none, false⟩
  | .MC_SLEEP => ⟨0x4070001C, 0, 1, 259, 8192, 1, 0, 256, 0, .rw, .rule, .none, false⟩
  | .MC_EEE => ⟨0x4070001C, 1, 1, 259, 8192, 1, 0, 256, 0, .rw, .rule, .none, false⟩
  | .MC_WAKE_ETYPE => ⟨0x4070001C, 16, 16, 259, 8192, 1, 0, 256, 0x88b5, .rw, (.refuse 0x600 0xFFFF), .none, false⟩
  | .MC_WAKE_KEY => ⟨0x40700020, 0, 32, 259, 8192, 1, 0, 256, 0, .rw, .any, .none, false⟩
  | .MC_CNT_CLR => ⟨0x40700024, 0, 1, 259, 8192, 1, 0, 256, 0, .wo, .any, .none, false⟩
  | .MC_STATE => ⟨0x40700028, 0, 3, 259, 8192, 1, 0, 256, 0, .ro, .any, .none, false⟩
  | .MC_DOWN_WHY => ⟨0x40700028, 4, 2, 259, 8192, 1, 0, 256, 0, .ro, .any, .none, false⟩
  | .MC_VERIFY_STATE => ⟨0x40700028, 8, 2, 259, 8192, 1, 0, 256, 0, .ro, .any, .none, false⟩
  | .MC_LPI_TX => ⟨0x40700028, 12, 1, 259, 8192, 1, 0, 256, 0, .ro, .any, .none, false⟩
  | .MC_LPI_RX => ⟨0x40700028, 13, 1, 259, 8192, 1, 0, 256, 0, .ro, .any, .none, false⟩
  | .MC_ADDR_LO => ⟨0x4070002C, 0, 32, 259, 8192, 1, 0, 256, 0, .ro, .any, .none, false⟩
  | .MC_ADDR_HI => ⟨0x40700030, 0, 16, 259, 8192, 1, 0, 256, 0, .ro, .any, .none, false⟩
  | .MC_RX_FRAMES => ⟨0x40700040, 0, 32, 259, 8192, 1, 0, 256, 0, .ro, .any, .none, false⟩
  | .MC_RX_FCS_ERRS => ⟨0x40700044, 0, 32, 259, 8192, 1, 0, 256, 0, .ro, .any, .none, false⟩
  | .MC_RX_LEN_ERRS => ⟨0x40700048, 0, 32, 259, 8192, 1, 0, 256, 0, .ro, .any, .none, false⟩
  | .MC_RX_FILTER_DROPS => ⟨0x4070004C, 0, 32, 259, 8192, 1, 0, 256, 0, .ro, .any, .none, false⟩
  | .MC_RX_REASM_ERRS => ⟨0x40700050, 0, 32, 259, 8192, 1, 0, 256, 0, .ro, .any, .none, false⟩
  | .MC_RX_WAKE_DROPS => ⟨0x40700054, 0, 32, 259, 8192, 1, 0, 256, 0, .ro, .any, .none, false⟩
  | .MC_TX_FRAMES => ⟨0x40700058, 0, 32, 259, 8192, 1, 0, 256, 0, .ro, .any, .none, false⟩
  | .MC_TX_PREEMPTS => ⟨0x4070005C, 0, 32, 259, 8192, 1, 0, 256, 0, .ro, .any, .none, false⟩
  | .MC_TX_GATE_WAITS => ⟨0x40700060, 0, 32, 259, 8192, 1, 0, 256, 0, .ro, .any, .none, false⟩
  | .MC_TX_GATE_DROPS => ⟨0x40700064, 0, 32, 259, 8192, 1, 0, 256, 0, .ro, .any, .none, false⟩
  | .MC_TX_SLEEP_DROPS => ⟨0x40700068, 0, 32, 259, 8192, 1, 0, 256, 0, .ro, .any, .none, false⟩
  | .MC_LINK_DOWNS => ⟨0x4070006C, 0, 32, 259, 8192, 1, 0, 256, 0, .ro, .any, .none, false⟩
  | .MC_LPI_ENTRIES => ⟨0x40700070, 0, 32, 259, 8192, 1, 0, 256, 0, .ro, .any, .none, false⟩
  | .MC_WAKES => ⟨0x40700074, 0, 32, 259, 8192, 1, 0, 256, 0, .ro, .any, .none, false⟩
  | .GL_INTERVAL_NS => ⟨0x40700080, 0, 32, 259, 8192, 16, 64, 256, 0xf4240, .rws, .rule, .gate, false⟩
  | .GL_GATES => ⟨0x40700084, 0, 8, 259, 8192, 16, 64, 256, 0xff, .rws, .rule, .gate, false⟩
  | .MF_ETYPE => ⟨0x40700100, 0, 16, 259, 8192, 64, 64, 256, 0, .rw, .any, .none, false⟩
  | .MF_ETYPE_ANY => ⟨0x40700100, 16, 1, 259, 8192, 64, 64, 256, 0, .rw, .any, .none, false⟩
  | .MF_TAG => ⟨0x40700100, 17, 2, 259, 8192, 64, 64, 256, 0, .rw, (.refuse 0 2), .none, false⟩
  | .MF_VID => ⟨0x40700104, 0, 12, 259, 8192, 64, 64, 256, 0, .rw, (.refuse 0 4094), .none, false⟩
  | .MF_VID_ANY => ⟨0x40700104, 12, 1, 259, 8192, 64, 64, 256, 1, .rw, .any, .none, false⟩
  | .MF_PCP_MASK => ⟨0x40700104, 16, 8, 259, 8192, 64, 64, 256, 0xff, .rw, .any, .none, false⟩
  | .MF_QUEUE => ⟨0x40700104, 24, 4, 259, 8192, 64, 64, 256, 0, .rw, .any, .none, false⟩
  | .MF_DROP => ⟨0x40700104, 28, 1, 259, 8192, 64, 64, 256, 0, .rw, .any, .none, false⟩
  | .MF_EN => ⟨0x40700104, 31, 1, 259, 8192, 64, 64, 256, 0, .rw, .any, .none, false⟩
  | .MQ_RING_LEN => ⟨0x40700300, 0, 16, 259, 8192, 16, 128, 256, 0, .ro, .rule, .none, true⟩
  | .MQ_URGENT => ⟨0x40700300, 16, 1, 259, 8192, 16, 128, 256, 0, .ro, .any, .none, true⟩
  | .MQ_FILL => ⟨0x40700304, 0, 16, 259, 8192, 16, 128, 256, 0, .ro, .any, .none, false⟩
  | .MQ_FILL_PEAK => ⟨0x40700304, 16, 16, 259, 8192, 16, 128, 256, 0, .ro, .any, .none, false⟩
  | .MQ_FRAMES => ⟨0x40700308, 0, 32, 259, 8192, 16, 128, 256, 0, .ro, .any, .none, false⟩
  | .MQ_TRUNC => ⟨0x4070030C, 0, 16, 259, 8192, 16, 128, 256, 0, .ro, .any, .none, false⟩
  | .MQ_NOBUF => ⟨0x4070030C, 16, 16, 259, 8192, 16, 128, 256, 0, .ro, .any, .none, false⟩
  -- R207
  | .MC_MEDIA_MACS => ⟨0x407F0000, 0, 8, 1, 0, 1, 0, 0, 0, .ro, .any, .none, false⟩
  | .MC_POOL_USED => ⟨0x407F0004, 0, 16, 1, 0, 1, 0, 0, 0, .ro, .any, .none, false⟩
  | .MC_BASE_LO => ⟨0x407F0008, 0, 32, 1, 0, 1, 0, 0, 0, .ro, .any, .none, false⟩
  | .MC_BASE_HI => ⟨0x407F000C, 0, 16, 1, 0, 1, 0, 0, 0, .ro, .any, .none, false⟩
  -- R236
  | .AD_NODES => ⟨0x40800000, 0, 14, 8192, 128, 1, 0, 0, 0, .ro, .any, .none, false⟩
  | .AD_TRANSP => ⟨0x40800000, 16, 1, 8192, 128, 1, 0, 0, 0, .ro, .any, .none, false⟩
  | .AD_NA_MUTE => ⟨0x40800000, 17, 1, 8192, 128, 1, 0, 0, 0, .ro, .any, .none, false⟩
  | .AD_RAMPING => ⟨0x40800000, 18, 1, 8192, 128, 1, 0, 0, 0, .ro, .any, .none, false⟩
  | .AD_MM_EN => ⟨0x40800004, 0, 1, 8192, 128, 1, 0, 0, 0, .rws, .rule, .d0, false⟩
  | .AD_MM_BUS => ⟨0x40800004, 16, 10, 8192, 128, 1, 0, 0, 0, .rws, .rule, .d0, false⟩
  | .AD_MM_AS => ⟨0x40800008, 0, 13, 8192, 128, 1, 0, 0, 0, .rws, .rule, .d0, false⟩
  | .AD_PEAK => ⟨0x4080000C, 0, 16, 8192, 128, 1, 0, 0, 0x8000, .ro, .any, .none, false⟩
  | .AD_SAT => ⟨0x4080000C, 16, 16, 8192, 128, 1, 0, 0, 0, .ro, .any, .none, false⟩
  | .BUS_CLASS => ⟨0x40820000, 0, 1, 1024, 256, 1, 0, 0, 0, .rws, .any, .d0, false⟩
  | .BUS_LAW => ⟨0x40820000, 1, 1, 1024, 256, 1, 0, 0, 0, .rws, .any, .d0, false⟩
  | .BUS_INPUTS => ⟨0x40820000, 16, 7, 1024, 256, 1, 0, 0, 0, .ro, .any, .none, false⟩
  | .BUS_DEPTH => ⟨0x40820000, 24, 3, 1024, 256, 1, 0, 0, 1, .ro, .any, .none, false⟩
  | .BUS_THRESH => ⟨0x40820004, 0, 16, 1024, 256, 1, 0, 0, 0xec78, .rws, (.clamp 55536 0), .d0, false⟩
  | .BUS_HOLD => ⟨0x40820004, 16, 16, 1024, 256, 1, 0, 0, 0x2580, .rws, (.clamp 0 48000), .d0, false⟩
  | .BUS_ACTIVE => ⟨0x40820008, 0, 7, 1024, 256, 1, 0, 0, 0, .ro, .any, .none, false⟩
  | .BUS_SIGMA => ⟨0x4082000C, 0, 24, 1024, 256, 1, 0, 0, 0x800000, .ro, .any, .none, false⟩
  | .BUS_SAT => ⟨0x40820010, 0, 32, 1024, 256, 1, 0, 0, 0, .ro, .any, .none, false⟩
  -- R237
  | .AN_LOOK_DST => ⟨0x40830000, 0, 13, 1, 0, 1, 0, 0, 0, .rw, .rule, .none, false⟩
  | .AN_LOOK_DBUS => ⟨0x40830000, 13, 1, 1, 0, 1, 0, 0, 0, .rw, .any, .none, false⟩
  | .AN_LOOK_SRC => ⟨0x40830000, 16, 13, 1, 0, 1, 0, 0, 0, .rw, .rule, .none, false⟩
  | .AN_PRESENT => ⟨0x40830004, 0, 1, 1, 0, 1, 0, 0, 0, .ro, .any, .none, false⟩
  | .AN_INV => ⟨0x40830004, 1, 1, 1, 0, 1, 0, 0, 0, .ro, .any, .none, false⟩
  | .AN_TRANSP => ⟨0x40830004, 2, 1, 1, 0, 1, 0, 0, 0, .ro, .any, .none, false⟩
  | .AN_RAMPING => ⟨0x40830004, 3, 1, 1, 0, 1, 0, 0, 0, .ro, .any, .none, false⟩
  | .AN_GAIN => ⟨0x40830004, 16, 16, 1, 0, 1, 0, 0, 0x8000, .ro, .any, .none, false⟩
  | .AN_RAMP => ⟨0x40830008, 0, 13, 1, 0, 1, 0, 0, 0, .ro, .any, .none, false⟩
  | .AN_COEF => ⟨0x4083000C, 0, 24, 1, 0, 1, 0, 0, 0, .ro, .any, .none, false⟩
  -- R238
  | .AS_NONAUDIO => ⟨0x40840000, 0, 1, 8192, 32, 1, 0, 0, 0, .ro, .any, .none, false⟩
  | .AS_CS_NA => ⟨0x40840000, 1, 1, 8192, 32, 1, 0, 0, 0, .ro, .any, .none, false⟩
  | .AS_ST337 => ⟨0x40840000, 2, 1, 8192, 32, 1, 0, 0, 0, .ro, .any, .none, false⟩
  | .AS_ASRC => ⟨0x40840000, 3, 1, 8192, 32, 1, 0, 0, 0, .ro, .any, .none, false⟩
  | .AS_FANOUT => ⟨0x40840000, 16, 14, 8192, 32, 1, 0, 0, 0, .ro, .any, .none, false⟩
  | .AX_USED => ⟨0x40860000, 0, 16, 128, 64, 1, 0, 0, 0, .ro, .any, .none, false⟩
  | .AX_LEGS => ⟨0x40860004, 0, 7, 128, 64, 1, 0, 0, 0, .ro, .any, .none, false⟩
  | .AI_BUNDLE => ⟨0x40870000, 0, 13, 95, 128, 1, 0, 0, 0, .ro, .any, .none, false⟩
  | .AI_VALID => ⟨0x40870000, 15, 1, 95, 128, 1, 0, 0, 0, .ro, .any, .none, false⟩
  | .AI_PLANES => ⟨0x40870000, 16, 2, 95, 128, 1, 0, 0, 0, .ro, .any, .none, false⟩
  | .AI_LATE => ⟨0x40870004, 0, 32, 95, 128, 1, 0, 0, 0, .ro, .any, .none, false⟩
  | .AI_LOST => ⟨0x40870008, 0, 32, 95, 128, 1, 0, 0, 0, .ro, .any, .none, false⟩
  | .GEN_MODE => ⟨0x40880010, 0, 2, 15, 128, 1, 0, 0, 0, .rws, (.refuse 0 2), .d0, false⟩
  | .GEN_FREQ_HZ => ⟨0x40880014, 0, 15, 15, 128, 1, 0, 0, 0x3e8, .rws, (.clamp 20 20000), .d0, false⟩
  | .GEN_LEVEL => ⟨0x40880018, 0, 16, 15, 128, 1, 0, 0, 0xf830, .rws, (.clamp 55536 0), .d0, false⟩
  | .GEN_GAP_MS => ⟨0x4088001C, 0, 12, 15, 128, 1, 0, 0, 0xfa, .rws, .rule, .d0, false⟩
  | .GEN_PERIOD_MS => ⟨0x4088001C, 16, 12, 15, 128, 1, 0, 0, 0xbb8, .rws, (.clamp 100 4000), .d0, false⟩
  | .AM_RATE => ⟨0x408F0000, 0, 1, 1, 0, 1, 0, 0, 0, .ro, .any, .none, true⟩
  | .AM_NODES => ⟨0x408F0004, 0, 19, 1, 0, 1, 0, 0, 0, .ro, .any, .none, false⟩
  | .AM_NODES_PEAK => ⟨0x408F0008, 0, 19, 1, 0, 1, 0, 0, 0, .ro, .any, .none, false⟩
  | .AM_NODE_REFUSALS => ⟨0x408F000C, 0, 32, 1, 0, 1, 0, 0, 0, .ro, .any, .none, false⟩
  | .AM_NA_MUTES => ⟨0x408F0010, 0, 32, 1, 0, 1, 0, 0, 0, .ro, .any, .none, false⟩
  | .AM_CNT_CLR => ⟨0x408F003C, 0, 1, 1, 0, 1, 0, 0, 0, .wo, .any, .none, false⟩
  | .AM_DEEMB_PORT => ⟨0x408F0100, 0, 8, 128, 32, 1, 0, 0, 0, .ro, .rule, .none, true⟩
  | .AM_DEEMB_EN => ⟨0x408F0100, 8, 1, 128, 32, 1, 0, 0, 0, .ro, .rule, .none, true⟩
  | .AM_EMB_PORT => ⟨0x408F0100, 16, 8, 128, 32, 1, 0, 0, 0, .ro, .rule, .none, true⟩
  | .AM_EMB_EN => ⟨0x408F0100, 24, 1, 128, 32, 1, 0, 0, 0, .ro, .rule, .none, true⟩
  -- R265
  | .FC_STATE => ⟨0x40900000, 0, 3, 32, 65536, 1, 0, 0, 0, .ro, .any, .none, false⟩
  | .FC_LOAD_WHY => ⟨0x40900000, 4, 4, 32, 65536, 1, 0, 0, 0, .ro, .any, .none, false⟩
  | .FC_FAULT => ⟨0x40900004, 0, 3, 32, 65536, 1, 0, 0, 0, .ro, .any, .none, false⟩
  | .FC_FAULT_PC => ⟨0x40900004, 16, 12, 32, 65536, 1, 0, 0, 0, .ro, .any, .none, false⟩
  | .FC_PROG => ⟨0x40900008, 0, 6, 32, 65536, 1, 0, 0, 0x3f, .ro, .rule, .none, true⟩
  | .FC_BLOCK => ⟨0x40900008, 8, 2, 32, 65536, 1, 0, 0, 1, .ro, .any, .none, true⟩
  | .FC_CTRL_DIV => ⟨0x40900008, 16, 8, 32, 65536, 1, 0, 0, 1, .ro, (.clamp 1 255), .none, true⟩
  | .FC_DOMAIN => ⟨0x40900008, 24, 3, 32, 65536, 1, 0, 0, 0, .ro, .rule, .none, true⟩
  | .FC_RUN_INIT => ⟨0x40900008, 28, 1, 32, 65536, 1, 0, 0, 1, .ro, .any, .none, true⟩
  | .FC_IN_FIRST => ⟨0x4090000C, 0, 10, 32, 65536, 1, 0, 0, 0, .ro, .any, .none, true⟩
  | .FC_IN_COUNT => ⟨0x4090000C, 16, 10, 32, 65536, 1, 0, 0, 0, .ro, (.refuse 0 512), .none, true⟩
  | .FC_OUT_FIRST => ⟨0x40900010, 0, 10, 32, 65536, 1, 0, 0, 0, .ro, .any, .none, true⟩
  | .FC_OUT_COUNT => ⟨0x40900010, 16, 10, 32, 65536, 1, 0, 0, 0, .ro, (.refuse 0 512), .none, true⟩
  | .FC_DL_FIRST => ⟨0x40900014, 0, 13, 32, 65536, 1, 0, 0, 0, .ro, .any, .none, true⟩
  | .FC_DL_COUNT => ⟨0x40900014, 16, 8, 32, 65536, 1, 0, 0, 0, .ro, (.refuse 0 128), .none, true⟩
  | .FC_TAP_COUNT => ⟨0x40900018, 0, 9, 32, 65536, 1, 0, 0, 0, .ro, (.refuse 0 256), .none, true⟩
  | .FC_ALG_LAT => ⟨0x40900018, 16, 12, 32, 65536, 1, 0, 0, 0, .ro, .any, .none, false⟩
  | .FC_LATENCY => ⟨0x4090001C, 0, 13, 32, 65536, 1, 0, 0, 0, .ro, .any, .none, false⟩
  | .FC_WCET => ⟨0x40900020, 0, 22, 32, 65536, 1, 0, 0, 0, .ro, .any, .none, false⟩
  | .FC_BUDGET => ⟨0x40900024, 0, 22, 32, 65536, 1, 0, 0, 0, .ro, .any, .none, false⟩
  | .FC_CYCLES_PEAK => ⟨0x40900028, 0, 22, 32, 65536, 1, 0, 0, 0, .ro, .any, .none, false⟩
  | .FC_RUN => ⟨0x4090002C, 0, 1, 32, 65536, 1, 0, 0, 1, .rws, .any, .fern, false⟩
  | .FC_RESTART => ⟨0x40900030, 0, 1, 32, 65536, 1, 0, 0, 0, .wo, .any, .none, false⟩
  | .FC_AOV => ⟨0x40900034, 0, 1, 32, 65536, 1, 0, 0, 0, .w1c, .any, .none, false⟩
  | .FC_LEN_CLAMP => ⟨0x40900034, 1, 1, 32, 65536, 1, 0, 0, 0, .w1c, .any, .none, false⟩
  | .FC_OVERRUNS => ⟨0x40900038, 0, 32, 32, 65536, 1, 0, 0, 0, .ro, .any, .none, false⟩
  | .FC_SAT => ⟨0x4090003C, 0, 32, 32, 65536, 1, 0, 0, 0, .ro, .any, .none, false⟩
  | .FC_PEAT_UNCORR => ⟨0x40900040, 0, 32, 32, 65536, 1, 0, 0, 0, .ro, .any, .none, false⟩
  | .FC_CNT_CLR => ⟨0x4090004C, 0, 1, 32, 65536, 1, 0, 0, 0, .wo, .any, .none, false⟩
  | .FP_MODE => ⟨0x40900100, 0, 2, 32, 65536, 8, 256, 0, 0, .rw, .rule, .none, false⟩
  | .FP_PEND => ⟨0x40900100, 4, 1, 32, 65536, 8, 256, 0, 0, .ro, .any, .none, false⟩
  | .FP_FOLD => ⟨0x40900100, 5, 1, 32, 65536, 8, 256, 0, 0, .w1c, .any, .none, false⟩
  | .FP_BASE => ⟨0x40900104, 0, 22, 32, 65536, 8, 256, 0, 0, .rw, .rule, .none, false⟩
  | .FP_MOD => ⟨0x40900108, 0, 22, 32, 65536, 8, 256, 0, 1, .rw, .rule, .none, false⟩
  | .FP_LEN => ⟨0x4090010C, 0, 22, 32, 65536, 8, 256, 0, 1, .rww, .rule, .none, false⟩
  | .FP_LEN_PEND => ⟨0x40900110, 0, 22, 32, 65536, 8, 256, 0, 1, .ro, .any, .none, false⟩
  | .FP_PTR => ⟨0x40900114, 0, 22, 32, 65536, 8, 256, 0, 0, .ro, .any, .none, false⟩
  | .FR_RESULT => ⟨0x40900800, 0, 32, 32, 65536, 256, 32, 0, 0, .ro, .any, .none, false⟩
  | .FT_DELAY => ⟨0x40900C00, 0, 20, 32, 65536, 256, 32, 0, 0x10, .rws, .rule, .fern, false⟩
  | .FT_LINE => ⟨0x40900C00, 24, 7, 32, 65536, 256, 32, 0, 0, .rws, .rule, .fern, false⟩
  | .FT_EN => ⟨0x40900C00, 31, 1, 32, 65536, 256, 32, 0, 0, .rws, .any, .fern, false⟩
  | .FP_PARAM => ⟨0x40901000, 0, 24, 32, 65536, 1024, 32, 0, 0, .rws, .any, .fern, false⟩
  -- R266
  | .FERN_RUNNING => ⟨0x409F0000, 0, 32, 1, 0, 1, 0, 0, 0, .ro, .any, .none, false⟩
  | .FERN_LIB_SET => ⟨0x409F0004, 0, 32, 1, 0, 1, 0, 0, 0, .ro, .any, .none, false⟩
  | .FERN_DL_USED => ⟨0x409F0008, 0, 14, 1, 0, 1, 0, 0, 0, .ro, .any, .none, false⟩
  | .FERN_IN_USED => ⟨0x409F0008, 16, 11, 1, 0, 1, 0, 0, 0, .ro, .any, .none, false⟩
  -- R288
  | .TD_MODE => ⟨0x40A00000, 0, 1, 16, 2048, 1, 0, 0, 0, .ro, .any, .none, true⟩
  | .TD_MASTER => ⟨0x40A00004, 0, 1, 16, 2048, 1, 0, 0, 1, .rw, .any, .none, false⟩
  | .TD_RATE => ⟨0x40A00004, 1, 2, 16, 2048, 1, 0, 0, 1, .rw, .rule, .none, false⟩
  | .TD_FMT => ⟨0x40A00004, 3, 1, 16, 2048, 1, 0, 0, 0, .rw, .any, .none, false⟩
  | .TD_FS_POL => ⟨0x40A00004, 4, 1, 16, 2048, 1, 0, 0, 1, .rw, .any, .none, false⟩
  | .TD_FS_LEN => ⟨0x40A00004, 5, 1, 16, 2048, 1, 0, 0, 0, .rw, .any, .none, false⟩
  | .TD_BCLK_INV => ⟨0x40A00004, 6, 1, 16, 2048, 1, 0, 0, 0, .rw, .any, .none, false⟩
  | .TD_HIZ => ⟨0x40A00004, 7, 1, 16, 2048, 1, 0, 0, 0, .rw, .any, .none, false⟩
  | .TD_SLOTS => ⟨0x40A00004, 8, 6, 16, 2048, 1, 0, 0, 8, .rw, (.refuse 1 32), .none, false⟩
  | .TD_WIDTH => ⟨0x40A00004, 16, 6, 16, 2048, 1, 0, 0, 0x20, .rw, .rule, .none, false⟩
  | .TD_OFFSET => ⟨0x40A00004, 24, 6, 16, 2048, 1, 0, 0, 0, .rw, .any, .none, false⟩
  | .TD_FRAME_BCLK => ⟨0x40A00008, 0, 11, 16, 2048, 1, 0, 0, 0x100, .rw, (.refuse 16 1024), .none, false⟩
  | .TD_DOMAIN => ⟨0x40A00008, 16, 3, 16, 2048, 1, 0, 0, 0, .rw, .rule, .none, false⟩
  | .TD_ZC_TIMEOUT_MS => ⟨0x40A00008, 24, 7, 16, 2048, 1, 0, 0, 0xa, .rw, (.clamp 1 100), .none, false⟩
  | .TD_TX_MASK => ⟨0x40A0000C, 0, 32, 16, 2048, 1, 0, 0, 0, .rws, .rule, .tdm, false⟩
  | .TD_RX_MASK => ⟨0x40A00010, 0, 32, 16, 2048, 1, 0, 0, 0, .rws, .rule, .tdm, false⟩
  | .TD_CNT_CLR => ⟨0x40A0001C, 0, 1, 16, 2048, 1, 0, 0, 0, .wo, .any, .none, false⟩
  | .TD_STATE => ⟨0x40A00020, 0, 3, 16, 2048, 1, 0, 0, 0, .ro, .any, .none, false⟩
  | .TD_CLK => ⟨0x40A00020, 4, 2, 16, 2048, 1, 0, 0, 0, .ro, .any, .none, false⟩
  | .TD_RATE_NOW => ⟨0x40A00020, 6, 2, 16, 2048, 1, 0, 0, 0, .ro, .any, .none, false⟩
  | .TD_SILENT_MODE => ⟨0x40A00020, 8, 1, 16, 2048, 1, 0, 0, 0, .ro, .any, .none, false⟩
  | .TD_SYNC => ⟨0x40A00020, 9, 1, 16, 2048, 1, 0, 0, 0, .ro, .any, .none, false⟩
  | .TD_ASRC => ⟨0x40A00020, 10, 1, 16, 2048, 1, 0, 0, 0, .ro, .any, .none, false⟩
  | .TD_QUAL_COUNT => ⟨0x40A00020, 16, 9, 16, 2048, 1, 0, 0, 0, .ro, .any, .none, false⟩
  | .TD_FIRE_LO => ⟨0x40A00024, 0, 32, 16, 2048, 1, 0, 0, 0, .ro, .any, .none, false⟩
  | .TD_FIRE_HI => ⟨0x40A00028, 0, 16, 16, 2048, 1, 0, 0, 0, .ro, .any, .none, false⟩
  | .TD_SLIP_NET => ⟨0x40A0002C, 0, 16, 16, 2048, 1, 0, 0, 0, .ro, .any, .none, false⟩
  | .TD_BCLK_KHZ => ⟨0x40A00030, 0, 16, 16, 2048, 1, 0, 0, 0, .ro, .any, .none, false⟩
  | .TD_UNDERRUNS => ⟨0x40A00040, 0, 32, 16, 2048, 1, 0, 0, 0, .ro, .any, .none, false⟩
  | .TD_OVERRUNS => ⟨0x40A00044, 0, 32, 16, 2048, 1, 0, 0, 0, .ro, .any, .none, false⟩
  | .TD_GLITCHES => ⟨0x40A00048, 0, 32, 16, 2048, 1, 0, 0, 0, .ro, .any, .none, false⟩
  | .TD_CLK_STOPS => ⟨0x40A0004C, 0, 32, 16, 2048, 1, 0, 0, 0, .ro, .any, .none, false⟩
  | .TD_RATE_CHANGES => ⟨0x40A00050, 0, 32, 16, 2048, 1, 0, 0, 0, .ro, .any, .none, false⟩
  | .TD_ZC_TIMEOUTS => ⟨0x40A00054, 0, 32, 16, 2048, 1, 0, 0, 0, .ro, .any, .none, false⟩
  | .TD_PARITY_ERRS => ⟨0x40A00058, 0, 32, 16, 2048, 1, 0, 0, 0, .ro, .any, .none, false⟩
  | .TD_TRIG_MISSED => ⟨0x40A0005C, 0, 32, 16, 2048, 1, 0, 0, 0, .ro, .any, .none, false⟩
  -- R289
  | .TT_PORTS => ⟨0x40AF0000, 0, 16, 1, 0, 1, 0, 0, 0, .wo, .any, .none, false⟩
  | .TT_OP => ⟨0x40AF0000, 16, 2, 1, 0, 1, 0, 0, 0, .wo, (.refuse 1 2), .none, false⟩
  | .TT_KIND => ⟨0x40AF0000, 18, 1, 1, 0, 1, 0, 0, 0, .wo, .any, .none, false⟩
  | .TT_PTP_DOM => ⟨0x40AF0000, 19, 1, 1, 0, 1, 0, 0, 0, .wo, .any, .none, false⟩
  | .TT_PTP_SEC_LO => ⟨0x40AF0004, 0, 32, 1, 0, 1, 0, 0, 0, .wo, .any, .none, false⟩
  | .TT_PTP_SEC_HI => ⟨0x40AF0008, 0, 16, 1, 0, 1, 0, 0, 0, .wo, .any, .none, false⟩
  | .TT_PTP_NS => ⟨0x40AF000C, 0, 30, 1, 0, 1, 0, 0, 0, .wo, (.refuse 0 999999999), .none, false⟩
  | .TT_LAST_ORDER => ⟨0x40AF0010, 0, 32, 1, 0, 1, 0, 0, 0, .ro, .any, .none, false⟩
  -- R307
  | .REF_STATE => ⟨0x40B00000, 0, 3, 1, 0, 1, 0, 0, 0, .ro, .any, .none, false⟩
  | .REF_SEL => ⟨0x40B00000, 4, 4, 1, 0, 1, 0, 0, 0xf, .ro, .any, .none, false⟩
  | .REF_SLEWING => ⟨0x40B00000, 8, 1, 1, 0, 1, 0, 0, 0, .ro, .any, .none, false⟩
  | .REF_REALIGNING => ⟨0x40B00000, 9, 1, 1, 0, 1, 0, 0, 0, .ro, .any, .none, false⟩
  | .REF_NOMAJ => ⟨0x40B00000, 10, 1, 1, 0, 1, 0, 0, 0, .ro, .any, .none, false⟩
  | .REF_OFFSET_LO => ⟨0x40B00004, 0, 32, 1, 0, 1, 0, 0, 0, .ro, .any, .none, false⟩
  | .REF_OFFSET_HI => ⟨0x40B00008, 0, 32, 1, 0, 1, 0, 0, 0, .ro, .any, .none, false⟩
  | .REF_FREQ => ⟨0x40B0000C, 0, 32, 1, 0, 1, 0, 0, 0, .ro, .any, .none, false⟩
  | .REF_EMBER_AVG => ⟨0x40B00010, 0, 32, 1, 0, 1, 0, 0, 0, .ro, .any, .none, false⟩
  | .REF_EMBER_HOLD_S => ⟨0x40B00014, 0, 17, 1, 0, 1, 0, 0, 0x258, .rw, (.clamp 0 86400), .none, false⟩
  | .REF_EMBER_ELAPSED_S => ⟨0x40B00018, 0, 17, 1, 0, 1, 0, 0, 0, .ro, .any, .none, false⟩
  | .REF_SLEW_PPB_S => ⟨0x40B0001C, 0, 10, 1, 0, 1, 0, 0, 0xa, .rw, (.clamp 1 1000), .none, false⟩
  | .REF_BW_MHZ => ⟨0x40B0001C, 16, 14, 1, 0, 1, 0, 0, 0x64, .rw, (.clamp 10 10000), .none, false⟩
  | .REF_START_WAIT_S => ⟨0x40B00020, 0, 12, 1, 0, 1, 0, 0, 0x1e, .ro, (.clamp 0 3600), .none, true⟩
  | .REF_REALIGN_PPB => ⟨0x40B00020, 16, 14, 1, 0, 1, 0, 0, 0x3e8, .rw, (.clamp 100 10000), .none, false⟩
  | .REF_REALIGN_LEFT_LO => ⟨0x40B00024, 0, 32, 1, 0, 1, 0, 0, 0, .ro, .any, .none, false⟩
  | .REF_REALIGN_LEFT_HI => ⟨0x40B00028, 0, 32, 1, 0, 1, 0, 0, 0, .ro, .any, .none, false⟩
  | .REF_SWITCHES => ⟨0x40B00030, 0, 32, 1, 0, 1, 0, 0, 0, .ro, .any, .none, false⟩
  | .REF_NOMAJ_CNT => ⟨0x40B00034, 0, 32, 1, 0, 1, 0, 0, 0, .ro, .any, .none, false⟩
  | .REF_EMBER_ENTRIES => ⟨0x40B00038, 0, 32, 1, 0, 1, 0, 0, 0, .ro, .any, .none, false⟩
  | .REF_REALIGNS => ⟨0x40B00040, 0, 32, 1, 0, 1, 0, 0, 0, .ro, .any, .none, false⟩
  | .REF_CNT_CLR => ⟨0x40B0007C, 0, 1, 1, 0, 1, 0, 0, 0, .wo, .any, .none, false⟩
  | .RE_INPUT => ⟨0x40B00100, 0, 4, 8, 256, 1, 0, 0, 0xf, .ro, .rule, .none, true⟩
  | .RE_RANK => ⟨0x40B00100, 4, 3, 8, 256, 1, 0, 0, 0, .rw, .any, .none, false⟩
  | .RE_REVERT => ⟨0x40B00100, 8, 1, 8, 256, 1, 0, 0, 1, .rw, .any, .none, false⟩
  | .RE_EN => ⟨0x40B00100, 9, 1, 8, 256, 1, 0, 0, 1, .rw, .any, .none, false⟩
  | .RE_QUAL_S => ⟨0x40B00104, 0, 10, 8, 256, 1, 0, 0, 0xa, .rw, (.clamp 2 600), .none, false⟩
  | .RE_TOL => ⟨0x40B00104, 16, 14, 8, 256, 1, 0, 0, 0xc8, .rw, (.clamp 10 10000), .none, false⟩
  | .RE_STATE => ⟨0x40B00108, 0, 3, 8, 256, 1, 0, 0, 0, .ro, .any, .none, false⟩
  | .RE_QUAL_LEFT_S => ⟨0x40B00108, 16, 10, 8, 256, 1, 0, 0, 0, .ro, .any, .none, false⟩
  | .RE_VOTES => ⟨0x40B00108, 28, 4, 8, 256, 1, 0, 0, 0, .ro, .any, .none, false⟩
  | .RE_Y => ⟨0x40B0010C, 0, 32, 8, 256, 1, 0, 0, 0, .ro, .any, .none, false⟩
  | .RE_LOSSES => ⟨0x40B00110, 0, 32, 8, 256, 1, 0, 0, 0, .ro, .any, .none, false⟩
  | .RE_DISQUALS => ⟨0x40B00114, 0, 32, 8, 256, 1, 0, 0, 0, .ro, .any, .none, false⟩
  | .RI_SYN0_FMT => ⟨0x40B00400, 0, 8, 1, 0, 1, 0, 0, 0, .rw, (.refuse 1 21), .none, false⟩
  | .RI_SYN1_FMT => ⟨0x40B00400, 8, 8, 1, 0, 1, 0, 0, 0, .rw, (.refuse 1 21), .none, false⟩
  | .RI_SYN_OK => ⟨0x40B00404, 0, 2, 1, 0, 1, 0, 0, 0, .ro, .any, .none, false⟩
  | .RI_FP0_RATE => ⟨0x40B00408, 0, 8, 1, 0, 1, 0, 0, 0, .rw, .rule, .none, false⟩
  | .RI_FP1_RATE => ⟨0x40B00408, 8, 8, 1, 0, 1, 0, 0, 0, .rw, .rule, .none, false⟩
  | .RI_10M_OK => ⟨0x40B0040C, 0, 2, 1, 0, 1, 0, 0, 0, .ro, .any, .none, false⟩
  | .RI_VIN0_PORT => ⟨0x40B00410, 0, 8, 4, 8, 1, 0, 0, 0, .rw, .rule, .none, false⟩
  | .PO_MODE => ⟨0x40B00600, 0, 2, 2, 128, 1, 0, 0, 0, .rw, (.refuse 0 2), .none, false⟩
  | .PO_DOMAIN => ⟨0x40B00600, 4, 3, 2, 128, 1, 0, 0, 0, .rw, .rule, .none, false⟩
  | .PO_WIDTH_US => ⟨0x40B00600, 16, 8, 2, 128, 1, 0, 0, 0xa, .rw, (.clamp 1 255), .none, false⟩
  -- R330
  | .PT_SNAP => ⟨0x40C00000, 0, 1, 1, 0, 1, 0, 0, 0, .wo, .any, .none, false⟩
  | .PT_SNAP_DONE => ⟨0x40C00004, 0, 1, 1, 0, 1, 0, 0, 0, .ro, .any, .none, false⟩
  | .PT_ACTIVE => ⟨0x40C00004, 4, 1, 1, 0, 1, 0, 0, 0, .rw, .rule, .none, false⟩
  | .PT_TOD_VALID => ⟨0x40C00004, 5, 1, 1, 0, 1, 0, 0, 0, .ro, .any, .none, false⟩
  | .PT_SNAP_CNT => ⟨0x40C00010, 0, 96, 1, 0, 1, 0, 0, 0, .ro, .any, .none, false⟩
  | .PT_SNAP_HOUSE => ⟨0x40C00020, 0, 96, 1, 0, 1, 0, 0, 0, .ro, .any, .none, false⟩
  | .PT_SNAP_T0 => ⟨0x40C00030, 0, 96, 1, 0, 1, 0, 0, 0, .ro, .any, .none, false⟩
  | .PT_SNAP_T1 => ⟨0x40C00040, 0, 96, 1, 0, 1, 0, 0, 0, .ro, .any, .none, false⟩
  | .PT_SNAP_ACT => ⟨0x40C00050, 0, 96, 1, 0, 1, 0, 0, 0, .ro, .any, .none, false⟩
  | .PT_HOUSE_INCR => ⟨0x40C00060, 0, 48, 1, 0, 1, 0, 0, 0xa00000000000, .ro, .any, .none, false⟩
  | .PT_ACT_ADJ => ⟨0x40C00068, 0, 64, 1, 0, 1, 0, 0, 0, .ro, .any, .none, false⟩
  | .PT_ACT_SLEW_NS_S => ⟨0x40C00070, 0, 17, 1, 0, 1, 0, 0, 0x3e8, .rw, (.clamp 10 100000), .none, false⟩
  | .PT_SWITCHES => ⟨0x40C00074, 0, 32, 1, 0, 1, 0, 0, 0, .ro, .any, .none, false⟩
  | .PT_SWITCH_REFUSED => ⟨0x40C00078, 0, 32, 1, 0, 1, 0, 0, 0, .ro, .any, .none, false⟩
  | .PT_CNT_CLR => ⟨0x40C0007C, 0, 1, 1, 0, 1, 0, 0, 0, .wo, .any, .none, false⟩
  -- R331
  | .PD_EN => ⟨0x40C00100, 0, 1, 2, 1024, 1, 0, 0, 0, .ro, .any, .none, true⟩
  | .PD_PROFILE => ⟨0x40C00100, 1, 2, 2, 1024, 1, 0, 0, 0, .ro, (.refuse 0 1), .none, true⟩
  | .PD_NUMBER => ⟨0x40C00100, 8, 8, 2, 1024, 1, 0, 0, 0x7f, .rw, .rule, .none, false⟩
  | .PD_LOG_SYNC => ⟨0x40C00100, 16, 4, 2, 1024, 1, 0, 0, 0xd, .rw, .rule, .none, false⟩
  | .PD_LOG_ANNC => ⟨0x40C00100, 20, 4, 2, 1024, 1, 0, 0, 0xe, .rw, .rule, .none, false⟩
  | .PD_LOG_DREQ => ⟨0x40C00100, 24, 4, 2, 1024, 1, 0, 0, 0xd, .rw, .rule, .none, false⟩
  | .PD_ANNC_TMO => ⟨0x40C00100, 28, 4, 2, 1024, 1, 0, 0, 3, .rw, (.clamp 2 10), .none, false⟩
  | .PD_PRIO1 => ⟨0x40C00104, 0, 8, 2, 1024, 1, 0, 0, 0x80, .rw, .any, .none, false⟩
  | .PD_PRIO2 => ⟨0x40C00104, 8, 8, 2, 1024, 1, 0, 0, 0x80, .rw, .any, .none, false⟩
  | .PD_CLASS => ⟨0x40C00104, 16, 8, 2, 1024, 1, 0, 0, 0xf8, .rw, (.clamp 6 248), .none, false⟩
  | .PD_GM_OK => ⟨0x40C00104, 24, 1, 2, 1024, 1, 0, 0, 0, .rw, .any, .none, false⟩
  | .PD_HYBRID => ⟨0x40C00104, 25, 1, 2, 1024, 1, 0, 0, 0, .rw, .any, .none, false⟩
  | .PD_LOCK_NS => ⟨0x40C00108, 0, 14, 2, 1024, 1, 0, 0, 0x64, .rw, (.clamp 10 10000), .none, false⟩
  | .PD_STEP_NS => ⟨0x40C0010C, 0, 30, 2, 1024, 1, 0, 0, 0xf4240, .rw, (.clamp 1000 1000000000), .none, false⟩
  | .PD_SERVO_EN => ⟨0x40C00110, 0, 1, 2, 1024, 1, 0, 0, 1, .rw, .any, .none, false⟩
  | .PD_SERVO => ⟨0x40C00110, 8, 3, 2, 1024, 1, 0, 0, 0, .ro, .any, .none, false⟩
  | .PD_SLAVE_PORT => ⟨0x40C00110, 16, 9, 2, 1024, 1, 0, 0, 0, .ro, .any, .none, false⟩
  | .PD_INCR => ⟨0x40C00114, 0, 48, 2, 1024, 1, 0, 0, 0xa00000000000, .rw, .rule, .none, false⟩
  | .PD_OFFSET => ⟨0x40C0011C, 0, 112, 2, 1024, 1, 0, 0, 0, .rw, .rule, .none, false⟩
  | .PD_THETA => ⟨0x40C0012C, 0, 32, 2, 1024, 1, 0, 0, 0, .ro, .any, .none, false⟩
  | .PD_MPD => ⟨0x40C00130, 0, 32, 2, 1024, 1, 0, 0, 0, .ro, .any, .none, false⟩
  | .PD_GM_ID => ⟨0x40C00134, 0, 64, 2, 1024, 1, 0, 0, 0, .ro, .any, .none, false⟩
  | .PD_UTC_OFFSET => ⟨0x40C0013C, 0, 16, 2, 1024, 1, 0, 0, 0x25, .rw, .rule, .none, false⟩
  | .PD_STEPS => ⟨0x40C00140, 0, 32, 2, 1024, 1, 0, 0, 0, .ro, .any, .none, false⟩
  | .PD_GM_CHANGES => ⟨0x40C00144, 0, 32, 2, 1024, 1, 0, 0, 0, .ro, .any, .none, false⟩
  -- R332
  | .PP_DOM_EN => ⟨0x40C10000, 0, 2, 259, 512, 1, 0, 0, 0, .rw, .any, .none, false⟩
  | .PP_MASTER_OK => ⟨0x40C10000, 2, 1, 259, 512, 1, 0, 0, 0, .rw, .any, .none, false⟩
  | .PP_TS_POINT => ⟨0x40C10000, 4, 1, 259, 512, 1, 0, 0, 0, .rw, .rule, .none, false⟩
  | .PP_TWO_STEP => ⟨0x40C10000, 5, 1, 259, 512, 1, 0, 0, 0, .rw, .any, .none, false⟩
  | .PP_ASYM_RX => ⟨0x40C10004, 0, 16, 259, 512, 1, 0, 0, 0, .rw, .any, .none, false⟩
  | .PP_ASYM_TX => ⟨0x40C10004, 16, 16, 259, 512, 1, 0, 0, 0, .rw, .any, .none, false⟩
  | .PP_STATE0 => ⟨0x40C10008, 0, 4, 259, 512, 1, 0, 0, 1, .ro, .any, .none, false⟩
  | .PP_STATE1 => ⟨0x40C10008, 4, 4, 259, 512, 1, 0, 0, 1, .ro, .any, .none, false⟩
  | .PP_COMP => ⟨0x40C10008, 8, 1, 259, 512, 1, 0, 0, 0, .ro, .any, .none, false⟩
  | .PP_RX_EVENTS => ⟨0x40C1000C, 0, 32, 259, 512, 1, 0, 0, 0, .ro, .any, .none, false⟩
  | .PP_TX_EVENTS => ⟨0x40C10010, 0, 32, 259, 512, 1, 0, 0, 0, .ro, .any, .none, false⟩
  | .PP_TS_LOST => ⟨0x40C10014, 0, 32, 259, 512, 1, 0, 0, 0, .ro, .any, .none, false⟩
  | .PP_LOST_OVF => ⟨0x40C10018, 0, 32, 259, 512, 1, 0, 0, 0, .ro, .any, .none, false⟩
  | .PQ_COUNT => ⟨0x40C20000, 0, 7, 259, 512, 1, 0, 0, 0, .ro, .any, .none, false⟩
  | .PQ_LOST_COUNT => ⟨0x40C20000, 16, 5, 259, 512, 1, 0, 0, 0, .ro, .any, .none, false⟩
  | .PQ_HEAD_SEQ => ⟨0x40C20004, 0, 16, 259, 512, 1, 0, 0, 0, .ro, .any, .none, false⟩
  | .PQ_HEAD_TYPE => ⟨0x40C20004, 16, 4, 259, 512, 1, 0, 0, 0, .ro, .any, .none, false⟩
  | .PQ_HEAD_DOM => ⟨0x40C20004, 20, 1, 259, 512, 1, 0, 0, 0, .ro, .any, .none, false⟩
  | .PQ_HEAD_COMP => ⟨0x40C20004, 21, 1, 259, 512, 1, 0, 0, 0, .ro, .any, .none, false⟩
  | .PQ_HEAD_PTP => ⟨0x40C20004, 22, 1, 259, 512, 1, 0, 0, 0, .ro, .any, .none, false⟩
  | .PQ_HEAD_TS => ⟨0x40C20008, 0, 96, 259, 512, 1, 0, 0, 0, .ro, .any, .none, false⟩
  | .PQ_ACK => ⟨0x40C20014, 0, 1, 259, 512, 1, 0, 0, 0, .wo, .rule, .none, false⟩
  | .PQ_LOST_SEQ => ⟨0x40C20018, 0, 16, 259, 512, 1, 0, 0, 0, .ro, .any, .none, false⟩
  | .PQ_LOST_TYPE => ⟨0x40C20018, 16, 4, 259, 512, 1, 0, 0, 0, .ro, .any, .none, false⟩
  | .PQ_LOST_ACK => ⟨0x40C2001C, 0, 1, 259, 512, 1, 0, 0, 0, .wo, .rule, .none, false⟩
  | .PP_CNT_CLR => ⟨0x40C1003C, 0, 1, 259, 512, 1, 0, 0, 0, .wo, .any, .none, false⟩
  -- R354
  | .MV_EN => ⟨0x40D00000, 0, 1, 4, 2048, 1, 0, 0, 0, .ro, .any, .none, true⟩
  | .MV_OUT_POS => ⟨0x40D00000, 8, 8, 4, 2048, 1, 0, 0, 0, .ro, .rule, .none, true⟩
  | .MV_BG_Y => ⟨0x40D00004, 0, 10, 4, 2048, 1, 0, 0, 0x40, .rws, (.clamp 64 940), .moss, false⟩
  | .MV_BG_CB => ⟨0x40D00004, 10, 10, 4, 2048, 1, 0, 0, 0x200, .rws, (.clamp 64 960), .moss, false⟩
  | .MV_BG_CR => ⟨0x40D00004, 20, 10, 4, 2048, 1, 0, 0, 0x200, .rws, (.clamp 64 960), .moss, false⟩
  | .MV_STATE => ⟨0x40D00008, 0, 2, 4, 2048, 1, 0, 0, 0, .ro, .any, .none, false⟩
  | .MV_TILES_LIVE => ⟨0x40D00008, 8, 7, 4, 2048, 1, 0, 0, 0, .ro, .any, .none, false⟩
  | .MV_UNVERIFIED => ⟨0x40D00008, 16, 7, 4, 2048, 1, 0, 0, 0, .ro, .any, .none, false⟩
  | .MV_SIG_AREA => ⟨0x40D0000C, 0, 22, 4, 2048, 1, 0, 0, 0, .ro, .any, .none, false⟩
  | .MV_HOLDS => ⟨0x40D00010, 0, 32, 4, 2048, 1, 0, 0, 0, .ro, .any, .none, false⟩
  | .MV_NOSIGS => ⟨0x40D00014, 0, 32, 4, 2048, 1, 0, 0, 0, .ro, .any, .none, false⟩
  | .MV_MISMATCHES => ⟨0x40D00018, 0, 32, 4, 2048, 1, 0, 0, 0, .ro, .any, .none, false⟩
  | .MV_TAP_CLAMPS => ⟨0x40D0001C, 0, 32, 4, 2048, 1, 0, 0, 0, .ro, .any, .none, false⟩
  | .MV_CNT_CLR => ⟨0x40D0003C, 0, 1, 4, 2048, 1, 0, 0, 0, .wo, .any, .none, false⟩
  | .PX_KIND => ⟨0x40D10000, 0, 2, 256, 256, 1, 0, 0, 0, .rw, (.refuse 0 2), .none, false⟩
  | .PX_POS => ⟨0x40D10000, 8, 8, 256, 256, 1, 0, 0, 0, .rw, .rule, .none, false⟩
  | .PX_SCALE => ⟨0x40D10000, 16, 1, 256, 256, 1, 0, 0, 0, .rw, .any, .none, false⟩
  | .PX_STATE => ⟨0x40D10004, 0, 2, 256, 256, 1, 0, 0, 0, .ro, .any, .none, false⟩
  | .PX_MISS => ⟨0x40D10004, 4, 8, 256, 256, 1, 0, 0, 0, .ro, .any, .none, false⟩
  | .PX_W => ⟨0x40D10008, 0, 12, 256, 256, 1, 0, 0, 0, .ro, .any, .none, false⟩
  | .PX_H => ⟨0x40D10008, 16, 12, 256, 256, 1, 0, 0, 0, .ro, .any, .none, false⟩
  | .PX_FRAMES => ⟨0x40D1000C, 0, 32, 256, 256, 1, 0, 0, 0, .ro, .any, .none, false⟩
  | .PX_MISSES => ⟨0x40D10010, 0, 32, 256, 256, 1, 0, 0, 0, .ro, .any, .none, false⟩
  | .PX_PEAT_UNCORR => ⟨0x40D10014, 0, 32, 256, 256, 1, 0, 0, 0, .ro, .any, .none, false⟩
  | .PX_CNT_CLR => ⟨0x40D1001C, 0, 1, 256, 256, 1, 0, 0, 0, .wo, .any, .none, false⟩
  | .TL_EN => ⟨0x40D20000, 0, 1, 4, 131072, 64, 2048, 0, 0, .rws, .any, .moss, false⟩
  | .TL_PX => ⟨0x40D20000, 8, 8, 4, 131072, 64, 2048, 0, 0, .rws, .any, .moss, false⟩
  | .TL_VTAPS => ⟨0x40D20000, 16, 4, 4, 131072, 64, 2048, 0, 8, .rws, (.clamp 1 8), .moss, false⟩
  | .TL_HOLD => ⟨0x40D20000, 20, 4, 4, 131072, 64, 2048, 0, 2, .rws, (.clamp 1 8), .moss, false⟩
  | .TL_X => ⟨0x40D20004, 0, 13, 4, 131072, 64, 2048, 0, 0, .rws, .rule, .moss, false⟩
  | .TL_Y => ⟨0x40D20004, 16, 12, 4, 131072, 64, 2048, 0, 0, .rws, (.clamp 0 2124), .moss, false⟩
  | .TL_W => ⟨0x40D20008, 0, 13, 4, 131072, 64, 2048, 0, 0x3c0, .rws, .rule, .moss, false⟩
  | .TL_H => ⟨0x40D20008, 16, 12, 4, 131072, 64, 2048, 0, 0x21c, .rws, .rule, .moss, false⟩
  | .TL_TALLY => ⟨0x40D2000C, 0, 3, 4, 131072, 64, 2048, 0, 0, .rws, .any, .moss, false⟩
  | .TL_TALLY_GPI => ⟨0x40D2000C, 8, 6, 4, 131072, 64, 2048, 0, 0, .rws, (.refuse 0 32), .moss, false⟩
  | .TL_BORDER => ⟨0x40D2000C, 16, 5, 4, 131072, 64, 2048, 0, 8, .rws, (.clamp 2 16), .moss, false⟩
  | .TL_UMD_EN => ⟨0x40D2000C, 24, 1, 4, 131072, 64, 2048, 0, 0, .rws, .any, .moss, false⟩
  | .TL_UMD_TOP => ⟨0x40D2000C, 25, 1, 4, 131072, 64, 2048, 0, 0, .rws, .any, .moss, false⟩
  | .TL_UMD_SIZE => ⟨0x40D2000C, 26, 2, 4, 131072, 64, 2048, 0, 1, .rws, (.clamp 0 2), .moss, false⟩
  | .TL_UMD_TEXT => ⟨0x40D20010, 0, 256, 4, 131072, 64, 2048, 0, 0, .rws, .any, .moss, false⟩
  | .TL_METERS => ⟨0x40D20030, 0, 5, 4, 131072, 64, 2048, 0, 0, .rws, (.clamp 0 16), .moss, false⟩
  | .TL_METER_AD0 => ⟨0x40D20040, 0, 16, 4, 131072, 64, 2048, 0, 0, .rws, .rule, .moss, false⟩
  | .TL_METER_AD1 => ⟨0x40D20042, 0, 16, 4, 131072, 64, 2048, 0, 0, .rws, .rule, .moss, false⟩
  | .TL_METER_AD2 => ⟨0x40D20044, 0, 16, 4, 131072, 64, 2048, 0, 0, .rws, .rule, .moss, false⟩
  | .TL_METER_AD3 => ⟨0x40D20046, 0, 16, 4, 131072, 64, 2048, 0, 0, .rws, .rule, .moss, false⟩
  | .TL_METER_AD4 => ⟨0x40D20048, 0, 16, 4, 131072, 64, 2048, 0, 0, .rws, .rule, .moss, false⟩
  | .TL_METER_AD5 => ⟨0x40D2004A, 0, 16, 4, 131072, 64, 2048, 0, 0, .rws, .rule, .moss, false⟩
  | .TL_METER_AD6 => ⟨0x40D2004C, 0, 16, 4, 131072, 64, 2048, 0, 0, .rws, .rule, .moss, false⟩
  | .TL_METER_AD7 => ⟨0x40D2004E, 0, 16, 4, 131072, 64, 2048, 0, 0, .rws, .rule, .moss, false⟩
  | .TL_METER_AD8 => ⟨0x40D20050, 0, 16, 4, 131072, 64, 2048, 0, 0, .rws, .rule, .moss, false⟩
  | .TL_METER_AD9 => ⟨0x40D20052, 0, 16, 4, 131072, 64, 2048, 0, 0, .rws, .rule, .moss, false⟩
  | .TL_METER_AD10 => ⟨0x40D20054, 0, 16, 4, 131072, 64, 2048, 0, 0, .rws, .rule, .moss, false⟩
  | .TL_METER_AD11 => ⟨0x40D20056, 0, 16, 4, 131072, 64, 2048, 0, 0, .rws, .rule, .moss, false⟩
  | .TL_METER_AD12 => ⟨0x40D20058, 0, 16, 4, 131072, 64, 2048, 0, 0, .rws, .rule, .moss, false⟩
  | .TL_METER_AD13 => ⟨0x40D2005A, 0, 16, 4, 131072, 64, 2048, 0, 0, .rws, .rule, .moss, false⟩
  | .TL_METER_AD14 => ⟨0x40D2005C, 0, 16, 4, 131072, 64, 2048, 0, 0, .rws, .rule, .moss, false⟩
  | .TL_METER_AD15 => ⟨0x40D2005E, 0, 16, 4, 131072, 64, 2048, 0, 0, .rws, .rule, .moss, false⟩
  | .TL_STATE => ⟨0x40D20080, 0, 2, 4, 131072, 64, 2048, 0, 0, .ro, .any, .none, false⟩
  | .TL_HOLD_COUNT => ⟨0x40D20080, 4, 4, 4, 131072, 64, 2048, 0, 0, .ro, .any, .none, false⟩
  | .TL_VTAPS_EFF => ⟨0x40D20080, 8, 4, 4, 131072, 64, 2048, 0, 0, .ro, .any, .none, false⟩
  | .TL_UNVERIFIED => ⟨0x40D20080, 12, 1, 4, 131072, 64, 2048, 0, 0, .ro, .any, .none, false⟩
  | .TL_STALE => ⟨0x40D20080, 13, 1, 4, 131072, 64, 2048, 0, 0, .ro, .any, .none, false⟩
  | .TL_HOLDS => ⟨0x40D20084, 0, 32, 4, 131072, 64, 2048, 0, 0, .ro, .any, .none, false⟩
  | .TL_NOSIGS => ⟨0x40D20088, 0, 32, 4, 131072, 64, 2048, 0, 0, .ro, .any, .none, false⟩
  | .TL_CNT_CLR => ⟨0x40D200FC, 0, 1, 4, 131072, 64, 2048, 0, 0, .wo, .any, .none, false⟩
  | .RG_EN => ⟨0x40D40000, 0, 1, 4, 65536, 256, 256, 0, 0, .rws, .any, .moss, false⟩
  | .RG_KIND => ⟨0x40D40000, 1, 3, 4, 65536, 256, 256, 0, 0, .rws, (.refuse 0 4), .moss, false⟩
  | .RG_FORCE => ⟨0x40D40000, 4, 1, 4, 65536, 256, 256, 0, 1, .rws, .rule, .moss, false⟩
  | .RG_TILE => ⟨0x40D40000, 8, 6, 4, 65536, 256, 256, 0, 0, .rws, .any, .moss, false⟩
  | .RG_CLEAR => ⟨0x40D40000, 16, 8, 4, 65536, 256, 256, 0, 0x32, .rws, (.clamp 1 255), .moss, false⟩
  | .RG_X => ⟨0x40D40004, 0, 13, 4, 65536, 256, 256, 0, 0, .rws, .rule, .moss, false⟩
  | .RG_Y => ⟨0x40D40004, 16, 12, 4, 65536, 256, 256, 0, 0, .rws, (.clamp 0 2124), .moss, false⟩
  | .RG_W => ⟨0x40D40008, 0, 13, 4, 65536, 256, 256, 0, 2, .rws, .rule, .moss, false⟩
  | .RG_H => ⟨0x40D40008, 16, 12, 4, 65536, 256, 256, 0, 1, .rws, .rule, .moss, false⟩
  | .RG_ACT => ⟨0x40D4000C, 0, 32, 4, 65536, 256, 256, 0, 0, .ro, .any, .none, false⟩
  | .RG_EXP => ⟨0x40D40010, 0, 32, 4, 65536, 256, 256, 0, 0, .ro, .any, .none, false⟩
  | .RG_STATE => ⟨0x40D40014, 0, 2, 4, 65536, 256, 256, 0, 0, .ro, .any, .none, false⟩
  | .RG_MISMATCHES => ⟨0x40D40018, 0, 32, 4, 65536, 256, 256, 0, 0, .ro, .any, .none, false⟩
  | .RG_CNT_CLR => ⟨0x40D4001C, 0, 1, 4, 65536, 256, 256, 0, 0, .wo, .any, .none, false⟩
  | .EL_KIND => ⟨0x40D60000, 0, 2, 4, 32768, 16, 1024, 0, 0, .rws, (.refuse 0 2), .moss, false⟩
  | .EL_SIZE => ⟨0x40D60000, 4, 2, 4, 32768, 16, 1024, 0, 1, .rws, (.clamp 0 2), .moss, false⟩
  | .EL_X => ⟨0x40D60004, 0, 13, 4, 32768, 16, 1024, 0, 0, .rws, .rule, .moss, false⟩
  | .EL_Y => ⟨0x40D60004, 16, 12, 4, 32768, 16, 1024, 0, 0, .rws, (.clamp 0 2124), .moss, false⟩
  | .EL_OFFSET_S => ⟨0x40D60008, 0, 18, 4, 32768, 16, 1024, 0, 0, .rws, (.sclamp (-86400) 86400), .moss, false⟩
  | .EL_TEXT => ⟨0x40D60010, 0, 256, 4, 32768, 16, 1024, 0, 0, .rws, .any, .moss, false⟩
  -- R355
  | .MV_PX_BASE => ⟨0x40DF0000, 0, 32, 1, 0, 1, 0, 0, 0x87200000, .ro, .any, .none, false⟩
  | .MV_PX_BW => ⟨0x40DF0004, 0, 10, 1, 0, 1, 0, 0, 0, .ro, .any, .none, false⟩
  | .MV_PX_RUNNING => ⟨0x40DF0008, 0, 9, 1, 0, 1, 0, 0, 0, .ro, .any, .none, false⟩
  -- R374
  | .RD_ROLE => ⟨0x40E00000, 0, 2, 1, 0, 1, 0, 0, 0, .ro, .any, .none, false⟩
  | .RD_PREFERRED => ⟨0x40E00000, 4, 1, 1, 0, 1, 0, 0, 0, .ro, .any, .none, false⟩
  | .RD_UNPROT => ⟨0x40E00000, 5, 1, 1, 0, 1, 0, 0, 0, .ro, .any, .none, false⟩
  | .RD_PARTNER => ⟨0x40E00000, 8, 6, 1, 0, 1, 0, 0, 0, .ro, .any, .none, false⟩
  | .RD_STATE_PAIR => ⟨0x40E00000, 16, 3, 1, 0, 1, 0, 0, 0, .ro, .any, .none, false⟩
  | .RD_EPOCH => ⟨0x40E00004, 0, 16, 1, 0, 1, 0, 0, 0, .ro, .any, .none, false⟩
  | .RD_ACTIVE_NODE => ⟨0x40E00004, 16, 6, 1, 0, 1, 0, 0, 0, .ro, .any, .none, false⟩
  | .RD_FAB_POS => ⟨0x40E00004, 24, 5, 1, 0, 1, 0, 0, 0, .ro, .rule, .none, true⟩
  | .RD_HOLD_S => ⟨0x40E00008, 0, 12, 1, 0, 1, 0, 0, 0xa, .rw, (.clamp 5 3600), .none, false⟩
  | .RD_START_WAIT_S => ⟨0x40E0000C, 0, 6, 1, 0, 1, 0, 0, 5, .ro, (.clamp 1 60), .none, true⟩
  | .RD_HEALTH => ⟨0x40E00010, 0, 8, 1, 0, 1, 0, 0, 0, .ro, .any, .none, false⟩
  | .RD_HEALTH_S => ⟨0x40E00014, 0, 12, 1, 0, 1, 0, 0, 0, .ro, .any, .none, false⟩
  | .RD_MISS_LK => ⟨0x40E00018, 0, 4, 1, 0, 1, 0, 0, 0, .ro, .any, .none, false⟩
  | .RD_MISS_FAB => ⟨0x40E00018, 4, 4, 1, 0, 1, 0, 0, 0, .ro, .any, .none, false⟩
  | .RD_LK_UP => ⟨0x40E00018, 8, 1, 1, 0, 1, 0, 0, 0, .ro, .any, .none, false⟩
  | .RD_PLANES => ⟨0x40E00018, 9, 2, 1, 0, 1, 0, 0, 0, .ro, .any, .none, false⟩
  | .RD_TAKEBACK => ⟨0x40E0001C, 0, 1, 1, 0, 1, 0, 0, 0, .wo, .rule, .none, false⟩
  | .RD_REARM => ⟨0x40E00020, 0, 1, 1, 0, 1, 0, 0, 0, .wo, .any, .none, false⟩
  | .RD_REVERT_BLOCKED => ⟨0x40E00024, 0, 1, 1, 0, 1, 0, 0, 0, .ro, .any, .none, false⟩
  | .RD_PARTNER_FAILS => ⟨0x40E00024, 4, 2, 1, 0, 1, 0, 0, 0, .ro, .any, .none, false⟩
  | .RD_TAKEOVERS => ⟨0x40E00040, 0, 32, 1, 0, 1, 0, 0, 0, .ro, .any, .none, false⟩
  | .RD_TAKEBACKS => ⟨0x40E00044, 0, 32, 1, 0, 1, 0, 0, 0, .ro, .any, .none, false⟩
  | .RD_PATH_WARNS => ⟨0x40E00048, 0, 32, 1, 0, 1, 0, 0, 0, .ro, .any, .none, false⟩
  | .RD_FENCES => ⟨0x40E0004C, 0, 32, 1, 0, 1, 0, 0, 0, .ro, .any, .none, false⟩
  | .RD_STALE_RECORDS => ⟨0x40E00050, 0, 32, 1, 0, 1, 0, 0, 0, .ro, .any, .none, false⟩
  | .RD_LK_CRC_ERRS => ⟨0x40E00054, 0, 32, 1, 0, 1, 0, 0, 0, .ro, .any, .none, false⟩
  | .RD_CNT_CLR => ⟨0x40E0007C, 0, 1, 1, 0, 1, 0, 0, 0, .wo, .any, .none, false⟩
  -- R401
  | .TC_UDP_PORT => ⟨0x40F00000, 0, 16, 1, 0, 1, 0, 0, 0xb800, .ro, (.clamp 1024 65535), .none, true⟩
  | .TC_IDLE_S => ⟨0x40F00004, 0, 10, 1, 0, 1, 0, 0, 0xa, .rw, (.clamp 2 600), .none, false⟩
  | .TC_RESEND_MS => ⟨0x40F00004, 16, 10, 1, 0, 1, 0, 0, 0xa, .rw, (.clamp 2 1000), .none, false⟩
  | .TC_SESSIONS => ⟨0x40F00008, 0, 6, 1, 0, 1, 0, 0, 0, .ro, .any, .none, false⟩
  | .TC_AUTH_FAILS => ⟨0x40F0000C, 0, 32, 1, 0, 1, 0, 0, 0, .ro, .any, .none, false⟩
  | .TC_TAG_FAILS => ⟨0x40F00010, 0, 32, 1, 0, 1, 0, 0, 0, .ro, .any, .none, false⟩
  | .TC_WRITE_REFUSED => ⟨0x40F00014, 0, 32, 1, 0, 1, 0, 0, 0, .ro, .any, .none, false⟩
  | .TC_CNT_CLR => ⟨0x40F0003C, 0, 1, 1, 0, 1, 0, 0, 0, .wo, .any, .none, false⟩
  | .EP_MASK0 => ⟨0x40F00100, 0, 32, 32, 32, 1, 0, 0, 0, .rw, .any, .none, false⟩
  | .EP_MASK1 => ⟨0x40F00180, 0, 32, 32, 32, 1, 0, 0, 0, .rw, .any, .none, false⟩
  | .EP_LATCH => ⟨0x40F00200, 0, 32, 32, 32, 1, 0, 0, 0, .w1c, .any, .none, false⟩
  | .EP_PINS => ⟨0x40F00280, 0, 2, 1, 0, 1, 0, 0, 0, .ro, .any, .none, false⟩
  | .EQ_COUNT => ⟨0x40F00300, 0, 9, 1, 0, 1, 0, 0, 0, .ro, .any, .none, false⟩
  | .EQ_HEAD => ⟨0x40F00304, 0, 192, 1, 0, 1, 0, 0, 0, .ro, .any, .none, false⟩
  | .EQ_ACK => ⟨0x40F00320, 0, 1, 1, 0, 1, 0, 0, 0, .wo, .rule, .none, false⟩
  | .EQ_LOST => ⟨0x40F00324, 0, 32, 1, 0, 1, 0, 0, 0, .ro, .any, .none, false⟩
  | .GP_IN => ⟨0x40F00400, 0, 32, 1, 0, 1, 0, 0, 0, .ro, .any, .none, false⟩
  | .GP_POL => ⟨0x40F00404, 0, 32, 1, 0, 1, 0, 0, 0, .rw, .any, .none, false⟩
  | .GP_DEBOUNCE_US => ⟨0x40F00408, 0, 14, 1, 0, 1, 0, 0, 0x64, .rw, (.clamp 0 10000), .none, false⟩
  | .GP_OUT_LEVEL => ⟨0x40F0040C, 0, 32, 1, 0, 1, 0, 0, 0, .rw, .any, .none, false⟩
  | .GP_OUT_NOW => ⟨0x40F00410, 0, 32, 1, 0, 1, 0, 0, 0, .ro, .any, .none, false⟩
  | .GP_PULSE_LINES => ⟨0x40F00414, 0, 32, 1, 0, 1, 0, 0, 0, .wo, .any, .none, false⟩
  | .GP_PULSE_SAMPLE => ⟨0x40F00418, 0, 13, 1, 0, 1, 0, 0, 0, .wo, .rule, .none, false⟩
  | .GP_PULSE_US => ⟨0x40F00418, 16, 16, 1, 0, 1, 0, 0, 0, .wo, (.refuse 1 65535), .none, false⟩
  | .TS_STATE => ⟨0x40F10000, 0, 2, 34, 512, 1, 0, 0, 0, .ro, .any, .none, false⟩
  | .TS_PORT => ⟨0x40F10000, 2, 2, 34, 512, 1, 0, 0, 0, .ro, .any, .none, false⟩
  | .TS_CTRL_ID => ⟨0x40F10000, 16, 16, 34, 512, 1, 0, 0, 0, .ro, .any, .none, false⟩
  | .TS_PRIV => ⟨0x40F10004, 0, 4, 34, 512, 1, 0, 0, 0, .ro, .any, .none, false⟩
  | .TS_SEQ_RX => ⟨0x40F10008, 0, 32, 34, 512, 1, 0, 0, 0, .ro, .any, .none, false⟩
  | .TS_SEQ_TX => ⟨0x40F1000C, 0, 32, 34, 512, 1, 0, 0, 0, .ro, .any, .none, false⟩
  | .TS_MSGS => ⟨0x40F10010, 0, 32, 34, 512, 1, 0, 0, 0, .ro, .any, .none, false⟩
  | .TS_RATE_REFUSED => ⟨0x40F10014, 0, 32, 34, 512, 1, 0, 0, 0, .ro, .any, .none, false⟩
  | .TS_DUPS => ⟨0x40F10018, 0, 32, 34, 512, 1, 0, 0, 0, .ro, .any, .none, false⟩
  | .TS_EVQ_FILL => ⟨0x40F1001C, 0, 11, 34, 512, 1, 0, 0, 0, .ro, .any, .none, false⟩
  | .TS_EVQ_LOST => ⟨0x40F10020, 0, 32, 34, 512, 1, 0, 0, 0, .ro, .any, .none, false⟩
  | .ST_TALLY => ⟨0x40F20000, 0, 2, 256, 32, 1, 0, 0, 0, .rw, .any, .none, false⟩
  | .ST_TALLY_GPI => ⟨0x40F20000, 8, 6, 256, 32, 1, 0, 0, 0, .rw, (.refuse 0 32), .none, false⟩
  -- R416
  | .BM_AGE_CYC => ⟨0x41200000, 0, 12, 1, 0, 1, 0, 0, 0x100, .rw, (.clamp 16 4095), .none, false⟩
  | .BM_TIMEOUT_CYC => ⟨0x41200004, 0, 16, 1, 0, 1, 0, 0, 0x1000, .rw, (.clamp 256 65535), .none, false⟩
  | .BM_ERR_VALID => ⟨0x41200008, 0, 1, 1, 0, 1, 0, 0, 0, .w1c, .any, .none, false⟩
  | .BM_ERR_RESP => ⟨0x41200008, 1, 2, 1, 0, 1, 0, 0, 0, .ro, .any, .none, false⟩
  | .BM_ERR_CODE => ⟨0x41200008, 4, 3, 1, 0, 1, 0, 0, 0, .ro, .any, .none, false⟩
  | .BM_ERR_MASTER => ⟨0x41200008, 8, 4, 1, 0, 1, 0, 0, 0, .ro, .any, .none, false⟩
  | .BM_ERR_WRITE => ⟨0x41200008, 12, 1, 1, 0, 1, 0, 0, 0, .ro, .any, .none, false⟩
  | .BM_ERR_STATUS => ⟨0x41200008, 16, 16, 1, 0, 1, 0, 0, 0, .ro, .any, .none, false⟩
  | .BM_ERR_ADDR_LO => ⟨0x4120000C, 0, 32, 1, 0, 1, 0, 0, 0, .ro, .any, .none, false⟩
  | .BM_ERR_ADDR_HI => ⟨0x41200010, 0, 8, 1, 0, 1, 0, 0, 0, .ro, .any, .none, false⟩
  | .BM_FILTER_BLOCKS => ⟨0x41200014, 0, 32, 1, 0, 1, 0, 0, 0, .ro, .any, .none, false⟩
  | .BM_CNT_CLR => ⟨0x4120003C, 0, 1, 1, 0, 1, 0, 0, 0, .wo, .any, .none, false⟩
  | .BM_QOS => ⟨0x41200100, 0, 4, 10, 128, 1, 0, 0, 0, .rw, .rule, .none, false⟩
  | .BM_OUTSTANDING => ⟨0x41200100, 8, 5, 10, 128, 1, 0, 0, 0, .ro, .any, .none, false⟩
  | .BM_ERRORS => ⟨0x41200104, 0, 32, 10, 128, 1, 0, 0, 0, .ro, .any, .none, false⟩
  | .BM_TIMEOUTS => ⟨0x41200108, 0, 32, 10, 128, 1, 0, 0, 0, .ro, .any, .none, false⟩
  | .BM_DRAINS => ⟨0x4120010C, 0, 32, 10, 128, 1, 0, 0, 0, .ro, .any, .none, false⟩
  -- R417
  | .SYS_REMAP => ⟨0x40000000, 0, 1, 1, 0, 1, 0, 0, 0, .rw, .rule, .none, false⟩
  -- R434
  | .SEC_STATE => ⟨0x41000000, 0, 2, 1, 0, 1, 0, 0, 0, .ro, .any, .none, false⟩
  | .SEC_OWNER_SLOT => ⟨0x41000000, 4, 2, 1, 0, 1, 0, 0, 0, .ro, .any, .none, false⟩
  | .SEC_TRANSFERS_LEFT => ⟨0x41000000, 8, 2, 1, 0, 1, 0, 0, 3, .ro, .any, .none, false⟩
  | .SEC_DEBUG_OPEN => ⟨0x41000000, 12, 1, 1, 0, 1, 0, 0, 1, .ro, .any, .none, false⟩
  | .SEC_TIME_UNCHECKED => ⟨0x41000000, 13, 1, 1, 0, 1, 0, 0, 1, .ro, .any, .none, false⟩
  | .SEC_CLAIM_FAILS => ⟨0x41000004, 0, 4, 1, 0, 1, 0, 0, 0, .ro, .any, .none, false⟩
  | .SEC_ID_DIGEST => ⟨0x41000010, 0, 384, 1, 0, 1, 0, 0, 0, .ro, .any, .none, false⟩
  | .SEC_OWNER_DIGEST => ⟨0x41000040, 0, 384, 1, 0, 1, 0, 0, 0, .ro, .any, .none, false⟩
  | .SEC_ROLLBACK_FW => ⟨0x41000070, 0, 8, 1, 0, 1, 0, 0, 0, .ro, .any, .none, false⟩
  | .SEC_ROLLBACK_CFG => ⟨0x41000070, 16, 6, 1, 0, 1, 0, 0, 0, .ro, .any, .none, false⟩
  | .SEC_RUN_FW_SVN => ⟨0x41000074, 0, 8, 1, 0, 1, 0, 0, 0, .ro, .any, .none, false⟩
  | .SEC_RUN_CFG_SVN => ⟨0x41000074, 16, 6, 1, 0, 1, 0, 0, 0, .ro, .any, .none, false⟩
  | .SEC_FABRIC_GEN => ⟨0x41000078, 0, 16, 1, 0, 1, 0, 0, 0, .ro, .any, .none, false⟩
  | .SEC_INCARNATION => ⟨0x4100007C, 0, 16, 1, 0, 1, 0, 0, 0, .ro, .any, .none, false⟩
  | .SEC_ROUTER_START => ⟨0x41000080, 0, 64, 1, 0, 1, 0, 0, 0, .ro, .any, .none, false⟩
  | .SEC_CLAIM_CODE => ⟨0x41000100, 0, 64, 1, 0, 1, 0, 0, 0, .wo, .any, .none, false⟩
  | .SEC_CLAIM_LEN => ⟨0x41000108, 0, 11, 1, 0, 1, 0, 0, 0, .wo, (.refuse 1 1024), .none, false⟩
  | .SEC_CLAIM_GO => ⟨0x4100010C, 0, 1, 1, 0, 1, 0, 0, 0, .wo, .any, .none, false⟩
  | .SEC_RELEASE => ⟨0x41000200, 0, 768, 1, 0, 1, 0, 0, 0, .wo, .any, .none, false⟩
  | .SEC_CLAIM_CERT => ⟨0x41000400, 0, 8192, 1, 0, 1, 0, 0, 0, .wo, .any, .none, false⟩
  | .SEC_DEBUG_TOKEN => ⟨0x41000800, 0, 2048, 1, 0, 1, 0, 0, 0, .wo, .any, .none, false⟩
  | .SEC_ADMIT_OK => ⟨0x41000900, 0, 32, 1, 0, 1, 0, 0, 0, .ro, .any, .none, false⟩
  | .SEC_ADMIT_REFUSED => ⟨0x41000904, 0, 32, 1, 0, 1, 0, 0, 0, .ro, .any, .none, false⟩
  | .SEC_IMAGE_REJECTED => ⟨0x41000908, 0, 32, 1, 0, 1, 0, 0, 0, .ro, .any, .none, false⟩
  | .SEC_CERT_REJECTED => ⟨0x4100090C, 0, 32, 1, 0, 1, 0, 0, 0, .ro, .any, .none, false⟩
  -- R456
  | .SU_STATE => ⟨0x40000200, 0, 3, 1, 0, 1, 0, 0, 0, .ro, .any, .none, false⟩
  | .SU_PAIR => ⟨0x40000200, 4, 2, 1, 0, 1, 0, 0, 0, .ro, .any, .none, false⟩
  | .SU_FALLBACK => ⟨0x40000200, 8, 1, 1, 0, 1, 0, 0, 0, .ro, .any, .none, false⟩
  | .SU_KINDLING_WHY => ⟨0x40000200, 12, 4, 1, 0, 1, 0, 0, 0, .ro, .any, .none, false⟩
  | .SU_KINDLING_SVC => ⟨0x40000200, 16, 3, 1, 0, 1, 0, 0, 3, .ro, .any, .none, false⟩
  | .SU_FW_WHY => ⟨0x40000204, 0, 32, 1, 0, 1, 0, 0, 0, .ro, .any, .none, false⟩
  | .SU_SET_ID => ⟨0x40000208, 0, 32, 1, 0, 1, 0, 0, 0, .ro, .any, .none, false⟩
  | .SU_PEER_SET => ⟨0x4000020C, 0, 32, 1, 0, 1, 0, 0, 0, .ro, .any, .none, false⟩
  | .SU_SI_REV => ⟨0x40000210, 0, 8, 1, 0, 1, 0, 0, 0, .ro, .any, .none, false⟩
  | .SU_CFG_FORMAT => ⟨0x40000210, 16, 16, 1, 0, 1, 0, 0, 0, .ro, .any, .none, false⟩
  | .SU_NVM_IF => ⟨0x40000214, 0, 3, 1, 0, 1, 0, 0, 0, .ro, .any, .none, false⟩
  | .SU_NVM_MHZ => ⟨0x40000214, 8, 8, 1, 0, 1, 0, 0, 0, .ro, .any, .none, false⟩
  | .SU_NVM_MIB => ⟨0x40000218, 0, 16, 1, 0, 1, 0, 0, 0, .ro, .any, .none, false⟩
  | .SU_T_VERIFY_US => ⟨0x4000021C, 0, 32, 1, 0, 1, 0, 0, 0, .ro, .any, .none, false⟩
  | .SU_T_LOAD_US => ⟨0x40000220, 0, 32, 1, 0, 1, 0, 0, 0, .ro, .any, .none, false⟩
  | .SU_T_RUN_US => ⟨0x40000224, 0, 32, 1, 0, 1, 0, 0, 0, .ro, .any, .none, false⟩
  | .CR_COUNT => ⟨0x40000230, 0, 13, 1, 0, 1, 0, 0, 0, .ro, .any, .none, false⟩
  | .CR_LOST => ⟨0x40000234, 0, 32, 1, 0, 1, 0, 0, 0, .ro, .any, .none, false⟩
  | .CR_CLAMPED => ⟨0x40000238, 0, 16, 1, 0, 1, 0, 0, 0, .ro, .any, .none, false⟩
  | .CR_REFUSED => ⟨0x40000238, 16, 16, 1, 0, 1, 0, 0, 0, .ro, .any, .none, false⟩
  | .SYS_RESTART => ⟨0x40000240, 0, 16, 1, 0, 1, 0, 0, 0, .wo, .rule, .none, false⟩
  -- R470
  | .UP_STATE => ⟨0x41100000, 0, 2, 1, 0, 1, 0, 0, 0, .ro, .any, .none, false⟩
  | .UP_SOURCE => ⟨0x41100000, 4, 2, 1, 0, 1, 0, 0, 0, .ro, .any, .none, false⟩
  | .UP_HOLDER => ⟨0x41100000, 8, 6, 1, 0, 1, 0, 0, 0, .ro, .any, .none, false⟩
  | .UP_CONTENT => ⟨0x41100000, 16, 2, 1, 0, 1, 0, 0, 0, .ro, .any, .none, false⟩
  | .UP_LAST_RESULT => ⟨0x41100000, 24, 4, 1, 0, 1, 0, 0, 0, .ro, .any, .none, false⟩
  | .UP_SET_ID => ⟨0x41100004, 0, 32, 1, 0, 1, 0, 0, 0, .ro, .any, .none, false⟩
  | .UP_FW_BLOCKS => ⟨0x41100008, 0, 13, 1, 0, 1, 0, 0, 0, .ro, .any, .none, false⟩
  | .UP_FW_TOTAL => ⟨0x41100008, 16, 13, 1, 0, 1, 0, 0, 0, .ro, .any, .none, false⟩
  | .UP_CFG_BLOCKS => ⟨0x4110000C, 0, 13, 1, 0, 1, 0, 0, 0, .ro, .any, .none, false⟩
  | .UP_CFG_TOTAL => ⟨0x4110000C, 16, 13, 1, 0, 1, 0, 0, 0, .ro, .any, .none, false⟩
  | .UP_CONFIRM_S => ⟨0x41100010, 0, 17, 1, 0, 1, 0, 0, 0x708, .ro, (.clamp 60 86400), .none, false⟩
  | .UP_HEALTH_S => ⟨0x41100014, 0, 10, 1, 0, 1, 0, 0, 0x78, .ro, (.clamp 10 900), .none, false⟩
  | .UP_LEFT_S => ⟨0x41100018, 0, 17, 1, 0, 1, 0, 0, 0, .ro, .any, .none, false⟩
  | .UP_HEALTH => ⟨0x4110001C, 0, 3, 1, 0, 1, 0, 0, 0, .ro, .any, .none, false⟩
  | .UP_HEALTH_OK => ⟨0x4110001C, 4, 1, 1, 0, 1, 0, 0, 0, .ro, .any, .none, false⟩
  | .UP_RELAY_TARGETS => ⟨0x41100020, 0, 64, 1, 0, 1, 0, 0, 0, .ro, .any, .none, false⟩
  | .UP_RELAY_STATE => ⟨0x41100030, 0, 2, 64, 2, 1, 0, 0, 0, .ro, .any, .none, false⟩
  | .UP_BAD_BLOCKS => ⟨0x41100040, 0, 32, 1, 0, 1, 0, 0, 0, .ro, .any, .none, false⟩
  | .UP_BUSY_REFUSED => ⟨0x41100044, 0, 32, 1, 0, 1, 0, 0, 0, .ro, .any, .none, false⟩
  | .UP_CONFLICTS => ⟨0x41100048, 0, 32, 1, 0, 1, 0, 0, 0, .ro, .any, .none, false⟩
  -- R490
  | .LN_USE => ⟨0x40100000, 0, 3, 259, 2048, 1, 0, 0, 0, .ro, .rule, .none, false⟩
  | .LN_TX_INV => ⟨0x40100004, 0, 1, 259, 2048, 1, 0, 0, 0, .rw, .any, .none, false⟩
  | .LN_RX_INV => ⟨0x40100004, 1, 1, 259, 2048, 1, 0, 0, 0, .rw, .any, .none, false⟩
  | .LN_LOOP => ⟨0x40100004, 4, 1, 259, 2048, 1, 0, 0, 0, .rw, .any, .none, false⟩
  | .LN_ADAPT_HOLD => ⟨0x40100004, 8, 1, 259, 2048, 1, 0, 0, 0, .rw, .any, .none, false⟩
  | .LN_PRBS_NRZ => ⟨0x40100004, 9, 1, 259, 2048, 1, 0, 0, 0, .rw, .rule, .none, false⟩
  | .LN_SDI_RATE => ⟨0x40100004, 12, 3, 259, 2048, 1, 0, 0, 0, .rw, .rule, .none, false⟩
  | .LN_TX_PRE => ⟨0x40100008, 0, 4, 259, 2048, 1, 0, 0, 0, .rw, .any, .none, false⟩
  | .LN_TX_MAIN => ⟨0x40100008, 8, 6, 259, 2048, 1, 0, 0, 0, .rw, .rule, .none, false⟩
  | .LN_TX_POST => ⟨0x40100008, 16, 5, 259, 2048, 1, 0, 0, 0, .rw, .any, .none, false⟩
  | .LN_TX_RETRY => ⟨0x4010000C, 0, 1, 259, 2048, 1, 0, 0, 0, .wo, .rule, .none, false⟩
  | .LN_RX_STATE => ⟨0x40100010, 0, 3, 259, 2048, 1, 0, 0, 0, .ro, .any, .none, false⟩
  | .LN_RATE_NOW => ⟨0x40100010, 4, 4, 259, 2048, 1, 0, 0, 0, .ro, .any, .none, false⟩
  | .LN_RX_FRAC => ⟨0x40100010, 8, 1, 259, 2048, 1, 0, 0, 0, .ro, .any, .none, false⟩
  | .LN_TX_STATE => ⟨0x40100010, 12, 2, 259, 2048, 1, 0, 0, 0, .ro, .any, .none, false⟩
  | .LN_TEST => ⟨0x40100010, 14, 1, 259, 2048, 1, 0, 0, 0, .ro, .any, .none, false⟩
  | .LN_RX_PPM => ⟨0x40100014, 0, 16, 259, 2048, 1, 0, 0, 0, .ro, .any, .none, false⟩
  | .LN_TX_PPM => ⟨0x40100018, 0, 20, 259, 2048, 1, 0, 0, 0, .ro, .any, .none, false⟩
  | .LN_CTLE => ⟨0x4010001C, 0, 4, 259, 2048, 1, 0, 0, 8, .ro, .any, .none, false⟩
  | .LN_DFE => ⟨0x40100020, 0, 8, 259, 2048, 12, 32, 0, 0, .ro, .any, .none, false⟩
  | .LN_PRBS_TX => ⟨0x40100050, 0, 3, 259, 2048, 1, 0, 0, 0, .rw, .rule, .none, false⟩
  | .LN_PRBS_RX => ⟨0x40100050, 4, 3, 259, 2048, 1, 0, 0, 0, .rw, (.refuse 0 4), .none, false⟩
  | .LN_PRBS_LOCK => ⟨0x40100050, 8, 1, 259, 2048, 1, 0, 0, 0, .ro, .any, .none, false⟩
  | .LN_PRBS_BITS_LO => ⟨0x40100054, 0, 32, 259, 2048, 1, 0, 0, 0, .ro, .any, .none, false⟩
  | .LN_PRBS_BITS_HI => ⟨0x40100058, 0, 16, 259, 2048, 1, 0, 0, 0, .ro, .any, .none, false⟩
  | .LN_PRBS_ERRS => ⟨0x4010005C, 0, 32, 259, 2048, 1, 0, 0, 0, .ro, .any, .none, false⟩
  | .LN_INJ_MODE => ⟨0x40100060, 0, 2, 259, 2048, 1, 0, 0, 0, .rw, .any, .none, false⟩
  | .LN_INJ_LEN => ⟨0x40100060, 8, 7, 259, 2048, 1, 0, 0, 1, .rw, (.clamp 1 127), .none, false⟩
  | .LN_INJ_GO => ⟨0x40100064, 0, 1, 259, 2048, 1, 0, 0, 0, .wo, .any, .none, false⟩
  | .LN_INJ_P => ⟨0x40100068, 0, 32, 259, 2048, 1, 0, 0, 1, .rw, (.clamp 1 2147483648), .none, false⟩
  | .LN_INJ_COUNT => ⟨0x4010006C, 0, 32, 259, 2048, 1, 0, 0, 0, .ro, .any, .none, false⟩
  | .LN_ES_X => ⟨0x40100070, 0, 6, 259, 2048, 1, 0, 0, 0, .rw, .any, .none, false⟩
  | .LN_ES_Y => ⟨0x40100070, 8, 8, 259, 2048, 1, 0, 0, 0, .rw, .rule, .none, false⟩
  | .LN_ES_EYE => ⟨0x40100070, 16, 2, 259, 2048, 1, 0, 0, 0, .rw, .rule, .none, false⟩
  | .LN_ES_LOG2 => ⟨0x40100070, 24, 6, 259, 2048, 1, 0, 0, 0x14, .rw, (.clamp 20 40), .none, false⟩
  | .LN_ES_GO => ⟨0x40100074, 0, 1, 259, 2048, 1, 0, 0, 0, .wo, .rule, .none, false⟩
  | .LN_ES_STATE => ⟨0x40100078, 0, 2, 259, 2048, 1, 0, 0, 0, .ro, .any, .none, false⟩
  | .LN_ES_ERRS => ⟨0x4010007C, 0, 32, 259, 2048, 1, 0, 0, 0, .ro, .any, .none, false⟩
  | .LN_LOCK_LOSSES => ⟨0x40100080, 0, 32, 259, 2048, 1, 0, 0, 0, .ro, .any, .none, false⟩
  | .LN_HDR_ERRS => ⟨0x40100084, 0, 32, 259, 2048, 1, 0, 0, 0, .ro, .any, .none, false⟩
  | .LN_TX_FAULTS => ⟨0x40100088, 0, 32, 259, 2048, 1, 0, 0, 0, .ro, .any, .none, false⟩
  | .LN_CNT_CLR => ⟨0x401000FC, 0, 1, 259, 2048, 1, 0, 0, 0, .wo, .any, .none, false⟩
  -- R491
  | .QD_FAMILY => ⟨0x40120000, 0, 3, 64, 128, 1, 0, 0, 0, .ro, .rule, .none, false⟩
  | .QD_CLK_LOCK => ⟨0x40120000, 4, 1, 64, 128, 1, 0, 0, 0, .ro, .any, .none, false⟩
  | .QD_CLK_LOSSES => ⟨0x40120004, 0, 32, 64, 128, 1, 0, 0, 0, .ro, .any, .none, false⟩
  | .LN_ALIGNED_COUNT => ⟨0x401F0000, 0, 9, 1, 0, 1, 0, 0, 0, .ro, .any, .none, false⟩
  | .LN_TEST_COUNT => ⟨0x401F0004, 0, 9, 1, 0, 1, 0, 0, 0, .ro, .any, .none, false⟩
  -- R506
  | .PW_VIN => ⟨0x41300000, 0, 16, 1, 0, 1, 0, 0, 0, .ro, .any, .none, false⟩
  | .PW_IIN => ⟨0x41300004, 0, 16, 1, 0, 1, 0, 0, 0, .ro, .any, .none, false⟩
  | .PW_PIN => ⟨0x41300008, 0, 16, 1, 0, 1, 0, 0, 0, .ro, .any, .none, false⟩
  | .PW_TCASE => ⟨0x4130000C, 0, 16, 1, 0, 1, 0, 0, 0, .ro, .any, .none, false⟩
  | .PW_TJ_MAX => ⟨0x4130000C, 16, 16, 1, 0, 1, 0, 0, 0, .ro, .any, .none, false⟩
  | .PW_STATE => ⟨0x41300010, 0, 3, 1, 0, 1, 0, 0, 0, .ro, .any, .none, false⟩
  | .PW_VIN_OK => ⟨0x41300010, 4, 1, 1, 0, 1, 0, 0, 0, .ro, .any, .none, false⟩
  | .PW_TCASE_WARN => ⟨0x41300014, 0, 12, 1, 0, 1, 0, 0, 0x3e8, .rw, (.clamp 0 1250), .none, false⟩
  | .PW_PIN_WARN => ⟨0x41300018, 0, 9, 1, 0, 1, 0, 0, 0xf0, .rw, (.clamp 100 260), .none, false⟩
  | .PW_PIN_PEAK => ⟨0x4130001C, 0, 16, 1, 0, 1, 0, 0, 0, .ro, .any, .none, false⟩
  | .PW_TRIPS => ⟨0x41300020, 0, 32, 1, 0, 1, 0, 0, 0, .ro, .any, .none, false⟩
  | .PW_PG_LOSSES => ⟨0x41300024, 0, 32, 1, 0, 1, 0, 0, 0, .ro, .any, .none, false⟩
  | .PW_CNT_CLR => ⟨0x4130003C, 0, 1, 1, 0, 1, 0, 0, 0, .wo, .any, .none, false⟩

/-- The fields of block 00h. -/
def Fld.block0 : List Fld :=
  [.SYS_ROLE, .SYS_PLANE, .SYS_GEOM, .SYS_NODE, .SYS_NODE_VALID, .SYS_EDGE_COUNT, .SYS_MGR_A, .SYS_MGR_B,
   .SYS_MGR_ROLE, .SYS_TOPO_DIGEST, .ORD_APPLIED, .ORD_SEEN, .ORD_NEXT, .ORD_STATE, .ORD_RESYNC_AUTO, .ORD_RESYNC_REQ,
   .ORD_GAPS, .ORD_LOSSES, .ORD_DUPLICATES, .ORD_LATE, .ORD_REFUSED_LATE, .LINK_MAP_FAULTS, .SYS_REMAP, .SU_STATE,
   .SU_PAIR, .SU_FALLBACK, .SU_KINDLING_WHY, .SU_KINDLING_SVC, .SU_FW_WHY, .SU_SET_ID, .SU_PEER_SET, .SU_SI_REV,
   .SU_CFG_FORMAT, .SU_NVM_IF, .SU_NVM_MHZ, .SU_NVM_MIB, .SU_T_VERIFY_US, .SU_T_LOAD_US, .SU_T_RUN_US, .CR_COUNT,
   .CR_LOST, .CR_CLAMPED, .CR_REFUSED, .SYS_RESTART]

/-- The fields of block 01h. -/
def Fld.block1 : List Fld :=
  [.LN_USE, .LN_TX_INV, .LN_RX_INV, .LN_LOOP, .LN_ADAPT_HOLD, .LN_PRBS_NRZ, .LN_SDI_RATE, .LN_TX_PRE, .LN_TX_MAIN,
   .LN_TX_POST, .LN_TX_RETRY, .LN_RX_STATE, .LN_RATE_NOW, .LN_RX_FRAC, .LN_TX_STATE, .LN_TEST, .LN_RX_PPM, .LN_TX_PPM,
   .LN_CTLE, .LN_DFE, .LN_PRBS_TX, .LN_PRBS_RX, .LN_PRBS_LOCK, .LN_PRBS_BITS_LO, .LN_PRBS_BITS_HI, .LN_PRBS_ERRS,
   .LN_INJ_MODE, .LN_INJ_LEN, .LN_INJ_GO, .LN_INJ_P, .LN_INJ_COUNT, .LN_ES_X, .LN_ES_Y, .LN_ES_EYE, .LN_ES_LOG2,
   .LN_ES_GO, .LN_ES_STATE, .LN_ES_ERRS, .LN_LOCK_LOSSES, .LN_HDR_ERRS, .LN_TX_FAULTS, .LN_CNT_CLR, .QD_FAMILY,
   .QD_CLK_LOCK, .QD_CLK_LOSSES, .LN_ALIGNED_COUNT, .LN_TEST_COUNT]

/-- The fields of block 02h. -/
def Fld.block2 : List Fld :=
  [.VI_PORT_MODE, .VI_LINK_MODE, .VI_DOMAIN, .VI_ALIGN, .VI_FS_MIN, .VI_ANC_MODE, .VI_AUD_GROUPS, .VI_LOSS_MODE,
   .VI_HOLD_FRAMES, .VI_CNT_CLR, .VI_STATE, .VI_MISMATCH_WHY, .VI_ALIGN_STATE, .VI_TIMED, .VI_SYNC_SRC, .VI_ASRC,
   .VI_PSF, .VI_RATE, .VI_RATE_FRAC, .VI_LEVEL, .VI_FMT, .VI_VPID, .VI_VPID_PRESENT, .VI_VPID_CONFLICT, .VI_PHASE,
   .VI_OFFSET_PPM, .VI_LATENCY_LINES, .VI_QL_ORDER, .VI_QL_SKEW, .VI_FS_DROPS, .VI_FS_REPEATS, .VI_HOLDS,
   .VI_BAD_FRAMES, .VI_CRC_LINES, .VI_TRS_LOSSES, .VI_WINDOW_EXITS, .VI_ANC_CS_ERRS, .VI_AUD_PKT_ERRS,
   .VI_PEAT_UNCORR, .VI_ALIGN_CHANGES, .VI_PEAT_CORR, .VI_FS_TOP, .VI_FS_BW]

/-- The fields of block 03h. -/
def Fld.block3 : List Fld :=
  [.FL_ENABLE, .FL_STATE, .FL_PLANE, .FL_NEW_PATHS, .FL_FAR_NODE, .FL_FAR_LINK, .FL_FAR_VALID, .FL_BER, .FL_SLOT_FMT,
   .FL_SUB_BUSY, .FL_AUD_TX, .FL_AUD_RX, .FL_CREDITS_CTRL, .FL_CREDITS_AUD, .FL_CW_CORR, .FL_CW_UNCORR, .FL_CRC_ERRS,
   .FL_LATE_CELLS, .FL_CREDIT_OVERRUNS, .FL_FAILS, .FL_CTRL_GAPS, .FL_CNT_CLR, .FAB_DELIVERY_NS, .FAB_HOLDDOWN_S,
   .FAB_CENTRES_OK_A, .FAB_CENTRES_OK_B, .FAB_OCC_A, .FAB_OCC_B, .FAB_BOUND_A, .FAB_BOUND_B, .FAB_GUAR, .FAB_PATHS,
   .FAB_BLOCKED, .FAB_SINGLE_PLANE, .FAB_HANDOVERS, .FAB_RESTORES, .FAB_LOST_BOTH, .FAB_TAG_FAILS, .FAB_MODEL_DIVERGE,
   .FAB_UMAX_A, .FAB_UMAX_B, .FAB_CNT_CLR, .FAB_PAIR_OCC, .FAB_PAIR_OCC_IN]

/-- The fields of block 04h. -/
def Fld.block4 : List Fld :=
  [.XS_CUR, .XS_PEND, .XS_GEN, .XS_PENDING, .XS_CUR_BLACK, .XS_PEND_BLACK, .XS_UNTIMED, .XS_PSTAMP_LO, .XS_PSTAMP_HI,
   .XS_LAST_ORDER, .XS_LOCK_MODE, .XS_PLANES, .XS_LOCAL, .XS_LAST_KIND, .XS_PEND_CNT, .XS_HOLDER, .XS_LAST_STAMP_LO,
   .XS_LAST_STAMP_HI, .XS_SEL_MODE, .XS_PLANE_PREF, .XS_TAKES, .XS_UNTIMED_CNT, .XS_ALT_CELLS, .XS_FMT_CONFLICTS,
   .XS_IMMEDIATE_CNT, .XS_CNT_CLR, .XP_OUTPUTS, .XP_OUT_BASE, .XP_PENDING_OUTS, .XP_LOCKED_OUTS, .XP_GROUPS,
   .XP_START_SALVO, .XP_REPL_LEGS, .XP_TAKES_ALL, .XP_UNTIMED_ALL, .XP_CNT_CLR]

/-- The fields of block 05h. -/
def Fld.block5 : List Fld :=
  [.VO_PORT_MODE, .VO_LINK_MODE, .VO_DOMAIN, .VO_STD, .VO_IDLE_STD, .VO_TRANSP_MODE, .VO_OFFSET, .VO_EMB_MAP,
   .VO_VPID_SRC, .VO_VPID_DEFAULT, .VO_CNT_CLR, .VO_STATE, .VO_CHARCOAL, .VO_CHARCOAL_WHY, .VO_STD_NOW,
   .VO_EMB_DROPPED, .VO_BUF, .VO_BUF_INDEX, .VO_VPID_SENT, .VO_LAND_NS, .VO_FRAME_CRC, .VO_FRAMES,
   .VO_CHARCOAL_FRAMES, .VO_CHARCOAL_LINES, .VO_RATE_CHANGES, .VO_TIMING_CHANGES, .VO_TX_FAULTS, .VO_FB_FREE,
   .VO_FB_BASE, .VO_FB_BW]

/-- The fields of block 06h. -/
def Fld.block6 : List Fld :=
  [.IV_MODE, .IV_ANC, .IV_DUAL, .IV_IPV6, .IV_FMT, .IV_MAC_A, .IV_MAC_B, .IV_UDP_A, .IV_UDP_B, .IV_ANC_UDP,
   .IV_PLAYOUT_US, .IV_SKEW_ALARM_US, .IV_JOIN_TIMEOUT_MS, .IV_GRP_A, .IV_SRC_A, .IV_GRP_B, .IV_SRC_B, .IV_STATE,
   .IV_LEG_A_UP, .IV_LEG_B_UP, .IV_SKEW_US, .IV_PKTS, .IV_ALT_PKTS, .IV_LATE_PKTS, .IV_LOST_BOTH, .IV_CHANGES,
   .OV_MODE, .OV_ANC, .OV_DUAL, .OV_IPV6, .OV_SHAPE, .OV_COLOR, .OV_MAC_A, .OV_MAC_B, .OV_UDP_A, .OV_UDP_B,
   .OV_ANC_UDP, .OV_DSCP, .OV_TTL, .OV_VLAN, .OV_PCP, .OV_PT_VID, .OV_PT_ANC, .OV_GRP_A, .OV_GRP_B, .OV_PKTS,
   .OV_LAST_TS, .IP_CNT_CLR, .IA_MODE, .IA_DUAL, .IA_IPV6, .IA_L16, .IA_PTIME, .IA_CHANNELS, .IA_FIRST_AS, .IA_MAC_A,
   .IA_MAC_B, .IA_UDP_A, .IA_UDP_B, .IA_PLAYOUT]
  ++ [.IA_GRP_A, .IA_SRC_A, .IA_GRP_B, .IA_SRC_B, .IA_STATE, .IA_LEG_A_UP, .IA_LEG_B_UP, .IA_SYNC, .IA_ASRC, .IA_PKTS,
   .IA_LATE_PKTS, .IA_LOST_BOTH, .IA_CNT_CLR, .OA_MODE, .OA_DUAL, .OA_IPV6, .OA_L16, .OA_PTIME, .OA_CHANNELS,
   .OA_FIRST_AD, .OA_MAC_A, .OA_MAC_B, .OA_UDP_A, .OA_UDP_B, .OA_DSCP, .OA_TTL, .OA_PT, .OA_VLAN, .OA_PCP, .OA_GRP_A,
   .OA_GRP_B, .OA_PKTS, .OA_CNT_CLR, .IP_POSITIONS, .IP_AUD_RX_CH, .IP_AUD_TX_CH]

/-- The fields of block 07h. -/
def Fld.block7 : List Fld :=
  [.MC_MODE, .MC_FEC, .MC_URGENT_MODE, .MC_MAX_FRAME, .MC_EXPRESS, .MC_VERIFY_MS, .MC_GATE_LOCK, .MC_GATE_DOMAIN,
   .MC_GATE_ENTRIES, .MC_GATE_PER_FRAME, .MC_GATE_OFFSET_NS, .MC_GATE_CYCLE_NS, .MC_DEFAULT_Q, .MC_DEFAULT_DROP,
   .MC_SLEEP, .MC_EEE, .MC_WAKE_ETYPE, .MC_WAKE_KEY, .MC_CNT_CLR, .MC_STATE, .MC_DOWN_WHY, .MC_VERIFY_STATE,
   .MC_LPI_TX, .MC_LPI_RX, .MC_ADDR_LO, .MC_ADDR_HI, .MC_RX_FRAMES, .MC_RX_FCS_ERRS, .MC_RX_LEN_ERRS,
   .MC_RX_FILTER_DROPS, .MC_RX_REASM_ERRS, .MC_RX_WAKE_DROPS, .MC_TX_FRAMES, .MC_TX_PREEMPTS, .MC_TX_GATE_WAITS,
   .MC_TX_GATE_DROPS, .MC_TX_SLEEP_DROPS, .MC_LINK_DOWNS, .MC_LPI_ENTRIES, .MC_WAKES, .GL_INTERVAL_NS, .GL_GATES,
   .MF_ETYPE, .MF_ETYPE_ANY, .MF_TAG, .MF_VID, .MF_VID_ANY, .MF_PCP_MASK, .MF_QUEUE, .MF_DROP, .MF_EN, .MQ_RING_LEN,
   .MQ_URGENT, .MQ_FILL, .MQ_FILL_PEAK, .MQ_FRAMES, .MQ_TRUNC, .MQ_NOBUF, .MC_MEDIA_MACS, .MC_POOL_USED]
  ++ [.MC_BASE_LO, .MC_BASE_HI]

/-- The fields of block 08h. -/
def Fld.block8 : List Fld :=
  [.AD_NODES, .AD_TRANSP, .AD_NA_MUTE, .AD_RAMPING, .AD_MM_EN, .AD_MM_BUS, .AD_MM_AS, .AD_PEAK, .AD_SAT, .BUS_CLASS,
   .BUS_LAW, .BUS_INPUTS, .BUS_DEPTH, .BUS_THRESH, .BUS_HOLD, .BUS_ACTIVE, .BUS_SIGMA, .BUS_SAT, .AN_LOOK_DST,
   .AN_LOOK_DBUS, .AN_LOOK_SRC, .AN_PRESENT, .AN_INV, .AN_TRANSP, .AN_RAMPING, .AN_GAIN, .AN_RAMP, .AN_COEF,
   .AS_NONAUDIO, .AS_CS_NA, .AS_ST337, .AS_ASRC, .AS_FANOUT, .AX_USED, .AX_LEGS, .AI_BUNDLE, .AI_VALID, .AI_PLANES,
   .AI_LATE, .AI_LOST, .GEN_MODE, .GEN_FREQ_HZ, .GEN_LEVEL, .GEN_GAP_MS, .GEN_PERIOD_MS, .AM_RATE, .AM_NODES,
   .AM_NODES_PEAK, .AM_NODE_REFUSALS, .AM_NA_MUTES, .AM_CNT_CLR, .AM_DEEMB_PORT, .AM_DEEMB_EN, .AM_EMB_PORT,
   .AM_EMB_EN]

/-- The fields of block 09h. -/
def Fld.block9 : List Fld :=
  [.FC_STATE, .FC_LOAD_WHY, .FC_FAULT, .FC_FAULT_PC, .FC_PROG, .FC_BLOCK, .FC_CTRL_DIV, .FC_DOMAIN, .FC_RUN_INIT,
   .FC_IN_FIRST, .FC_IN_COUNT, .FC_OUT_FIRST, .FC_OUT_COUNT, .FC_DL_FIRST, .FC_DL_COUNT, .FC_TAP_COUNT, .FC_ALG_LAT,
   .FC_LATENCY, .FC_WCET, .FC_BUDGET, .FC_CYCLES_PEAK, .FC_RUN, .FC_RESTART, .FC_AOV, .FC_LEN_CLAMP, .FC_OVERRUNS,
   .FC_SAT, .FC_PEAT_UNCORR, .FC_CNT_CLR, .FP_MODE, .FP_PEND, .FP_FOLD, .FP_BASE, .FP_MOD, .FP_LEN, .FP_LEN_PEND,
   .FP_PTR, .FR_RESULT, .FT_DELAY, .FT_LINE, .FT_EN, .FP_PARAM, .FERN_RUNNING, .FERN_LIB_SET, .FERN_DL_USED,
   .FERN_IN_USED]

/-- The fields of block 0Ah. -/
def Fld.block10 : List Fld :=
  [.TD_MODE, .TD_MASTER, .TD_RATE, .TD_FMT, .TD_FS_POL, .TD_FS_LEN, .TD_BCLK_INV, .TD_HIZ, .TD_SLOTS, .TD_WIDTH,
   .TD_OFFSET, .TD_FRAME_BCLK, .TD_DOMAIN, .TD_ZC_TIMEOUT_MS, .TD_TX_MASK, .TD_RX_MASK, .TD_CNT_CLR, .TD_STATE,
   .TD_CLK, .TD_RATE_NOW, .TD_SILENT_MODE, .TD_SYNC, .TD_ASRC, .TD_QUAL_COUNT, .TD_FIRE_LO, .TD_FIRE_HI, .TD_SLIP_NET,
   .TD_BCLK_KHZ, .TD_UNDERRUNS, .TD_OVERRUNS, .TD_GLITCHES, .TD_CLK_STOPS, .TD_RATE_CHANGES, .TD_ZC_TIMEOUTS,
   .TD_PARITY_ERRS, .TD_TRIG_MISSED, .TT_PORTS, .TT_OP, .TT_KIND, .TT_PTP_DOM, .TT_PTP_SEC_LO, .TT_PTP_SEC_HI,
   .TT_PTP_NS, .TT_LAST_ORDER]

/-- The fields of block 0Bh. -/
def Fld.block11 : List Fld :=
  [.RD_FORMAT, .RD_STATE_RASTER, .RD_COUNT_VALID, .RD_FRAME_LO, .RD_FRAME_HI, .RD_LINE, .RD_SAMPLE, .RD_SWITCH_LINE1,
   .RD_SWITCH_LINE2, .RD_LATE, .RD_REFUSED, .SCHED_LEAD_US, .RT_HOUSE_SRC, .RT_COUNT_SLIPS, .SCHED_PENDING,
   .SCHED_PENDING_PEAK, .REF_STATE, .REF_SEL, .REF_SLEWING, .REF_REALIGNING, .REF_NOMAJ, .REF_OFFSET_LO,
   .REF_OFFSET_HI, .REF_FREQ, .REF_EMBER_AVG, .REF_EMBER_HOLD_S, .REF_EMBER_ELAPSED_S, .REF_SLEW_PPB_S, .REF_BW_MHZ,
   .REF_START_WAIT_S, .REF_REALIGN_PPB, .REF_REALIGN_LEFT_LO, .REF_REALIGN_LEFT_HI, .REF_SWITCHES, .REF_NOMAJ_CNT,
   .REF_EMBER_ENTRIES, .REF_REALIGNS, .REF_CNT_CLR, .RE_INPUT, .RE_RANK, .RE_REVERT, .RE_EN, .RE_QUAL_S, .RE_TOL,
   .RE_STATE, .RE_QUAL_LEFT_S, .RE_VOTES, .RE_Y, .RE_LOSSES, .RE_DISQUALS, .RI_SYN0_FMT, .RI_SYN1_FMT, .RI_SYN_OK,
   .RI_FP0_RATE, .RI_FP1_RATE, .RI_10M_OK, .RI_VIN0_PORT, .PO_MODE, .PO_DOMAIN, .PO_WIDTH_US]

/-- The fields of block 0Ch. -/
def Fld.block12 : List Fld :=
  [.PT_SNAP, .PT_SNAP_DONE, .PT_ACTIVE, .PT_TOD_VALID, .PT_SNAP_CNT, .PT_SNAP_HOUSE, .PT_SNAP_T0, .PT_SNAP_T1,
   .PT_SNAP_ACT, .PT_HOUSE_INCR, .PT_ACT_ADJ, .PT_ACT_SLEW_NS_S, .PT_SWITCHES, .PT_SWITCH_REFUSED, .PT_CNT_CLR,
   .PD_EN, .PD_PROFILE, .PD_NUMBER, .PD_LOG_SYNC, .PD_LOG_ANNC, .PD_LOG_DREQ, .PD_ANNC_TMO, .PD_PRIO1, .PD_PRIO2,
   .PD_CLASS, .PD_GM_OK, .PD_HYBRID, .PD_LOCK_NS, .PD_STEP_NS, .PD_SERVO_EN, .PD_SERVO, .PD_SLAVE_PORT, .PD_INCR,
   .PD_OFFSET, .PD_THETA, .PD_MPD, .PD_GM_ID, .PD_UTC_OFFSET, .PD_STEPS, .PD_GM_CHANGES, .PP_DOM_EN, .PP_MASTER_OK,
   .PP_TS_POINT, .PP_TWO_STEP, .PP_ASYM_RX, .PP_ASYM_TX, .PP_STATE0, .PP_STATE1, .PP_COMP, .PP_RX_EVENTS,
   .PP_TX_EVENTS, .PP_TS_LOST, .PP_LOST_OVF, .PQ_COUNT, .PQ_LOST_COUNT, .PQ_HEAD_SEQ, .PQ_HEAD_TYPE, .PQ_HEAD_DOM,
   .PQ_HEAD_COMP, .PQ_HEAD_PTP]
  ++ [.PQ_HEAD_TS, .PQ_ACK, .PQ_LOST_SEQ, .PQ_LOST_TYPE, .PQ_LOST_ACK, .PP_CNT_CLR]

/-- The fields of block 0Dh. -/
def Fld.block13 : List Fld :=
  [.MV_EN, .MV_OUT_POS, .MV_BG_Y, .MV_BG_CB, .MV_BG_CR, .MV_STATE, .MV_TILES_LIVE, .MV_UNVERIFIED, .MV_SIG_AREA,
   .MV_HOLDS, .MV_NOSIGS, .MV_MISMATCHES, .MV_TAP_CLAMPS, .MV_CNT_CLR, .PX_KIND, .PX_POS, .PX_SCALE, .PX_STATE,
   .PX_MISS, .PX_W, .PX_H, .PX_FRAMES, .PX_MISSES, .PX_PEAT_UNCORR, .PX_CNT_CLR, .TL_EN, .TL_PX, .TL_VTAPS, .TL_HOLD,
   .TL_X, .TL_Y, .TL_W, .TL_H, .TL_TALLY, .TL_TALLY_GPI, .TL_BORDER, .TL_UMD_EN, .TL_UMD_TOP, .TL_UMD_SIZE,
   .TL_UMD_TEXT, .TL_METERS, .TL_METER_AD0, .TL_METER_AD1, .TL_METER_AD2, .TL_METER_AD3, .TL_METER_AD4, .TL_METER_AD5,
   .TL_METER_AD6, .TL_METER_AD7, .TL_METER_AD8, .TL_METER_AD9, .TL_METER_AD10, .TL_METER_AD11, .TL_METER_AD12,
   .TL_METER_AD13, .TL_METER_AD14, .TL_METER_AD15, .TL_STATE, .TL_HOLD_COUNT, .TL_VTAPS_EFF]
  ++ [.TL_UNVERIFIED, .TL_STALE, .TL_HOLDS, .TL_NOSIGS, .TL_CNT_CLR, .RG_EN, .RG_KIND, .RG_FORCE, .RG_TILE, .RG_CLEAR,
   .RG_X, .RG_Y, .RG_W, .RG_H, .RG_ACT, .RG_EXP, .RG_STATE, .RG_MISMATCHES, .RG_CNT_CLR, .EL_KIND, .EL_SIZE, .EL_X,
   .EL_Y, .EL_OFFSET_S, .EL_TEXT, .MV_PX_BASE, .MV_PX_BW, .MV_PX_RUNNING]

/-- The fields of block 0Eh. -/
def Fld.block14 : List Fld :=
  [.RD_ROLE, .RD_PREFERRED, .RD_UNPROT, .RD_PARTNER, .RD_STATE_PAIR, .RD_EPOCH, .RD_ACTIVE_NODE, .RD_FAB_POS,
   .RD_HOLD_S, .RD_START_WAIT_S, .RD_HEALTH, .RD_HEALTH_S, .RD_MISS_LK, .RD_MISS_FAB, .RD_LK_UP, .RD_PLANES,
   .RD_TAKEBACK, .RD_REARM, .RD_REVERT_BLOCKED, .RD_PARTNER_FAILS, .RD_TAKEOVERS, .RD_TAKEBACKS, .RD_PATH_WARNS,
   .RD_FENCES, .RD_STALE_RECORDS, .RD_LK_CRC_ERRS, .RD_CNT_CLR]

/-- The fields of block 0Fh. -/
def Fld.block15 : List Fld :=
  [.TC_UDP_PORT, .TC_IDLE_S, .TC_RESEND_MS, .TC_SESSIONS, .TC_AUTH_FAILS, .TC_TAG_FAILS, .TC_WRITE_REFUSED,
   .TC_CNT_CLR, .EP_MASK0, .EP_MASK1, .EP_LATCH, .EP_PINS, .EQ_COUNT, .EQ_HEAD, .EQ_ACK, .EQ_LOST, .GP_IN, .GP_POL,
   .GP_DEBOUNCE_US, .GP_OUT_LEVEL, .GP_OUT_NOW, .GP_PULSE_LINES, .GP_PULSE_SAMPLE, .GP_PULSE_US, .TS_STATE, .TS_PORT,
   .TS_CTRL_ID, .TS_PRIV, .TS_SEQ_RX, .TS_SEQ_TX, .TS_MSGS, .TS_RATE_REFUSED, .TS_DUPS, .TS_EVQ_FILL, .TS_EVQ_LOST,
   .ST_TALLY, .ST_TALLY_GPI]

/-- The fields of block 10h. -/
def Fld.block16 : List Fld :=
  [.SEC_STATE, .SEC_OWNER_SLOT, .SEC_TRANSFERS_LEFT, .SEC_DEBUG_OPEN, .SEC_TIME_UNCHECKED, .SEC_CLAIM_FAILS,
   .SEC_ID_DIGEST, .SEC_OWNER_DIGEST, .SEC_ROLLBACK_FW, .SEC_ROLLBACK_CFG, .SEC_RUN_FW_SVN, .SEC_RUN_CFG_SVN,
   .SEC_FABRIC_GEN, .SEC_INCARNATION, .SEC_ROUTER_START, .SEC_CLAIM_CODE, .SEC_CLAIM_LEN, .SEC_CLAIM_GO, .SEC_RELEASE,
   .SEC_CLAIM_CERT, .SEC_DEBUG_TOKEN, .SEC_ADMIT_OK, .SEC_ADMIT_REFUSED, .SEC_IMAGE_REJECTED, .SEC_CERT_REJECTED]

/-- The fields of block 11h. -/
def Fld.block17 : List Fld :=
  [.UP_STATE, .UP_SOURCE, .UP_HOLDER, .UP_CONTENT, .UP_LAST_RESULT, .UP_SET_ID, .UP_FW_BLOCKS, .UP_FW_TOTAL,
   .UP_CFG_BLOCKS, .UP_CFG_TOTAL, .UP_CONFIRM_S, .UP_HEALTH_S, .UP_LEFT_S, .UP_HEALTH, .UP_HEALTH_OK,
   .UP_RELAY_TARGETS, .UP_RELAY_STATE, .UP_BAD_BLOCKS, .UP_BUSY_REFUSED, .UP_CONFLICTS]

/-- The fields of block 12h. -/
def Fld.block18 : List Fld :=
  [.BM_AGE_CYC, .BM_TIMEOUT_CYC, .BM_ERR_VALID, .BM_ERR_RESP, .BM_ERR_CODE, .BM_ERR_MASTER, .BM_ERR_WRITE,
   .BM_ERR_STATUS, .BM_ERR_ADDR_LO, .BM_ERR_ADDR_HI, .BM_FILTER_BLOCKS, .BM_CNT_CLR, .BM_QOS, .BM_OUTSTANDING,
   .BM_ERRORS, .BM_TIMEOUTS, .BM_DRAINS]

/-- The fields of block 13h. -/
def Fld.block19 : List Fld :=
  [.PW_VIN, .PW_IIN, .PW_PIN, .PW_TCASE, .PW_TJ_MAX, .PW_STATE, .PW_VIN_OK, .PW_TCASE_WARN, .PW_PIN_WARN,
   .PW_PIN_PEAK, .PW_TRIPS, .PW_PG_LOSSES, .PW_CNT_CLR]

/-- The fields of block `b` (R12). -/
def Fld.ofBlock : Nat → List Fld
  | 0 => Fld.block0
  | 1 => Fld.block1
  | 2 => Fld.block2
  | 3 => Fld.block3
  | 4 => Fld.block4
  | 5 => Fld.block5
  | 6 => Fld.block6
  | 7 => Fld.block7
  | 8 => Fld.block8
  | 9 => Fld.block9
  | 10 => Fld.block10
  | 11 => Fld.block11
  | 12 => Fld.block12
  | 13 => Fld.block13
  | 14 => Fld.block14
  | 15 => Fld.block15
  | 16 => Fld.block16
  | 17 => Fld.block17
  | 18 => Fld.block18
  | 19 => Fld.block19
  | _ => []

/-- Every field. -/
def Fld.all : List Fld := (List.range 20).flatMap Fld.ofBlock

/-- The counters that a write of 1 to a CNT_CLR field clears; none for any other field. -/
def Fld.counters : Fld → List Fld
  | .VI_CNT_CLR => [.VI_FS_DROPS, .VI_FS_REPEATS, .VI_HOLDS, .VI_BAD_FRAMES, .VI_CRC_LINES, .VI_TRS_LOSSES,
      .VI_WINDOW_EXITS, .VI_ANC_CS_ERRS, .VI_AUD_PKT_ERRS, .VI_PEAT_UNCORR, .VI_ALIGN_CHANGES]
  | .FL_CNT_CLR => [.FL_CW_CORR, .FL_CW_UNCORR, .FL_CRC_ERRS, .FL_LATE_CELLS, .FL_CREDIT_OVERRUNS, .FL_FAILS,
      .FL_CTRL_GAPS]
  | .FAB_CNT_CLR => [.FAB_BLOCKED, .FAB_SINGLE_PLANE, .FAB_HANDOVERS, .FAB_RESTORES, .FAB_LOST_BOTH, .FAB_TAG_FAILS,
      .FAB_MODEL_DIVERGE]
  | .XS_CNT_CLR => [.XS_TAKES, .XS_UNTIMED_CNT, .XS_ALT_CELLS, .XS_FMT_CONFLICTS, .XS_IMMEDIATE_CNT]
  | .XP_CNT_CLR => [.XP_TAKES_ALL, .XP_UNTIMED_ALL]
  | .VO_CNT_CLR => [.VO_FRAMES, .VO_CHARCOAL_FRAMES, .VO_CHARCOAL_LINES, .VO_RATE_CHANGES, .VO_TIMING_CHANGES,
      .VO_TX_FAULTS]
  | .IP_CNT_CLR => [.IV_PKTS, .IV_ALT_PKTS, .IV_LATE_PKTS, .IV_LOST_BOTH, .IV_CHANGES, .OV_PKTS]
  | .IA_CNT_CLR => [.IA_PKTS, .IA_LATE_PKTS, .IA_LOST_BOTH]
  | .OA_CNT_CLR => [.OA_PKTS]
  | .MC_CNT_CLR => [.MC_RX_FRAMES, .MC_RX_FCS_ERRS, .MC_RX_LEN_ERRS, .MC_RX_FILTER_DROPS, .MC_RX_REASM_ERRS,
      .MC_RX_WAKE_DROPS, .MC_TX_FRAMES, .MC_TX_PREEMPTS, .MC_TX_GATE_WAITS, .MC_TX_GATE_DROPS, .MC_TX_SLEEP_DROPS,
      .MC_LINK_DOWNS, .MC_LPI_ENTRIES, .MC_WAKES, .MQ_FRAMES, .MQ_TRUNC, .MQ_NOBUF]
  | .AM_CNT_CLR => [.AD_SAT, .BUS_SAT, .AI_LATE, .AI_LOST, .AM_NODE_REFUSALS, .AM_NA_MUTES]
  | .FC_CNT_CLR => [.FC_OVERRUNS, .FC_SAT, .FC_PEAT_UNCORR]
  | .TD_CNT_CLR => [.TD_UNDERRUNS, .TD_OVERRUNS, .TD_GLITCHES, .TD_CLK_STOPS, .TD_RATE_CHANGES, .TD_ZC_TIMEOUTS,
      .TD_PARITY_ERRS, .TD_TRIG_MISSED]
  | .REF_CNT_CLR => [.REF_SWITCHES, .REF_NOMAJ_CNT, .REF_EMBER_ENTRIES, .REF_REALIGNS, .RE_LOSSES, .RE_DISQUALS,
      .RT_COUNT_SLIPS, .RD_LATE, .RD_REFUSED]
  | .PT_CNT_CLR => [.PT_SWITCHES, .PT_SWITCH_REFUSED, .PD_STEPS, .PD_GM_CHANGES, .PP_RX_EVENTS, .PP_TX_EVENTS,
      .PP_TS_LOST, .PP_LOST_OVF]
  | .PP_CNT_CLR => [.PP_RX_EVENTS, .PP_TX_EVENTS, .PP_TS_LOST, .PP_LOST_OVF]
  | .MV_CNT_CLR => [.MV_HOLDS, .MV_NOSIGS, .MV_MISMATCHES, .MV_TAP_CLAMPS]
  | .PX_CNT_CLR => [.PX_FRAMES, .PX_MISSES, .PX_PEAT_UNCORR]
  | .TL_CNT_CLR => [.TL_HOLDS, .TL_NOSIGS]
  | .RG_CNT_CLR => [.RG_MISMATCHES]
  | .RD_CNT_CLR => [.RD_TAKEOVERS, .RD_TAKEBACKS, .RD_PATH_WARNS, .RD_FENCES, .RD_STALE_RECORDS, .RD_LK_CRC_ERRS]
  | .TC_CNT_CLR => [.TC_AUTH_FAILS, .TC_TAG_FAILS, .TC_WRITE_REFUSED, .EQ_LOST, .TS_MSGS, .TS_RATE_REFUSED, .TS_DUPS,
      .TS_EVQ_LOST]
  | .BM_CNT_CLR => [.BM_FILTER_BLOCKS, .BM_ERRORS, .BM_TIMEOUTS, .BM_DRAINS]
  | .LN_CNT_CLR => [.LN_LOCK_LOSSES, .LN_HDR_ERRS, .LN_TX_FAULTS, .LN_PRBS_BITS_LO, .LN_PRBS_BITS_HI, .LN_PRBS_ERRS,
      .LN_INJ_COUNT]
  | .PW_CNT_CLR => [.PW_PIN_PEAK, .PW_TRIPS, .PW_PG_LOSSES]
  | _ => []

/-- The number of an event (R390): 48 times the block, plus its place in the block's list. -/
def Ev.num : Ev → Nat
  | .LINK_MISWIRED => 0 | .MANAGER_UNPROTECTED => 1 | .ORDER_GAP => 2 | .ORDER_LOST => 3
  | .ORDER_RESYNC_DONE => 4 | .ACTION_REFUSED_LATE => 5 | .TOPOLOGY_MISMATCH => 6 | .START_COMPLETE => 16
  | .FW_FALLBACK => 17 | .CONFIG_CLAMPED => 18 | .CLAMP_REPORT_FULL => 19 | .KINDLING_ENTERED => 20
  | .RESTRICTED_ENTERED => 21 | .NVM_FAULT => 22 | .LANE_RX_STATE => 48 | .LANE_TX_FAULT => 49
  | .LANE_TX_HELD => 50 | .LANE_TEST_ACTIVE => 51 | .EYE_SCAN_DONE => 52 | .QUAD_CLOCK_LOSS => 53
  | .INPUT_STATE_CHANGE => 96 | .FORMAT_MISMATCH => 97 | .VPID_CONFLICT => 98 | .QUAD_LINK_ORDER => 99
  | .QUAD_LINK_FAULT => 100 | .FS_DROP => 101 | .FS_REPEAT => 102 | .INPUT_HOLD => 103
  | .INPUT_NO_SOURCE => 104 | .LINE_WINDOW_EXIT => 105 | .ALIGN_CHANGE => 106 | .PEAT_UNCORRECTABLE => 107
  | .LINK_STATE_CHANGE => 144 | .LINK_DEGRADED => 145 | .LINK_FAILED => 146 | .LINK_HELD_DOWN => 147
  | .FAB_GUARANTEE_LOST => 148 | .PATH_BLOCKED => 149 | .PATH_SINGLE_PLANE => 150 | .CELLS_LOST_BOTH => 151
  | .SPORE_TAG_FAIL => 152 | .CREDIT_OVERRUN => 153 | .FAB_MODEL_DIVERGE => 154 | .TAKE_UNTIMED => 192
  | .TAKE_FORMAT_CONFLICT => 193 | .PLANE_ALTERNATE => 194 | .LOCK_CHANGE => 195 | .START_SALVO_REFUSED => 196
  | .OUTPUT_CHARCOAL => 240 | .OUTPUT_IF_CONFLICT => 241 | .OUTPUT_RATE_CHANGE => 242 | .OUTPUT_TIMING_CHANGE => 243
  | .EMB_GROUP_DROPPED => 244 | .OUTPUT_STATE_CHANGE => 245 | .IP_FLOW_CHANGE => 288 | .IP_JOIN_TIMEOUT => 289
  | .IP_LEG_DOWN => 290 | .IP_LEG_UP => 291 | .IP_MERGE_SKEW => 292 | .IP_LOST_BOTH => 293
  | .MAC_LINK_CHANGE => 336 | .MAC_PREEMPT_FAIL => 337 | .MAC_GATE_STARVED => 338 | .MAC_RX_TRUNC => 339
  | .MAC_RX_NOBUF => 340 | .MAC_WAKE => 341 | .AUDIO_NODES_FULL => 384 | .AUDIO_SATURATION => 385
  | .AUDIO_NONAUDIO_MUTE => 386 | .AUDIO_BUNDLE_LOST => 387 | .FERN_STATE_CHANGE => 432 | .FERN_FAULT => 433
  | .FERN_OVERRUN => 434 | .FERN_SATURATION => 435 | .FERN_PEAT_UNCORR => 436 | .TDM_STATE_CHANGE => 480
  | .TDM_ZC_TIMEOUT => 481 | .TDM_TRIGGER_MISSED => 482 | .TDM_TRIGGER_LATE => 483 | .TDM_SLIP => 484
  | .TDM_CLOCK_STOP => 485 | .TDM_GLITCH => 486 | .TDM_CLOCK_RATE => 487 | .ACTION_LATE => 528
  | .FRAME_COUNT_SLIP => 529 | .DOMAIN_STATE_CHANGE => 530 | .REF_ENTRY_STATE => 531 | .REF_DRIFT => 532
  | .REF_SWITCH => 533 | .REF_NO_MAJORITY => 534 | .REF_LOCAL_SELECTED => 535 | .REF_EMBER => 536
  | .REF_10M_LOSS => 537 | .REALIGN_DONE => 538 | .PTP_SERVO_STATE => 576 | .PTP_STEP => 577
  | .PTP_GM_CHANGE => 578 | .PTP_PORT_STATE => 579 | .PTP_ACTIVE_SWITCH => 580 | .PTP_SWITCH_REFUSED => 581
  | .PTP_TS_LOST => 582 | .MOSS_HEAD_STATE => 624 | .MOSS_PROXY_MISSING => 625 | .MOSS_TAP_CLAMP => 626
  | .MOSS_TILE_HOLD => 627 | .MOSS_TILE_NO_SIGNAL => 628 | .MOSS_SIG_MISMATCH => 629 | .MOSS_UNVERIFIED => 630
  | .REDUND_STATE_CHANGE => 672 | .REDUND_PATH_LOST => 673 | .REDUND_PATH_RESTORED => 674 | .REDUND_FENCED => 675
  | .REDUND_REVERT_BLOCKED => 676 | .REDUND_PLANE_LOST => 677 | .ACTIONS_SUPERSEDED => 678 | .SESSION_OPEN => 720
  | .SESSION_CLOSED => 721 | .SESSION_AUTH_FAIL => 722 | .SESSION_RATE_LIMIT => 723 | .EVENT_QUEUE_OVERFLOW => 724
  | .WRITE_REFUSED => 725 | .GPI_CHANGE => 726 | .SEC_CLAIMED => 768 | .SEC_CLAIM_LOCKED => 769
  | .SEC_CERT_REJECTED => 770 | .SEC_IMAGE_REJECTED => 771 | .SEC_ROLLBACK_REFUSED => 772 | .SEC_FUSE_BURNED => 773
  | .SEC_ADMIT_REFUSED => 774 | .SEC_DEBUG_UNLOCKED => 775 | .UPDATE_OPENED => 816 | .UPDATE_VERIFIED => 817
  | .UPDATE_ACTIVATED => 818 | .UPDATE_CONFIRMED => 819 | .UPDATE_FALLBACK => 820 | .UPDATE_CONFLICT => 821
  | .BUS_ERROR => 864 | .BUS_FILTER_BLOCK => 865 | .BUS_TIMEOUT => 866 | .BUS_MASTER_DRAIN => 867
  | .PWR_VIN_LOW => 912 | .PWR_VIN_HIGH => 913 | .PWR_TEMP_WARN => 914 | .PWR_TEMP_HIGH => 915
  | .PWR_TEMP_LOW => 916 | .PWR_POWER_HIGH => 917 | .PWR_TRIP_RECOVERED => 918

/-- The code of a status (R384, R432, R454, R468). -/
def Status.code : Status → Nat
  | .ACCEPTED => 0x0000 | .CLAMPED => 0x0001 | .REFUSED => 0x0010 | .READONLY => 0x0011
  | .ROLE_IDLE => 0x0012 | .NOT_MANAGER => 0x0013 | .NO_SUCH_OBJECT => 0x0014 | .BAD_ALIGN => 0x0015
  | .TOO_LONG => 0x0016 | .BUSY => 0x0017 | .IN_USE => 0x0018 | .EMPTY => 0x0019
  | .NOT_SUPPORTED => 0x001A | .NO_PRIVILEGE => 0x001B | .RATE_LIMIT => 0x001C | .BAD_MESSAGE => 0x001D
  | .NOT_AUTHORISED => 0x001E | .SESSIONS_FULL => 0x001F | .NO_SUCH_KIND => 0x0020 | .BAD_STAMP => 0x0040
  | .DOMAIN_OFF => 0x0041 | .DOMAIN_NOT_READY => 0x0042 | .STAMP_PAST => 0x0043 | .HORIZON => 0x0044
  | .STAMP_ORDER => 0x0045 | .SCHED_FULL => 0x0046 | .SALVO_TOO_LARGE => 0x0060 | .NO_SUCH_OUTPUT => 0x0061
  | .NO_SUCH_INPUT => 0x0062 | .QUAD_MEMBER => 0x0063 | .QUAD_MISMATCH => 0x0064 | .DUP_DEST => 0x0065
  | .LOCKED => 0x0066 | .PROTECTED => 0x0067 | .FORMAT_CONFLICT => 0x0068 | .BLOCKED => 0x0069
  | .LINK_BUSY => 0x006A | .NO_BUFFER => 0x0080 | .IP_OUTPUT => 0x0081 | .NOT_IP => 0x0082
  | .RATE_CONFLICT => 0x0083 | .BANDWIDTH => 0x0084 | .AUDIO_CHANNELS => 0x0085 | .PACKET_SIZE => 0x0086
  | .BAD_RANGE => 0x0087 | .BAD_ADDRESS => 0x0088 | .NO_MAC => 0x00A0 | .GATE_SUM => 0x00A1
  | .GATE_CYCLE => 0x00A2 | .GATE_OFFSET => 0x00A3 | .GATE_MEDIA => 0x00A4 | .AUDIO_TOO_LARGE => 0x00C0
  | .NO_SUCH_SOURCE => 0x00C1 | .NO_SUCH_DEST => 0x00C2 | .BAD_OP => 0x00C3 | .BAD_TRANSP => 0x00C4
  | .BUS_FULL => 0x00C5 | .BUS_LOOP => 0x00C6 | .BUS_DEPTH => 0x00C7 | .NODES_FULL => 0x00C8
  | .AUDIO_NO_SLOT => 0x00C9 | .AUDIO_FABRIC_FULL => 0x00CA | .NO_PATH => 0x00CB | .CORE_RUNNING => 0x00E0
  | .BAD_LENGTH => 0x00E1 | .PORT_RUNNING => 0x00E2 | .FRAME_FIT => 0x00E3 | .BCLK_RATE => 0x00E4
  | .BAD_RATE => 0x00E5 | .BAD_FORMAT => 0x00E6 | .TRIGGER_PAST => 0x00E7 | .NO_REFERENCE => 0x0100
  | .REALIGN_RANGE => 0x0101 | .NOT_SDI => 0x0102 | .SERVO_OWNED => 0x0103 | .DUP_DOMAIN => 0x0104
  | .SIG_AREA => 0x0120 | .NO_SUCH_TILE => 0x0121 | .NOT_CLAIMED => 0x0200 | .CLAIM_CODE => 0x0201
  | .CLAIM_LOCKED => 0x0202 | .ALREADY_CLAIMED => 0x0203 | .NO_RELEASE => 0x0204 | .TRANSFER_EXHAUSTED => 0x0205
  | .CERT_CHAIN => 0x0206 | .CERT_REVOKED => 0x0207 | .CERT_EXPIRED => 0x0208 | .BAD_SIGNATURE => 0x0209
  | .ROLLBACK => 0x020A | .NOT_FOR_MODULE => 0x020B | .NO_IMAGE => 0x0220 | .IMAGE_TOO_LARGE => 0x0221
  | .IMAGE_FORMAT => 0x0222 | .SET_MISMATCH => 0x0223 | .SET_UNTESTED => 0x0224 | .PEER_UNTESTED => 0x0225
  | .NVM_FAULT => 0x0226 | .CONFLICT => 0x0240 | .ALREADY_PRESENT => 0x0241 | .BAD_BLOCK => 0x0242
  | .INCOMPLETE => 0x0243 | .NOT_OPEN => 0x0244 | .NOT_UNCONFIRMED => 0x0245 | .HEALTH_PENDING => 0x0246
  | .WINDOW_EXPIRED => 0x0247 | .RELAY_TARGET => 0x0248

end Sys2Proof.Machine
end

