-- ==== Sys2Proof/Machine/Store.lean ====
section
/-! DEFINITION. Sparse stores: lists of key and value pairs with strictly rising keys. Registers, the internal
quantities, the timers, the memories and the router model of the manager are all held in such lists. -/
set_option Elab.async false
namespace Sys2Proof.Machine

/-- A sparse map from natural keys, as a list with strictly rising keys. -/
abbrev SMap (α : Type) := List (Nat × α)

/-- The value listed at `k`, if any. -/
def SMap.find {α : Type} (k : Nat) : SMap α → Option α
  | [] => none
  | (k', v) :: m => if k = k' then some v else SMap.find k m

/-- The store with `v` listed at `k`. -/
def SMap.ins {α : Type} (k : Nat) (v : α) : SMap α → SMap α
  | [] => [(k, v)]
  | (k', v') :: m => if k < k' then (k, v) :: (k', v') :: m else if k = k' then (k, v) :: m else (k', v') :: SMap.ins k v m

/-- The store with nothing listed at `k`. -/
def SMap.del {α : Type} (k : Nat) : SMap α → SMap α
  | [] => []
  | (k', v') :: m => if k = k' then m else (k', v') :: SMap.del k m

/-- The store after a write of `v` at `k`, where an unlisted `k` reads as `d`: the default is never listed. -/
def SMap.put {α : Type} [DecidableEq α] (d : α) (k : Nat) (v : α) (m : SMap α) : SMap α :=
  if v = d then m.del k else m.ins k v

/-- The value at `k`, where an unlisted `k` reads as `d`. -/
def SMap.get {α : Type} (d : α) (k : Nat) (m : SMap α) : α := (m.find k).getD d

/-- Every key of the store lies above `b`. -/
def SMap.above {α : Type} (b : Nat) : SMap α → Bool
  | [] => true
  | (k, _) :: m => decide (b < k) && SMap.above b m

/-- The keys rise strictly. -/
def SMap.sorted {α : Type} : SMap α → Bool
  | [] => true
  | (k, _) :: m => SMap.above k m && SMap.sorted m

/-- No entry equals the value `d` that an unlisted key reads as. -/
def SMap.lean {α : Type} [DecidableEq α] (d : α) : SMap α → Bool
  | [] => true
  | (_, v) :: m => decide (v ≠ d) && SMap.lean d m

end Sys2Proof.Machine
end

