-- ==== Sys2Proof/Machine/State.lean ====
section
/-! DEFINITION. The state of one PLX-256 module as plain data: the registers of the object map, the quantities and timers
the spec names without giving them a register, the byte memories of the 40-bit bus, the typed queues, the manager's model of
the router, what has left the module, and the queue of waiting commands. -/
set_option Elab.async false
namespace Sys2Proof.Machine

/-- Quantities that the rules name and no object-map field holds; each is an integer, with up to two indexes. -/
inductive Qty where
  -- time (02_raster_time.md)
  | houseOff | fabCountSeen | slipPending | slipCount
  -- events and Trarad (16_trarad_control.md)
  | evSerial | gpiRaised | pulseOn
  -- order stream (01, 15, 18, 19)
  | msgCounter | msgRx | routerStart | ordHeld
  -- start and module (18, 19, 20, 22)
  | powerGood | vinOk | railsOk | tripped
  -- video inputs (03)
  | viHold | viFrameLast | viReadP | viSame | viLastFmt | viLastOk | viPsi | viAlignCnt | viDelay | viSyncCnt | viPpm
  | viDropAcc | viRepAcc | viDropAt | viRepAt | viSkew | viLink | viUnsup | viPhasePrev | viOther | viSquare | viClash | viHeldStd | viHeldFmt
  | viReadStart | picFrame
  -- video outputs (06)
  | voIfChange | voChFrame | voStdStream | voFmtStream | voTimed | voVpidIn | voTransp
  | voFrameAt | voStdAt | voVpidAt | voBits | voFresh
  -- takes and fabric (04, 05)
  | xsAltSince | xsAltAt | lostBothAt | flFailAt | flFreedCtrl | flFreedAud
  | flTxCtrl | flTxAud | flRxCtrl | flRxAud | flCtrlSeq | flCtrlSeqRx | flCalPos | flNewCtrl | flNewAud | flFreeAt
  | flGood | flBad | flUncSince | flFarPR | flChFar | fwFs | fwAt | fwSent | audSent | rxFs | rxAt | seqTx | fwdFrom | pairEpoch | pairSince | admitMine | admitFar
  -- redundancy (15)
  | beatFab | beatLk | healthSince | failAt | lkRun | lkBad | partnerState | managerEpoch | managerNode | mgrBeatAt
  | pendingTakeback | mgrLost
  -- serial lanes (21)
  | lnRateTry | lnRateHeld | lnEventAt | lnTxFaultAt | planesSeen
  -- IP (07)
  | ivLegLast | ivLegSince | ivLostAt | ivSkewAt | ivSkewMax | ivSeqNext | ivDone | ovSeq | oaSeq | ovFrame | ovPkt | ovShape | ovAnc | oaNext
  -- MAC (08)
  | mcDraining | mcVerifyN | glStart | glCycle | glCount | glInt | glGates | mcTxEnd | mcTxExpress | mcExprEnd | mcTxCut | mqNobufAt | mqTruncAt
  | mcStarvedAt | mcQuerier
  -- audio (09)
  | auSrc | auCs | auDst | auDstCs | auMm | auBus | auMuted | auScaleFrom | auScaleTo | auScaleAt | auSatAt | auMuteAt | auLostAt
  | auSt337At | auCsPos | auCsBit | auRelease | auImpFrom | auLeg | auTxLink | auRxLink
  -- Fern (10)
  | fcX | fcY | fcAcc | fcPc | fcSlot | fcBundle | fcWb | fcIdle | fcHalt | fcCycles | fcCtl | fcFresh | fcNew
  | fcRestartReq | fcEntry | fcSize | fcShBase | fcShLen | fcIn | fcOut | fcOutLast | fcFade | fcOverAt | fcSatAt | fcUncAt
  | fcTapDelay | fcTapLine | fcTapEn | fcJump
  -- TDM (11)
  | tdFrame | tdStopAt | tdMask | tdMaskAt | tdCh | tdLevel | tdPrev | tdZcAt | tdSlipAt | tdGlitchAt | tdSyncRun | tdFadeAt | tdFsPrev
  -- reference and PTP (12, 13)
  | rePresent | refTarget | refAcc | refEntered | refC | refJust | refLocal | slewDelta | slewRef | slewStart | slewRate | slewPeak | poUse | poAt | poLast | rdFrameAt | reTolUse | reQualUse
  | ptCount | adjAt | adjFrom | adjSlew | todLast | pdGood | pdBad | pdFirst | pdHadLock | pdMpdSum | pdMpdN
  | pdSyncT1 | pdSyncT2 | pdSyncSeq | pdReqT3 | pdReqSeq | pdNext | ppSeqSync | ppSeqReq | ppTsLostAt
  -- Moss (14)
  | tlPx | tlClamp | tlSize | rgHold | rgAt | rgCrc | mtLevel | pxDone | pxPend | pxUse
  -- bus (17)
  | bmReset | bmRound | remapNext
  -- update (20)
  | upSends | upVerified | upFallback
  -- electrical (22)
  | pwStatus | pwPowerAt | pwComm
  | pinNid | vinUp | vinLowAt | vinHighAt | tripReport
  -- start, security, sessions (16, 18, 19)
  | reportOwn | claimDone | partSeq | salvoWait | joinCount
  -- redundancy, further (15)
  | lkEnd | partnerHeld | beatPlane | healthRun
  -- update, further (20)
  | relayCmd | relayNext | relayStatus | relayReply | upConflict
  -- bus, further (17)
  | bmErrAt | bmResetAt
  -- fabric, further (04): the planes in which the path of an output has broken (R110)
  | broken
  -- start (19): a field that R37 or R40 makes fatal has been refused
  | fatal
  deriving DecidableEq, Repr

/-- Timers that the rules name: each holds the moment, in ps since power-on, at which it expires; absent means not running. -/
inductive Tmr where
  | sessConfirm | sessIdle | msgPart | eventResend | gap | replay | joinSend | listen | fence | standbyResend | restart
  | lnAcquire | lnResume | flHold | flNew | flAdmit | lkComma
  | ivLeg | ivJoin | mcWake | mcDrain | mcVerify | refStart | refHold | reQual | ptAnnounce
  | gpoEnd | tdZc | updLock | updHealth | updWindow | relay | trip | tripOut | busTimeout
  deriving DecidableEq, Repr

/-- An event record (R391). -/
structure EvRec where
  ev : Nat
  node : Nat
  inst : Nat
  serial : Nat
  param : Nat
  timeS : Nat
  timeNs : Nat
  deriving DecidableEq, Repr

/-- An ANSWER (R383). `flags` holds UNPROTECTED, REPEAT, ASRC and DATA in bits 0 to 3, and PREVIOUS is part of the data. -/
structure Answer where
  sess : Nat
  seq : Nat
  status : Nat
  index : Nat
  order : Nat
  flags : Nat
  stamp : Nat
  active : Nat
  data : List Nat
  deriving DecidableEq, Repr

/-- A session slot in use (R375 to R380, R392). -/
structure Session where
  slot : Nat
  port : Nat
  claim : Bool
  /-- Bucket of R378 in picoseconds of refill, 50,000,000 a token, and the moment at which it was last brought up to date. -/
  bucket : Nat
  bucketAt : Nat
  rateRaisedAt : Nat
  rateRaised : Bool
  /-- Sequence numbers accepted among the 64 below the highest (R380). -/
  seen : List Nat
  /-- The last 64 answers (R380). -/
  answers : List Answer
  mask : Nat
  queue : List EvRec
  /-- The unacknowledged EVENT: its SEQ and how many records it holds. -/
  unacked : Option (Nat × Nat)
  /-- Records lost since the last EVENT_QUEUE_OVERFLOW entry, and the SERIAL of the last of them. -/
  lost : Nat
  lostSerial : Nat
  deriving DecidableEq, Repr

/-- Where in its frame an action executes (R59). -/
inductive Pt where
  | frameStart
  | switchLine
  | line (l s : Nat)
  | lineBoundary
  deriving DecidableEq, Repr

/-- What an applied action does at this module. -/
inductive Item where
  /-- A take of a local output (R97): source, BLACK, RESTORE, and the body Spore. -/
  | take (out src : Nat) (black restore : Bool) (spore : Nat)
  /-- This module's part of a path (R107, R108): the body Spore, and whether a handover moves it. -/
  | path (spore : Nat)
  | lock (out mode holder : Nat)
  /-- The words of an ordered WRITE (R385). -/
  | words (addr : Nat) (data : List Nat)
  | audio (entries : List AudEntry)
  | realign (mode : Nat) (delta : Int)
  /-- A state image waiting for its stamp (R34). -/
  | image
  deriving DecidableEq, Repr

/-- A pending action (R51): applied in order and not yet executed. `at_` is its execution point in house time, ps; `moved`
counts the frames of the stamp's domain by which R53 or R55 moved it, `shift` the frames of the destination's own domain by which the second
case of R58 moved it. -/
structure Pend where
  order : Nat
  kind : Nat
  stamp : Stamp
  dom : Nat
  frame : Nat
  pt : Pt
  at_ : Nat
  moved : Nat
  shift : Nat
  item : Item
  deriving DecidableEq, Repr

/-- An action as the active manager or its standby holds it (R29): the whole body, before it is cut into each node's record. -/
structure Action where
  order : Nat
  kind : Nat
  stamp : Stamp
  /-- For kinds addressed to one node (AUDIO, WRITE): that node; 64 otherwise. -/
  node : Nat
  body : List Nat
  deriving DecidableEq, Repr

/-- An action that waits for the standby's ACK, with the answer that waits with it (R27, R363). -/
structure Held where
  order : Nat
  ans : Option Answer
  deriving DecidableEq, Repr

/-- A router output in the manager's model: the state that stands after every action ordered so far (R25). -/
structure OutView where
  src : Nat
  black : Bool
  lock : Nat
  holder : Nat
  local_ : Bool
  planes : Nat
  deriving DecidableEq, Repr

/-- An ordered action that the manager's model holds as not yet executed on an object (R51, R52): the node and the object (0 where the
action only touches the node), the start of the frame in which it executes and its point there (house time, ps), and, for an output, the
body Spore of what stood before it. -/
structure Sched where
  order : Nat
  node : Nat
  obj : Nat
  at_ : Nat
  point : Nat
  prev : Nat
  deriving DecidableEq, Repr

/-- A write to a shadowed field that waits for its frame start (R9). -/
structure Shadow where
  fld : Fld
  i : Nat
  j : Nat
  v : Nat
  dom : Nat
  /-- Not before this house time, ps: for a direct write the picosecond after it completes (R9), 0 for an ordered one, which completes before its
  frame start (R59). -/
  from_ : Nat
  deriving DecidableEq, Repr

/-- An entry of the clamp report (R447). -/
structure ClampEnt where
  addr : Nat
  lsb : Nat
  width : Nat
  kind : Nat
  status : Nat
  image : Nat
  stored : Nat
  record : Nat
  deriving DecidableEq, Repr

/-- A state image being received (R34). -/
structure ImgBuf where
  k : Nat
  stamp : Stamp
  objs : List ImgObj
  complete : Bool
  deriving DecidableEq, Repr

/-- Audio packets in a line's HANC (R155): the carrying group, and for each sample period its four channels with their V, U, C and block-start
bits. -/
structure AudPkt where
  group : Nat
  smps : List (List (Int × Nat))
  deriving DecidableEq, Repr

/-- A line of an SDI output, between its TRS, line number and line CRC, which are correct for its interface (R150): the words, the ST 352
packet inserted in it, its audio packets. -/
structure OutLine where
  words : List Nat
  vpid : Option Nat
  audio : List AudPkt
  deriving DecidableEq, Repr

/-- A media packet as it leaves (R174 to R179): kind (0 -20, 1 -40, 2 audio), index, leg; its MAC, addresses, tagging and marking; the RTP fields; the
schedule type; a -20 packet's raster line, first word and words; a -40 packet's ancillary packets by line, DID first; an audio packet's samples. -/
structure Media where
  kind : Nat
  index : Nat
  leg : Nat
  mac : Nat
  group : Nat
  udp : Nat
  vlan : Nat
  pcp : Nat
  dscp : Nat
  ttl : Nat
  pt : Nat
  ssrc : Nat
  seq : Nat
  ts : Nat
  marker : Bool
  shape : Nat
  line : Nat
  off : Nat
  words : List Nat
  anc : List (Nat × List Nat)
  smps : List (List (Int × Nat))
  deriving DecidableEq, Repr

/-- A copy that has been written (R168): its sequence number, where its words stand in the raster (an audio packet: its timestamp), its leg and its
arrival. -/
structure RtpPkt where
  seq : Nat
  line : Nat
  off : Nat
  words : List Nat
  leg : Nat
  at_ : Nat
  deriving DecidableEq, Repr

/-- A frame of a receive flow whose words are not all read (R165 to R168): its position (1,000 and more: an audio flow's packets), its RTP
timestamp or frame count, its start(f), its number in the frame store (0 until its end) and the domain frame in which it ended, the sequence
numbers of its first and last packet where known, the copies written, the companion's packets. -/
structure RtpFrame where
  pos : Nat
  key : Nat
  start : Nat
  idx : Nat
  endF : Nat
  first : Option Nat
  last : Option Nat
  pkts : List RtpPkt
  ancSeqs : List Nat
  anc : List AncIn
  deriving DecidableEq, Repr

/-- Spores that wait for a fabric link (R91, R94): the class, 0 urgent chain, 1 link-local, 2 normal chain, 3 control cells; for what another link
brings, one more than that link, or than twice it and its chain, else 0; how many Spores are still to come; target and sender; whether its head has gone. -/
structure TxRec where
  link : Nat
  cls : Nat
  from_ : Nat
  left : Nat
  target : Nat
  sender : Nat
  begun : Bool
  spores : List Nat
  deriving DecidableEq, Repr

/-- A record that comes in on a link (R94, R98): its class as in `TxRec`, a control cell's sender, the Spores so far, and whether they go on to another
link. -/
structure RxRec where
  link : Nat
  cls : Nat
  sender : Nat
  hop : Bool
  got : List Nat
  deriving DecidableEq, Repr

/-- A received media cell that a centre forwards on a link (R99, R109): the moment at which its frame opened, its place in that frame. -/
structure FwdCell where
  link : Nat
  cls : Nat
  stream : Nat
  seq : Nat
  fs : Bool
  at_ : Nat
  idx : Nat
  payload : Nat
  deriving DecidableEq, Repr

/-- A plane's copy of a video cell at its destination edge module (R103, R105). -/
structure CellCopy where
  src : Nat
  plane : Nat
  seq : Nat
  idx : Nat
  payload : Nat
  deriving DecidableEq, Repr

/-- A frame for the Lichen link (R359): an urgent record or its ACK, or another; its Spores. -/
structure LkFrame where
  urgent : Bool
  spores : List Nat
  deriving DecidableEq, Repr

/-- What leaves the module, oldest first (log 5). -/
inductive Sent where
  | answer (a : Answer)
  | openAck (sess : Nat)
  | openRefused (port status : Nat)
  | event (sess seq : Nat) (recs : List EvRec)
  /-- A record given to its route on the fabric (`lichen` false), whose cells then carry its Spores, or to the Lichen link. -/
  | record (lichen : Bool) (r : Rec)
  /-- A frame that begins on the Lichen link (R359): its Spores and its CRC-32C. -/
  | lichen (spores : List Nat) (crc : Nat)
  /-- The code group K28.1, which cuts the frame in progress (R399). -/
  | lichenCut
  | image (target k : Nat) (stamp : Stamp) (objs : List ImgObj)
  /-- The copy of a state image for `target`, which goes to the standby before it (R362). -/
  | imageCopy (target k : Nat) (stamp : Stamp) (objs : List ImgObj)
  /-- A JOIN (R427, R449), on the Lichen link or the fabric. -/
  | join (lichen : Bool) (target setId digest : Nat)
  /-- A worker's request for resynchronisation (R33); the spec gives no layout. -/
  | resyncReq (target : Nat)
  | occupancy (target applied digest openLinks : Nat)
  | frameCount (count : Nat)
  | joinAnswer (node : Nat) (a : JoinAns)
  | claimAnswer (sess status : Nat)
  /-- A cell on a fabric link. -/
  | cell (link : Nat) (c : Cell)
  | linkStatus (link node index plane role : Nat)
  | credit (link ctrl aud : Nat)
  /-- An admission message: link, step (1 CHALLENGE to 4 RESULT), reason. -/
  | admission (link step reason : Nat)
  | packet (m : Media)
  /-- A membership report (R171): 0 joins, 1 leaves; the group, the MAC, the source (0 any), the IGMP or MLD version (R161). -/
  | igmp (kind group port source version : Nat)
  /-- An Ethernet frame: port, class, octets, express. -/
  | frame (port cls octets : Nat) (express : Bool)
  | lpi (port : Nat)
  /-- What the transmitter of a port sends from now on while it is DOWN (R187): the remote fault sequence, or /C/ ordered sets. -/
  | downSends (port : Nat) (remoteFault : Bool)
  /-- A receive descriptor returned to firmware (R201): port, queue, bytes, SOF, EOF, TRUNC, FCS_OK, the filter's index, bits [79:16]
  of the counter value at the time-stamp point, COMP. -/
  | desc (port queue bytes : Nat) (sof eof trunc fcsOk : Bool) (filter stamp : Nat) (comp : Bool)
  /-- A verify message of IEEE 802.3br, or the response to one. -/
  | verify (port : Nat) (response : Bool)
  /-- A PTP message: port, domain index, message type, sequence id, the time it carries in units of 2^-16 ns, and the clockIdentity it goes to by
  unicast, none for multicast. -/
  | ptp (port dom type seq : Nat) (time : Int) (dest : Option Nat)
  /-- An Announce: port, domain index, the data set announced; the timeSource of the module's own, the parent's otherwise. -/
  | announce (port dom prio1 cls acc var prio2 gm steps utc : Nat) (timeSource : Option Nat)
  /-- The answer to a PTP management message: NOT_SUPPORTED, or a data set. -/
  | ptpMgmt (port dom id : Nat) (data : Option (List Nat))
  /-- A pulse on FPO0 or FPO1: output and width in us. -/
  | pulse (out width : Nat)
  /-- A PMBus answer: command code and bytes. -/
  | pmbus (cmd : Nat) (bytes : List Nat)
  | pmbusNack (cmd : Nat)
  /-- A bus answer: master, identifier, code (0 DONE, 1 REJECT, 2 UNMAPPED), status, data by beat. -/
  | bus (master id code status : Nat) (data : List Nat)
  /-- A TDM frame (R269): port; of a master, the level and the bit clocks of its frame sync; whether sync and data change on the rising edge; data out
  by bit clock, none where it is high-impedance. -/
  | tdm (port : Nat) (sync : Option (Bool × Nat)) (rise : Bool) (data : List (Option Bool))
  | relay (node subtype : Nat) (args : List Nat)
  /-- The report of a direct write (R11): its address, its status, the values stored or kept. -/
  | written (addr status : Nat) (stored : List Nat)
  /-- An SDI output has sent a frame (R150 to R158): output, frame count, interface, the five-frame audio sequence position at a 1/1.001 rate,
  its lines. -/
  | video (out frame std : Nat) (five : Option Nat) (lines : List OutLine)
  /-- The refusal of a late action, passed to the session that sent it (R30): session, order number. -/
  | refusal (sess order : Nat)
  deriving DecidableEq, Repr

/-- A core's landing load (R242): the bundle number at which it lands, the register, the value. -/
structure Landing where
  core : Nat
  at_ : Nat
  reg : Nat
  v : Nat
  deriving DecidableEq, Repr

/-- A loop of a Fern core (R249, R251). -/
structure FLoop where
  core : Nat
  start : Nat
  stop : Nat
  left : Nat
  /-- A rotating loop: its count, its stages, its rotation step and the pass it is in. -/
  rot : Bool
  total : Nat
  stages : Nat
  step : Nat
  pass : Nat
  deriving DecidableEq, Repr

/-- A result of a multiply slot that waits for the end of its bundle (R242): an accumulator and its value. -/
structure Staged where
  core : Nat
  acc : Nat
  v : Int
  deriving DecidableEq, Repr

/-- An entry of a port's two-step queue, or of its lost list (R326, R327): `ts` in the layout of R310; `ptp` false marks a frame
that firmware marked. -/
structure TsEnt where
  port : Nat
  type : Nat
  seq : Nat
  dom : Nat
  ts : Nat
  comp : Bool
  ptp : Bool
  deriving DecidableEq, Repr

/-- A foreign master heard on a port (R315, IEEE 1588-2019): its data set, and when its last two Announce messages came. -/
structure Foreign where
  dom : Nat
  port : Nat
  sender : Nat
  prio1 : Nat
  cls : Nat
  acc : Nat
  var : Nat
  prio2 : Nat
  gm : Nat
  steps : Nat
  utc : Nat
  last : Nat
  prev : Nat
  deriving DecidableEq, Repr

/-- A bus burst accepted and not yet answered (R404, R405, R408): its beats as (bytes, byte enables) where it writes, whether it is
granted, from when, and how many of its beats have been delivered. -/
structure Burst where
  master : Nat
  id : Nat
  qos : Nat
  write : Bool
  addr : Nat
  len : Nat
  beats : List (Nat × Nat)
  granted : Bool
  since : Nat
  done : Nat
  deriving DecidableEq, Repr

/-- A receive flow (R171 to R173): a position's (`aud` false) or an audio flow, the values of the target delivered and of the target that
waits (empty: none), whether the waiting one has qualified, the target whose groups are still to be left, and from when (house time,
ps), the change-over point C of the target delivered, and how many change-overs there have been. -/
structure IpFlow where
  aud : Bool
  idx : Nat
  cur : List Nat
  want : List Nat
  qualified : Bool
  leaving : List Nat
  leaveAt : Nat
  since : Nat
  gen : Nat
  deriving DecidableEq, Repr

/-- A frame that waits in a port's transmit classes (R188, R193): its class, its length in octets with FCS, and whether it has
been counted as waiting for its gate. -/
structure TxFrame where
  port : Nat
  cls : Nat
  octets : Nat
  waited : Bool
  deriving DecidableEq, Repr

/-- A TDM trigger that is armed (R281). -/
structure Trig where
  order : Nat
  ports : Nat
  op : Nat
  kind : Nat
  at_ : Nat
  deriving DecidableEq, Repr

/-- A present node of the audio matrix (R217, R224): destination (bus b is 8192 + b), source, gain code, phase, ramp length and
the TRANSP bit; the coefficient at the start of its ramp, the target, the ramp's first sample and its length in force; whether it
leaves when the ramp ends; and, for a conference bus, the peak in the block and the sample up to which it counts as active
(R227). -/
structure ANode where
  dst : Nat
  src : Nat
  gain : Nat
  inv : Bool
  ramp : Nat
  transp : Bool
  k0 : Int
  k1 : Int
  st : Nat
  len : Nat
  leaving : Bool
  peak : Nat
  activeTill : Nat
  deriving DecidableEq, Repr

/-- An entry of an audio action that waits for its first sample (R223). -/
structure AChange where
  at_ : Nat
  entry : Nat
  deriving DecidableEq, Repr

/-- The cross-fade of a destination's mix-minus term (R228): what AD_MM_EN, AD_MM_BUS and AD_MM_AS held before, and the sample
from which the new values count. -/
structure MmFade where
  dst : Nat
  en : Bool
  bus : Nat
  src : Nat
  start : Nat
  deriving DecidableEq, Repr

/-- A bundle cell accepted for an import slot (R215): the first sample's index at the import source, and the 16 channels of each
sample period, as samples and their V, U, C and block-start bits. -/
structure ImpCell where
  slot : Nat
  idx : Nat
  smps : List (List (Int × Nat))
  deriving DecidableEq, Repr

/-- A frame in a TDM port's buffer (R274, R283): received or to be sent, the matrix sample that it maps to, its slots. -/
structure TdFrame where
  port : Nat
  rx : Bool
  at_ : Nat
  slots : List (Int × Nat)
  deriving DecidableEq, Repr

/-- A node of the whole router in the manager's model (R214, R217): the module that holds it, the samples from which and up to
which it is present. -/
structure VNode where
  node : Nat
  dst : Nat
  src : Nat
  gain : Nat
  inv : Bool
  ramp : Nat
  transp : Bool
  from_ : Nat
  until_ : Option Nat
  deriving DecidableEq, Repr

/-- An import slot in the manager's model (R214): module, slot, router bundle, and the centre of each plane that carries it. -/
structure VImp where
  node : Nat
  slot : Nat
  bundle : Nat
  a : Option Nat
  b : Option Nat
  until_ : Option Nat
  deriving DecidableEq, Repr

/-- A good or bad frame that an input has written to its store (R76, R81): index, arrival, good, its slot, samples a line and lines, the
interface (VO_STD code) and the format of the stream it belongs to. -/
structure VFrame where
  input : Nat
  idx : Nat
  start : Nat
  good : Bool
  slot : Nat
  spl : Nat
  total : Nat
  std : Nat
  fmt : Nat
  deriving DecidableEq, Repr

/-- A frame that stands delivered to the crosspoint, by its place (R76, R339). -/
structure Pic where
  key : Nat
  lines : List (List Nat)
  deriving DecidableEq, Repr

/-- What an output sends: charcoal, the stream of an input of this module, the stream of another module, a head of Moss (R145, R333). -/
inductive Feed where
  | charcoal
  | input (p : Nat)
  | remote
  | head (h : Nat)
  deriving DecidableEq, Repr

/-- From line `line` on, counted from house time 0, output `out` sends `feed`, its words as they are where `pass` (R157). -/
structure Seg where
  out : Nat
  line : Nat
  feed : Feed
  pass : Bool
  deriving DecidableEq, Repr

/-- A sample that an embedded destination has carried (R155): the destination, the sample's index, value, V, U, C and block-start bits. -/
structure EmbSmp where
  dst : Nat
  idx : Nat
  v : Int
  cs : Nat
  deriving DecidableEq, Repr

/-- The update in progress (R458 to R463). -/
structure Upd where
  content : Nat
  fwLen : Nat
  cfgLen : Nat
  setId : Nat
  fwSvn : Nat
  cfgSvn : Nat
  format : Nat
  targets : Nat
  fwDigest : Nat
  cfgDigest : Nat
  confirmS : Nat
  healthS : Nat
  /-- Blocks present, as bit masks. -/
  fwHave : Nat
  cfgHave : Nat
  /-- The holder: a session slot, or 64 for the relay; 65 when the running pair holds the lock. -/
  holder : Nat
  /-- Accepted blocks whose NVM write has not completed: image, index, and the message that waits for it (64 for the relay). -/
  writing : List (Nat × Nat × Nat × Nat)
  deriving DecidableEq, Repr

/-- The whole state of the module. -/
structure State where
  /-- Commands that wait, first in, first out. -/
  pending : List Instr
  /-- Time since power-on, ps. -/
  now : Nat
  /-- Object-map fields that differ from their reset values. -/
  regs : SMap Nat
  /-- Internal quantities that differ from 0. -/
  qty : SMap Int
  timers : SMap Nat
  /-- Bytes of the memories on the 40-bit bus that differ from 0 (log 6). -/
  mem : List Host.Cell
  /-- Fuses: the owner digests burnt, oldest first (R422). -/
  owners : List Nat
  nvm : Nvm
  /-- The configuration in force, as loaded by the last start (R445). -/
  cfg : Option CfgImage
  fwRun : Option FwImage
  clampReport : List ClampEnt
  sessions : List Session
  evq : List EvRec
  out : List Sent
  -- the order stream
  buf : List Rec
  hist : List Action
  held : List Held
  /-- The sessions that sent the actions of the replay store (R30): order number and session slot. -/
  senders : List (Nat × Nat)
  acts : List Pend
  img : Option ImgBuf
  shadows : List Shadow
  -- the manager's model of the router
  vOuts : SMap OutView
  vFields : SMap Nat
  /-- The registers as the last start's step 7 left them: the image's values, which every module of the router loads (log 10). -/
  cfgRegs : SMap Nat
  vLegs : List Leg
  vSched : List Sched
  vApplied : SMap Nat
  vOpen : SMap Nat
  -- this module's paths
  legs : List Leg
  txRecs : List TxRec
  rxRecs : List RxRec
  fwds : List FwdCell
  copies : List CellCopy
  -- the Lichen link: frames that wait, and the one in progress
  lkQ : List LkFrame
  lkCur : Option LkFrame
  -- video, audio, Fern, TDM, network
  frames : List VFrame
  pics : List Pic
  segs : List Seg
  emb : List EmbSmp
  nodes : List ANode
  changes : List AChange
  fades : List MmFade
  imports : List ImpCell
  /-- Cells of this module's export bundles, filling or lately filled: bundle, first sample, sample periods. -/
  exports : List ImpCell
  /-- Samples of the last 4,800 that may be a destination's peak (R236): destination, index, magnitude. -/
  peaks : List (Nat × Nat × Nat)
  vNodes : List VNode
  vImps : List VImp
  tdBuf : List TdFrame
  landings : List Landing
  loops : List FLoop
  staged : List Staged
  trigs : List Trig
  txq : List TxFrame
  flows : List IpFlow
  rtp : List RtpFrame
  /-- House frequency (0.1 ppb) and for how long it held (ps) in TRACKING, newest first, over the last 10 s (R300). -/
  freqLog : List (Int × Nat)
  tsq : List TsEnt
  tsLost : List TsEnt
  foreign : List Foreign
  bursts : List Burst
  upd : Option Upd
  /-- How many free values have been used (log 4): the model's own, no part of the hardware. -/
  freed : Nat
  deriving DecidableEq, Repr

/-- Why the machine stops. No command of this block stops on a fault: what the spec calls a fault of the hardware is a state
of the module, which the command enters. -/
inductive Fault where
  /-- Raised by no meaning; safe. -/
  | none
  deriving DecidableEq, Repr

/-- Why a command is refused. -/
inductive Refusal where
  /-- Raised by the arms of exec for a command that has no meaning yet; safe. -/
  | notModelled (mnemonic : String)
  deriving DecidableEq, Repr

/-- A directory copy as an empty device holds it. -/
def blankDirectory : Directory := ⟨0, 0, [0, 0, 0, 0], false⟩

/-- A device that answers nothing: none is fitted. -/
def absentNvm : Nvm := ⟨[], 0, 0, false, blankDirectory, blankDirectory, [none, none], [none, none], []⟩

/-- The module right after reset: every field of the object map at the reset value its table states, all memories and queues
empty, no power-good yet, and nothing waiting. -/
def State.reset : State where
  pending := []
  now := 0
  regs := []
  qty := []
  timers := []
  mem := []
  owners := []
  nvm := absentNvm
  cfg := none
  fwRun := none
  clampReport := []
  sessions := []
  evq := []
  out := []
  buf := []
  hist := []
  held := []
  senders := []
  acts := []
  img := none
  shadows := []
  vOuts := []
  vFields := []
  cfgRegs := []
  vLegs := []
  vSched := []
  vApplied := []
  vOpen := []
  legs := []
  txRecs := []
  rxRecs := []
  fwds := []
  copies := []
  lkQ := []
  lkCur := none
  frames := []
  pics := []
  segs := []
  emb := []
  nodes := []
  changes := []
  fades := []
  imports := []
  exports := []
  peaks := []
  vNodes := []
  vImps := []
  tdBuf := []
  landings := []
  loops := []
  staged := []
  trigs := []
  txq := []
  flows := []
  rtp := []
  freqLog := []
  tsq := []
  tsLost := []
  foreign := []
  bursts := []
  upd := none
  freed := 0

end Sys2Proof.Machine
end

