-- ==== Sys2Proof/Machine/Ops.lean ====
section
/-! DEFINITION. The named operations over the state. A meaning is an `Act`: from a state it computes the list of elementary
effects (`Eff`) that come about. `State.apply` performs them. What a command can do to the state is therefore said once, in
`State.app`; Laws/Sound.lean proves every invariant from it. -/
set_option Elab.async false
namespace Sys2Proof.Machine
open Host

-- Registers --------------------------------------------------------------------------------------------------------

/-- The field has a copy (i, j). -/
def Fld.has (f : Fld) (i j : Nat) : Bool := decide (i < f.desc.n) && decide (j < f.desc.m)

/-- The key under which copy (i, j) of a field is listed in `State.regs`. -/
def Fld.key (f : Fld) (i j : Nat) : Nat := f.ctorIdx * 2 ^ 40 + i * 2 ^ 20 + j

/-- The reset value of copy (i, j): the table's, but for the fields whose tables give it by index: BM_QOS (R416), the
transmit taps by the lane's use (R476: 0 for a lane with no use assigned yet), and MQ_RING_LEN (R200). -/
def Fld.resetAt (f : Fld) (i _j : Nat) : Nat :=
  match f with
  | .BM_QOS => [8, 8, 8, 8, 12, 4, 4, 2, 15, 1].getD i 0
  | _ => f.desc.reset

/-- The value of copy (i, j) of a field; 0 where there is no such copy (R387). -/
def State.rd (s : State) (f : Fld) (i : Nat := 0) (j : Nat := 0) : Nat :=
  if f.has i j then s.regs.get (f.resetAt i j) (f.key i j) else 0

/-- The value of a field that holds a two's complement number. -/
def State.rdS (s : State) (f : Fld) (i : Nat := 0) (j : Nat := 0) : Int := toSigned (s.rd f i j) f.desc.width

/-- The state with copy (i, j) of a field holding `v`, cut to the field's width; unchanged where there is no such copy. -/
def State.setReg (s : State) (f : Fld) (i j v : Nat) : State :=
  if f.has i j then { s with regs := s.regs.put (f.resetAt i j) (f.key i j) (v % 2 ^ f.desc.width) } else s

-- Internal quantities and timers -----------------------------------------------------------------------------------

/-- The key of quantity `q` at (i, j). -/
def Qty.key (q : Qty) (i j : Nat) : Nat := q.ctorIdx * 2 ^ 80 + i * 2 ^ 40 + j

/-- An internal quantity; 0 until something is put there. -/
def State.q (s : State) (x : Qty) (i : Nat := 0) (j : Nat := 0) : Int := s.qty.get 0 (x.key i j)

/-- An internal quantity that is never negative. -/
def State.qn (s : State) (x : Qty) (i : Nat := 0) (j : Nat := 0) : Nat := (s.q x i j).toNat

/-- The state with a quantity holding `v`. -/
def State.setQ (s : State) (x : Qty) (i j : Nat) (v : Int) : State :=
  if i < 2 ^ 40 ∧ j < 2 ^ 40 then { s with qty := s.qty.put 0 (x.key i j) v } else s

/-- The key of timer `x` of object `i`. -/
def Tmr.key (x : Tmr) (i : Nat) : Nat := x.ctorIdx * 2 ^ 40 + i

/-- The moment at which a running timer expires. -/
def State.timer (s : State) (x : Tmr) (i : Nat := 0) : Option Nat := s.timers.find (x.key i)

/-- The timer runs and has expired. -/
def State.due (s : State) (x : Tmr) (i : Nat := 0) : Bool :=
  match s.timer x i with
  | some d => decide (d ≤ s.now)
  | none => false

/-- A byte of the memories on the bus: 0 where nothing was written (log 6). -/
def State.peek (s : State) (a : Nat) : Byte := SMap.get 0 a s.mem

-- Effects ----------------------------------------------------------------------------------------------------------

/-- The elementary effects. A constructor that replaces a queue cuts it to the length that the spec gives the queue. -/
inductive Eff where
  /-- A field takes a value. -/
  | wr (f : Fld) (i j v : Nat)
  /-- A quantity takes a value. -/
  | put (x : Qty) (i j : Nat) (v : Int)
  | arm (x : Tmr) (i at_ : Nat)
  | disarm (x : Tmr) (i : Nat)
  /-- A byte of memory is stored. -/
  | poke (a : Nat) (b : Byte)
  /-- Time moves forward to `t`, never back. -/
  | advance (t : Nat)
  /-- Something leaves the module. -/
  | emit (m : Sent)
  /-- One free value has been used. -/
  | useFree
  /-- An owner digest is burnt into the next of four slots (R422). -/
  | burnOwner (d : Nat)
  /-- An anti-rollback counter is burnt up to `v`: firmware (255 fuses) or configuration (63) (R426). -/
  | burnRollback (cfg : Bool) (v : Nat)
  | nvm (x : Nvm)
  | cfg (x : Option CfgImage)
  | fwRun (x : Option FwImage)
  | clamps (x : List ClampEnt)
  | sessions (x : List Session)
  | evq (x : List EvRec)
  | buf (x : List Rec)
  | hist (x : List Action)
  | held (x : List Held)
  | senders (x : List (Nat × Nat))
  | acts (x : List Pend)
  | img (x : Option ImgBuf)
  | shadows (x : List Shadow)
  | vOut (n : Nat) (x : OutView)
  | vOutsClear
  | vField (k v : Nat)
  | vFieldsClear
  /-- The present registers become the image's values. -/
  | snapshot
  | vLegs (x : List Leg)
  | vSched (x : List Sched)
  | vApplied (n v : Nat)
  | vOpen (n v : Nat)
  | legs (x : List Leg)
  | txRecs (x : List TxRec)
  | rxRecs (x : List RxRec)
  | fwds (x : List FwdCell)
  | copies (x : List CellCopy)
  | lkQ (x : List LkFrame)
  | lkCur (x : Option LkFrame)
  | frames (x : List VFrame)
  | pics (x : List Pic)
  | segs (x : List Seg)
  | emb (x : List EmbSmp)
  | nodes (x : List ANode)
  | changes (x : List AChange)
  | fades (x : List MmFade)
  | imports (x : List ImpCell)
  | exports (x : List ImpCell)
  | peaks (x : List (Nat × Nat × Nat))
  | vNodes (x : List VNode)
  | vImps (x : List VImp)
  | tdBuf (x : List TdFrame)
  /-- The bytes from `lo` up to `hi`, without `hi`, become 0. -/
  | wipe (lo hi : Nat)
  | landings (x : List Landing)
  | loops (x : List FLoop)
  | staged (x : List Staged)
  | trigs (x : List Trig)
  | txq (x : List TxFrame)
  | flows (x : List IpFlow)
  | rtp (x : List RtpFrame)
  | freqLog (x : List (Int × Nat))
  | tsq (x : List TsEnt)
  | tsLost (x : List TsEnt)
  | foreign (x : List Foreign)
  | bursts (x : List Burst)
  | upd (x : Option Upd)
  /-- A start: everything but fuses, the NVM, the last clamp report, time, what has left and what waits returns to reset
  (R437), and so do all memories. -/
  | restart
  deriving DecidableEq, Repr

/-- The default of the manager's view of an output: BLACK, unlocked (R125, R135). -/
def OutView.start : OutView := ⟨0, true, 0, 0, false, 0⟩

/-- The fields that keep their values across a start (R506, R426, R422): the kept counters of block 13h and the fused
fields of blocks 00h, 07h and 10h. -/
def keptFields : List Fld :=
  [.PW_TRIPS, .PW_PG_LOSSES, .SEC_ID_DIGEST, .SEC_OWNER_DIGEST, .SEC_ROLLBACK_FW, .SEC_ROLLBACK_CFG, .SEC_OWNER_SLOT,
   .SEC_TRANSFERS_LEFT, .SU_SI_REV, .SU_KINDLING_SVC, .MC_BASE_LO, .MC_BASE_HI]

/-- The state a start begins from (R437): what survives, and reset values elsewhere. -/
def State.fresh (s : State) : State :=
  keptFields.foldl (fun r f => r.setReg f 0 0 (s.rd f))
    { State.reset with
      pending := s.pending, now := s.now, owners := s.owners, nvm := s.nvm, clampReport := s.clampReport, out := s.out, freed := s.freed }

/-- One elementary effect. -/
def State.app (s : State) : Eff → State
  | .wr f i j v => s.setReg f i j v
  | .put x i j v => s.setQ x i j v
  | .arm x i at_ => { s with timers := s.timers.ins (x.key i) at_ }
  | .disarm x i => { s with timers := s.timers.del (x.key i) }
  | .poke a b => { s with mem := SMap.put 0 a b s.mem }
  | .advance t => { s with now := max s.now t }
  | .emit m => { s with out := s.out ++ [m] }
  | .useFree => { s with freed := s.freed + 1 }
  | .burnOwner d => { s with owners := (s.owners ++ [d]).take 4 }
  | .burnRollback c v =>
    if c then s.setReg .SEC_ROLLBACK_CFG 0 0 (max (s.rd .SEC_ROLLBACK_CFG) (min v 63))
    else s.setReg .SEC_ROLLBACK_FW 0 0 (max (s.rd .SEC_ROLLBACK_FW) (min v 255))
  | .nvm x => { s with nvm := x }
  | .cfg x => { s with cfg := x }
  | .fwRun x => { s with fwRun := x }
  | .clamps x => { s with clampReport := x.take 4096 }
  | .sessions x => { s with sessions := x.take 34 }
  | .evq x => { s with evq := x.take 256 }
  | .buf x => { s with buf := x.take 256 }
  | .hist x => { s with hist := x.drop (x.length - 256) }
  | .held x => { s with held := x }
  | .senders x => { s with senders := x.drop (x.length - 256) }
  | .acts x => { s with acts := x }
  | .img x => { s with img := x }
  | .shadows x => { s with shadows := x }
  | .vOut n x => { s with vOuts := s.vOuts.put OutView.start n x }
  | .vOutsClear => { s with vOuts := [] }
  | .vField k v => { s with vFields := s.vFields.ins k v }
  | .vFieldsClear => { s with vFields := [] }
  | .snapshot => { s with cfgRegs := s.regs }
  | .vLegs x => { s with vLegs := x }
  | .vSched x => { s with vSched := x }
  | .vApplied n v => { s with vApplied := s.vApplied.put 0 n v }
  | .vOpen n v => { s with vOpen := s.vOpen.put 0 n v }
  | .legs x => { s with legs := x }
  | .txRecs x => { s with txRecs := x }
  | .rxRecs x => { s with rxRecs := x }
  | .fwds x => { s with fwds := x }
  | .copies x => { s with copies := x }
  | .lkQ x => { s with lkQ := x }
  | .lkCur x => { s with lkCur := x }
  | .frames x => { s with frames := x }
  | .pics x => { s with pics := x }
  | .segs x => { s with segs := x }
  | .emb x => { s with emb := x }
  | .nodes x => { s with nodes := x }
  | .changes x => { s with changes := x }
  | .fades x => { s with fades := x }
  | .imports x => { s with imports := x }
  | .exports x => { s with exports := x }
  | .peaks x => { s with peaks := x }
  | .vNodes x => { s with vNodes := x }
  | .vImps x => { s with vImps := x }
  | .tdBuf x => { s with tdBuf := x }
  | .wipe lo hi => { s with mem := s.mem.filter fun c => !(decide (lo ≤ c.1) && decide (c.1 < hi)) }
  | .landings x => { s with landings := x }
  | .loops x => { s with loops := x }
  | .staged x => { s with staged := x }
  | .trigs x => { s with trigs := x }
  | .txq x => { s with txq := x }
  | .flows x => { s with flows := x }
  | .rtp x => { s with rtp := x }
  | .freqLog x => { s with freqLog := x }
  | .tsq x => { s with tsq := x }
  | .tsLost x => { s with tsLost := x }
  | .foreign x => { s with foreign := x }
  | .bursts x => { s with bursts := x }
  | .upd x => { s with upd := x }
  | .restart => s.fresh

/-- A list of effects, in order. -/
def State.apply (s : State) (es : List Eff) : State := es.foldl State.app s

-- Acts -------------------------------------------------------------------------------------------------------------

/-- What comes about in a state, as its effects in order. -/
abbrev Act := State → List Eff

/-- Nothing comes about. -/
def skip : Act := fun _ => []

/-- `a`, then `b` in the state that `a` leaves. -/
def Act.andThen (a b : Act) : Act := fun s => a s ++ b (s.apply (a s))

/-- The acts of the list in order, each in the state that the ones before it leave. -/
def all : List Act → Act
  | [] => skip
  | a :: as => a.andThen (all as)

/-- `a` if the condition holds. -/
def iff (c : Bool) (a : Act) : Act := if c then a else skip

/-- The act that `f` makes of the present state. -/
def look (f : State → Act) : Act := fun s => f s s

/-- `f x` for every `x` of the list, in order. -/
def each {α : Type} (xs : List α) (f : α → Act) : Act := all (xs.map f)

/-- One effect. -/
def one (e : Eff) : Act := fun _ => [e]

/-- The meaning that performs an act and goes on. -/
def run (a : Act) (s : State) : Outcome State Fault Refusal := .next (s.apply (a s))

/-- A field takes a value. -/
def set (f : Fld) (v : Nat) (i : Nat := 0) (j : Nat := 0) : Act := one (.wr f i j v)

/-- A field takes an integer in two's complement. -/
def setS (f : Fld) (v : Int) (i : Nat := 0) (j : Nat := 0) : Act := one (.wr f i j (ofSigned v f.desc.width))

/-- A quantity takes a value. -/
def put (x : Qty) (v : Int) (i : Nat := 0) (j : Nat := 0) : Act := one (.put x i j v)

/-- A timer runs for `ps` from now. -/
def arm (x : Tmr) (ps : Nat) (i : Nat := 0) : Act := fun s => [.arm x i (s.now + ps)]

/-- A timer stops. -/
def disarm (x : Tmr) (i : Nat := 0) : Act := one (.disarm x i)

/-- Time reaches `t`. -/
def at_ (t : Nat) : Act := one (.advance t)

/-- Something leaves the module. -/
def emit (m : Sent) : Act := one (.emit m)

/-- A counter adds `k` and saturates at the largest value of its field. -/
def count (f : Fld) (k : Nat := 1) (i : Nat := 0) (j : Nat := 0) : Act :=
  fun s => [.wr f i j (min (s.rd f i j + k) (2 ^ f.desc.width - 1))]

/-- A quantity adds `k`. -/
def addQ (x : Qty) (k : Int := 1) (i : Nat := 0) (j : Nat := 0) : Act := fun s => [.put x i j (s.q x i j + k)]

/-- `f` with a fresh free value. -/
def withFree (f : Nat → Act) : Act := look fun s => all [one .useFree, f (Config.freeValue s.freed)]

/-- A field takes a value that the spec leaves open (log 4). -/
def setFree (f : Fld) (i : Nat := 0) (j : Nat := 0) : Act := withFree fun v => set f v i j

-- Bytes of memory --------------------------------------------------------------------------------------------------

/-- `n` bytes from address `a`, least significant first, as one number. -/
def State.loadLE (s : State) (a : Nat) : Nat → Nat
  | 0 => 0
  | n + 1 => (s.peek a).toNat + 256 * State.loadLE s (a + 1) n

/-- The number `v` stored as `n` bytes from `a`, least significant first. -/
def storeLE (a v : Nat) : Nat → Act
  | 0 => skip
  | n + 1 => (one (.poke a (BitVec.ofNat 8 v))).andThen (storeLE (a + 1) (v / 256) n)

/-- The bytes of a list stored from `a` on. -/
def storeBytes (a : Nat) : List Nat → Act
  | [] => skip
  | b :: bs => (one (.poke a (BitVec.ofNat 8 b))).andThen (storeBytes (a + 1) bs)

end Sys2Proof.Machine
end

