-- ==== Sys2Proof/Machine/Operands.lean ====
section
/-! DEFINITION. Operand forms: the raster formats and positions (R42 to R46, R57), execution stamps (R45), the bit layouts of
body Spores (R97, R137, R358, R385), the numbering of nodes, ports and links (R15, R19, R21, R22), and object addresses
(R12). -/
set_option Elab.async false
namespace Sys2Proof.Machine

-- Time and raster --------------------------------------------------------------------------------------------------

/-- Picoseconds in a second, a millisecond, a microsecond, a nanosecond. -/
abbrev psS : Nat := 1000000000000
abbrev psMs : Nat := 1000000000
abbrev psUs : Nat := 1000000
abbrev psNs : Nat := 1000

/-- A raster format (R42): frame rate num/den, lines per frame, samples per line, the switching lines of field 1 and 2. -/
structure Format where
  num : Nat
  den : Nat
  lines : Nat
  spl : Nat
  sw1 : Nat
  sw2 : Nat
  deriving DecidableEq, Repr

/-- The formats by code (R42). -/
def format : Nat → Option Format
  | 0x01 => some ⟨30000, 1001, 525, 858, 10, 273⟩
  | 0x02 => some ⟨25, 1, 625, 864, 6, 319⟩
  | 0x03 => some ⟨50, 1, 750, 1980, 7, 0⟩
  | 0x04 => some ⟨60000, 1001, 750, 1650, 7, 0⟩
  | 0x05 => some ⟨60, 1, 750, 1650, 7, 0⟩
  | 0x06 => some ⟨25, 1, 1125, 2640, 7, 569⟩
  | 0x07 => some ⟨30000, 1001, 1125, 2200, 7, 569⟩
  | 0x08 => some ⟨24000, 1001, 1125, 2750, 7, 0⟩
  | 0x09 => some ⟨24, 1, 1125, 2750, 7, 0⟩
  | 0x0A => some ⟨25, 1, 1125, 2640, 7, 0⟩
  | 0x0B => some ⟨30000, 1001, 1125, 2200, 7, 0⟩
  | 0x0C => some ⟨50, 1, 1125, 2640, 7, 0⟩
  | 0x0D => some ⟨60000, 1001, 1125, 2200, 7, 0⟩
  | 0x0E => some ⟨60, 1, 1125, 2200, 7, 0⟩
  | 0x0F => some ⟨24000, 1001, 2250, 5500, 14, 0⟩
  | 0x10 => some ⟨24, 1, 2250, 5500, 14, 0⟩
  | 0x11 => some ⟨25, 1, 2250, 5280, 14, 0⟩
  | 0x12 => some ⟨30000, 1001, 2250, 4400, 14, 0⟩
  | 0x13 => some ⟨50, 1, 2250, 5280, 14, 0⟩
  | 0x14 => some ⟨60000, 1001, 2250, 4400, 14, 0⟩
  | 0x15 => some ⟨60, 1, 2250, 4400, 14, 0⟩
  | _ => none

/-- The frame count at house time `t` ps: t × n / d, rounded down (R46). -/
def Format.frameAt (f : Format) (t : Nat) : Nat := t * f.num / (f.den * psS)

/-- The house time of position F:L:S, in ps, rounded up (R46, log 2). -/
def Format.posTime (f : Format) (F L S : Nat) : Nat :=
  ceilDiv (((F * f.lines + (L - 1)) * f.spl + S) * f.den * psS) (f.num * f.lines * f.spl)

/-- The start of frame F. -/
def Format.frameStart (f : Format) (F : Nat) : Nat := f.posTime F 1 0

/-- The frame period, ps, rounded up. -/
def Format.period (f : Format) : Nat := ceilDiv (f.den * psS) f.num

/-- The line period, ps, rounded up. -/
def Format.linePeriod (f : Format) : Nat := ceilDiv (f.den * psS) (f.num * f.lines)

/-- Samples per frame (R147). -/
def Format.samples (f : Format) : Nat := f.lines * f.spl

/-- The first line boundary at or after house time `t` (R54): its time. -/
def Format.nextLine (f : Format) (t : Nat) : Nat :=
  let k := ceilDiv (t * f.num * f.lines) (f.den * psS)
  ceilDiv (k * f.den * psS) (f.num * f.lines)

/-- The first frame of `g` whose start is at or after the start of frame `F` of `f` (R57). -/
def Format.place (f g : Format) (F : Nat) : Nat := ceilDiv (F * f.den * g.num) (f.num * g.den)

/-- House time, ps: time since power-on plus the offset that the reference has set (R46, log 2). -/
def State.house (s : State) : Nat := ((s.now : Int) + s.q .houseOff).toNat

/-- The format of a raster domain, if it is enabled (R40). -/
def State.domFormat (s : State) (d : Nat) : Option Format := format (s.rd .RD_FORMAT d)

/-- The frame count of a domain now (R46); 0 for a disabled domain. -/
def State.frameNow (s : State) (d : Nat) : Nat :=
  match s.domFormat d with
  | some f => f.frameAt s.house
  | none => 0

/-- The domain is LOCKED or EMBER (R49). -/
def State.domReady (s : State) (d : Nat) : Bool := decide (2 ≤ s.rd .RD_STATE_RASTER d)

/-- The first frame start of a domain at or after house time `t`; `t` itself for a disabled domain. -/
def State.nextFrameStart (s : State) (d t : Nat) : Nat :=
  match s.domFormat d with
  | some f => let F := f.frameAt t; if f.frameStart F < t then f.frameStart (F + 1) else f.frameStart F
  | none => t

-- Stamps -----------------------------------------------------------------------------------------------------------

/-- A stamp as 64 bits (R45). -/
def encodeStamp (x : Stamp) : Nat :=
  x.frame % 2 ^ 48 + x.line % 2 ^ 12 * 2 ^ 48 + x.dom % 8 * 2 ^ 60 + b2n x.imm * 2 ^ 63

/-- The stamp of 64 bits (R45). -/
def decodeStamp (x : Nat) : Stamp := ⟨bits x 0 48, bits x 48 12, bits x 60 3, bit x 63⟩

/-- The latest of 48-bit order numbers in serial arithmetic (R28): `a` is later than `b`. -/
def later (a b : Nat) : Bool :=
  let d := (a + 2 ^ 48 - b % 2 ^ 48) % 2 ^ 48
  decide (1 ≤ d) && decide (d ≤ 2 ^ 47 - 1)

/-- The order number after `o`; 0 is skipped (R28). -/
def succOrder (o : Nat) : Nat := if o + 1 < 2 ^ 48 then o + 1 else 1

/-- How far order number `a` lies after `b` (R28, R31). -/
def orderDiff (a b : Nat) : Nat := (a + 2 ^ 48 - b % 2 ^ 48) % 2 ^ 48

-- Body Spores ------------------------------------------------------------------------------------------------------

/-- Record kinds (R96). -/
abbrev kTake : Nat := 1
abbrev kSalvo : Nat := 2
abbrev kLock : Nat := 3
abbrev kAudio : Nat := 4
abbrev kWrite : Nat := 5
abbrev kRealign : Nat := 6
abbrev kImage : Nat := 7
abbrev kReplayReq : Nat := 8
abbrev kReplayAns : Nat := 9
abbrev kHeartbeat : Nat := 10
abbrev kOccupancy : Nat := 11
abbrev kJoin : Nat := 12
abbrev kAck : Nat := 13

/-- The destination of a TAKE or SALVO body Spore (R97), its fields apart. -/
structure TakeSpore where
  dest : Nat
  black : Bool
  src : Nat
  centreA : Nat
  viaA : Bool
  handA : Bool
  centreB : Nat
  viaB : Bool
  handB : Bool
  restore : Bool
  local_ : Bool
  deriving DecidableEq, Repr

/-- The body Spore of a TAKE (R97). -/
def encodeTake (x : TakeSpore) : Nat :=
  x.dest % 2 ^ 12 + b2n x.black * 2 ^ 12 + x.src % 2 ^ 12 * 2 ^ 13 + x.centreA % 8 * 2 ^ 25 + b2n x.viaA * 2 ^ 28
    + b2n x.handA * 2 ^ 29 + x.centreB % 8 * 2 ^ 30 + b2n x.viaB * 2 ^ 33 + b2n x.handB * 2 ^ 34 + b2n x.restore * 2 ^ 35
    + b2n x.local_ * 2 ^ 36

/-- The destination that a body Spore names (R97). -/
def decodeTake (x : Nat) : TakeSpore :=
  ⟨bits x 0 12, bit x 12, bits x 13 12, bits x 25 3, bit x 28, bit x 29, bits x 30 3, bit x 33, bit x 34, bit x 35, bit x 36⟩

/-- The centre, the VIA bit and the HAND bit of plane `p` in a body Spore. -/
def TakeSpore.plane (x : TakeSpore) (p : Nat) : Nat × Bool × Bool :=
  if p = 0 then (x.centreA, x.viaA, x.handA) else (x.centreB, x.viaB, x.handB)

/-- The body Spore of a LOCK (R137). -/
def encodeLock (dest mode holder : Nat) (force : Bool) : Nat :=
  dest % 2 ^ 12 + mode % 4 * 2 ^ 12 + holder % 2 ^ 16 * 2 ^ 14 + b2n force * 2 ^ 30

/-- Body Spore 0 of a WRITE and the data after it (R385). -/
def encodeWrite (addr : Nat) (data : List Nat) : List Nat :=
  let rec pack : List Nat → List Nat
    | [] => []
    | [a] => [a % 2 ^ 32]
    | a :: b :: r => (a % 2 ^ 32 + b % 2 ^ 32 * 2 ^ 32) :: pack r
  (addr % 2 ^ 40 + 4 * data.length * 2 ^ 40) :: pack data

/-- The address and the words of a WRITE body (R385). -/
def decodeWrite : List Nat → Nat × List Nat
  | [] => (0, [])
  | h :: r => (bits h 0 40, (r.flatMap fun x => [bits x 0 32, bits x 32 32]).take (bits h 40 16 / 4))

-- Geometry ---------------------------------------------------------------------------------------------------------

/-- Centre modules per plane of a geometry class (R15). -/
def centresOf : Nat → Nat
  | 2 => 2 | 3 => 2 | 4 => 4 | 5 => 8 | _ => 0

/-- Edge modules of a geometry class, at most (R15). -/
def maxEdges : Nat → Nat
  | 1 => 1 | 2 => 4 | 3 => 8 | 4 => 16 | 5 => 32 | _ => 0

/-- The module runs alone (R3). -/
def State.standAlone (s : State) : Bool := s.rd .SYS_ROLE == 1

/-- The module is an edge module. -/
def State.isEdge (s : State) : Bool := s.rd .SYS_ROLE == 2

/-- The module is a centre module. -/
def State.isCentre (s : State) : Bool := s.rd .SYS_ROLE == 3

/-- The module's node number. -/
def State.node (s : State) : Nat := s.rd .SYS_NODE

/-- Centres per plane of the router. -/
def State.centres (s : State) : Nat := centresOf (s.rd .SYS_GEOM)

/-- Links per edge per centre, k = 64 / C (R22); 0 without a fabric. -/
def State.linksPer (s : State) : Nat := if s.centres = 0 then 0 else 64 / s.centres

/-- Node number of centre `c` of plane `p` (R19). -/
def centreNode (p c : Nat) : Nat := 32 + 8 * p + c

/-- Every populated node of the router (R16, R19): the edge modules, the centres, and the standby partners that the topology
names. -/
def State.populated (s : State) : List Nat :=
  if s.rd .SYS_GEOM ≤ 1 then [0]
  else List.range (s.rd .SYS_EDGE_COUNT) ++ (List.range s.centres).map (centreNode 0) ++ (List.range s.centres).map (centreNode 1)
    ++ (match s.cfg with | some c => (c.topo.filter fun e => 48 ≤ e.node).map TopoEntry.node | none => [])

/-- Node `n` is a populated edge module or the stand-alone module. -/
def State.isPopEdge (s : State) (n : Nat) : Bool := decide (n < max 1 (s.rd .SYS_EDGE_COUNT)) && decide (n < 32)

/-- The module of a router output or input, and its edge port there (R21). -/
def State.home (s : State) (n : Nat) : Nat × Nat := if s.rd .SYS_GEOM = 1 then (0, n) else (n / 128, n % 128)

/-- The node number under which the module's inputs, outputs, bundles and paths are ordered: a standby partner carries its active partner's
(R371). -/
def State.ownNode (s : State) : Nat := if 48 ≤ s.node then s.rd .RD_PARTNER else s.node

/-- The router number of edge port `p` of this module (R21, R371). -/
def State.routerNo (s : State) (p : Nat) : Nat := if s.rd .SYS_GEOM = 1 then p else s.ownNode * 128 + p

/-- The wiring of R22: link j between edge position `e` and centre `c` of plane `p`, as (link at the edge, link at the
centre). -/
def State.wire (s : State) (e p c j : Nat) : Nat × Nat := (64 * p + s.linksPer * c + j, s.linksPer * e + j)

/-- What the wiring of R22 expects at the far end of this module's link `l`: the node and its link index. -/
def State.farOf (s : State) (l : Nat) : Nat × Nat :=
  let k := s.linksPer
  if k = 0 then (64, 0)
  else if s.isCentre then
    let c := (s.node - 32) % 8
    let p := (s.node - 32) / 8
    let e := l / k
    let far := match s.cfg with
      | some g => (match g.topo.find? (fun x => decide (48 ≤ x.node) && x.fabPos == e && decide (s.rd .SYS_EDGE_COUNT ≤ e)) with
        | some x => x.node | none => e)
      | none => e
    (far, 64 * p + k * c + l % k)
  else
    let p := l / 64
    let c := l % 64 / k
    let e := if 48 ≤ s.node then s.rd .RD_FAB_POS else s.node
    (centreNode p c, k * e + l % k)

/-- This module's own end of link `l` of node `n`, both numbered as paths name them (R22). -/
def State.ownEnd (s : State) (n l : Nat) : Nat :=
  if n = s.ownNode then l
  else if s.isCentre then s.linksPer * n + l % s.linksPer
  else 64 * ((n - 32) / 8) + s.linksPer * ((n - 32) % 8) + l % s.linksPer

/-- The standby partner of edge module `e` that the topology names (R370). -/
def State.standbyOf (s : State) (e : Nat) : Option TopoEntry :=
  s.cfg.bind fun g => g.topo.find? fun x => decide (48 ≤ x.node) && x.partner == e

/-- At a centre, a link toward a standby partner's position carries what the same link toward its active partner carries (R371): that link; any
other link itself. -/
def State.mirror (s : State) (l : Nat) : Nat :=
  let e := l / s.linksPer
  if s.isCentre ∧ s.linksPer ≠ 0 ∧ s.rd .SYS_EDGE_COUNT ≤ e then
    match s.cfg.bind fun g => g.topo.find? fun x => decide (48 ≤ x.node) && x.fabPos == e with
    | some x => s.linksPer * x.partner + l % s.linksPer
    | none => l
  else l

/-- The links of this module that carry what is sent on link `l`: at a centre also the one toward a standby partner (R371). -/
def State.replicas (s : State) (l : Nat) : List Nat :=
  match (if s.isCentre ∧ s.linksPer ≠ 0 then s.standbyOf (l / s.linksPer) else none) with
  | some x => [l, s.linksPer * x.fabPos + l % s.linksPer]
  | none => [l]

/-- Edge ports of the module in its role (R3). -/
def State.ports (s : State) : Nat := if s.standAlone then 256 else if s.isEdge then 128 else 0

/-- Fabric links of the module in its role (R3). -/
def State.links (s : State) : Nat := if s.isEdge then 128 else if s.isCentre then 256 else 0

/-- The lane of fabric link `l` (R3, R14). -/
def State.linkLane (s : State) (l : Nat) : Nat := if s.isEdge then 128 + l else l

-- Addresses --------------------------------------------------------------------------------------------------------

/-- The block of an object-map address (R12); 32 outside the object map. -/
def blockOf (a : Nat) : Nat := if a < 0x40000000 then 32 else min 32 ((a - 0x40000000) / 0x100000)

/-- Index of a field's copy whose first bit lies at bit address `b` or below, if the copy covers it: the copy and the inner
copy. -/
def Fld.copyAt (f : Fld) (b : Nat) : Option (Nat × Nat) :=
  let d := f.desc
  let base := d.addr * 8 + d.lsb
  if b < base then none
  else
    let o := b - base
    let p := if d.stride = 0 then 0 else o / d.stride
    let i := if 256 + d.skip ≤ p then p - d.skip else p
    let r := if d.stride = 0 then o else o % d.stride
    let j := if d.stride2 = 0 then 0 else r / d.stride2
    if f.has i j && !(decide (256 ≤ p) && decide (p < 256 + d.skip)) then some (i, j) else none

/-- The first bit of copy (i, j), as a bit address. -/
def Fld.bitAddr (f : Fld) (i j : Nat) : Nat :=
  let d := f.desc
  d.addr * 8 + d.lsb + (if 256 ≤ i then i + d.skip else i) * d.stride + j * d.stride2

/-- The copies of a field that some bit of the word at address `a` belongs to. -/
def Fld.copiesIn (f : Fld) (a : Nat) : List (Nat × Nat) :=
  let ks := if 0 < f.desc.stride ∧ f.desc.stride < 32 then List.range 32 else [0, f.desc.lsb % 32]
  let cand := ks.filterMap fun k => f.copyAt (a * 8 + k)
  (cand.filter fun (i, j) => decide (a * 8 < f.bitAddr i j + f.desc.width)).dedup

end Sys2Proof.Machine
end

