-- ==== Sys2Proof/Machine/Covers.lean ====
section
/-! DEFINITION. The fields of the object map that words cover (R12, R507), and the object of R52 to which a field belongs. -/
set_option Elab.async false
namespace Sys2Proof.Machine

-- The fields covered -----------------------------------------------------------------------------------------------

/-- A field that a write covers: the copy, its new value, whether every word of it is covered, and its first bit. -/
structure FieldWrite where
  fld : Fld
  i : Nat
  j : Nat
  v : Nat
  whole : Bool
  at_ : Nat
  deriving DecidableEq, Repr

/-- An entry put in its place in a list that rises by address. -/
def insertAt (x : FieldWrite) : List FieldWrite → List FieldWrite
  | [] => [x]
  | y :: r => if x.at_ < y.at_ then x :: y :: r else y :: insertAt x r

/-- Words as one number, the first least significant. -/
def joinWords : List Nat → Nat
  | [] => 0
  | w :: r => w % 2 ^ 32 + 2 ^ 32 * joinWords r

/-- The fields that words from address `a` cover, in address order (R507). -/
def covered (a : Nat) (data : List Nat) : List FieldWrite :=
  let all_ := joinWords data
  let found := (Fld.ofBlock (blockOf a)).flatMap fun f =>
    (((List.range data.length).flatMap fun k => f.copiesIn (a + 4 * k)).dedup).map fun (i, j) =>
      let b := f.bitAddr i j
      let whole := decide (a * 8 ≤ b) && decide (b + f.desc.width ≤ a * 8 + 32 * data.length)
      (⟨f, i, j, bits all_ (b - a * 8) f.desc.width, whole, b⟩ : FieldWrite)
  found.foldl (fun l x => insertAt x l) []

-- Objects (R52) ----------------------------------------------------------------------------------------------------

/-- The object to which copy `i` of a field belongs (R52: an output, an audio node, a port, a head): 1 an output, whose crosspoint and video
fields are one object; 2 an audio destination; 4 the reference; 16 + b an object of block b. A Moss field's copies belong to its head. -/
def Fld.obj (f : Fld) (i : Nat) : Nat × Nat :=
  match blockOf f.desc.addr with
  | 4 | 5 => if f.desc.n = 256 then (1, i) else (16 + blockOf f.desc.addr, 0)
  | 8 => if f.desc.n = 8192 then (2, i) else (24, f.ctorIdx * 2 ^ 16 + i)
  | 13 => (29, if f.desc.n ≤ 1 then 0 else i * 4 / f.desc.n)
  | b => if f.desc.n = 1 then (16 + b, f.ctorIdx * 2 ^ 16 + 2 ^ 15) else (16 + b, i)

/-- The objects that words from address `a` change (R52). -/
def wordObjs (a : Nat) (data : List Nat) : List (Nat × Nat) :=
  (((covered a data).filter fun x => x.fld.desc.acc != .ro).map fun x => x.fld.obj x.i).dedup

end Sys2Proof.Machine
end

