-- ==== Sys2Proof/Machine/Flags.lean ====
section
/-! DEFINITION. Flags and reports that many rules share: which blocks are idle (R13), the raising of an event (R391 to R394),
the answer to a session (R380, R383), and the firmware and pin sides of the event system. -/
set_option Elab.async false
namespace Sys2Proof.Machine

/-- The block is idle in a role (R13); role 0 holds before a role is loaded and in KINDLING (R448). -/
def idleIn (role b : Nat) : Bool :=
  match role with
  | 1 => b == 3
  | 2 => false
  | 3 => b == 2 || b == 5 || b == 6 || b == 13
  | _ => !(b == 0 || b == 1 || b == 7 || b == 15 || b == 16 || b == 17 || b == 18 || b == 19)

/-- The block is idle in the module's role or state: its registers keep their reset values, its events are never raised (R13). KINDLING idles
blocks 12h and 13h as well (R448). -/
def State.idleBlock (s : State) (b : Nat) : Bool := idleIn (s.rd .SYS_ROLE) b || (s.rd .SU_STATE == 4 && (b == 18 || b == 19))

/-- A field is idle: with its block, or, at a centre, as one of the per-output fields of block 04h (R13, R142). -/
def idleField (role : Nat) (f : Fld) : Bool :=
  idleIn role (blockOf f.desc.addr) || (role == 3 && blockOf f.desc.addr == 4 && f.desc.n == 256)

/-- House time in whole seconds modulo 2^32 and in nanoseconds (R391). -/
def State.houseS (s : State) : Nat := s.house / psS % 2 ^ 32
def State.houseNs (s : State) : Nat := s.house % psS / psNs

/-- The pins EVT0 and EVT1 (R394): asserted while a latched event is in the pin's mask; EVT0 also throughout KINDLING (R448). -/
def State.evtPins (s : State) : Nat :=
  let hit (m : Fld) := (List.range 32).any fun w => Nat.land (s.rd .EP_LATCH w) (s.rd m w) != 0
  b2n (hit .EP_MASK0 || s.rd .SU_STATE == 4) + 2 * b2n (hit .EP_MASK1)

/-- The pins follow latch and masks (log 7: at once, inside the bound of 1 us). -/
def pins : Act := look fun s => set .EP_PINS s.evtPins

/-- EQ_COUNT and EQ_HEAD show the firmware queue (R393). -/
def recBits (r : EvRec) : Nat :=
  r.ev % 2 ^ 10 + r.node % 64 * 2 ^ 10 + r.inst % 2 ^ 16 * 2 ^ 16 + r.serial % 2 ^ 32 * 2 ^ 32 + r.param % 2 ^ 64 * 2 ^ 64
    + r.timeS % 2 ^ 32 * 2 ^ 128 + r.timeNs % 2 ^ 30 * 2 ^ 160

def eqShow : Act := look fun s =>
  all [set .EQ_COUNT s.evq.length, set .EQ_HEAD (match s.evq with | [] => 0 | r :: _ => recBits r)]

/-- The session with slot number `n`, if the slot is in use. -/
def State.session (s : State) (n : Nat) : Option Session := s.sessions.find? fun x => x.slot == n

/-- A session's entry replaced. -/
def putSession (x : Session) : Act := look fun s =>
  one (.sessions (s.sessions.map fun y => if y.slot == x.slot then x else y))

/-- A record joins a session's queue, or is lost at a full one (R392). -/
def queueRec (r : EvRec) (n : Nat) : Act := look fun s =>
  match s.session n with
  | none => skip
  | some x =>
    if bit x.mask r.ev then
      if x.queue.length < 1024 then
        all [putSession { x with queue := x.queue ++ [r] }, set .TS_EVQ_FILL (x.queue.length + 1) n]
      else all [putSession { x with lost := x.lost + 1, lostSerial := r.serial }, count .TS_EVQ_LOST 1 n]
    else skip

/-- An event is raised (R391): its record goes to the firmware queue (R393), to every session that subscribes to its number
(R392) and to the pin latches (R394). An event of an idle block is never raised (R13). -/
def raise (e : Ev) (inst : Nat := 0) (param : Nat := 0) : Act := look fun s =>
  if s.idleBlock (e.num / 48) then skip
  else
    let r : EvRec := ⟨e.num, s.node, inst % 2 ^ 16, s.qn .evSerial % 2 ^ 32, param % 2 ^ 64, s.houseS, s.houseNs⟩
    all [addQ .evSerial,
      if s.evq.length < 256 then one (.evq (s.evq ++ [r])) else count .EQ_LOST,
      eqShow,
      each (s.sessions.map Session.slot) (queueRec r),
      set .EP_LATCH (Nat.lor (s.rd .EP_LATCH (e.num / 32)) (2 ^ (e.num % 32))) (e.num / 32),
      pins]

/-- PARAM of a change of state: the new state in [7:0], the old in [15:8] (R391). -/
def newOld (new old : Nat) : Nat := new % 256 + old % 256 * 256

/-- PARAM of an order number and a second item (R391). -/
def orderAnd (order x : Nat) : Nat := order % 2 ^ 48 + x % 2 ^ 16 * 2 ^ 48

/-- A state field moves and its event is raised with the new and the old state; nothing if it is there already. -/
def moveState (f : Fld) (e : Ev) (i new : Nat) : Act := look fun s =>
  if s.rd f i = new then skip else all [set f new i, raise e i (newOld new (s.rd f i))]

/-- The event is raised unless it was raised for this object less than a second ago; `last` holds the moment (plus one) of the
last raising. -/
def raisePerSecond (e : Ev) (last : Qty) (i : Nat) (param : Nat) : Act := look fun s =>
  if s.q last i = 0 ∨ s.q last i + psS ≤ (s.now : Int) + 1 then all [put last (s.now + 1) i, raise e i param] else skip

/-- The report of a direct write of a field (R11): the status, and the value stored or kept. -/
def sayWritten (f : Fld) (i j : Nat) (st : Status) (x : Nat) : Act := emit (.written (f.bitAddr i j / 32 * 4) st.code [x])

-- Answers ----------------------------------------------------------------------------------------------------------

/-- The node the module holds to be the active manager (R365, R383). RD_ACTIVE_NODE of a member of an IP edge pair names the
active member of its pair (R374), so the manager of such a module is held apart. -/
def State.activeNode (s : State) : Nat :=
  if s.standAlone then s.node else if s.rd .RD_ROLE = 2 then s.qn .managerNode else s.rd .RD_ACTIVE_NODE

/-- The module is the active manager, or stands alone and is its own manager (R24, R47). -/
def State.isManager (s : State) : Bool := s.standAlone || s.rd .SYS_MGR_ROLE == 1

/-- An answer to a message of a session, with no data (R383). -/
def State.mkAnswer (s : State) (m : Msg) (st : Status) : Answer := ⟨m.sess, m.seq, st.code, 0, 0, 0, 0, s.activeNode, []⟩

/-- The answer leaves, and is kept among the last 64 of its session (R380). -/
def sendAnswer (a : Answer) : Act := look fun s =>
  all [emit (.answer a), count .TS_SEQ_TX 1 a.sess,
    match s.session a.sess with
    | none => skip
    | some x => putSession { x with answers := (a :: x.answers).take 64 }]

/-- The message is answered with a status. -/
def answer (m : Msg) (st : Status) : Act := look fun s => sendAnswer (s.mkAnswer m st)

/-- The message is answered with a status and the index of the refused entry. -/
def answerAt (m : Msg) (st : Status) (index : Nat) : Act := look fun s => sendAnswer { s.mkAnswer m st with index := index }

/-- The message is answered ACCEPTED with data. -/
def answerData (m : Msg) (d : List Nat) : Act := look fun s => sendAnswer { s.mkAnswer m .ACCEPTED with data := d }

/-- An ordered write is refused where it executes (R386). -/
def writeRefused (order : Nat) : Act := all [count .TC_WRITE_REFUSED, raise .WRITE_REFUSED 0 order]

end Sys2Proof.Machine
end

