-- ==== Sys2Proof/Machine/Samples.lean ====
section
/-! DEFINITION. The audio sample clock (R208), the numbering of sources and destinations (R209 to R212), and the arithmetic of
samples (R219, R224, R229). -/
set_option Elab.async false
namespace Sys2Proof.Machine

-- Rounding ---------------------------------------------------------------------------------------------------------

/-- The quotient where the spec gives no rounding: one of the two whole numbers about it (log 16). -/
def roundQ (num : Int) (den : Nat) : Int := num / (den : Int) + (if num % (den : Int) = 0 then 0 else (b2n (Config.roundsUp num den) : Int))

/-- The nearest whole number; a tie as `Config.tieUp` has it (log 16). -/
def nearest (num : Int) (den : Nat) : Int :=
  let q := (2 * num + den) / (2 * den : Int)
  if (2 * num + den) % (2 * den : Int) = 0 ∧ den % 2 = 0 ∧ num % (den : Int) ≠ 0 then q - 1 + (b2n (Config.tieUp num den) : Int) else q

/-- Division by 2^k with convergent rounding: a tie goes to the even neighbour (R229, R244). -/
def convergent (v : Int) (k : Nat) : Int :=
  let d : Int := (2 ^ k : Nat)
  let q := v / d
  let r := v % d
  if 2 * r < d then q else if d < 2 * r then q + 1 else if q % 2 = 0 then q else q + 1

/-- Saturation to 24 bits (R229). -/
def sat24 (v : Int) : Int := clampInt (-8388608) 8388607 v

/-- Saturation of the accumulator to 56 bits (R229). -/
def sat56 (v : Int) : Int := clampInt (-(2 ^ 55)) (2 ^ 55 - 1) v

-- Gain -------------------------------------------------------------------------------------------------------------

/-- The gain code as the matrix stores it (R218): mute, or clamped into −10,000 to +1,800. -/
def storedGain (g : Nat) : Nat := if g = 0x8000 then g else ofSigned (clampInt (-10000) 1800 (toSigned g 16)) 16

/-- x² ⋯ the power test of a coefficient: (2k − 1)^2000 ≤ 2^42000 × 10^code, that is, k is at most the rounded value. -/
def coefFits (code : Int) (k : Nat) : Bool :=
  if 0 ≤ code then decide ((2 * k - 1) ^ 2000 ≤ 2 ^ 42000 * 10 ^ code.toNat)
  else decide ((2 * k - 1) ^ 2000 * 10 ^ (-code).toNat ≤ 2 ^ 42000)

/-- round(10^(code / 2,000) × 2^20) for a code in hundredths of a dB (R219): the greatest number that passes, found bit by
bit. -/
def coefOfCode (code : Int) : Nat :=
  if code = 0 then 2 ^ 20
  else (List.range 23).foldl (fun k b => if coefFits code (k + 2 ^ (22 - b)) then k + 2 ^ (22 - b) else k) 0

/-- The coefficient of a node (R219). -/
def coefOf (gain : Nat) (inv : Bool) : Int :=
  if gain = 0x8000 then 0
  else
    let k : Int := coefOfCode (toSigned gain 16)
    if inv then -k else k

/-- |sample × coefficient| reaches a level given in dBFS as a code of R218 (R227): full scale is 2^23. -/
def reaches (mag thr : Nat) : Bool :=
  let c := toSigned thr 16
  if 0 ≤ c then decide (2 ^ 86000 * 10 ^ c.toNat ≤ mag ^ 2000) else decide (2 ^ 86000 ≤ mag ^ 2000 * 10 ^ (-c).toNat)

-- Clock and numbering ----------------------------------------------------------------------------------------------

/-- The matrix runs at 96 kHz (R208). -/
def State.fast (s : State) : Bool := s.rd .AM_RATE == 1

/-- The matrix rate, Hz. -/
def State.rate (s : State) : Nat := if s.fast then 96000 else 48000

/-- The index of the first sample at or after house time `t` ps, and of the sample running then (R208). -/
def State.sampleFrom (s : State) (t : Nat) : Nat := ceilDiv (t * s.rate) psS
def State.sampleAt (s : State) (t : Nat) : Nat := t * s.rate / psS

/-- Dfab (R215). -/
def State.dfab (s : State) : Nat := if s.fast then 32 else 16

/-- A channel of the matrix (R209, R211): ingress or egress, a TDM port's slot, a Fern channel, a bus, a channel of an import or
export bundle, a monitoring tap, silence, a generator. -/
inductive Chan where
  | edge (slot ch : Nat)
  | tdm (port slot : Nat)
  | fern (n : Nat)
  | bus (b : Nat)
  | bundle (m ch : Nat)
  | tap (n : Nat)
  | silence
  | gen (g : Nat)
  deriving DecidableEq, Repr

/-- The source of number `n` (R209). -/
def chanOfSource (fast : Bool) (n : Nat) : Option Chan :=
  let k := if fast then 1 else 2
  let per := if fast then 16 else 32
  if n < 2048 * k then some (.edge (n / per) (n % per))
  else if n < 2304 * k then some (.tdm ((n - 2048 * k) / per) ((n - 2048 * k) % per))
  else if n < 2816 * k then some (.fern (n - 2304 * k))
  else if n < 3328 * k then some (.bus (n - 2816 * k))
  else if n < 3328 * k + 16 * (if fast then 47 else 95) then some (.bundle ((n - 3328 * k) / 16) ((n - 3328 * k) % 16))
  else if n = 4080 * k + (if fast then 0 else 16) then some .silence
  else if 4080 * k + (if fast then 0 else 16) < n ∧ n < 4096 * k then some (.gen (n - 4080 * k - (if fast then 0 else 16)))
  else none

/-- The destination of number `n` (R211). -/
def chanOfDest (fast : Bool) (n : Nat) : Option Chan :=
  let k := if fast then 1 else 2
  let per := if fast then 16 else 32
  if n < 2048 * k then some (.edge (n / per) (n % per))
  else if n < 2304 * k then some (.tdm ((n - 2048 * k) / per) ((n - 2048 * k) % per))
  else if n < 2816 * k then some (.fern (n - 2304 * k))
  else if n < 3072 * k then some (.tap (n - 2816 * k))
  else if n < 4096 * k then some (.bundle ((n - 3072 * k) / 16) ((n - 3072 * k) % 16))
  else none

/-- Mix buses (R209). -/
def busCount (fast : Bool) : Nat := if fast then 512 else 1024

/-- Number of the source of a TDM slot, a Fern output, a bus, an import channel; of the destination of a TDM slot, a Fern input,
an export channel (R209, R211). -/
def State.tdmNo (s : State) (p k : Nat) : Nat := if s.fast then 2048 + 16 * p + k else 4096 + 32 * p + k
def State.fernNo (s : State) (n : Nat) : Nat := if s.fast then 2304 + n else 4608 + n
def State.busNo (s : State) (b : Nat) : Nat := if s.fast then 2816 + b else 5632 + b
def State.importNo (s : State) (m c : Nat) : Nat := (if s.fast then 3328 else 6656) + 16 * m + c
def State.exportNo (s : State) (k c : Nat) : Nat := (if s.fast then 3072 else 6144) + 16 * k + c

/-- Import slots, export bundles, TDM slots with a matrix channel, channels per ingress or egress slot. -/
def State.importSlots (s : State) : Nat := if s.fast then 47 else 95
def State.exportBundles (s : State) : Nat := if s.fast then 64 else 128
def State.tdmSlots (s : State) : Nat := if s.fast then 16 else 32

/-- A destination's, source's or bus's field beyond the count for the rate in force (R236). -/
def beyondRate (fast : Bool) (f : Fld) (i : Nat) : Bool :=
  fast && decide (0x40800000 ≤ f.desc.addr) && decide (f.desc.addr < 0x40840000) && decide (1 < f.desc.n) && decide (f.desc.n ≤ 2 * i)

/-- The C bit of a destination that carries no transparent route (R232): AES3 professional, audio. -/
def statusBit (fast : Bool) (pos : Nat) : Bool :=
  if pos = 0 then true
  else if pos = 6 ∨ pos = 7 ∨ (16 ≤ pos ∧ pos < 24) ∨ (32 ≤ pos ∧ pos < 40) ∨ 184 ≤ pos then Config.channelStatus fast pos
  else false

end Sys2Proof.Machine
end

