-- ==== Sys2Proof/Machine/Fern.lean ====
section
/-! DEFINITION. Fern signal-processing cores (10_fern_dsp.md): the slot operations of a bundle, address registers, loops, block starts,
faults and overruns. A core executes its own program memory slot by slot, in the order M0, M1, L, C: the command of an operation runs
when the core's next slot holds that operation (log 17). -/
set_option Elab.async false
namespace Sys2Proof.Machine

/-- Core states (R261). -/
abbrev fcOff : Nat := 0
abbrev fcLoading : Nat := 1
abbrev fcStopped : Nat := 2
abbrev fcRunning : Nat := 3
abbrev fcFaulted : Nat := 4

-- Memories ---------------------------------------------------------------------------------------------------------

/-- The bus address of a core's program memory and data memory, of the shared audio SRAM (R267), of its delay lines (R253). -/
def fernCodeAt (c : Nat) : Nat := 0x20000000 + c * 0x100000
def fernDataAt (c : Nat) : Nat := 0x20080000 + c * 0x100000
def fernSramAt : Nat := 0x22000000
def State.lineLen (s : State) : Nat := if s.fast then 393216 else 196608
def State.lineAt (s : State) (n : Nat) : Nat := 0x85A0000000 + n * 4 * s.lineLen

/-- The bus address of word `a` as core `c` sees it (R252). -/
def fernAddr (c a : Nat) : Nat := if a < 0x10000 then fernDataAt c + 4 * a else fernSramAt + 4 * (a - 0x100000)

/-- The block length FB, and the count of the block that contains sample `i` (R255, R257). -/
def State.fb (s : State) (c : Nat) : Nat := 8 * 2 ^ s.rd .FC_BLOCK c

/-- FC_BUDGET (R257). -/
def State.fernBudget (s : State) (c : Nat) : Nat := s.fb c * 1600000000 * 9998 / (s.rate * 10000) - 256

/-- The core may access word `a` (R252): its data memory, or its declared part of the shared audio SRAM. -/
def State.fernReach (s : State) (c a : Nat) : Bool :=
  decide (a < 0x10000) || (decide (s.qn .fcShBase c ≤ a) && decide (a < s.qn .fcShBase c + s.qn .fcShLen c) && decide (0x100000 ≤ a) && decide (a < 0x300000))

/-- A word read by a load: bits [23:0], in two's complement (R244). -/
def State.fernLoad (s : State) (c a : Nat) : Int := toSigned (s.loadLE (fernAddr c a) 4) 24

/-- A 24-bit value stored sign-extended (R244); the parameter page discards writes (R252). -/
def fernStore (c a : Nat) (v : Int) : Act :=
  iff (!(decide (0xD000 ≤ a) && decide (a < 0xD400))) (storeLE (fernAddr c a) (ofSigned v 32) 4)

-- Slot words -------------------------------------------------------------------------------------------------------

/-- The fields of a slot word (R240). -/
abbrev wStg (w : Nat) : Nat := bits w 29 3
abbrev wOp (w : Nat) : Nat := bits w 24 5
abbrev wD (w : Nat) : Nat := bits w 19 5
abbrev wA (w : Nat) : Nat := bits w 14 5
abbrev wB (w : Nat) : Nat := bits w 9 5
abbrev wF (w : Nat) : Nat := bits w 0 9
/-- The address register of an L operation, and the extraction shift. -/
abbrev wP (w : Nat) : Nat := bits w 9 3
abbrev wK (w : Nat) : Nat := bits w 4 5

/-- Slot `i` (0 M0, 1 M1, 2 L, 3 C) of bundle `b` of core `c` (R240). -/
def State.slotAt (s : State) (c b i : Nat) : Nat := s.loadLE (fernCodeAt c + 16 * b + 4 * i) 4

/-- An address in the register files: X0 to X31 as 0 to 31, the physical Y registers from 32 on; Yn is physical (WB − n) mod 32
(R251). -/
def State.regIx (s : State) (c : Nat) (y : Bool) (n : Nat) : Nat :=
  if y then 32 + (s.qn .fcWb c + 32 - n % 32) % 32 else n % 32

/-- A data register's value. -/
def State.fernReg (s : State) (c ix : Nat) : Int := if ix < 32 then s.q .fcX c ix else s.q .fcY c (ix - 32)

/-- A data register takes a 24-bit value. -/
def fernSet (c ix : Nat) (v : Int) : Act := let x := toSigned (ofSigned v 24) 24; if ix < 32 then put .fcX x c ix else put .fcY x c (ix - 32)

/-- Sources A and B of lane `i` (R240, R241). -/
def State.srcA (s : State) (c w i : Nat) : Int := s.fernReg c (s.regIx c (bit (wF w) 0) (wA w + i))
def State.srcB (s : State) (c w i : Nat) : Int := s.fernReg c (s.regIx c (bit (wF w) 1) (if bit (wF w) 2 then wB w else wB w + i))

/-- An X register named by a C operation (log 17). -/
def State.regX (s : State) (c n : Nat) : Int := s.q .fcX c (n % 32)

/-- What a slot writes, as numbers no two of which agree for different things: accumulators, registers by name, address registers
(R243). -/
def slotWrites (i w : Nat) : List Nat :=
  let regs (y : Bool) (n : Nat) : List Nat := (List.range n).map fun k => 100 + 100 * b2n y + (wD w + k) % 32
  match i, wOp w with
  | 0, 0 | 1, 0 | 2, 0 | 3, 0 => []
  | 0, _ | 1, _ => (List.range 4).map fun k => 4 * (wD w % 4) + k
  | 2, 1 => (300 + wP w) :: regs (bit (wF w) 3) 4
  | 2, 4 => regs (bit (wF w) 3) 4
  | 2, 5 => (300 + wP w) :: regs (bit (wF w) 3) 1
  | 2, _ => [300 + wP w]
  | 3, 1 => regs false 4
  | 3, 0x0A => [300 + wD w % 8]
  | 3, 0x0F => regs false 1
  | 3, o => if 2 ≤ o ∧ o ≤ 9 then regs false 1 else []
  | _, _ => []

/-- The operation is listed for the slot (R241). -/
def opListed (i w : Nat) : Bool := if i < 2 then decide (wOp w ≤ 4) else if i = 2 then decide (wOp w ≤ 6) else decide (wOp w ≤ 0x10)

/-- Two slots write one thing (R243). -/
def clash : List (List Nat) → Bool
  | [] => false
  | a :: rest => (rest.any fun b => a.any fun x => b.contains x) || clash rest

/-- The core's loops, innermost first. -/
def State.loopsOf (s : State) (c : Nat) : List FLoop := s.loops.filter fun l => l.core == c

/-- Stage predicate `k` of a rotating loop (R251). -/
def FLoop.pred (l : FLoop) (k : Nat) : Bool := decide (k ≤ l.pass) && decide (l.pass < k + l.total)

/-- The slot word executes: outside a rotating loop always, inside one under its stage's predicate (R240, R251). -/
def State.enabled (s : State) (c w : Nat) : Bool :=
  match s.loopsOf c with
  | l :: _ => !l.rot || l.pred (wStg w)
  | [] => true

-- Address registers ------------------------------------------------------------------------------------------------

/-- PL in effect: 2,097,152 is coded 0 (R265). -/
def lenOf (v : Nat) : Nat := if v = 0 then 2097152 else v

/-- Bit reversal within `n` bits. -/
def revBits (n x : Nat) : Nat := (List.range n).foldl (fun r k => r + bits x k 1 * 2 ^ (n - 1 - k)) 0

/-- An address register: mode, base, length in effect, pointer. -/
structure PReg where
  mode : Nat
  base : Nat
  len : Nat
  ptr : Nat
  deriving DecidableEq, Repr

/-- Address register `n` of core `c`. -/
def State.preg (s : State) (c n : Nat) : PReg := ⟨s.rd .FP_MODE c n, s.rd .FP_BASE c n, lenOf (s.rd .FP_LEN c n), s.rd .FP_PTR c n⟩

/-- The offset after a step by `m`, and whether the step wraps (R245, R246). -/
def PReg.offset (p : PReg) (m : Int) : Nat × Bool :=
  if p.mode = 1 then
    let o : Int := (p.ptr : Int) - p.base + m
    ((o % (p.len : Int)).toNat, decide (o < 0) || decide ((p.len : Int) ≤ o))
  else
    let n := Nat.log2 p.len
    let x := revBits n (((p.ptr : Int) - p.base) % ((2 ^ n : Nat) : Int)).toNat + revBits n (m % ((2 ^ n : Nat) : Int)).toNat
    (revBits n (x % 2 ^ n), decide (2 ^ n ≤ x))

/-- The pointer after a step by `m` under the length in effect. -/
def PReg.stepped (p : PReg) (m : Int) : Nat :=
  if p.mode = 1 ∨ p.mode = 2 then (p.base + (p.offset m).1) % 2 ^ 22 else (((p.ptr : Int) + m) % ((2 ^ 22 : Nat) : Int)).toNat

/-- The addresses of an access of `n` words (R245): the pointer, and the pointer stepped by +1 again and again. -/
def PReg.words (p : PReg) : Nat → List Nat
  | 0 => []
  | n + 1 => p.ptr :: PReg.words { p with ptr := p.stepped 1 } n

/-- A pending length takes effect with the pointer at offset `o`; the pointer folds if it lies beyond the new end (R246, R247). -/
def takeLen (c n o : Nat) : Act := look fun s =>
  if s.rd .FP_PEND c n = 0 then set .FP_PTR ((s.rd .FP_BASE c n + o) % 2 ^ 22) c n
  else
    let l := lenOf (s.rd .FP_LEN_PEND c n)
    let fold := decide (l ≤ o)
    all [set .FP_LEN (s.rd .FP_LEN_PEND c n) c n, set .FP_PEND 0 c n, set .FP_PTR ((s.rd .FP_BASE c n + if fold then o % l else o) % 2 ^ 22) c n,
      iff fold (set .FP_FOLD 1 c n)]

/-- Each L access steps its pointer once, by the modifier (R245, R246). -/
def stepPtr (c n : Nat) : Act := look fun s =>
  let p := s.preg c n
  let m := s.rdS .FP_MOD c n
  if p.mode = 1 ∨ p.mode = 2 then
    let (o, wraps) := p.offset m
    if wraps then takeLen c n o else set .FP_PTR ((p.base + o) % 2 ^ 22) c n
  else all [set .FP_PTR (p.stepped m) c n, iff (p.mode == 3) (set .FC_LEN_CLAMP 1 c)]

/-- A length written becomes PL: at once in linear mode, pending otherwise (R247); 2,097,152 is coded 0 (R265). -/
def writeLen (c n len : Nat) : Act := look fun s =>
  let v := len % 2097152
  if s.rd .FP_MODE c n = 0 ∨ s.rd .FP_MODE c n = 3 then all [set .FP_LEN v c n, set .FP_LEN_PEND v c n, set .FP_PEND 0 c n]
  else all [set .FP_LEN_PEND v c n, set .FP_PEND 1 c n]

/-- SETP (R241, R247): a field of Pn from a register, then the mode. -/
def setp (c n field : Nat) (mode : Option Nat) (a : Int) : Act := look fun s =>
  all [
    match field with
    | 0 => set .FP_BASE (ofSigned a 22) c n
    | 1 => set .FP_MOD (ofSigned a 22) c n
    | 2 =>
      let v := (clampInt 1 2097152 a).toNat
      let v' := if s.rd .FP_MODE c n = 2 then 2 ^ Nat.log2 v else v
      all [iff ((v' : Int) != a) (set .FC_LEN_CLAMP 1 c), writeLen c n v']
    | _ => set .FP_PTR (ofSigned a 22) c n,
    match mode with
    | none => skip
    | some m => look fun s =>
      if s.rd .FP_MODE c n = m then skip
      else all [set .FP_MODE m c n, look fun s => iff (s.rd .FP_PEND c n == 1)
        (takeLen c n ((((s.rd .FP_PTR c n : Int) - s.rd .FP_BASE c n) % ((2 ^ 22 : Nat) : Int)).toNat))]]

-- Faults -----------------------------------------------------------------------------------------------------------

/-- The words of an L operation's access. -/
def State.accessOf (s : State) (c w : Nat) : List Nat :=
  match wOp w with
  | 1 | 2 | 3 => (s.preg c (wP w)).words 4
  | 5 | 6 => (s.preg c (wP w)).words 1
  | _ => []

/-- The fault of the core's next bundle, 0 none (R243, R262). -/
def State.bundleFault (s : State) (c : Nat) : Nat :=
  let pc := s.qn .fcPc c
  if s.qn .fcSize c ≤ pc then 4
  else
    let ws := (List.range 4).map fun i => s.slotAt c pc i
    let w (i : Nat) : Nat := ws.getD i 0
    if !((List.range 4).all fun i => opListed i (w i)) || clash ((List.range 4).map fun i => slotWrites i (w i)) then 1
    else if (wOp (w 3) = 0x0B ∨ wOp (w 3) = 0x0C) ∧ s.enabled c (w 3) ∧ (3 ≤ (s.loopsOf c).length ∨ (s.loopsOf c).any FLoop.rot) then 2
    else if s.enabled c (w 2) && (s.accessOf c (w 2)).any (fun a => !s.fernReach c a) then 3
    else 0

/-- The core's state changes (R261). -/
def fernState (c new : Nat) : Act := look fun s =>
  all [moveState .FC_STATE .FERN_STATE_CHANGE c new,
    set .FERN_RUNNING (Nat.lor (s.rd .FERN_RUNNING - Nat.land (s.rd .FERN_RUNNING) (2 ^ c)) (if new = fcRunning then 2 ^ c else 0)),
    iff ((new == fcStopped || new == fcFaulted) && s.rd .FC_STATE c == fcRunning) (put .fcFade (-1) c)]

/-- The core stops at the faulting bundle without executing it (R262). -/
def fernFault (c why : Nat) : Act := look fun s =>
  all [set .FC_FAULT why c, set .FC_FAULT_PC (s.qn .fcPc c) c, raise .FERN_FAULT c (why + s.qn .fcPc c * 2 ^ 16), fernState c fcFaulted]

-- Slots ------------------------------------------------------------------------------------------------------------

/-- An accumulator result waits for the end of the bundle; a result outside 56 bits wraps and sets FC_AOV (R242, R244). -/
def stage (c acc : Nat) (v : Int) : Act := look fun s =>
  let x := toSigned (ofSigned v 56) 56
  all [one (.staged (s.staged ++ [⟨c, acc, x⟩])), iff (x != v) (set .FC_AOV 1 c)]

/-- A quad multiply operation (R241): `f` makes each lane's new value from the old one and the product. -/
def quadOp (c w : Nat) (f : Int → Int → Int) : Act := look fun s =>
  each (List.range 4) fun i => stage c (4 * (wD w % 4) + i) (f (s.q .fcAcc c (4 * (wD w % 4) + i)) (s.srcA c w i * s.srcB c w i))

/-- An extraction (R244): the value, and whether it saturated. -/
def extract (v : Int) (k : Nat) : Int × Bool := let x := convergent v k; (sat24 x, sat24 x != x)

/-- FC_SAT counts saturated lanes; FERN_SATURATION at most once a second. -/
def satCount (c n : Nat) : Act := iff (n != 0) (all [count .FC_SAT n c, raisePerSecond .FERN_SATURATION .fcSatAt c n])

/-- The four extracted values of quad `q`, and how many saturated. -/
def State.extractQuad (s : State) (c q k : Nat) : List Int × Nat :=
  let xs := (List.range 4).map fun i => extract (s.q .fcAcc c (4 * (q % 4) + i)) k
  (xs.map fun x => x.1, (xs.filter fun x => x.2).length)

/-- A load or extraction that lands `after` bundles later; the physical register is chosen now (R242). -/
def land (c after ix : Nat) (v : Int) : Act := look fun s =>
  one (.landings (s.landings ++ [⟨c, s.qn .fcBundle c + after, ix, ofSigned v 24⟩]))

/-- Loads (R241, R242): `n` words into registers from D on; the shared audio SRAM halts issue. -/
def fernLd (c w n : Nat) : Act := look fun s =>
  let as := (s.preg c (wP w)).words n
  let far := as.any fun a => decide (0x10000 ≤ a)
  all [each ((List.range n).zip as) fun (i, a) => land c (if far then 1 else 3) (s.regIx c (bit (wF w) 3) (wD w + i)) (s.fernLoad c a),
    iff far (put .fcHalt 1 c), stepPtr c (wP w)]

/-- Stores of `vs` through a pointer (R241). -/
def fernSt (c w : Nat) (vs : List Int) : Act := look fun s =>
  let as := (s.preg c (wP w)).words vs.length
  all [each (as.zip vs) fun (a, v) => fernStore c a v, iff (as.any fun a => decide (0x10000 ≤ a)) (put .fcHalt 1 c), stepPtr c (wP w)]

/-- The loops after a pass over their common last bundle has ended (R249, R251): the next bundle, the loops that stay, and by how much the
window base has risen. -/
def loopEnd (pc : Nat) : List FLoop → Nat × List FLoop × Nat
  | [] => (pc + 1, [], 0)
  | l :: rest =>
    if l.stop ≠ pc then (pc + 1, l :: rest, 0)
    else if l.rot then
      if l.pass + 1 < l.total + l.stages - 1 then (l.start, { l with pass := l.pass + 1 } :: rest, l.step)
      else let (n, ls, k) := loopEnd pc rest; (n, ls, k + l.step)
    else if 1 < l.left then (l.start, { l with left := l.left - 1 } :: rest, 0)
    else loopEnd pc rest

/-- The core's landings that fall due at bundle `b` reach their registers (R242). -/
def landDue (c b : Nat) : Act := look fun s =>
  let due := s.landings.filter fun l => l.core == c && decide (l.at_ ≤ b)
  all [each due fun l => fernSet c l.reg (toSigned l.v 24), one (.landings (s.landings.filter fun l => !(l.core == c && decide (l.at_ ≤ b))))]

/-- The bundle ends: results become readable, loops turn, the next bundle is chosen (R242, R249); a body that is skipped ends at once, and an
enclosing loop that ends with it turns. FC_CYCLES_PEAK counts a cycle, and
three for a taken branch. -/
def bundleEnd (c : Nat) : Act := look fun s =>
  let jump := s.qn .fcJump c
  let pc := s.qn .fcPc c
  let (next, ls, rise) := loopEnd (if 2 ^ 20 < jump then jump - 2 - 2 ^ 20 else pc) (s.loopsOf c)
  all [
    each (s.staged.filter fun x => x.core == c) (fun x => put .fcAcc x.v c x.acc),
    one (.staged (s.staged.filter fun x => x.core != c)),
    put .fcSlot 0 c, put .fcBundle (s.q .fcBundle c + 1) c, landDue c (s.qn .fcBundle c + 1),
    put .fcJump 0 c,
    if jump = 0 ∨ 2 ^ 20 < jump then all [put .fcPc next c, one (.loops (ls ++ s.loops.filter fun l => l.core != c)), put .fcWb ((s.qn .fcWb c + rise) % 32 : Nat) c,
      addQ .fcCycles 1 c]
    else all [put .fcPc (jump - 1 : Nat) c, addQ .fcCycles 3 c]]

/-- A slot of the core executes (R240, R242): the core runs, its bundle has no fault, and its next slot is one of `slots` and holds
operation `op`. -/
def fernSlot (c : Nat) (slots : List Nat) (op : Nat) (act : Nat → Act) : Act := look fun s =>
  let i := s.qn .fcSlot c
  let w := s.slotAt c (s.qn .fcPc c) i
  if s.rd .FC_STATE c ≠ fcRunning ∨ s.q .fcIdle c = 1 ∨ (i = 0 ∧ s.q .fcHalt c = 1) then skip
  else if i = 0 ∧ s.bundleFault c ≠ 0 then fernFault c (s.bundleFault c)
  else if !slots.contains i || wOp w != op then skip
  else all [iff (s.enabled c w) (act w), put .fcSlot (i + 1) c, iff (i == 3) (bundleEnd c)]

/-- An integer operation (R241): 24 bits, wrapping; registers of the X file. -/
def aluOp (c op : Nat) (f : Nat → Nat → Nat) : Act := fernSlot c [3] op fun w => look fun s =>
  fernSet c (wD w) (f (ofSigned (s.regX c (wA w)) 24) (ofSigned (s.regX c (wB w)) 24))

/-- SHL and SHR (R241, log 16): an amount of 24 or more, and what SHR shifts in, are left open. -/
def fernShl (a b : Nat) : Nat := if b < 24 then a * 2 ^ b else Config.bigShift false a b
def fernShr (a b : Nat) : Nat :=
  if b < 24 then a / 2 ^ b + (if bit a 23 ∧ Config.shrSigned then 2 ^ 24 - 2 ^ (24 - b) else 0) else Config.bigShift true a b

/-- The core status word (R259). -/
def State.fernStat (s : State) (c : Nat) : Nat :=
  b2n (s.q .fcNew c == 1) + 2 * b2n (s.q .fcFresh c == 1) + 4 * s.rd .FC_AOV c + 256 * (s.qn .fcCtl c % 256)

/-- A loop is entered: its body follows (R249, R251); a count of 0 skips the body, and no branch is counted. -/
def enterLoop (c : Nat) (l : FLoop) (total : Nat) : Act := look fun s =>
  if total = 0 then put .fcJump (2 ^ 20 + l.stop + 2 : Nat) c else one (.loops (l :: s.loops))

-- Blocks -----------------------------------------------------------------------------------------------------------

/-- The program of a core: one of the image's, or a block of the library (R254). -/
def State.fernProg (s : State) (c : Nat) : Option FernProg :=
  let n := s.rd .FC_PROG c
  if n < 32 then s.cfg.bind fun g => g.progs.find? fun p => p.prog == n
  else if n ≤ 36 then s.fwRun.bind fun g => g.lib.find? fun p => p.prog == n
  else none

/-- The data image is loaded, and the core's delay lines read as zero (R253, R261). -/
def fernData (c : Nat) (p : FernProg) : Act := look fun s =>
  all [each (List.range (min p.data.length 0xD000)) (fun k => storeLE (fernDataAt c + 4 * k) (p.data.getD k 0) 4),
    one (.wipe (s.lineAt (s.rd .FC_DL_FIRST c)) (s.lineAt (s.rd .FC_DL_FIRST c + s.rd .FC_DL_COUNT c)))]

/-- A value that the delay-line engine reads or the matrix gives, stored as a word. -/
def fernPoke (c a : Nat) (v : Int) : Act := storeLE (fernDataAt c + 4 * a) (ofSigned v 32) 4

/-- The algorithmic latency of a library block whose look-ahead is a parameter (R264): dynamics, FP_PARAM word 0, 0 to 240 samples. -/
def algLatFollow (c : Nat) : Act := look fun s =>
  iff (s.rd .FC_PROG c == 33) (all [set .FC_ALG_LAT (min 240 (s.rd .FP_PARAM c 0)) c, set .FC_LATENCY (2 * s.fb c + min 240 (s.rd .FP_PARAM c 0)) c])

/-- The parameter page, the tap settings and the results page at a control-cycle start (R259, R260, R265): whether a parameter has
changed. -/
def controlStart (c : Nat) : Act := look fun s =>
  let changed := (List.range 1024).filter fun w => s.rd .FP_PARAM c w != s.loadLE (fernDataAt c + 4 * (0xD000 + w)) 4
  all [each changed (fun w => storeLE (fernDataAt c + 4 * (0xD000 + w)) (s.rd .FP_PARAM c w) 4), put .fcNew (b2n (!changed.isEmpty)) c,
    algLatFollow c,
    each (List.range (s.rd .FC_TAP_COUNT c)) (fun u => all [put .fcTapDelay (s.rd .FT_DELAY c u) c u, put .fcTapLine (s.rd .FT_LINE c u) c u,
      put .fcTapEn (s.rd .FT_EN c u) c u]),
    each (List.range 256) (fun r => set .FR_RESULT (s.loadLE (fernDataAt c + 4 * (0xCF00 + r)) 4) c r)]

/-- The delay-line engine at a block start (R253): `i` is the block's first sample, `ran` tells that the block before it ran. -/
def delayLines (c i : Nat) (ran : Bool) (lost : List (Nat × Nat)) : Act := look fun s =>
  let fb := s.fb c
  let cell (l j : Nat) : Nat := s.lineAt (s.rd .FC_DL_FIRST c + l) + 4 * (j % s.lineLen)
  all [
    iff ran (each (List.range (s.rd .FC_DL_COUNT c)) fun l => each (List.range fb) fun t =>
      storeLE (cell l (i - fb + t)) (s.loadLE (fernDataAt c + 4 * (0xD400 + l * fb + t)) 4) 4),
    each (List.range (s.rd .FC_TAP_COUNT c)) fun u => each (List.range fb) fun t => look fun s =>
      let back := i + t + s.lineLen - s.qn .fcTapDelay c u
      fernPoke c (0xD800 + u * fb + t)
        (if s.q .fcTapEn c u = 0 ∨ lost.contains (u, t) then 0 else toSigned (s.loadLE (cell (s.qn .fcTapLine c u) back) 4) 24),
    iff (!lost.isEmpty) (all [count .FC_PEAT_UNCORR lost.length c, raisePerSecond .FERN_PEAT_UNCORR .fcUncAt c lost.length])]

/-- The last output of every channel is noted, from which the outputs ramp to 0 (R261). -/
def fadeBegin (c i : Nat) : Act := look fun s =>
  let no := s.rd .FC_OUT_COUNT c
  all [put .fcFade (i + 1) c, each (List.range no) fun k => put .fcOutLast (s.q .fcOut c ((s.fb c - 1) * no + k)) c k]

/-- The core starts its block at its entry bundle (R257, R251). -/
def coreStart (c : Nat) : Act := look fun s =>
  all [put .fcPc (s.q .fcEntry c) c, put .fcSlot 0 c, put .fcIdle 0 c, put .fcHalt 0 c, put .fcWb 0 c, put .fcCycles 0 c, put .fcJump 0 c,
    one (.loops (s.loops.filter fun l => l.core != c)), one (.staged (s.staged.filter fun x => x.core != c)),
    one (.landings (s.landings.filter fun l => l.core != c))]

/-- A block start of a core (R257, R261, R263). -/
def blockStart (c : Nat) (lost : List (Nat × Nat)) : Act := look fun s =>
  let i := s.sampleAt s.house
  let fb := s.fb c
  let st := s.rd .FC_STATE c
  let ni := s.rd .FC_IN_COUNT c
  let no := s.rd .FC_OUT_COUNT c
  let ctl := i / fb % s.rd .FC_CTRL_DIV c == 0
  let ended := s.q .fcIdle c == 1
  if i % fb ≠ 0 ∨ st < fcStopped then skip
  else all [
    iff (s.q .fcFade c == -1) (fadeBegin c i),
    iff (st == fcRunning) (all [
      set .FC_CYCLES_PEAK (max (s.rd .FC_CYCLES_PEAK c) (s.qn .fcCycles c)) c,
      if ended then each (List.range (fb * no)) fun k => put .fcOut (toSigned (s.loadLE (fernDataAt c + 4 * (0xF000 + k)) 4) 24) c k
      else all [count .FC_OVERRUNS 1 c, raisePerSecond .FERN_OVERRUN .fcOverAt c 0]]),
    put .fcFresh 0 c, put .fcNew 0 c,
    iff ctl (all [controlStart c, look fun s =>
      let ready := s.domReady (s.rd .FC_DOMAIN c) && s.domReady 0
      if s.q .fcRestartReq c = 1 then
        all [put .fcRestartReq 0 c, match s.fernProg c with | some p => fernData c p | none => skip, put .fcFresh 1 c, put .fcFade 0 c,
          iff (st != fcRunning) (each (List.range (fb * no)) fun k => put .fcOut 0 c k), fernState c fcRunning]
      else if st = fcStopped ∧ s.rd .FC_RUN c = 1 ∧ ready then
        all [put .fcFresh 1 c, put .fcFade 0 c, each (List.range (fb * no)) (fun k => put .fcOut 0 c k), fernState c fcRunning]
      else iff (st == fcRunning && s.rd .FC_RUN c == 0) (fernState c fcStopped)]),
    -- a restart has zeroed the lines (R261)
    delayLines c i (st == fcRunning && !(ctl && s.q .fcRestartReq c == 1)) lost,
    each (List.range (fb * ni)) (fun k => look fun s => fernPoke c (0xE000 + k) (s.q .fcIn c k)),
    look fun s => iff (s.rd .FC_STATE c == fcRunning) (all [put .fcCtl (i / fb % s.rd .FC_CTRL_DIV c : Nat) c, coreStart c])]

/-- The output of channel `k` of core `c` at sample `i` (R258, R261). -/
def State.fernOut (s : State) (c k i : Nat) : Int :=
  let f := s.q .fcFade c
  if f ≤ 0 then (if s.rd .FC_STATE c = fcRunning ∨ f = -1 then s.q .fcOut c (i % s.fb c * s.rd .FC_OUT_COUNT c + k) else 0)
  else
    let n := i + 2 - f.toNat
    if 64 ≤ n then 0 else roundQ (s.q .fcOutLast c k * (64 - n : Nat)) 64

/-- The core and channel that Fern input or output `n` belongs to. -/
def State.fernInOf (s : State) (n : Nat) : Option (Nat × Nat) :=
  ((List.range 32).find? fun c => s.rd .FC_STATE c ≠ 0 && decide (s.rd .FC_IN_FIRST c ≤ n) && decide (n < s.rd .FC_IN_FIRST c + s.rd .FC_IN_COUNT c)).map
    fun c => (c, n - s.rd .FC_IN_FIRST c)
def State.fernOutOf (s : State) (n : Nat) : Option (Nat × Nat) :=
  ((List.range 32).find? fun c => s.rd .FC_STATE c ≠ 0 && decide (s.rd .FC_OUT_FIRST c ≤ n) && decide (n < s.rd .FC_OUT_FIRST c + s.rd .FC_OUT_COUNT c)).map
    fun c => (c, n - s.rd .FC_OUT_FIRST c)

-- Commands ---------------------------------------------------------------------------------------------------------

/-- FERN_BLOCK_START (R257): `lost` names tap words whose samples an uncorrectable codeword has taken. -/
def execFernBlockStart (t core : Nat) (lost : List (Nat × Nat)) (s : State) : Host.Outcome State Fault Refusal :=
  run (all [at_ t, blockStart core lost]) s

/-- FC_RESTART (R261): effective at the next control-cycle start of a core that has a program. -/
def execFcRestart (core value : Nat) (s : State) : Host.Outcome State Fault Refusal :=
  run (iff (value % 2 == 1 && decide (fcStopped ≤ s.rd .FC_STATE core)) (put .fcRestartReq 1 core)) s

/-- FP_LEN_WRITE (R247, R248): from outside; a length that is no power of two is refused in bit-reversed mode, others clamp. -/
def execFpLenWrite (core ptr value : Nat) (s : State) : Host.Outcome State Fault Refusal :=
  run (
    let v := if value = 0 then 2097152 else min value 2097152
    let say : Status → Nat → Act := sayWritten .FP_LEN core ptr
    if 32 ≤ core ∨ 8 ≤ ptr then skip
    else if s.rd .FP_MODE core ptr = 2 ∧ 2 ^ Nat.log2 v ≠ v then say .BAD_LENGTH (s.rd .FP_LEN core ptr)
    else all [writeLen core ptr v, iff (2097152 < value) (say .CLAMPED (v % 2097152))]) s

/-- NOP (R241): in any slot. -/
def execNop (t core : Nat) (s : State) : Host.Outcome State Fault Refusal := run (all [at_ t, fernSlot core [0, 1, 2, 3] 0 fun _ => skip]) s

/-- MPY.4 (R241). -/
def execMpy4 (t core : Nat) (s : State) : Host.Outcome State Fault Refusal :=
  run (all [at_ t, fernSlot core [0, 1] 1 fun w => quadOp core w fun _ p => p]) s

/-- MAC.4 (R241). -/
def execMac4 (t core : Nat) (s : State) : Host.Outcome State Fault Refusal :=
  run (all [at_ t, fernSlot core [0, 1] 2 fun w => quadOp core w fun a p => a + p]) s

/-- MSU.4 (R241). -/
def execMsu4 (t core : Nat) (s : State) : Host.Outcome State Fault Refusal :=
  run (all [at_ t, fernSlot core [0, 1] 3 fun w => quadOp core w fun a p => a - p]) s

/-- CLR.4 (R241). -/
def execClr4 (t core : Nat) (s : State) : Host.Outcome State Fault Refusal :=
  run (all [at_ t, fernSlot core [0, 1] 4 fun w => quadOp core w fun _ _ => 0]) s

/-- LD.4 (R241). -/
def execLd4 (t core : Nat) (s : State) : Host.Outcome State Fault Refusal :=
  run (all [at_ t, fernSlot core [2] 1 fun w => fernLd core w 4]) s

/-- ST.4 (R241). -/
def execSt4 (t core : Nat) (s : State) : Host.Outcome State Fault Refusal :=
  run (all [at_ t, fernSlot core [2] 2 fun w => look fun s => fernSt core w ((List.range 4).map (s.srcA core w))]) s

/-- STX.4 (R241, R244): the quad is named by field A. -/
def execStx4 (t core : Nat) (s : State) : Host.Outcome State Fault Refusal :=
  run (all [at_ t, fernSlot core [2] 3 fun w => look fun s =>
    all [fernSt core w (s.extractQuad core (wA w) (wK w)).1, satCount core (s.extractQuad core (wA w) (wK w)).2]]) s

/-- EXT.4 (R241, R244): the quad is named by field A. -/
def execExt4 (t core : Nat) (s : State) : Host.Outcome State Fault Refusal :=
  run (all [at_ t, fernSlot core [2] 4 fun w => look fun s =>
    all [each ((List.range 4).zip (s.extractQuad core (wA w) (wK w)).1) fun (i, v) => land core 3 (s.regIx core (bit (wF w) 3) (wD w + i)) v,
      satCount core (s.extractQuad core (wA w) (wK w)).2]]) s

/-- LD.1 (R241). -/
def execLd1 (t core : Nat) (s : State) : Host.Outcome State Fault Refusal :=
  run (all [at_ t, fernSlot core [2] 5 fun w => fernLd core w 1]) s

/-- ST.1 (R241). -/
def execSt1 (t core : Nat) (s : State) : Host.Outcome State Fault Refusal :=
  run (all [at_ t, fernSlot core [2] 6 fun w => look fun s => fernSt core w [s.srcA core w 0]]) s

/-- FERN_SRAM_ACCESS_DONE (R242): the access has taken 9 to 12 cycles and issue resumes. -/
def execFernSramAccessDone (t core cycles : Nat) (s : State) : Host.Outcome State Fault Refusal :=
  run (all [at_ t, look fun s => iff (s.q .fcHalt core == 1) (all [put .fcHalt 0 core, addQ .fcCycles (clampNat 9 12 cycles) core])]) s

/-- MOV.4 (R241). -/
def execMov4 (t core : Nat) (s : State) : Host.Outcome State Fault Refusal :=
  run (all [at_ t, fernSlot core [3] 1 fun w => look fun s =>
    each (List.range 4) fun i => fernSet core ((wD w + i) % 32) (s.regX core (wA w + i))]) s

/-- ADD (R241). -/
def execAdd (t core : Nat) (s : State) : Host.Outcome State Fault Refusal := run (all [at_ t, aluOp core 2 fun a b => a + b]) s

/-- SUB (R241). -/
def execSub (t core : Nat) (s : State) : Host.Outcome State Fault Refusal := run (all [at_ t, aluOp core 3 fun a b => a + 2 ^ 24 - b]) s

/-- AND (R241). -/
def execAnd (t core : Nat) (s : State) : Host.Outcome State Fault Refusal := run (all [at_ t, aluOp core 4 Nat.land]) s

/-- OR (R241). -/
def execOr (t core : Nat) (s : State) : Host.Outcome State Fault Refusal := run (all [at_ t, aluOp core 5 Nat.lor]) s

/-- XOR (R241). -/
def execXor (t core : Nat) (s : State) : Host.Outcome State Fault Refusal := run (all [at_ t, aluOp core 6 Nat.xor]) s

/-- SHL (R241). -/
def execShl (t core : Nat) (s : State) : Host.Outcome State Fault Refusal := run (all [at_ t, aluOp core 7 fernShl]) s

/-- SHR (R241). -/
def execShr (t core : Nat) (s : State) : Host.Outcome State Fault Refusal := run (all [at_ t, aluOp core 8 fernShr]) s

/-- LDI (R241). -/
def execLdi (t core : Nat) (s : State) : Host.Outcome State Fault Refusal :=
  run (all [at_ t, fernSlot core [3] 9 fun w => fernSet core (wD w) (toSigned (wF w) 9)]) s

/-- SETP (R241, R247): the address register is named by D[2:0]. -/
def execSetp (t core : Nat) (s : State) : Host.Outcome State Fault Refusal :=
  run (all [at_ t, fernSlot core [3] 0x0A fun w => look fun s =>
    setp core (wD w % 8) (bits (wF w) 0 2) (if bit (wF w) 4 then some (bits (wF w) 2 2) else none) (s.regX core (wA w))]) s

/-- LOOP (R249). -/
def execLoop (t core : Nat) (s : State) : Host.Outcome State Fault Refusal :=
  run (all [at_ t, fernSlot core [3] 0x0B fun w => look fun s =>
    let pc := s.qn .fcPc core
    let n := ofSigned (s.regX core (wA w)) 16
    enterLoop core ⟨core, pc + 1, pc + 1 + wF w, n, false, 0, 0, 0, 0⟩ n]) s

/-- RLOOP (R251). -/
def execRloop (t core : Nat) (s : State) : Host.Outcome State Fault Refusal :=
  run (all [at_ t, fernSlot core [3] 0x0C fun w => look fun s =>
    let pc := s.qn .fcPc core
    let n := ofSigned (s.regX core (wA w)) 16
    enterLoop core ⟨core, pc + 1, pc + 1 + wF w, 0, true, n, wD w % 8 + 1, if bit (wD w) 3 then 4 else 1, 0⟩ n]) s

/-- BR (R241, R249): a taken branch leaves every loop whose body excludes its target. -/
def execBr (t core : Nat) (s : State) : Host.Outcome State Fault Refusal :=
  run (all [at_ t, fernSlot core [3] 0x0D fun w => look fun s =>
    let target := ofSigned (s.regX core (wA w)) 12
    if bit (wF w) 0 ∧ s.regX core (wB w) = 0 then skip
    else all [put .fcJump (target + 1 : Nat) core,
      one (.loops ((s.loopsOf core).dropWhile (fun l => !(decide (l.start ≤ target) && decide (target ≤ l.stop))) ++ s.loops.filter fun l => l.core != core))]]) s

/-- SETWB (R251). -/
def execSetwb (t core : Nat) (s : State) : Host.Outcome State Fault Refusal :=
  run (all [at_ t, fernSlot core [3] 0x0E fun w => put .fcWb (wF w % 32 : Nat) core]) s

/-- STAT (R259). -/
def execStat (t core : Nat) (s : State) : Host.Outcome State Fault Refusal :=
  run (all [at_ t, fernSlot core [3] 0x0F fun w => look fun s => fernSet core (wD w) (s.fernStat core)]) s

/-- END (R241): the block ends; loads in flight land, and the core idles until the next block start. -/
def execEnd (t core : Nat) (s : State) : Host.Outcome State Fault Refusal :=
  run (all [at_ t, fernSlot core [3] 0x10 fun _ => look fun s => all [put .fcIdle 1 core, landDue core (s.qn .fcBundle core + 3)]]) s

end Sys2Proof.Machine
end

