-- ==== Sys2Proof/Machine/Video.lean ====
section
/-! DEFINITION. Picture words: their packing (R81, R88), ancillary packets among them (R71), charcoal (R150), the frame-store regions (R81) with
the substitution of a line's bytes (R82), and the frames that stand delivered. -/
set_option Elab.async false
namespace Sys2Proof.Machine

-- Packing ----------------------------------------------------------------------------------------------------------

/-- Words of `w` bits packed, the first in the least significant bits (R88; log 48 for the frame store). -/
def packWords (w : Nat) : List Nat → Nat
  | [] => 0
  | x :: xs => x % 2 ^ w + 2 ^ w * packWords w xs

/-- The first `n` words of `w` bits of a packed number. -/
def unpackWords (w : Nat) : Nat → Nat → List Nat
  | 0, _ => []
  | n + 1, v => v % 2 ^ w :: unpackWords w n (v / 2 ^ w)

/-- Two lists, element by element in turn. -/
def interleave {α : Type} : List α → List α → List α
  | a :: as, b :: bs => a :: b :: interleave as bs
  | as, [] => as
  | [], bs => bs

/-- The elements in even places, and those in odd places. -/
def evens {α : Type} : List α → List α
  | a :: _ :: r => a :: evens r
  | as => as
def odds {α : Type} : List α → List α
  | _ :: b :: r => b :: odds r
  | _ => []

-- Formats ----------------------------------------------------------------------------------------------------------

/-- The VI_RATE code of the interface that a format has on a single link (R62, R144). -/
def rateOf (fmt : Nat) : Nat := if fmt ≤ 2 then 1 else if fmt ≤ 0x0B then 2 else if fmt ≤ 0x0E then 3 else if fmt ≤ 0x12 then 4 else 5

/-- Active samples and lines of a format (log 19). -/
def activeSize : Nat → Nat × Nat
  | 0x01 => (720, 486) | 0x02 => (720, 576) | 0x03 | 0x04 | 0x05 => (1280, 720)
  | n => if n = 0 ∨ 0x15 < n then (0, 0) else if n ≤ 0x0E then (1920, 1080) else (3840, 2160)

/-- The format of R42 that a measured structure matches (R67): samples a line, lines, two fields, serial rate; 0 outside R42. -/
def fmtOf (samples total : Nat) (interlaced : Bool) (rate frac : Nat) : Nat :=
  ((List.range 22).find? fun c => match format c with
    | some f => f.spl == samples && f.lines == total && (f.sw2 != 0) == interlaced && rateOf c == rate &&
        (rate == 1 || (f.den == 1001) == (frac == 1))
    | none => false).getD 0

/-- The format of a received frame (R67). -/
def sdiFmt (f : SdiFrame) : Nat := fmtOf f.samples f.total f.interlaced f.rate f.frac

/-- The structure of a received frame, as one number, for comparison with the frames before it (R66). -/
def sdiSig (f : SdiFrame) : Nat :=
  f.samples + 2 ^ 16 * f.total + 2 ^ 32 * b2n f.interlaced + 2 ^ 33 * f.rate + 2 ^ 36 * f.frac + 2 ^ 37 * f.level + 2 ^ 39 * b2n f.unsupported + 2 ^ 40

/-- Bits a second of a VI_RATE code, over 1001 at a 1/1.001 rate (R83). -/
def bitRate (rate frac : Nat) : Nat :=
  let r := match rate with | 1 => 270000000 | 2 => 1485000000 | 3 => 2970000000 | 4 => 5940000000 | 5 => 11880000000 | _ => 0
  if frac = 1 then r * 1000 / 1001 else r

-- Ancillary packets ------------------------------------------------------------------------------------------------

/-- Which words of one data stream belong to ancillary packets that go: a packet is 000h, 3FFh, 3FFh, DID, SDID or DBN, a count, that many user
words and a checksum (log 48). -/
def ancMask (goes : Nat → Nat → Bool) : Nat → List Nat → List Bool
  | k + 1, a :: b :: c :: did :: sdid :: n :: rest =>
    if a = 0 ∧ b = 0x3FF ∧ c = 0x3FF then
      let len := n % 256 + 1
      List.replicate (6 + (rest.take len).length) (goes (did % 256) (sdid % 256)) ++ ancMask goes k (rest.drop len)
    else false :: ancMask goes k (b :: c :: did :: sdid :: n :: rest)
  | _, xs => xs.map fun _ => false

/-- The ancillary packets of one data stream, each from its DID to its last user word, 8 bits a word. -/
def ancWords : Nat → List Nat → List (List Nat)
  | k + 1, a :: b :: c :: did :: sdid :: n :: rest =>
    if a = 0 ∧ b = 0x3FF ∧ c = 0x3FF then
      ((did :: sdid :: n :: rest.take (n % 256)).map (· % 256)) :: ancWords k (rest.drop (n % 256 + 1))
    else ancWords k (b :: c :: did :: sdid :: n :: rest)
  | _, _ => []

/-- The ancillary packets of a line. -/
def lineAnc (sd : Bool) (ws : List Nat) : List (List Nat) :=
  if sd then ancWords ws.length ws else ancWords ws.length (evens ws) ++ ancWords ws.length (odds ws)

/-- Words put over a line from place `off` on, `step` places apart; what falls outside the line is lost. -/
def overlay (step : Nat) : Nat → List Nat → List Nat → List Nat
  | _, [], ls => ls
  | off, w :: ws, ls => overlay step (off + step) ws (ls.set off w)

/-- A DID of audio data or audio control packets: ST 299-1, ST 299-2, ST 272 (log 48). -/
def audioDid (did : Nat) : Bool :=
  (decide (0xE0 ≤ did) && decide (did ≤ 0xE7)) || (decide (0xA0 ≤ did) && decide (did ≤ 0xA7)) || (decide (0xEC ≤ did) && decide (did ≤ 0xEF))
    || decide (0xF8 ≤ did)

/-- DID and SDID of an ST 352 packet (log 48). -/
def vpidDid (did sdid : Nat) : Bool := did == 0x41 && sdid == 0x01

/-- Blanking in place of a word: chroma 200h in even places, luma 040h in odd ones (R150). -/
def blankAt (i : Nat) : Nat := if i % 2 = 0 then 0x200 else 0x40

/-- A line without the packets that go. On ST 259 the words are one stream, otherwise chroma and luma are one each (log 48). -/
def stripLine (sd : Bool) (goes : Nat → Nat → Bool) (ws : List Nat) : List Nat :=
  let mask := if sd then ancMask goes ws.length ws
    else interleave (ancMask goes ws.length (evens ws)) (ancMask goes ws.length (odds ws))
  ((ws.zip mask).zipIdx).map fun x => if x.1.2 then blankAt x.2 else x.1.1

/-- What frame and line alignment remove (R71): audio data and control, ST 352, and with `strip` every other packet. -/
def removed (strip : Bool) (did sdid : Nat) : Bool := strip || audioDid did || vpidDid did sdid

/-- A line of charcoal words (R150). -/
def charcoalLine (spl : Nat) : List Nat := (List.range (2 * spl)).map blankAt

-- Frame store ------------------------------------------------------------------------------------------------------

/-- The frame-store region of port `n`, and a slot in it (R81). -/
def regionBase (n : Nat) : Nat := 0x8000000000 + n * 0x05800000
def slotBase (n k : Nat) : Nat := regionBase n + k * 0x01E00000

/-- Where port `n` stores a frame in slot `k`: a link of a quad-link 3G group has a quarter of the base port's slot (R81, log 48). -/
def State.storeAt (s : State) (n k : Nat) : Nat :=
  if s.rd .VI_LINK_MODE n ≠ 0 ∧ s.rd .VI_RATE n = 3 then slotBase (n / 4 * 4) k + n % 4 * 0x780000 else slotBase n k

/-- Bytes of a stored line of `spl` samples of 20 bits (R81). -/
def lineBytes (spl : Nat) : Nat := spl * 20 / 8

/-- A frame's lines are stored from address `a` on. -/
def storeLines (spl : Nat) : Nat → List (List Nat) → Act
  | _, [] => skip
  | a, l :: ls => (storeLE a (packWords 10 l) (lineBytes spl)).andThen (storeLines spl (a + lineBytes spl) ls)

/-- The stored lines of a frame, packed as they stand. -/
def State.storedLines (s : State) (a spl total : Nat) : List Nat := (List.range total).map fun L => s.loadLE (a + L * lineBytes spl) (lineBytes spl)

/-- Lines with the 64 bytes of each uncorrectable codeword, named by line and first byte, replaced by those at the same place of the line read
before (R82). -/
def substitute (bad : List (Nat × Nat)) : Nat → Nat → List Nat → List Nat
  | _, _, [] => []
  | L, prev, v :: vs =>
    let v' := (bad.filter fun b => b.1 == L).foldl (fun x b => setBits x (8 * b.2) 512 (bits prev (8 * b.2) 512)) v
    v' :: substitute bad (L + 1) v' vs

-- Delivered frames -------------------------------------------------------------------------------------------------

/-- What stands at place `k` of the delivered frames: the lines, or none. Place 2 n + F mod 2 holds frame F of input n's stream, place 1024 + h
the picture of head h. -/
def State.pic (s : State) (k : Nat) : List (List Nat) := ((s.pics.find? fun p => p.key == k).map Pic.lines).getD []

/-- The lines become what stands at place `k`. -/
def putPic (k : Nat) (ls : List (List Nat)) : Act := look fun s =>
  one (.pics ((s.pics.filter fun p => p.key != k) ++ (if ls.isEmpty then [] else [⟨k, ls⟩])))

/-- Frame `F` of input `n`'s stream stands delivered. -/
def deliverFrame (n F : Nat) (ls : List (List Nat)) : Act := all [putPic (2 * n + F % 2) ls, put .picFrame (F + 1 : Nat) n]

/-- The frame of input `n`'s stream that stands for frame `F`: that frame, or the last one delivered. -/
def State.frameOf (s : State) (n F : Nat) : List (List Nat) :=
  let last := s.qn .picFrame n - 1
  if last = F ∨ last = F + 1 then s.pic (2 * n + F % 2) else s.pic (2 * n + last % 2)

end Sys2Proof.Machine
end

