-- ==== Sys2Proof/Machine/Ingress.lean ====
section
/-! DEFINITION. Video inputs and frame synchronisation (03_video_ingress.md, R62 to R84): the input states, format and rate
checks, the frame store, the frame reader, line alignment and loss. -/
set_option Elab.async false
namespace Sys2Proof.Machine

/-- Input states (R83). -/
abbrev viOff : Nat := 0
abbrev viNoSignal : Nat := 1
abbrev viRateLocked : Nat := 2
abbrev viTrsLocked : Nat := 3
abbrev viReady : Nat := 4
abbrev viMismatch : Nat := 5

/-- The input delivers no source: NO_SOURCE is entered and reported once. -/
def inputSilent (n : Nat) : Act := look fun s =>
  if s.rd .VI_ALIGN_STATE n = 0 then skip
  else all [set .VI_ALIGN_STATE 0 n, set .VI_TIMED 0 n, set .VI_LATENCY_LINES 0 n, put .viReadP 0 n, put .viHold 0 n, raise .INPUT_NO_SOURCE n]

/-- An input's picture is lost (R78): it delivers no source, and its stored frames are read no more. -/
def inputNoSource (n : Nat) : Act := look fun s =>
  if s.rd .VI_ALIGN_STATE n = 0 then skip
  else all [inputSilent n, one (.frames (s.frames.filter fun f => f.input != n))]

/-- What the delivery of an input becomes when it enters READY (R75, R79): acquiring in line alignment, passing in
transparent alignment; in frame alignment the reader decides at the next frame start. -/
def inputAligning (n : Nat) : Act := look fun s =>
  if s.rd .VI_LINK_MODE n = 2 then skip
  else match s.rd .VI_ALIGN n with
  | 1 => all [set .VI_ALIGN_STATE 5 n, set .VI_TIMED 0 n, put .viAlignCnt 0 n]
  | 2 => all [set .VI_ALIGN_STATE 4 n, set .VI_TIMED 0 n, set .VI_LATENCY_LINES 0 n]
  | _ => skip

/-- An input changes state (R66): leaving READY in line or transparent alignment ends its delivery (R78), entering READY
starts it; frames of another structure are counted afresh. -/
def inputState (n new : Nat) : Act := look fun s =>
  let old := s.rd .VI_STATE n
  if old = new then skip
  else all [moveState .VI_STATE .INPUT_STATE_CHANGE n new, put .viOther 0 n,
    iff (new != viMismatch) (set .VI_MISMATCH_WHY 0 n),
    iff (old == viReady && s.rd .VI_ALIGN n != 0) (inputNoSource n),
    iff (new == viReady) (all [set .VI_ASRC (1 - s.rd .VI_SYNC_SRC n) n, inputAligning n])]

/-- The base port of a quad-link input group, or the port itself. -/
def State.viBase (s : State) (n : Nat) : Nat := if s.rd .VI_LINK_MODE n = 0 then n else n / 4 * 4

/-- The interface (VO_STD code, R144) of what port `n` receives at a rate and level: a link of a quad-link group has the group's (R62, R64). -/
def State.stdOf (s : State) (n rate level : Nat) : Nat :=
  match rate with
  | 1 => 1
  | 2 => 2
  | 3 => if s.rd .VI_LINK_MODE n ≠ 0 then (if s.q .viSquare (s.viBase n) = 1 then 8 else 7) else if level = 2 then 4 else 3
  | 4 => 5
  | 5 => if s.rd .VI_LINK_MODE n ≠ 0 then 9 else 6
  | _ => 0

/-- The port of a quad that carries link `l` of its group (1 to 4), and the place in the group of what port `n` carries (R64). -/
def State.linkPort (s : State) (b l : Nat) : Nat := b + bits (s.rd .VI_QL_ORDER b) (2 * (l - 1)) 2
def State.linkPos (s : State) (n : Nat) : Nat :=
  if s.rd .VI_LINK_MODE n = 0 then n else (([1, 2, 3, 4].find? fun l => s.linkPort (s.viBase n) l == n).elim n fun l => s.viBase n + (l - 1))

/-- The format that a measured structure stands for: the 2160p format of the group on a link of a quad-link 3G group (R62, R64). -/
def State.groupFmt (s : State) (n fmt rate : Nat) : Nat :=
  if s.rd .VI_LINK_MODE n ≠ 0 ∧ rate = 3 ∧ 8 ≤ fmt ∧ fmt ≤ 0x0E then fmt + 7 else fmt

/-- Whether the frame's interface is a quad-link 12G group's: 11.88 Gb/s on a port of a quad (R65). -/
def State.isQuad12 (s : State) (n rate : Nat) : Bool := s.rd .VI_LINK_MODE n != 0 && rate == 5

/-- The links of a quad-link group are all READY and their skew lies within two lines (R64). The base port itself is judged by
its own checks. -/
def State.quadWhole (s : State) (b : Nat) : Bool :=
  let spl := match format (s.rd .VI_FMT (b + 1)) with | some f => f.spl | none => 5500
  [1, 2, 3].all (fun k => s.rd .VI_STATE (b + k) == viReady) &&
    [0, 1, 2, 3].all (fun k => decide (s.qn .viSkew (b + k) ≤ 2 * spl))

/-- Why a structure is not accepted, 0 if it is (R63, R65, R67, R68), the first of 3, 4, 1, 2. The alignment of a quad-link 12G group is its
base's matter (R65). -/
def State.whyNot (s : State) (n fmt rate : Nat) (unsupported : Bool) (ppm : Int) : Nat :=
  let q12 := s.isQuad12 n rate
  if unsupported || (fmt == 0 && !q12) then 3
  else if s.rd .VI_LINK_MODE n == 1 && !s.quadWhole n then 4
  else if (s.rd .VI_ALIGN (s.viBase n) != 2 &&
      (if q12 then s.rd .VI_LINK_MODE n == 1 else s.groupFmt n fmt rate != s.rd .RD_FORMAT (s.rd .VI_DOMAIN (s.viBase n)))) then 1
  else if ppm < -50000 || 50000 < ppm then 2
  else 0

/-- MISMATCH is entered, or its reason follows (R66, R68). -/
def inputMismatch (n why : Nat) : Act := look fun s =>
  if s.rd .VI_STATE n = viMismatch then all [iff (why == 4 && s.rd .VI_MISMATCH_WHY n != 4) (raise .QUAD_LINK_FAULT n), set .VI_MISMATCH_WHY why n]
  else all [inputState n viMismatch, set .VI_MISMATCH_WHY why n, raise .FORMAT_MISMATCH n why,
    iff (why == 4) (raise .QUAD_LINK_FAULT n)]

/-- The last structure is judged again, after a write or a change in its group (R66); it becomes the accepted one where a write accepts it. -/
def inputRejudge (n : Nat) : Act := look fun s =>
  let st := s.rd .VI_STATE n
  if st ≠ viReady ∧ st ≠ viMismatch then skip
  else
    let fmt := if s.rd .VI_FMT n = 255 then 0 else s.rd .VI_FMT n
    let why := s.whyNot n fmt (s.rd .VI_RATE n) (s.q .viUnsup n == 1) (s.q .viPpm n)
    if why = 0 then all [iff (st == viMismatch) (put .viLastOk (s.q .viLastFmt n) n), inputState n viReady] else inputMismatch n why

/-- The base of a quad-link group follows its links (R64). DESIGN CHOICE: VI_QL_SKEW above 4,095 samples shows modulo 2^12 (log 47). -/
def quadFollow (n : Nat) : Act := look fun s =>
  if s.rd .VI_LINK_MODE n = 0 then skip
  else
    let b := n / 4 * 4
    let order := [1, 2, 3, 4].foldl (fun acc l =>
      let off := match [0, 1, 2, 3].find? (fun k => s.qn .viLink (b + k) == l) with | some k => k | none => l - 1
      acc + off * 4 ^ (l - 1)) 0
    let skew := [0, 1, 2, 3].foldl (fun m k => max m (s.qn .viSkew (b + k))) 0
    all [iff (order != s.rd .VI_QL_ORDER b && order != 0xE4) (raise .QUAD_LINK_ORDER b order),
      set .VI_QL_ORDER order b, set .VI_QL_SKEW skew b, iff (n != b) (inputRejudge b)]

/-- A complete frame moves the input (R66): two of one structure in TRS_LOCKED, two of another in READY, two accepted ones
in MISMATCH. The two frames that qualify an input count as good (log 8). -/
def inputJudge (n sig why : Nat) : Act := look fun s =>
  let same := if s.qn .viLastFmt n = sig then s.qn .viSame n + 1 else 1
  let goodLast : Act := look fun s =>
    one (.frames (s.frames.map fun f => if f.input == n && f.idx + 2 > s.qn .viFrameLast n then { f with good := true } else f))
  let moved : Act :=
    match s.rd .VI_STATE n with
    | 3 => if 2 ≤ same then (if why = 0 then all [put .viLastOk sig n, goodLast, inputState n viReady] else inputMismatch n why) else skip
    | 4 =>
      if sig = s.qn .viLastOk n then put .viOther 0 n
      else if 1 ≤ s.qn .viOther n then all [inputState n viTrsLocked, put .viSame 0 n]
      else put .viOther 1 n
    | 5 =>
      if why = 0 then
        (if 1 ≤ s.qn .viOther n then all [put .viLastOk sig n, goodLast, inputState n viReady] else put .viOther 1 n)
      else all [put .viOther 0 n, inputMismatch n why]
    | _ => skip
  all [put .viSame same n, put .viLastFmt sig n, moved]

/-- The slot that the next frame of port `n` is stored in (R81): a free one, otherwise the one written longest ago that does not hold the frame
being read (log 48). -/
def State.slotFor (s : State) (n : Nat) : Nat :=
  let own := s.frames.filter fun f => f.input == n
  match [0, 1, 2].find? fun k => !own.any fun f => f.slot == k with
  | some k => k
  | none => (own.find? fun f => f.idx != s.qn .viReadP (s.viBase n)).elim 0 VFrame.slot

/-- A received frame is stored (R81). -/
def storeFrame (n idx std fmt : Nat) (good : Bool) (f : SdiFrame) : Act := look fun s =>
  let k := s.slotFor n
  all [storeLines f.samples (s.storeAt n k) f.lines,
    one (.frames ((s.frames.filter fun g => !(g.input == n && g.slot == k)) ++ [⟨n, idx, f.start, good, k, f.samples, f.total, std, fmt⟩]))]

/-- A frame's lines as line or transparent alignment passes them (R71, R72). -/
def State.passLines (s : State) (n rate : Nat) (ls : List (List Nat)) : List (List Nat) :=
  let b := s.viBase n
  if s.rd .VI_ALIGN b = 2 then ls else ls.map (stripLine (rate == 1) (removed (s.rd .VI_ANC_MODE b == 1)))

/-- In line and transparent alignment a good frame has passed to the crosspoint, without audio and ST 352 packets in line alignment (R71, R72,
R75). -/
def passFrame (n : Nat) (f : SdiFrame) : Act := look fun s =>
  let b := s.viBase n
  iff (s.rd .VI_ALIGN b != 0) (deliverFrame (s.linkPos n) (s.frameNow (s.rd .VI_DOMAIN b)) (s.passLines n f.rate f.lines))

/-- The identifier of a received frame (R67): DESIGN CHOICE: a conflict is found, or gone, when two frames in a row disagree, or agree (log 47). -/
def vpidTake (n : Nat) (f : SdiFrame) : Act := look fun s =>
  match f.vpid with
  | some v =>
    let now : Int := if f.vpidAgrees then 1 else 2
    let conflict := if s.q .viClash n = now then b2n !f.vpidAgrees else s.rd .VI_VPID_CONFLICT n
    all [set .VI_VPID v n, set .VI_VPID_PRESENT 1 n, set .VI_PSF (b2n f.psf) n, put .viClash now n,
      iff (conflict == 1 && s.rd .VI_VPID_CONFLICT n == 0) (raise .VPID_CONFLICT n), set .VI_VPID_CONFLICT conflict n]
  | none => all [set .VI_VPID_PRESENT 0 n, set .VI_PSF 0 n, put .viClash 0 n]

/-- A received SDI frame is measured, checked and stored (R66 to R73, R76, R81). -/
def sdiFrame (n : Nat) (f : SdiFrame) : Act := look fun s =>
  let st := s.rd .VI_STATE n
  if (s.rd .VI_PORT_MODE n ≠ 1 ∧ s.rd .VI_PORT_MODE n ≠ 2) ∨ st < viTrsLocked then skip
  else
    let sig := sdiSig f
    let q12 := s.isQuad12 n f.rate
    let wrong := st == viReady && sig != s.qn .viLastOk n
    let idx := s.qn .viFrameLast n + 1
    let good := f.complete && st == viReady && !wrong
    let fmt := if sdiFmt f == 0 && q12 then 255 else if s.rd .VI_LINK_MODE n == 1 then s.groupFmt n (sdiFmt f) f.rate else sdiFmt f
    all [
      put .viFrameLast idx n, put .viSquare (b2n f.square) n,
      storeFrame n idx (s.stdOf n f.rate f.level) fmt good f, iff good (passFrame n f),
      iff (decide (2 ≤ f.rate)) (count .VI_CRC_LINES f.crcLines n),
      count .VI_ANC_CS_ERRS f.ancErrs n,
      count .VI_AUD_PKT_ERRS f.audErrs n,
      iff (!f.complete || wrong) (count .VI_BAD_FRAMES 1 n),
      put .viLink f.linkNo n, put .viSkew f.skew n, vpidTake n f,
      if f.complete then
        all [put .viUnsup (b2n f.unsupported) n,
          iff (!wrong) (all [set .VI_FMT fmt n, set .VI_RATE f.rate n,
            set .VI_RATE_FRAC f.frac n, set .VI_LEVEL f.level n]),
          look fun s => inputJudge n sig (s.whyNot n (sdiFmt f) f.rate f.unsupported (s.q .viPpm n))]
      else all [put .viSame 0 n, put .viOther 0 n],
      quadFollow n]

/-- The rate is judged on every measurement while READY; a mismatch keeps or changes its reason (R66, R68). -/
def rateJudge (n : Nat) : Act := look fun s =>
  let why := s.whyNot n (if s.rd .VI_FMT n = 255 then 0 else s.rd .VI_FMT n) (s.rd .VI_RATE n) (s.q .viUnsup n == 1) (s.q .viPpm n)
  iff (why != 0 && (s.rd .VI_STATE n == viReady || s.rd .VI_STATE n == viMismatch)) (inputMismatch n why)

/-- The input's frame rate is nominally its domain's (R74). -/
def State.rateOfDomain (s : State) (n : Nat) : Bool :=
  match format (s.rd .VI_FMT n), s.domFormat (s.rd .VI_DOMAIN (s.viBase n)) with
  | some f, some g => f.num * g.den == g.num * f.den
  | _, _ => false

/-- A 16-frame rate measurement (R68, R74), `ppm` in hundredths of a part per million of the nominal rate, to which the domain's rate is equal
or not near. -/
def sdiRate (n : Nat) (ppm : Int) : Act := look fun s =>
  if (s.rd .VI_PORT_MODE n ≠ 1 ∧ s.rd .VI_PORT_MODE n ≠ 2) ∨ s.rd .VI_STATE n < viTrsLocked then skip
  else
    let near := s.rateOfDomain n && decide (-100 ≤ ppm) && decide (ppm ≤ 100)
    let cnt := if near then s.q .viSyncCnt n + 16 else 0
    let sync := if s.rd .VI_SYNC_SRC n = 1 then s.rateOfDomain n && decide (-200 ≤ ppm) && decide (ppm ≤ 200) else decide (64 ≤ cnt)
    all [put .viPpm ppm n, setS .VI_OFFSET_PPM ppm n, put .viSyncCnt cnt n, set .VI_SYNC_SRC (b2n sync) n,
      set .VI_ASRC (b2n !sync) n, rateJudge n, quadFollow n]

/-- What the lane reports moves the input (R66). -/
def inputRateLock (n rate frac : Nat) : Act := look fun s =>
  iff (s.rd .VI_STATE n == viNoSignal) (all [set .VI_RATE rate n, set .VI_RATE_FRAC frac n, inputState n viRateLocked])

def inputTrs (n : Nat) : Act := look fun s =>
  iff (s.rd .VI_STATE n == viRateLocked) (all [put .viSame 0 n, put .viLastFmt 0 n, put .viOther 0 n, inputState n viTrsLocked])

def inputTrsLoss (n : Nat) : Act := look fun s =>
  iff (decide (viTrsLocked ≤ s.rd .VI_STATE n)) (all [count .VI_TRS_LOSSES 1 n, inputState n viRateLocked, quadFollow n])

/-- Rate lock is lost (R66). DESIGN CHOICE: VI_FMT, VI_LEVEL, VI_RATE_FRAC, VI_OFFSET_PPM, VI_SYNC_SRC, VI_VPID_PRESENT and VI_VPID_CONFLICT keep
their last values (log 47). -/
def inputLockLoss (n : Nat) : Act := look fun s =>
  iff (s.rd .VI_STATE n != viOff) (all [set .VI_RATE 0 n, put .viPpm 0 n, put .viSyncCnt 0 n, inputState n viNoSignal, quadFollow n])

-- The frame reader -------------------------------------------------------------------------------------------------

/-- What the reader does at a frame start (R76). -/
inductive Pick where
  | first (f : VFrame)
  | noSource
  | again
  | normal (f : VFrame)
  | drop (f : VFrame)
  | recover (f : VFrame)
  | hold
  deriving DecidableEq, Repr

/-- The newest good frame of the list with L(f) ≥ Lo. -/
def newest (fs : List VFrame) (t lo : Nat) : Option VFrame :=
  (fs.filter fun f => f.good && decide (f.start + lo ≤ t)).getLast?

/-- The choice of R76: `p` is the frame last read (0 none), `fs` the frames written, oldest first, `begun` the arrival of the
frame in progress, `tf` the frame period, `min16` VI_FS_MIN. -/
def pick (fs : List VFrame) (p : Nat) (begun : Option Nat) (t tf min16 : Nat) : Pick :=
  let lo := min16 * tf / 16
  let h := tf / 32
  if p = 0 then (match newest fs t lo with | some f => .first f | none => .noSource)
  else
    let c := fs.find? fun f => f.idx == p + 1
    let cStart := match c with
      | some f => some f.start
      | none => if fs.all (fun f => decide (f.idx ≤ p)) then begun else none
    let early := match cStart with | some b => decide (t < b + (lo - h)) | none => false
    if early then .again
    else
      let cGood := match c with | some f => f.good | none => false
      let cLate := match c with | some f => decide (f.start + lo + tf + h ≤ t) | none => false
      if cGood && !cLate then (match c with | some f => .normal f | none => .hold)
      else if cGood then (match newest fs t lo with | some f => .drop f | none => .hold)
      else (match newest (fs.filter fun f => decide (p < f.idx)) t lo with | some f => .recover f | none => .hold)

/-- VI_LATENCY_LINES in frame alignment: L(f) in lines of the domain, truncated (R83). -/
def latencyLines (t start line : Nat) : Nat := if line = 0 then 0 else (t - start) / line

/-- Port `n`'s stored frame `f` is read out as frame `F` of its place, with the store's uncorrectable codewords replaced (R71, R76, R82). -/
def readOut (n F : Nat) (f : VFrame) (bad : List (Nat × Nat)) : Act := look fun s =>
  let pos := s.linkPos n
  let goes := removed (s.rd .VI_ANC_MODE (s.viBase n) == 1)
  let prev := packWords 10 ((s.frameOf pos (F - 1)).getLastD [])
  let raw := substitute bad 1 prev (s.storedLines (s.storeAt n f.slot) f.spl f.total)
  deliverFrame pos F (raw.map fun v => stripLine (f.std == 1) goes (unpackWords 10 (2 * f.spl) v))

/-- The frame of port `m` of a quad-link group that belongs to frame `f` of the base: it started within two lines of it (R64). -/
def State.mate (s : State) (m line : Nat) (f : VFrame) : Option VFrame :=
  s.frames.find? fun g => g.input == m && decide (g.start ≤ f.start + 2 * line) && decide (f.start ≤ g.start + 2 * line)

/-- The stored frames of input `n`; a frame of a quad-link group is good when those of its four links are (R64, R76). -/
def State.stored (s : State) (n line : Nat) : List VFrame :=
  (s.frames.filter fun f => f.input == n).map fun f =>
    if s.rd .VI_LINK_MODE n = 1 then
      { f with good := f.good && [1, 2, 3].all fun k => match s.mate (n + k) line f with | some g => g.good | none => false }
    else f

/-- A frame is read out, for a quad-link group with the frames of its other links. -/
def readLinks (n F line : Nat) (f : VFrame) (bad : List (Nat × Nat × Nat)) : Act := look fun s =>
  let of (m : Nat) := (bad.filter fun b => b.1 == m).map Prod.snd
  all [readOut n F f (of n),
    iff (s.rd .VI_LINK_MODE n == 1) (each [n + 1, n + 2, n + 3] fun m => match s.mate m line f with | some g => readOut m F g (of m) | none => skip)]

/-- VI_LATENCY_LINES follows the frame being read (R83). -/
def latencyShow (n t line : Nat) : Act := look fun s => set .VI_LATENCY_LINES (latencyLines t (s.qn .viReadStart n) line) n

/-- The reader reads frame `f` (R76). -/
def readFrame (n F : Nat) (f : VFrame) (t line : Nat) (bad : List (Nat × Nat × Nat)) : Act :=
  all [put .viReadP f.idx n, put .viReadStart f.start n, put .viHold 0 n, set .VI_ALIGN_STATE 1 n, set .VI_TIMED 1 n,
    put .viHeldStd f.std n, put .viHeldFmt f.fmt n, latencyShow n t line, readLinks n F line f bad]

/-- The reader reads the frame that it read last once more (R76). -/
def readAgain (n F t line : Nat) (bad : List (Nat × Nat × Nat)) : Act := look fun s =>
  all [latencyShow n t line, match s.frames.find? fun f => f.input == n && f.idx == s.qn .viReadP n with | some f => readLinks n F line f bad | none => skip]

/-- FS_DROP and FS_REPEAT: at most once a second, with the count since the last raising (R77). -/
def raiseCounted (e : Ev) (acc last : Qty) (n : Nat) (k : Nat) : Act := look fun s =>
  let c := s.qn acc n + k
  if s.q last n = 0 ∨ s.q last n + psS ≤ (s.now : Int) + 1 then
    all [put acc 0 n, put last (s.now + 1) n, raise e n c]
  else put acc c n

/-- A frame start of the domain at an input in frame alignment (R76 to R78). DESIGN CHOICE: once the hold count has reached VI_HOLD_FRAMES, a good
frame, or a successor that has begun too late to be read, still comes before NO_SOURCE (log 47). -/
def frameRead (n : Nat) (begun : Option Nat) (fm : Format) (bad : List (Nat × Nat × Nat)) : Act := look fun s =>
  let t := s.house
  let F := fm.frameAt t
  let line := fm.linePeriod
  let p := s.qn .viReadP n
  match pick (s.stored n line) p begun t fm.period (s.rd .VI_FS_MIN n) with
  | .first f => readFrame n F f t line bad
  | .noSource => inputSilent n
  | .again => all [count .VI_FS_REPEATS 1 n, raiseCounted .FS_REPEAT .viRepAcc .viRepAt n 1, readAgain n F t line bad]
  | .normal f => readFrame n F f t line bad
  | .drop f => all [count .VI_FS_DROPS (f.idx - (p + 1)) n, raiseCounted .FS_DROP .viDropAcc .viDropAt n (f.idx - (p + 1)),
      readFrame n F f t line bad]
  | .recover f => readFrame n F f t line bad
  | .hold =>
    if s.rd .VI_LOSS_MODE n = 0 ∧ s.rd .VI_HOLD_FRAMES n ≤ s.qn .viHold n then inputNoSource n
    else all [count .VI_HOLDS 1 n, addQ .viHold 1 n, iff (s.rd .VI_ALIGN_STATE n != 2) (raise .INPUT_HOLD n),
      set .VI_ALIGN_STATE 2 n, readAgain n F t line bad]

-- Line alignment ---------------------------------------------------------------------------------------------------

/-- A phase in samples folded into one line of `spl` samples: above minus a half line, at most a half line (R79). -/
def fold (x : Int) (spl : Nat) : Int :=
  let r := x % (spl : Int)
  if (spl : Int) < 2 * r then r - spl else r

/-- The phase of a line-1 EAV at `start` against the domain's frame start, in samples, folded (R79). -/
def phaseOf (fm : Format) (start : Nat) : Int :=
  let fs := fm.frameStart (fm.frameAt start)
  fold ((((start - fs) * fm.num * fm.samples) / (fm.den * psS) : Nat) : Int) fm.spl

/-- A frame start of the domain at an input in line alignment (R79). -/
def lineTrack (n : Nat) (fm : Format) : Act := look fun s =>
  match (s.frames.filter fun f => f.input == n).getLast? with
  | none => skip
  | some f =>
    if s.rd .VI_STATE n ≠ viReady then skip
    else
      let phi := phaseOf fm f.start
      let spl : Int := fm.spl
      let near := decide (8 * phi ≤ 3 * spl) && decide (-(3 * spl) ≤ 8 * phi)
      let cnt := if near then s.q .viAlignCnt n + 1 else 0
      let lines (d : Int) : Act := set .VI_LATENCY_LINES (d / spl).toNat n
      all [setS .VI_PHASE phi n, put .viPhasePrev phi n,
        if s.rd .VI_ALIGN_STATE n = 1 then
          let psi := s.q .viPsi n + fold (phi - s.q .viPhasePrev n) fm.spl
          if spl < 2 * psi ∨ 2 * psi < -spl then
            all [put .viPsi psi n, set .VI_ALIGN_STATE 3 n, set .VI_TIMED 0 n, count .VI_WINDOW_EXITS 1 n, put .viAlignCnt 0 n,
              raise .LINE_WINDOW_EXIT n]
          else
            let inUse := s.q .viDelay n
            if 2 < psi - inUse ∨ psi - inUse < -2 then all [put .viPsi psi n, put .viDelay psi n, lines (spl - psi)]
            else put .viPsi psi n
        else if 16 ≤ cnt then
          all [put .viAlignCnt 0 n, put .viPsi phi n, put .viDelay phi n, set .VI_ALIGN_STATE 1 n, set .VI_TIMED 1 n, lines (spl - phi)]
        else all [put .viAlignCnt cnt n, iff (s.rd .VI_ALIGN_STATE n == 5) (all [put .viDelay phi n, lines (spl - phi)])]]

/-- A frame start of domain `d` at input `n` (R76, R79). -/
def inputFrameStart (d n : Nat) (begun : Option Nat) (bad : List (Nat × Nat × Nat)) : Act := look fun s =>
  match s.domFormat d with
  | none => skip
  | some fm =>
    if s.rd .VI_DOMAIN n ≠ d ∨ s.rd .VI_PORT_MODE n = 0 ∨ s.rd .VI_LINK_MODE n = 2 then skip
    else if s.rd .VI_ALIGN n = 0 then frameRead n begun fm bad
    else if s.rd .VI_ALIGN n = 1 then lineTrack n fm
    else skip

/-- A change of VI_DOMAIN, VI_ALIGN or VI_FS_MIN takes effect (R80). -/
def inputRealign (n : Nat) : Act :=
  all [count .VI_ALIGN_CHANGES 1 n, raise .ALIGN_CHANGE n, put .viReadP 0 n, put .viHold 0 n, inputRejudge n,
    look fun s => if s.rd .VI_STATE n = viReady then (if s.rd .VI_ALIGN n = 0 then skip else inputAligning n)
      else iff (s.rd .VI_ALIGN n != 0) (inputNoSource n)]

/-- An uncorrectable frame-store codeword was met (R82). -/
def peatUncorrectable (n line : Nat) : Act := all [count .VI_PEAT_UNCORR 1 n, raise .PEAT_UNCORRECTABLE n line]

end Sys2Proof.Machine
end

