-- ==== Sys2Proof/Machine/Egress.lean ====
section
/-! DEFINITION. Video outputs (06_video_egress.md, R144 to R160): interfaces, the charcoal safe frame and its reasons, FOLLOW,
the timing offset and its pool of frame buffers, payload identification, embedding. -/
set_option Elab.async false
namespace Sys2Proof.Machine

-- Shadowed fields --------------------------------------------------------------------------------------------------

/-- The raster domain of a shadowed field (R59, R194, R349). A Fern or TDM field waits for its own frame in its own domain. -/
def State.fieldDom (s : State) (f : Fld) (i : Nat) : Nat :=
  match f.desc.dom with
  | .vi => s.rd .VI_DOMAIN i
  | .vo => s.rd .VO_DOMAIN i
  | .gate => s.rd .MC_GATE_DOMAIN i
  | .fern => s.rd .FC_DOMAIN i
  | .tdm => s.rd .TD_DOMAIN i
  | .moss => s.rd .VO_DOMAIN (s.rd .MV_OUT_POS i)
  | .d0 | .none => 0

/-- A write to a shadowed field waits for the next frame start of its domain at or after `from_`; the last write stands (R9). -/
def shadow (f : Fld) (i j v from_ : Nat) : Act := look fun s =>
  one (.shadows ((s.shadows.filter fun w => !(w.fld == f && w.i == i && w.j == j && decide (from_ ≤ w.from_)))
    ++ [⟨f, i, j, v, s.fieldDom f i, from_⟩]))

/-- The value a shadowed field will have when what waits has taken effect. -/
def State.willBe (s : State) (f : Fld) (i j : Nat) : Nat :=
  match (s.shadows.filter fun w => w.fld == f && w.i == i && w.j == j).getLast? with
  | some w => w.v
  | none => s.rd f i j

-- Interfaces -------------------------------------------------------------------------------------------------------

/-- Interface `std` carries format `fmt` (R144). -/
def stdCarries (std fmt : Nat) : Bool :=
  match std with
  | 0 => true
  | 1 => decide (1 ≤ fmt) && decide (fmt ≤ 2)
  | 2 => decide (3 ≤ fmt) && decide (fmt ≤ 0x0B)
  | 3 | 4 => decide (0x0C ≤ fmt) && decide (fmt ≤ 0x0E)
  | 5 => decide (0x0F ≤ fmt) && decide (fmt ≤ 0x12)
  | 6 => decide (0x13 ≤ fmt) && decide (fmt ≤ 0x15)
  | 7 | 8 => decide (0x0F ≤ fmt) && decide (fmt ≤ 0x15)
  | 9 => true
  | _ => false

/-- The lowest value of R144 from 1 to 8 that carries a format; 0 for a format outside R42. -/
def lowestStd (fmt : Nat) : Nat := ([1, 2, 3, 4, 5, 6, 7, 8].find? fun k => stdCarries k fmt).getD 0

/-- The output whose fields govern an output: the base of its quad-link group, or itself (R158). -/
def State.voBase (s : State) (n : Nat) : Nat := if s.rd .VO_LINK_MODE n = 2 then n / 4 * 4 else n

/-- The format of an output: that of its domain (R144). -/
def State.fmtOut (s : State) (n : Nat) : Nat := s.rd .RD_FORMAT (s.rd .VO_DOMAIN (s.voBase n))

/-- The interface of charcoal under FOLLOW (R145). -/
def State.idleStd (s : State) (n : Nat) : Nat :=
  let fmt := s.fmtOut n
  let v := s.rd .VO_IDLE_STD (s.voBase n)
  if v ≠ 0 ∧ stdCarries v fmt then v else lowestStd fmt

/-- The frame reader of input `p` delivers a stored frame, whatever the input receives now (R76, R78). -/
def State.reads (s : State) (p : Nat) : Bool := s.rd .VI_ALIGN p == 0 && s.rd .VI_ALIGN_STATE p != 0

/-- The interface and the format of the stream that a local input delivers: those of the frame read, or of what arrives (R62, R69, R78, R144). -/
def State.stdOfInput (s : State) (p : Nat) : Nat :=
  if s.reads p then s.qn .viHeldStd p else s.stdOf p (s.rd .VI_RATE p) (s.rd .VI_LEVEL p)
def State.fmtOfInput (s : State) (p : Nat) : Nat := if s.reads p then s.qn .viHeldFmt p else s.rd .VI_FMT p

/-- Four times the time that a stream takes to fill one cell, in units of 0.1 ns, by interface (R103). -/
def fourTc : Nat → Nat
  | 1 => 4 * 151704
  | 2 => 4 * 27582
  | 3 => 4 * 13791
  | 4 => 4 * 13791
  | 5 => 4 * 6896
  | 6 => 4 * 3448
  | 7 => 4 * 13791
  | 8 => 4 * 13791
  | _ => 4 * 3448

/-- D(r) in ps for interface `std` (R103). -/
def State.deliveryPs (s : State) (std : Nat) : Nat := fourTc std * 100 + s.rd .FAB_DELIVERY_NS * psNs

/-- The local input port that output `n` carries, if its source is on this module. -/
def State.localSrc (s : State) (n : Nat) : Option Nat :=
  if s.rd .XS_CUR_BLACK n = 1 then none
  else
    let (e, p) := s.home (s.rd .XS_CUR n)
    if e = s.ownNode then some p else none

/-- The stream delivered to output `n`: interface (0 for none) and format (R69, R78, R131). -/
def State.stream (s : State) (n : Nat) : Nat × Nat :=
  if s.rd .XS_CUR_BLACK n = 1 then (0, 0)
  else match s.localSrc n with
    | some p =>
      let b := s.viBase p
      if s.rd .VI_ALIGN_STATE b = 0 then (0, 0) else (s.stdOfInput b, s.fmtOfInput b)
    | none => (s.qn .voStdStream n, s.qn .voFmtStream n)

/-- A running head of Moss supplies output `n` with its picture in place of the crosspoint's stream (R333). -/
def State.headAt (s : State) (n : Nat) : Bool := (List.range 4).any fun h => s.rd .MV_STATE h == 2 && s.rd .MV_OUT_POS h == n

/-- Output `n` is an IP position, at which VO_STD, VO_IDLE_STD and VO_EMB_MAP have no effect (R174). -/
def State.atIp (s : State) (n : Nat) : Bool := s.rd .VO_PORT_MODE n == 2

/-- The interface fixed for an output and for its group; 0 for FOLLOW (R145, R158, R174). -/
def State.stdFixed (s : State) (n : Nat) : Nat := if s.atIp n then 0 else s.rd .VO_STD (s.voBase n)

/-- The stream delivered to output `n` is in another format than its domain's (R131). -/
def State.fmtConflict (s : State) (n : Nat) : Bool := (s.stream n).1 != 0 && (s.stream n).2 != s.fmtOut n && s.stdFixed n != 9

/-- Why output `n` carries charcoal, by precedence, the interface change of R146 apart (R151); 0 if it carries its stream,
or a head's picture, to which the first cause alone applies (R333). The four outputs of a quad-link group have one cause (R158). -/
def State.charcoalCause (s : State) (m : Nat) : Nat :=
  let n := s.voBase m
  let (std, _) := s.stream n
  if s.rd .ORD_STATE = 5 ∨ s.rd .SU_STATE = 5 then 5
  else if s.headAt n then 0
  else if s.rd .XS_CUR_BLACK n = 1 then 1
  else if std = 0 then 2
  else if s.fmtConflict n then 3
  else if s.stdFixed n ≠ 0 ∧ s.stdFixed n ≠ std then 4
  else 0

/-- The interface that output `n` is to send (R145); none at an IP position (R174). A head's picture under FOLLOW has the
interface of charcoal (log 44). -/
def State.stdWanted (s : State) (n : Nat) : Nat :=
  if s.atIp n then 0
  else if s.stdFixed n ≠ 0 then s.stdFixed n
  else if s.charcoalCause n = 0 ∧ !s.headAt (s.voBase n) then (s.stream (s.voBase n)).1 else s.idleStd n

/-- What output `n` sends now (R145, R333). -/
def State.feed (s : State) (n : Nat) : Feed :=
  if s.rd .VO_CHARCOAL n = 1 then .charcoal
  else match (List.range 4).find? fun h => s.rd .MV_STATE h == 2 && s.rd .MV_OUT_POS h == n with
    | some h => .head h
    | none => match s.localSrc n with
      | some p => .input p
      | none => .remote

/-- The raster of one link of an output (R42, R62): a link of a quad-link 3G group carries a 1080p raster. -/
def State.linkFormat (s : State) (n : Nat) : Option Format :=
  let fmt := s.fmtOut n
  format (if (s.rd .VO_STD_NOW n = 7 ∨ s.rd .VO_STD_NOW n = 8) ∧ 0x0F ≤ fmt then fmt - 7 else fmt)

/-- The line that output `n` begins next, counted from house time 0. -/
def State.lineOf (s : State) (n : Nat) : Nat :=
  match s.linkFormat n with
  | some f => ceilDiv (s.house * f.num * f.lines) (f.den * psS)
  | none => 0

/-- The stream that output `n` sends comes from transparent alignment (R157). -/
def State.transp (s : State) (n : Nat) : Bool :=
  match s.feed n with
  | .input p => s.rd .VI_ALIGN (s.viBase p) == 2
  | .remote => s.q .voTransp n == 1
  | _ => false

/-- Its words pass as they are (R157). -/
def State.passes (s : State) (n : Nat) : Bool := s.transp n && (s.rd .VO_TRANSP_MODE (s.voBase n) == 0 || s.stdFixed n == 9)

/-- What output `n` sends from its next line on is noted where it has changed. -/
def segMark (n : Nat) : Act := look fun s =>
  let g : Seg := ⟨n, s.lineOf n, s.feed n, s.passes n⟩
  if ((s.segs.filter fun x => x.out == n).getLast?.map fun x => (x.feed, x.pass)) = some (g.feed, g.pass) then skip else one (.segs (s.segs ++ [g]))

/-- What output `n` carries follows its causes (R145, R146, R151): charcoal and its reason, an interface change under FOLLOW
that waits for the next frame start after it arose, and the reports. A format conflict that ends without a take holds until a frame start,
where `free` (R131). DESIGN CHOICE: passing from BLACK to another reason is an entry that raises OUTPUT_CHARCOAL, passing between two other
reasons is none (log 47). -/
def outputFollowAt (free : Bool) (n : Nat) : Act := look fun s =>
  if s.rd .VO_STATE n ≠ 2 then skip
  else
    let old := s.rd .VO_CHARCOAL_WHY n
    let cause := if s.charcoalCause n = 0 ∧ old = 3 ∧ !free then 3 else s.charcoalCause n
    let change := s.stdFixed n == 0 && !s.headAt (s.voBase n) && s.stdWanted n != s.rd .VO_STD_NOW n
    let why := if cause != 0 then cause else if change then 6 else 0
    all [put .voIfChange (if change then (if s.q .voIfChange n = 0 then (s.house + 1 : Nat) else s.q .voIfChange n) else 0) n,
      set .VO_CHARCOAL (b2n (why != 0)) n, set .VO_CHARCOAL_WHY why n,
      iff (why == 0) (put .voChFrame 0 n),
      iff (why == 4 && old != 4) (raise .OUTPUT_IF_CONFLICT n),
      iff (why != 0 && why != 1 && s.rd .VO_CHARCOAL n == 0 || (why != 0 && why != 1 && old == 1)) (raise .OUTPUT_CHARCOAL n why),
      segMark n]

/-- The same within a frame. -/
def outputFollow (n : Nat) : Act := outputFollowAt false n

/-- Every output fed by local input `p` follows it, with the other links of its group (R158). -/
def outputsOf (p : Nat) : Act := look fun s =>
  each ((List.range s.ports).filter fun n => s.localSrc (s.voBase n) == some p) outputFollow

/-- What input `n` does, with the outputs that it feeds following where it starts or ceases to deliver a stream (R69, R78, R151). The base of a
quad-link group moves with its links (R64). -/
def feeding (n : Nat) (a : Act) : Act := look fun s => all [a,
  look fun u => each ([n, n / 4 * 4].dedup.filter fun p => (s.rd .VI_ALIGN_STATE p == 0) != (u.rd .VI_ALIGN_STATE p == 0)) outputsOf]

/-- VI_RATE, VI_RATE_FRAC and VI_LEVEL of a rebuilt raster of format `fmt`: its interface is the lowest that carries it (R165). -/
def rebuilt (f : SdiFrame) (fmt : Nat) : SdiFrame :=
  let std := lowestStd fmt
  let x := (format fmt).getD ⟨0, 0, 0, 0, 0, 0⟩
  let frac := b2n (x.den == 1001 && std != 1)
  { f with samples := x.spl, total := x.lines, interlaced := x.sw2 != 0, rate := (if std ≤ 3 then std else std - 1), level := (if std = 3 then 1 else 0), frac := frac }

/-- Every output of the module follows its causes. -/
def outputsFollow : Act := look fun s => each (List.range s.ports) outputFollow

-- Timing offset ----------------------------------------------------------------------------------------------------

/-- An offset needs a frame buffer (R147). -/
def offsetNeeds (x : Int) (fm : Format) : Bool := decide (x < 0) || decide (2 * (fm.spl : Int) ≤ x)

/-- The lowest frame buffer that no output holds (R148). -/
def State.freeBuffer (s : State) : Option Nat :=
  (List.range 64).find? fun b => !(List.range 256).any fun n => s.rd .VO_BUF n == 1 && s.rd .VO_BUF_INDEX n == b

/-- VO_LAND_NS of a stream or charcoal of interface `std` at offset `x` (R147). -/
def State.landNs (s : State) (n std : Nat) (x : Int) : Nat :=
  match s.domFormat (s.rd .VO_DOMAIN n) with
  | none => 0
  | some fm =>
    let base := s.deliveryPs std + 400 * psNs
    let ts (k : Nat) := k * fm.den * psS / (fm.num * fm.samples)
    (if x < 0 then base + fm.den * psS / fm.num - ts x.natAbs else base + ts x.natAbs) / psNs

/-- A value of VO_OFFSET clamped to −(Nf − 1) to Nf − 1 (R159). -/
def State.clampOffset (s : State) (n v : Nat) : Int :=
  match s.domFormat (s.rd .VO_DOMAIN n) with
  | none => toSigned v 25
  | some fm => clampInt (-((fm.samples : Int) - 1)) ((fm.samples : Int) - 1) (toSigned v 25)

/-- A write of `v` to VO_OFFSET of output `n` needs a frame buffer that is not there (R148). -/
def State.noBuffer (s : State) (n v : Nat) : Bool :=
  match s.domFormat (s.rd .VO_DOMAIN n) with
  | none => false
  | some fm => offsetNeeds (s.clampOffset n v) fm && s.rd .VO_BUF n == 0 && s.freeBuffer.isNone

/-- A position fed by an IP send flow takes no offset but 0 (R174). -/
def State.ipOffset (s : State) (n v : Nat) : Bool := s.rd .VO_PORT_MODE n == 2 && v % 2 ^ 25 != 0

/-- A write of VO_OFFSET (R148, R149): a buffer is reserved when the write is accepted; with none free it is refused and
nothing changes. -/
def offsetWrite (n v from_ : Nat) : Act := look fun s =>
  if s.noBuffer n v ∨ s.idleBlock 5 ∨ 2 ≤ s.rd .VO_LINK_MODE n ∨ s.ipOffset n v then skip
  else
    let x := s.clampOffset n v
    let need := match s.domFormat (s.rd .VO_DOMAIN n) with | some fm => offsetNeeds x fm | none => false
    all [
      match need && s.rd .VO_BUF n == 0, s.freeBuffer with
      | true, some b => all [set .VO_BUF 1 n, set .VO_BUF_INDEX b n, set .VO_FB_FREE (s.rd .VO_FB_FREE - 1)]
      | _, _ => skip,
      shadow .VO_OFFSET n 0 (ofSigned x 25) from_]

/-- VO_OFFSET takes effect at a frame start, with a new value where `changed` (R148, R149). -/
def offsetApplied (n : Nat) (changed : Bool) : Act := look fun s =>
  let need := match s.domFormat (s.rd .VO_DOMAIN n) with | some fm => offsetNeeds (s.rdS .VO_OFFSET n) fm | none => false
  all [iff changed (all [count .VO_TIMING_CHANGES 1 n, raise .OUTPUT_TIMING_CHANGE n]),
    iff (!need && s.rd .VO_BUF n == 1) (all [set .VO_BUF 0 n, set .VO_BUF_INDEX 0 n, set .VO_FB_FREE (s.rd .VO_FB_FREE + 1)])]

-- Frame starts -----------------------------------------------------------------------------------------------------

/-- The egress slot of the audio matrix that belongs to output `n` (R212); the links 2 to 4 of a quad-link group have none (R158). -/
def State.embSlot (s : State) (n : Nat) : Option Nat :=
  if s.rd .VO_LINK_MODE n = 2 then none
  else if s.isEdge then some n
  else (List.range 128).find? fun k => s.rd .AM_EMB_EN k == 1 && s.rd .AM_EMB_PORT k == n

/-- The destination groups of an output (R212). -/
def State.embGroups (s : State) : Nat := if s.fast then 4 else 8

/-- Destination groups mapped to groups 5 to 8 on ST 259 or ST 292-1 (R154); all of them where the output has no slot (R212), none where the words
pass (R157) or at an IP position (R174). -/
def State.embDropped (s : State) (n : Nat) : Nat :=
  let std := s.rd .VO_STD_NOW n
  if s.atIp n ∨ s.rd .VO_LINK_MODE n = 2 then 0
  else if (s.embSlot n).isNone then 0xFF
  else if (std = 1 ∨ std = 2) ∧ !s.passes n then
    (List.range s.embGroups).foldl (fun m g => if 5 ≤ bits (s.rd .VO_EMB_MAP n) (4 * g) 4 then m + 2 ^ g else m) 0
  else 0

/-- VO_EMB_DROPPED follows (R154). -/
def embShow (n : Nat) : Act := look fun s =>
  iff (s.embDropped n != s.rd .VO_EMB_DROPPED n) (all [set .VO_EMB_DROPPED (s.embDropped n) n, raise .EMB_GROUP_DROPPED n (s.embDropped n)])

/-- The identifier of the source of the stream that output `n` sends, if it has one (R153). -/
def State.srcVpid (s : State) (n : Nat) : Option Nat :=
  match s.feed n with
  | .input p => if s.rd .VI_VPID_PRESENT p = 1 then some (s.rd .VI_VPID p) else none
  | .remote => if s.q .voVpidIn n = 0 then none else some (s.qn .voVpidIn n - 1)
  | _ => none

/-- Bytes 3 and 4 of the ST 352 identifier that output `n` sends (R153). -/
def State.vpid34 (s : State) (n : Nat) : Nat :=
  let dflt := s.rd .VO_VPID_DEFAULT (s.voBase n)
  if s.rd .VO_VPID_SRC (s.voBase n) = 1 then dflt else (s.srcVpid n).elim dflt fun v => bits v 16 16

/-- The identifier that output `n` inserts (R153): bytes 1 and 2 are ST 352's for the interface, the format and, on a quad-link output, the link
number (log 48). -/
def State.vpidOut (s : State) (n : Nat) : Nat :=
  Config.vpidHead (s.rd .VO_STD_NOW n) (s.fmtOut n) (if s.rd .VO_LINK_MODE n = 0 then 0 else n % 4 + 1) % 65536 + s.vpid34 n * 65536

/-- VO_VPID_SENT (R153); words that pass keep their own identifier (R157). -/
def vpidSent (n : Nat) : Act := look fun s =>
  if s.passes n then (match s.srcVpid n with | some v => set .VO_VPID_SENT v n | none => skip) else set .VO_VPID_SENT (s.vpidOut n) n

/-- The stream delivered to the output is timed: it starts at the frame start (R128). -/
def State.outTimed (s : State) (n : Nat) : Bool :=
  match s.localSrc n with
  | some p => s.rd .VI_TIMED (s.viBase p) == 1
  | none => s.qn .voTimed n == 1

/-- Outputs of domain `d` whose transparent source has come to match their format carry it from this frame start, which counts as an untimed take
(R130, R131). -/
def formatMatches (d : Nat) : Act := look fun s =>
  let outs := (List.range s.ports).filter fun n => s.rd .VO_DOMAIN (s.voBase n) == d && s.rd .VO_STATE n == 2 && s.rd .VO_CHARCOAL_WHY n == 3 && s.charcoalCause n == 0
  let orders := outs.map fun n => s.rd .XS_LAST_ORDER n
  all [each outs fun n => all [set .XS_UNTIMED 1 n, set .XS_LAST_KIND 4 n, count .XS_UNTIMED_CNT 1 n, count .XP_UNTIMED_ALL],
    each orders.dedup fun o => raise .TAKE_UNTIMED 0 (orderAnd o ((orders.filter fun x => x == o).length))]

/-- The interface at whose rate the picture of output `n` is delivered (R103, R147, R174). -/
def State.landStd (s : State) (n : Nat) : Nat :=
  if s.atIp n then lowestStd (s.fmtOut n)
  else match s.feed n with
    | .charcoal => s.idleStd n
    | .head _ => s.stdWanted n
    | _ => (s.stream n).1

/-- VO_LAND_NS (R159): that of R147 for a timed picture, open for an untimed stream (log 4). -/
def landShow (n : Nat) : Act := look fun s =>
  let own := match s.feed n with | .charcoal | .head _ => true | _ => s.outTimed n
  if own then set .VO_LAND_NS (s.landNs n (s.landStd n) (s.rdS .VO_OFFSET (s.voBase n))) n else setFree .VO_LAND_NS n

/-- Output `n` begins picture `F`: its interface, and the identifier that it inserts in it (R153). -/
def frameBegun (F n : Nat) : Act := look fun s =>
  all [put .voFrameAt (F + 1 : Nat) n (F % 2), put .voStdAt (s.rd .VO_STD_NOW n) n (F % 2), put .voVpidAt (s.vpidOut n) n (F % 2)]

/-- A frame start of domain `d` at output `n` (R146, R151, R152). -/
def outputFrameStart (d n : Nat) : Act := look fun s =>
  if s.rd .VO_DOMAIN (s.voBase n) ≠ d ∨ s.rd .VO_PORT_MODE n = 0 then skip
  else if s.rd .VO_STATE n = 1 then
    iff (s.domReady d) (all [moveState .VO_STATE .OUTPUT_STATE_CHANGE n 2, set .VO_STD_NOW (s.stdWanted n) n, outputFollowAt true n,
      look fun s => put .voChFrame (s.rd .VO_CHARCOAL n) n, frameBegun (s.frameNow d) n, embShow n, vpidSent n, landShow n])
  else if s.rd .VO_STATE n = 2 then
    all [
      count .VO_FRAMES 1 n, iff (s.qn .voChFrame n == 1) (count .VO_CHARCOAL_FRAMES 1 n),
      iff (s.q .voIfChange n != 0 && decide (s.q .voIfChange n ≤ (s.house : Int)))
        (all [set .VO_STD_NOW (s.stdWanted n) n, count .VO_RATE_CHANGES 1 n, raise .OUTPUT_RATE_CHANGE n]),
      iff (s.stdFixed n != 0 || s.headAt (s.voBase n)) (set .VO_STD_NOW (s.stdWanted n) n),
      outputFollowAt true n,
      look fun s => put .voChFrame (s.rd .VO_CHARCOAL n) n, frameBegun (s.frameNow d) n, embShow n, vpidSent n, landShow n]
  else skip

/-- The transmitter of output `n` has faulted (R152). -/
def outputFault (n : Nat) : Act := look fun s =>
  iff (s.rd .VO_STATE n == 1 || s.rd .VO_STATE n == 2) (all [count .VO_TX_FAULTS 1 n, moveState .VO_STATE .OUTPUT_STATE_CHANGE n 3])

/-- It sends again: an output that has not run yet waits for its frame start. -/
def outputResume (n : Nat) : Act := look fun s =>
  iff (s.rd .VO_STATE n == 3) (if s.rd .VO_STD_NOW n = 0 then moveState .VO_STATE .OUTPUT_STATE_CHANGE n 1
    else all [moveState .VO_STATE .OUTPUT_STATE_CHANGE n 2, outputFollow n])

/-- Present bandwidths of the frame store and of the output frame buffers, in GB/s, check bytes included, to the nearest whole number (R81, R84,
R148, R160): every stored byte is written and read, 68 bytes for 64 (log 48). -/
def State.fsBandwidth (s : State) : Nat :=
  let rate (n : Nat) : Nat := bitRate (s.rd .VI_RATE n) (s.rd .VI_RATE_FRAC n)
  let sum := (List.range s.ports).foldl (fun a n =>
    a + (if viTrsLocked ≤ s.rd .VI_STATE n then rate n else 0) + (if s.reads n then rate n else 0)) 0
  (nearest ((sum * 68 : Nat) : Int) (64 * 8 * 1000000000)).toNat
def State.fbBandwidth (s : State) : Nat :=
  let sum := (List.range s.ports).foldl (fun a n => a + (if s.rd .VO_BUF n = 1 then
    (match s.domFormat (s.rd .VO_DOMAIN n) with | some f => 2 * f.lines * f.spl * 20 * f.num / f.den | none => 0) else 0)) 0
  (nearest ((sum * 68 : Nat) : Int) (64 * 8 * 1000000000)).toNat

-- Commands ---------------------------------------------------------------------------------------------------------

/-- VO_OFFSET_WRITE (R148). -/
def execVoOffsetWrite (out value : Nat) (s : State) : Host.Outcome State Fault Refusal :=
  run (look fun s =>
    let say (st : Status) : Act := sayWritten .VO_OFFSET out 0 st (ofSigned (s.clampOffset out value) 25)
    if s.idleBlock 5 then say .ROLE_IDLE
    else if 2 ≤ s.rd .VO_LINK_MODE out then say .QUAD_MEMBER
    else if s.ipOffset out value then say .IP_OUTPUT
    else if s.noBuffer out value then say .NO_BUFFER
    else all [offsetWrite out value (s.house + 1), iff (s.clampOffset out value != toSigned value 25) (say .CLAMPED)]) s

end Sys2Proof.Machine
end

