-- ==== Sys2Proof/Machine/Paths.lean ====
section
/-! DEFINITION. Fabric paths (04_rophor_fabric.md, R90, R106 to R113): slots, the choice of link and slot, the steps by which
the manager sets up a path, a module's own legs, occupancy and the guarantee. -/
set_option Elab.async false
namespace Sys2Proof.Machine

-- The manager's view of fields -------------------------------------------------------------------------------------

/-- A field of node `n` as it stands after every ordered action: what was ordered, or the image's value (log 10). -/
def State.view (s : State) (n : Nat) (f : Fld) (i : Nat := 0) (j : Nat := 0) : Nat :=
  match s.vFields.find (n * 2 ^ 64 + f.key i j) with
  | some v => v
  | none => s.cfgRegs.get (f.resetAt i j) (f.key i j)

/-- The slot format for a raster format (R90). -/
def slotFmtOf (fmt : Nat) : Nat :=
  if 0x13 ≤ fmt then 0 else if 0x0F ≤ fmt then 1 else if 0x0C ≤ fmt then 2 else 3

/-- The slot format of a router input's stream (R90): that of its domain's format; for a link of a quad-link group S3, or, in transparent alignment,
where its links may be 12G (R65), S12. -/
def State.slotFmt (s : State) (src : Nat) : Nat :=
  let (e, p) := s.home src
  if s.view e .VI_LINK_MODE p ≠ 0 then (if s.view e .VI_ALIGN (p / 4 * 4) = 2 then 0 else 2)
  else slotFmtOf (s.rd .RD_FORMAT (s.view e .VI_DOMAIN p))

-- Slots ------------------------------------------------------------------------------------------------------------

/-- Sub-slots of one stream of a slot format (R90). -/
def subSize : Nat → Nat
  | 0 => 8 | 1 => 4 | 2 => 2 | _ => 1

/-- The legs in slot `k` of link `l` of node `n`. -/
def inSlot (legs : List Leg) (n l k : Nat) : List Leg := legs.filter fun g => g.node == n && g.link == l && g.slot == k

/-- The lowest free group of slot `k` for format `f`: the slot is free, or has that format and a free group (R106). -/
def freeGroup (legs : List Leg) (n l k f : Nat) : Option Nat :=
  let here := inSlot legs n l k
  if here.isEmpty then some 0
  else if here.all (fun g => g.fmt == f) then
    ((List.range (8 / subSize f)).map fun g => g * subSize f).find? fun sub => !here.any fun g => g.sub == sub
  else none

/-- The slot that a link gives a stream (R107): a slot of its format with a free group before a free slot, lowest first. -/
def slotOn (legs : List Leg) (n l f : Nat) : Option (Nat × Nat) :=
  let usable := (List.range 4).filterMap fun k => (freeGroup legs n l k f).map fun g => (k, g)
  match usable.find? fun (k, _) => !(inSlot legs n l k).isEmpty with
  | some x => some x
  | none => usable.head?

/-- The lowest of the links with a usable slot, and the slot (R107). -/
def chooseSlot (legs : List Leg) (n : Nat) (links : List Nat) (f : Nat) : Option (Nat × Nat × Nat) :=
  links.findSome? fun l => (slotOn legs n l f).map fun (k, g) => (l, k, g)

/-- The links from edge position `e` to centre `c` of plane `p` at the edge, or back at the centre (R22). -/
def State.linksUp (s : State) (p c : Nat) : List Nat := (List.range s.linksPer).map fun j => (s.wire 0 p c j).1
def State.linksDown (s : State) (e : Nat) : List Nat := (List.range s.linksPer).map fun j => (s.wire e 0 0 j).2

/-- The module's own links open to new paths, as a bit map (R113, R114). -/
def State.ownOpen (s : State) : Nat :=
  (List.range s.links).foldl (fun m l => m + s.rd .FL_NEW_PATHS l * 2 ^ l) 0

/-- A node's links open to new paths, as the manager knows them (R107). -/
def State.openAt (s : State) (n l : Nat) : Bool := if n = s.node then s.rd .FL_NEW_PATHS l == 1 else bit (s.vOpen.get 0 n) l

/-- A node's links open to new paths, as this module's own ends of them show (R107). -/
def State.openHere (s : State) (n l : Nat) : Bool := s.rd .FL_NEW_PATHS (s.ownEnd n l) == 1

/-- The leg up from edge `e` to a centre for an input. -/
def upLeg (legs : List Leg) (p c src : Nat) : Option Leg :=
  legs.find? fun g => g.up && g.plane == p && g.centre == c && g.src == src

/-- The leg down from a centre to edge `e` for an input, in plane `p`: one in use, or in use until the point at which the new use begins. -/
def downLeg (legs : List Leg) (p e src : Nat) (pt : Option (Nat × Nat)) : Option Leg :=
  legs.find? fun g => !g.up && g.plane == p && g.edge == e && g.src == src && (!g.outs.isEmpty || (g.until_.isSome && g.until_ == pt))

/-- The links of an edge to a centre that are open, and of a centre to an edge. -/
def State.openUp (s : State) (op : Nat → Nat → Bool) (e p c : Nat) : List Nat := (s.linksUp p c).filter fun l => op e l
def State.openDown (s : State) (op : Nat → Nat → Bool) (e p c : Nat) : List Nat := (s.linksDown e).filter fun l => op (centreNode p c) l

/-- A usable slot up to the centre for the input: it holds one there, or a free one exists (R106). -/
def State.canEnter (s : State) (legs : List Leg) (e p c src : Nat) : Bool :=
  (upLeg legs p c src).isSome || (chooseSlot legs e (s.openUp s.openAt e p c) (s.slotFmt src)).isSome

/-- A usable slot down from the centre to edge `e`. -/
def State.canLeave (s : State) (legs : List Leg) (e p c src : Nat) : Bool :=
  (chooseSlot legs (centreNode p c) (s.openDown s.openAt e p c) (s.slotFmt src)).isSome

/-- The leg with the lowest link, slot and group (R107). -/
def lowestLeg (legs : List Leg) : Option Leg :=
  let at_ (g : Leg) : Nat := (g.link * 4 + g.slot) * 8 + g.sub
  legs.foldl (fun m g => match m with | none => some g | some h => if at_ g < at_ h then some g else some h) none

/-- The handover slot of the centre at edge `e` that a stream of format `fmt` takes (R106, R107): one whose stream nothing uses from the point on
(`ends`), alone in its slot or of the new stream's format, and not given to another stream already. -/
def handoverLeg (legs : List Leg) (p c e fmt : Nat) (ends : Leg → Bool) : Option Leg :=
  lowestLeg (legs.filter fun g => !g.up && g.plane == p && g.centre == c && g.edge == e && !g.hand && ends g &&
    (g.fmt == fmt || (inSlot legs g.node g.link g.slot).length == 1) &&
    !(legs.any fun h => h.hand && h.node == g.node && h.link == g.link && h.slot == g.slot && h.sub == (if g.fmt == fmt then g.sub else 0)))

/-- The centre that carries the path in plane `p`, and whether by a handover: steps 2 to 6 of R106. -/
def State.choosePlane (s : State) (legs : List Leg) (src e' p : Nat) (pt : Nat × Nat) : Option (Nat × Bool) :=
  let e := (s.home src).1
  let cs := List.range s.centres
  match downLeg legs p e' src (some pt) with
  | some g => some (g.centre, false)
  | none =>
    match cs.find? fun c => (upLeg legs p c src).isSome && s.canLeave legs e' p c src with
    | some c => some (c, false)
    | none =>
      match cs.find? fun c => s.canEnter legs e p c src && (handoverLeg legs p c e' (s.slotFmt src) fun g => g.until_ == some pt).isSome with
      | some c => some (c, true)
      | none => (cs.find? fun c => s.canEnter legs e p c src && s.canLeave legs e' p c src).map fun c => (c, false)

/-- The legs with one more user of a leg that is there. -/
def useLeg (legs : List Leg) (g : Leg) (out : Nat) : List Leg :=
  legs.map fun h => if h = g then { h with outs := (out :: h.outs).dedup, until_ := none } else h

/-- The legs with a path of input `src` to output `out` at edge `e'` through centre `c` of plane `p` added; `keep` tells which
legs the holder of the list knows (a module: those on its own links), `ends` which streams nothing uses from the point `pt` on, at which a
handover comes; `op` tells which links take new paths. -/
def State.addPath (s : State) (op : Nat → Nat → Bool) (legs : List Leg) (keep ends : Leg → Bool) (src out e' p c : Nat) (hand : Bool) (pt : Option (Nat × Nat)) : List Leg :=
  let e := (s.home src).1
  let f := s.slotFmt src
  let withUp := match upLeg legs p c src with
    | some g => useLeg legs g out
    | none => match chooseSlot legs e (s.openUp op e p c) f with
      | some (l, k, sub) =>
        let g : Leg := ⟨e, l, [out], false, true, p, c, e, k, sub, f, src, none⟩
        if keep g then legs ++ [g] else legs
      | none => legs
  match downLeg withUp p e' src pt with
  | some g => useLeg withUp g out
  | none =>
    let n := centreNode p c
    let place := if hand then (handoverLeg withUp p c e' f ends).map fun g => (g.link, g.slot, if g.fmt == f then g.sub else 0)
      else chooseSlot withUp n (s.openDown op e' p c) f
    match place with
    | some (l, k, sub) =>
      let g : Leg := ⟨n, l, [out], hand, false, p, c, e', k, sub, f, src, if hand then pt else none⟩
      if keep g then withUp ++ [g] else withUp
    | none => withUp

/-- The legs after output `out` has left input `src`: legs that nothing uses go. -/
def dropUse (legs : List Leg) (src out : Nat) : List Leg :=
  (legs.map fun g => if g.src == src then { g with outs := g.outs.filter fun o => o != out } else g).filter fun g => !(g.src == src && g.outs.isEmpty)

/-- The same in the manager's model: legs that nothing uses stay until the point `pt` has passed. -/
def endUse (legs : List Leg) (src out : Nat) (pt : Nat × Nat) : List Leg :=
  legs.map fun g => if g.src == src && g.outs.contains out then
    let left := g.outs.filter fun o => o != out
    { g with outs := left, until_ := if left.isEmpty then some pt else g.until_ } else g

-- This module's legs -----------------------------------------------------------------------------------------------

/-- The leg runs on a link of this module. -/
def State.myLeg (s : State) (g : Leg) : Bool :=
  if s.isCentre then g.plane == (s.node - 32) / 8 && g.centre == (s.node - 32) % 8
  else g.edge == s.ownNode || g.node == s.ownNode

/-- FL_SLOT_FMT and FL_SUB_BUSY of link `l` (R117). -/
def linkShow (l : Nat) : Act := look fun s =>
  let here := s.legs.filter fun g => g.node == s.ownNode && g.link == s.mirror l
  all [
    set .FL_SLOT_FMT ((List.range 4).foldl (fun m k => match here.find? (fun g => g.slot == k) with
      | some g => m + (g.fmt + 1) * 8 ^ k | none => m) 0) l,
    set .FL_SUB_BUSY ((List.range 32).foldl (fun m b =>
      if here.any (fun g => g.slot == b / 8 && decide (g.sub ≤ b % 8) && decide (b % 8 < g.sub + subSize g.fmt)) then m + 2 ^ b else m) 0) l]

/-- Distinct slots that a list of legs occupies. -/
def slotsOf (legs : List Leg) : Nat := ((legs.map fun g => (g.node, g.link, g.slot)).dedup).length

/-- A link is in service: IN_SERVICE or DEGRADED (R114). -/
def State.inService (s : State) (l : Nat) : Bool := s.rd .FL_STATE l == 4 || s.rd .FL_STATE l == 5

/-- What the active manager has been told of centre `c` of plane `p` by the centre and the edge modules (R113): no link between them that is not open
in a report. -/
def State.centreTold (s : State) (p c : Nat) : Bool :=
  let told (n : Nat) (links : List Nat) : Bool := n == s.ownNode || (match s.vOpen.find n with | some m => links.all (bit m) | none => true)
  let edges := List.range (s.rd .SYS_EDGE_COUNT)
  !s.isManager || (edges.all (fun e => told e (s.linksUp p c)) && told (centreNode p c) (edges.flatMap s.linksDown))

/-- Centre `c` of plane `p` is working as far as this module's links show, and at the active manager the other modules' reports (R112, log 11). -/
def State.centreOk (s : State) (p c : Nat) : Bool :=
  if !s.centreTold p c then false
  else if s.isCentre then s.node == centreNode p c && (List.range (s.rd .SYS_EDGE_COUNT)).all fun e => (s.linksDown e).all s.inService
  else (s.linksUp p c).all s.inService

/-- s and d of the geometry class (R15). -/
def State.slotsPerPair (s : State) : Nat := if s.centres = 0 then 0 else 256 / s.centres
def State.dOf (s : State) : Nat := if s.slotsPerPair = 0 then 0 else 127 / s.slotsPerPair

/-- The bound in force on U in plane `p` (R112). -/
def State.boundOf (s : State) (p : Nat) : Nat :=
  let c := ((List.range s.centres).filter fun c => s.centreOk p c).length
  if c < 2 * s.dOf + 1 ∨ s.centres = 0 then 0 else (c - s.dOf) * s.slotsPerPair - 1

/-- FAB_OCC and FAB_UMAX of plane `p` at an edge module (R112). -/
def State.occOf (s : State) (p : Nat) : Nat :=
  if s.isEdge then slotsOf (s.legs.filter fun g => g.up && g.node == s.ownNode && g.plane == p) else 0
def State.umaxOf (s : State) (p : Nat) : Nat :=
  if s.isEdge then
    let held := (List.range 128).map fun i => slotsOf (s.legs.filter fun g => g.up && g.node == s.ownNode && g.plane == p && g.src == s.routerNo i)
    s.occOf p - held.foldl min 512
  else 0

/-- The centres, bounds, occupancy and guarantee follow the links and legs (R112, R118); a bit of FAB_GUAR that falls is
reported (R5). -/
def guarantee : Act := look fun s =>
  if s.idleBlock 3 then skip
  else
    let ok (p : Nat) := (List.range s.centres).foldl (fun m c => m + b2n (s.centreOk p c) * 2 ^ c) 0
    let enough (p : Nat) := b2n (decide (s.boundOf p ≠ 0))
    let g := enough 0 + 2 * enough 1 + 4 * b2n (decide (s.umaxOf 0 ≤ s.boundOf 0)) + 8 * b2n (decide (s.umaxOf 1 ≤ s.boundOf 1))
    let old := s.rd .FAB_GUAR
    let pair (m : Nat) (out : Bool) : Nat := slotsOf (s.legs.filter fun l =>
      (l.node == s.ownNode) == out && (if s.isCentre then l.edge == m else 8 * l.plane + l.centre == m))
    all [set .FAB_CENTRES_OK_A (ok 0), set .FAB_CENTRES_OK_B (ok 1), set .FAB_BOUND_A (s.boundOf 0), set .FAB_BOUND_B (s.boundOf 1),
      set .FAB_OCC_A (s.occOf 0), set .FAB_OCC_B (s.occOf 1), set .FAB_UMAX_A (s.umaxOf 0), set .FAB_UMAX_B (s.umaxOf 1),
      set .FAB_GUAR g, set .FAB_PATHS s.legs.length,
      set .XP_REPL_LEGS (if s.isCentre then (s.legs.filter fun l => !l.up).length else 0),
      each (List.range (if s.isCentre then 32 else 16)) (fun m => all [set .FAB_PAIR_OCC (pair m true) m, set .FAB_PAIR_OCC_IN (pair m false) m]),
      iff (Nat.land old (15 - g) != 0) (raise .FAB_GUARANTEE_LOST 0 g)]

/-- The module's legs become `x`, and its link and occupancy fields follow. -/
def setLegs (x : List Leg) : Act := look fun s =>
  let touched := (((s.legs ++ x).filter fun g => g.node == s.ownNode).flatMap fun g => s.replicas g.link).dedup
  all [one (.legs x), each touched linkShow, guarantee]

/-- This module's part of a path that a body Spore names is established (R107, R108). `sw` are the outputs that switch at the same point, with
the input that each takes (4,096: none): a stream that feeds only such outputs ends there. -/
def establish (x : TakeSpore) (pt : Option (Nat × Nat)) (sw : List (Nat × Nat)) : Act := look fun s =>
  if x.local_ ∨ x.black then skip
  else
    let e' := (s.home x.dest).1
    let ends (g : Leg) : Bool := g.outs.all fun o => ((x.dest, x.src) :: sw).any fun w => w.1 == o && w.2 != g.src
    let add (legs : List Leg) (p : Nat) : List Leg :=
      let (c, via, hand) := x.plane p
      if via then (s.addPath s.openHere legs s.myLeg ends x.src x.dest e' p c hand pt) else legs
    setLegs (add (add s.legs 0) 1)

/-- This module's part of the path of input `src` to output `out` is released (R108). -/
def release (src out : Nat) : Act := look fun s => setLegs (dropUse s.legs src out)

/-- The legs on the links of node `n`, as numbers, for the digest of R113. -/
def legWords (legs : List Leg) (n : Nat) : List Nat :=
  (legs.filter fun g => g.node == n).flatMap fun g => [g.link, g.slot, g.sub, g.fmt, g.src]

/-- The 32-bit digest of a node's slot tables (R113); the spec leaves the function open (log 4). -/
def digestOf (legs : List Leg) (n : Nat) : Nat := Config.slotDigest (legWords legs n) % 2 ^ 32

end Sys2Proof.Machine
end

