-- ==== Sys2Proof/Machine/Wire.lean ====
section
/-! DEFINITION. Cells and records as they stand on the wire (04_rophor_fabric.md, R86, R88, R94 to R99; 15_redundancy.md, R359; R399): a cell's bytes and
CRC, audio payloads, a record's Spores and tag, the route of a record, what waits for a link. -/
set_option Elab.async false
namespace Sys2Proof.Machine

-- Cells ------------------------------------------------------------------------------------------------------------

/-- Cell classes (R86). -/
abbrev clIdle : Nat := 0
abbrev clVideo : Nat := 1
abbrev clAudio : Nat := 2
abbrev clControl : Nat := 3

/-- The `n` bytes of a number, the lowest first. -/
def leBytes (n v : Nat) : List Nat := unpackWords 8 n v

/-- The bytes of a cell that its CRC covers, 0 to 5 and 8 to 527, in index order (R86). -/
def cellBytes (c : Cell) : List Nat :=
  [c.cls % 4 + 4 * (c.plane % 2) + 8 * b2n c.sp + 16 * b2n c.su + 32 * b2n c.sl + 64 * b2n c.fs + 128 * (c.ver % 2),
    c.slot % 4 + 4 * (c.sub % 8) + 32 * (c.fmt % 8)] ++ leBytes 2 c.stream ++ leBytes 2 c.seq ++ leBytes 8 c.spore ++ leBytes 512 c.payload

/-- One byte more in the CRC-16 with polynomial 1021h (R86), the highest bit first (log 50). -/
def crc16Byte (crc b : Nat) : Nat :=
  (List.range 8).foldl (fun c _ => if bit c 15 then Nat.xor (2 * c % 2 ^ 16) 0x1021 else 2 * c) (Nat.xor crc (b * 2 ^ 8))

/-- The CRC of a cell (R86). -/
def cellCrc (c : Cell) : Nat := (cellBytes c).foldl crc16Byte 0xFFFF

/-- The cell with its CRC. -/
def sealCell (c : Cell) : Cell := { c with crc := cellCrc c }

/-- A cell that carries nothing. -/
def emptyCell : Cell := ⟨0, 0, false, false, false, false, 0, 0, 0, 0, 0, 0, 0, 0, 0⟩

-- Payloads (R88) ---------------------------------------------------------------------------------------------------

/-- The bits of a cell's video payload, and the cells of a frame. -/
abbrev cellBits : Nat := 4096
def Format.frameBits (f : Format) : Nat := f.lines * (20 * f.spl)
def Format.cells (f : Format) : Nat := ceilDiv f.frameBits cellBits

/-- The payload of cell `n` of a frame: its bits of the interface words, zeros after the last. -/
def videoPayload (f : Format) (ls : List (List Nat)) (n : Nat) : Nat :=
  let w := cellBits * n / 10
  let word (k : Nat) : Nat := (ls.getD (k / (2 * f.spl)) []).getD (k % (2 * f.spl)) 0
  bits (packWords 10 ((List.range 411).map fun k => word (w + k))) (cellBits * n % 10) cellBits

/-- The payload of an audio cell: 9 periods of 16 channels of 28 bits (24-bit PCM, then V, U, C and block start), the index, the flags. -/
def audioPayload (fast : Bool) (idx : Nat) (smps : List (List (Int × Nat))) : Nat :=
  let chan (x : Int × Nat) : Nat := ofSigned x.1 24 + x.2 % 16 * 2 ^ 24
  packWords 28 ((List.range 144).map fun k => chan ((smps.getD (k / 16) []).getD (k % 16) (0, 0))) + idx % 2 ^ 32 * 2 ^ 4032 + b2n fast * 2 ^ 4064

/-- The index and the sample periods of an audio payload. -/
def audioOf (v : Nat) : Nat × List (List (Int × Nat)) :=
  (bits v 4032 32, (List.range 9).map fun p => (List.range 16).map fun c =>
    let x := bits v (28 * (16 * p + c)) 28
    (toSigned (x % 2 ^ 24) 24, x / 2 ^ 24))

-- Records (R95, R98) -----------------------------------------------------------------------------------------------

/-- A kind that has an order number and a stamp (R96). -/
def ordered (kind : Nat) : Bool := decide (1 ≤ kind) && decide (kind ≤ 7)

/-- The IV of a record (R98). -/
def ivOf (sender target kind order part : Nat) : Nat := sender + target * 2 ^ 8 + kind * 2 ^ 16 + order % 2 ^ 48 * 2 ^ 24 + part * 2 ^ 72

/-- The tag of a record for its Spores up to it (R98). -/
def State.tagOf (s : State) (iv : Nat) (aad : List Nat) : Nat := Config.gcmTag (s.rd .SEC_FABRIC_GEN) iv aad % 2 ^ 64

/-- A record's Spores, the last the tag (R95): `part` counts the parts of a record whose body is cut, from 0; a body of more than 62 Spores, or one
that is cut, opens with its count. -/
def State.sporesOf (s : State) (r : Rec) (target part : Nat) (cut : Bool) : List Nat :=
  let long := cut || decide (62 < r.body.length)
  let head := r.order % 2 ^ 48 + r.kind % 16 * 2 ^ 48 + target % 64 * 2 ^ 52 + (if long then 63 else r.body.length) * 2 ^ 58
  let body := (if long then [r.body.length % 2 ^ 16 + part * 2 ^ 16] else []) ++ r.body.map (· % 2 ^ 64)
  let aad := head :: (if ordered r.kind then [encodeStamp r.stamp] else []) ++ body
  aad ++ [s.tagOf (ivOf r.sender target r.kind r.order (if long then part else 0)) aad]

/-- The Spores that close a record: its tag, or the signature of a KIND 12 (R427). -/
def closing (kind : Nat) : Nat := if kind = kJoin then 12 else 1

/-- How many Spores a record has, as far as those in hand tell. -/
def sporesNeed (got : List Nat) : Nat :=
  match got with
  | [] => 1
  | h :: t =>
    let o := b2n (ordered (bits h 48 4))
    let c := closing (bits h 48 4)
    if bits h 58 6 < 63 then 1 + c + o + bits h 58 6
    else match t.drop o with
      | e :: _ => 2 + c + o + bits e 0 16
      | [] => got.length + 1

/-- The node, among those named, with whose number in the IV a record's tag verifies (R98). -/
def State.senderOf (s : State) (got : List Nat) (among : List Nat) : Option Nat :=
  let h := got.headD 0
  let kind := bits h 48 4
  let part := if bits h 58 6 = 63 then bits (got.getD (1 + b2n (ordered kind)) 0) 16 24 else 0
  among.find? fun n => s.tagOf (ivOf n (bits h 52 6) kind (bits h 0 48) part) got.dropLast == got.getLastD 0

/-- A record's tag fails (R98). -/
def tagFails (sender order : Nat) : Act := all [count .FAB_TAG_FAILS, raise .SPORE_TAG_FAIL sender order]

/-- A whole record is at its target: its tag verifies with one of the senders it may be from, or it is discarded (R98, `named` in the event); one without
an order number is discarded too where it lies more than 64 below the last that its sender brought (R427). A KIND 12 is judged by its command. What a
good record does is the command of its kind. -/
def recordTest (among : List Nat) (named : Nat) (got : List Nat) : Act := look fun s =>
  let kind := bits (got.headD 0) 48 4
  let order := bits (got.headD 0) 0 48
  if kind = kJoin then skip
  else match s.senderOf got among with
    | none => tagFails named order
    | some n => iff (!ordered kind) (if order + 65 < s.qn .msgRx n then count .FAB_TAG_FAILS else put .msgRx (order + 1 : Nat) n)

-- Routes (R99) -----------------------------------------------------------------------------------------------------

/-- The lowest in-service link that leads to node `n`. -/
def State.lowestTo (s : State) (n : Nat) : Option Nat := (List.range s.links).find? fun l => s.inService l && (s.farOf l).1 == n

/-- Edge `e` has a link to a centre, as far as this module knows: it has reported one open, or has not reported. -/
def State.mayReach (s : State) (e centre : Nat) : Bool :=
  match s.vOpen.find e with
  | some m => (s.linksUp ((centre - 32) / 8) ((centre - 32) % 8)).any fun l => bit m l
  | none => true

/-- The links on which a record for `target` leaves (R99): the direct one; from an edge to another, one in each plane, through centre TARGET mod C or
the next with an in-service link (log 50); from a centre to a centre, through the lowest edge. -/
def State.recLinks (s : State) (target : Nat) : List Nat :=
  match s.lowestTo target with
  | some l => [l]
  | none =>
    let centre := decide (32 ≤ target) && decide (target < 48)
    if s.isCentre then
      if centre then
        ((List.range (s.rd .SYS_EDGE_COUNT)).findSome? fun e => if s.mayReach e target then s.lowestTo e else none).toList
      else []
    else if centre then []
    else [0, 1].filterMap fun p => ((List.range s.centres).map fun k => (target + k) % s.centres).findSome? fun c => s.lowestTo (centreNode p c)

-- What waits for a fabric link (R94) -------------------------------------------------------------------------------

def pushSpores (x : TxRec) : Act := look fun s => one (.txRecs (s.txRecs ++ [x]))

/-- A receiver's place for a control (`ctrl`) or audio cell of link `l` comes free (R92). -/
def freeCell (ctrl : Bool) (l : Nat) : Act := look fun s =>
  all [addQ (if ctrl then .flNewCtrl else .flNewAud) 1 l, iff (s.q .flFreeAt l == 0) (put .flFreeAt (s.now + 1) l)]

/-- Link `l` carries nothing any more: what waits for it and what it was bringing are lost; places of cells from other links come free. -/
def wireDrop (l : Nat) : Act := look fun s =>
  let dead (x : TxRec) : Bool := x.link == l || (x.cls != 3 && x.from_ != 0 && decide (0 < x.left) && (x.from_ - 1) / 2 == l)
  all [each (s.txRecs.filter fun x => x.link == l && x.cls == 3 && x.from_ != 0) (fun x => freeCell true (x.from_ - 1)),
    one (.txRecs (s.txRecs.filter fun x => !dead x)), one (.rxRecs (s.rxRecs.filter fun x => x.link != l)),
    one (.fwds (s.fwds.filter fun c => c.link != l))]

/-- A link-local Spore for link `l` (R92, R96). -/
def sendLocal (l x : Nat) : Act := pushSpores ⟨l, 1, 0, 0, 0, 0, false, [x]⟩

/-- A record leaves for `target` (R94, R99): one of 8 Spores or fewer as a chain, urgent where its stamp has IMM = 1, a longer one in control cells. A
reply that finds a link's queue full is discarded there (R115). -/
def giveRecord (reply : Bool) (target : Nat) (r : Rec) : Act := look fun s =>
  let sp := s.sporesOf r target 0 false
  let cls := if 8 < sp.length then 3 else if ordered r.kind && r.stamp.imm then 0 else 2
  all [emit (.record false r), each (s.recLinks target) fun l => look fun s =>
    let waiting := (s.txRecs.filter fun x => x.link == l && x.cls != 1).length
    iff (!reply || waiting == 0 || decide (waiting < Config.txQueue)) (pushSpores ⟨l, cls, 0, 0, target, s.node, false, sp⟩)]

-- The Lichen link (R359, R399) -------------------------------------------------------------------------------------

/-- One byte more in a CRC-32C (R359; its form as the name has it, log 50). -/
def crc32cByte (crc b : Nat) : Nat :=
  (List.range 8).foldl (fun c _ => if c % 2 = 1 then Nat.xor (c / 2) 0x82F63B78 else c / 2) (Nat.xor crc b)

/-- The CRC-32C over the length byte and the Spores of a Lichen frame. -/
def lichenCrc (spores : List Nat) : Nat :=
  Nat.xor ((spores.length :: spores.flatMap (leBytes 8)).foldl crc32cByte 0xFFFFFFFF) 0xFFFFFFFF

/-- How long a Lichen frame takes: a comma, a length byte, the Spores and the CRC at 10 code bits an octet and 1.25 Gb/s, ps. -/
def LkFrame.time (f : LkFrame) : Nat := (6 + 8 * f.spores.length) * 8 * psNs

/-- A frame begins on the Lichen link at `at_`. -/
def lichenStart (f : LkFrame) (at_ : Nat) : Act :=
  all [emit (.lichen f.spores (lichenCrc f.spores)), one (.lkCur (some f)), put .lkEnd (at_ + f.time : Nat)]

/-- The frames that wait begin as the link comes free, by now; `n` bounds them. -/
def lichenRun : Nat → Act
  | 0 => skip
  | n + 1 => look fun s =>
    if (s.now : Int) < s.q .lkEnd then skip
    else match s.lkQ with
      | [] => one (.lkCur none)
      | f :: rest => all [one (.lkQ rest), lichenStart f (if s.lkCur.isSome then s.qn .lkEnd else s.now), lichenRun n]

/-- A frame is given to the Lichen link (R399): an urgent one cuts a frame in progress that is none, which is sent again whole after it. -/
def lichenGive (f : LkFrame) : Act := all [look fun s => lichenRun (s.lkQ.length + 1),
  look fun s =>
    match s.lkCur with
    | some g =>
      if f.urgent && !g.urgent then all [emit .lichenCut, one (.lkQ (g :: s.lkQ)), lichenStart f (s.now + 16 * psNs)]
      else
        let (ahead, rest) := s.lkQ.span fun x => x.urgent || !f.urgent
        one (.lkQ (ahead ++ f :: rest))
    | none => lichenStart f s.now]

/-- The parts of a record whose body is cut to what a Lichen frame carries, 62 body Spores each. -/
def State.partsOf (s : State) (r : Rec) (target : Nat) : List (List Nat) :=
  if r.body.length ≤ 62 then [s.sporesOf r target 0 false]
  else (List.range (ceilDiv r.body.length 62)).map fun k => s.sporesOf { r with body := (r.body.drop (62 * k)).take 62 } target k true

/-- A record for the partner leaves on the Lichen link (R359, R362, R399). -/
def giveLichen (urgent : Bool) (r : Rec) : Act := look fun s =>
  all [emit (.record true r), each (s.partsOf r (s.rd .RD_PARTNER)) fun sp => lichenGive ⟨urgent, sp⟩]

end Sys2Proof.Machine
end

