-- ==== Sys2Proof/Machine/Takes.lean ====
section
/-! DEFINITION. Takes at an output (05_takes_and_clean_switching.md, R126 to R140): the crosspoint status, the execution of takes
at a clean switch point or a line boundary, untimed and conflicting takes, the selector between planes, locks. -/
set_option Elab.async false
namespace Sys2Proof.Machine

/-- The pending takes of output `n`, in order. A RESTORE changes no output and is not among them (R126). -/
def State.takesOf (s : State) (n : Nat) : List Pend :=
  s.acts.filter fun p => match p.item with | .take o _ _ false _ => o == n | _ => false

/-- The source, BLACK and body Spore of a pending take. -/
def Pend.takeSrc (p : Pend) : Nat × Bool × Nat := match p.item with | .take _ src black _ sp => (src, black, sp) | _ => (0, true, 0)

/-- The stamp of a pending action with the frame of its stamp's domain to which R53 or R55 moved it (R138). -/
def Pend.shown (p : Pend) : Nat := encodeStamp { p.stamp with frame := p.stamp.frame + p.moved }

/-- The pending fields of XS_STATUS and XS_FLAGS follow the pending actions on output `n` (R138). -/
def pendShow (n : Nat) : Act := look fun s =>
  let ps := s.takesOf n
  all [
    match ps with
    | [] => all [set .XS_PENDING 0 n, set .XS_PEND (s.rd .XS_CUR n) n, set .XS_PEND_BLACK (s.rd .XS_CUR_BLACK n) n,
        set .XS_PSTAMP_LO 0 n, set .XS_PSTAMP_HI 0 n]
    | p :: _ =>
      let (src, black, _) := p.takeSrc
      all [set .XS_PENDING 1 n, set .XS_PEND src n, set .XS_PEND_BLACK (b2n black) n, set .XS_PSTAMP_LO (p.shown % 2 ^ 32) n,
        set .XS_PSTAMP_HI (p.shown / 2 ^ 32) n],
    set .XS_PEND_CNT (min ps.length 255) n,
    look fun s => set .XP_PENDING_OUTS ((List.range s.ports).foldl (fun k o => k + s.rd .XS_PENDING o) 0)]

/-- SCHED_PENDING counts the actions that wait, a salvo as one (R51, R60). -/
def schedShow : Act := look fun s =>
  let k := ((s.acts.map Pend.order).dedup).length
  all [set .SCHED_PENDING (min k 4096), set .SCHED_PENDING_PEAK (max (s.rd .SCHED_PENDING_PEAK) (min k 4096))]

/-- The pending actions become `x`, and SCHED_PENDING follows. -/
def setActs (x : List Pend) : Act := all [one (.acts x), schedShow]

/-- How a take lands (R128 to R131): whether it is untimed on the incoming side, on the outgoing side, and whether its format
conflicts. -/
structure Landed where
  untimedIn : Bool
  untimedOut : Bool
  conflict : Bool
  deriving DecidableEq, Repr

/-- The interface, format and timing of the stream that a take brings to output `n`: derived for a source on this module,
measured otherwise (R128). -/
def State.incoming (s : State) (src : Nat) (black : Bool) (m : TakeMeas) : Nat × Nat × Bool :=
  if black then (0, 0, false)
  else
    let (e, q) := s.home src
    let p := s.viBase q
    if e = s.ownNode then
      if s.rd .VI_ALIGN_STATE p = 0 then (0, 0, false)
      else (s.stdOfInput p, s.fmtOfInput p, if s.rd .VI_ALIGN p = 2 then m.inTimed else s.rd .VI_TIMED p == 1)
    else (m.inStd, m.inFmt, m.inTimed)

/-- The stream that output `n` carries up to the execution point is timed there: as measured, or derived for an aligned source on this module
(R128). -/
def State.outgoing (s : State) (n : Nat) (m : TakeMeas) : Bool :=
  match s.localSrc n with
  | some p => if s.rd .VI_ALIGN (s.viBase p) = 2 then m.outTimed else s.rd .VI_TIMED (s.viBase p) == 1
  | none => m.outTimed

/-- How the last of the takes due at output `n` lands. -/
def State.judge (s : State) (n : Nat) (last : Pend) (m : TakeMeas) : Landed :=
  let (src, black, _) := last.takeSrc
  let (std, fmt, timed) := s.incoming src black m
  let conflict := std != 0 && fmt != s.fmtOut n && s.stdFixed n != 9
  let inBlack := std == 0 || conflict
  let outBlack := (s.stream n).1 == 0 || s.fmtConflict n
  ⟨!inBlack && !timed, !outBlack && !s.outgoing n m, conflict⟩

/-- XS_LAST_KIND of an execution (R130, R131, R142). DESIGN CHOICE: where both streams are untimed it is 4, the incoming side's (log 47). -/
def lastKind (l : Landed) (imm late : Bool) : Nat :=
  if l.conflict then 6 else if imm then 3 else if l.untimedIn then 4 else if l.untimedOut then 5 else if late then 2 else 1

/-- Output `n` takes a remote stream up at the first word of a line: its received picture holds the new stream's words from there on, of the cell that
the line begins in (R109, R129). -/
def cutIn (n : Nat) : Act := look fun s =>
  match s.feed n, s.linkFormat n with
  | .remote, some f =>
    let a := s.lineOf n
    let b := a % f.lines * (20 * f.spl)
    let k := b / cellBits
    (match s.copies.find? fun c => c.src == s.rd .XS_CUR n && c.idx == k with
    | some c => put .voBits (setBits (s.qn .voBits n (a / f.lines % 2)) b ((k + 1) * cellBits - b) (c.payload / 2 ^ (b - k * cellBits)) : Nat) n (a / f.lines % 2)
    | none => skip)
  | _, _ => skip

/-- The takes `due` on output `n` execute at one point: the last one in order reaches the output (R56, R129, R139). DESIGN CHOICE: the execution
counts as LATE if any of them was moved, and XS_LAST_STAMP of an immediate one shows the frame current at its execution (log 47). -/
def takeAt (n : Nat) (due : List Pend) (m : TakeMeas) : Act := look fun s =>
  match due.getLast? with
  | none => skip
  | some last =>
    let (src, black, sp) := last.takeSrc
    let x := decodeTake sp
    let l := s.judge n last m
    let (std, fmt, timed) := s.incoming src black m
    let imm := last.stamp.imm
    let untimed := l.untimedIn || l.untimedOut
    let local_ := !black && x.local_
    let planes := if black || local_ then 0 else b2n x.viaA + 2 * b2n x.viaB
    let done := { last.stamp with frame := if imm then s.frameNow last.dom else last.stamp.frame + last.moved }
    let remote := !black && !local_
    all [
      set .XS_CUR src n, set .XS_CUR_BLACK (b2n black) n, set .XS_GEN ((s.rd .XS_GEN n + 1) % 16) n,
      set .XS_UNTIMED (b2n (imm || untimed)) n,
      set .XS_LAST_ORDER (last.order % 2 ^ 32) n, set .XS_LAST_STAMP_LO (encodeStamp done % 2 ^ 32) n,
      set .XS_LAST_STAMP_HI (encodeStamp done / 2 ^ 32) n,
      set .XS_LAST_KIND (lastKind l imm (due.any fun p => decide (0 < p.moved + p.shift))) n,
      set .XS_PLANES planes n, set .XS_LOCAL (b2n local_) n,
      put .voStdStream std n, put .voFmtStream fmt n, put .voTimed (b2n timed) n,
      put .voVpidIn (if remote then m.inVpid.elim 0 (· + 1) else 0 : Nat) n, put .voTransp (b2n (remote && m.inTransp)) n,
      count .XS_TAKES 1 n, count .XP_TAKES_ALL,
      if imm then count .XS_IMMEDIATE_CNT 1 n
      else iff untimed (all [count .XS_UNTIMED_CNT 1 n, count .XP_UNTIMED_ALL]),
      iff l.conflict (all [count .XS_FMT_CONFLICTS 1 n, raise .TAKE_FORMAT_CONFLICT n last.order]),
      iff (remote && (planes == 1 || planes == 2)) (all [count .FAB_SINGLE_PLANE, raise .PATH_SINGLE_PLANE n]),
      setActs (s.acts.filter fun p => !due.contains p),
      pendShow n, outputFollowAt true n, cutIn n,
      look fun s => iff (s.q .voIfChange n != 0) (set .XS_UNTIMED 1 n)]

/-- The takes of output `n` that execute now, at a clean switch point or, for `imm`, at a line boundary: where one of that kind has come due, all
that have, since those of one point execute together (R56); none while the order stream is lost (R33). -/
def State.takesDue (s : State) (n : Nat) (imm : Bool) : List Pend :=
  let due := (s.takesOf n).filter fun p => decide (p.at_ ≤ s.house)
  if s.q .ordHeld ≠ 1 ∧ due.any fun p => p.stamp.imm == imm then due else []

/-- The measurement for output `n` in a list; nothing timed and no stream if none was reported. -/
def measOf (ms : List TakeMeas) (n : Nat) : TakeMeas := (ms.find? fun m => m.out == n).getD ⟨n, false, false, 0, 0, none, false⟩

/-- A clean switch point of domain `d` (R126): every output of the domain with a due take executes; TAKE_UNTIMED is raised once
for each action, with the number of outputs it left untimed here (R130). DESIGN CHOICE: each of the four outputs of a quad-link take counts (log
47). -/
def switchPoint (d : Nat) (ms : List TakeMeas) : Act := look fun s =>
  let outs := (List.range s.ports).filter fun n => s.rd .VO_DOMAIN (s.voBase n) == d && !(s.takesDue n false).isEmpty
  let untimed := outs.filterMap fun n => match (s.takesDue n false).getLast? with
    | some p => let l := s.judge n p (measOf ms n); if l.untimedIn || l.untimedOut then some p.order else none
    | none => none
  all [each outs fun n => look fun s => takeAt n (s.takesDue n false) (measOf ms n),
    each untimed.dedup fun o => raise .TAKE_UNTIMED 0 (orderAnd o ((untimed.filter fun x => x == o).length))]

/-- After an immediate take onto a remote source the output carries charcoal words on the lines of the new source that have not arrived by their
delivery moment (R127): until its first cell arrives, counted line by line at the delivery moments. -/
def immediateLines (n : Nat) : Act := look fun s =>
  put .voFresh (if s.rd .XS_CUR_BLACK n = 0 ∧ s.rd .XS_LOCAL n = 0 ∧ !s.headAt n then s.lineOf n + 1 else 0 : Nat) n

/-- An immediate take lands at a line boundary of the output's domain (R54, R126, R127). -/
def immediateAt (m : TakeMeas) : Act := look fun s =>
  let due := s.takesDue m.out true
  if due.isEmpty then skip else all [takeAt m.out due m, immediateLines m.out]

/-- A RESTORE executes: the output's path is rebuilt and its source stays (R110). -/
def restoreAt (out sp : Nat) : Act :=
  let x := decodeTake sp
  look fun s => all [establish x none [], count .FAB_RESTORES, set .XS_PLANES (Nat.lor (s.rd .XS_PLANES out) (b2n x.viaA + 2 * b2n x.viaB)) out]

/-- A LOCK reaches the status fields (R134, R136). -/
def lockAt (n mode holder : Nat) : Act := look fun s =>
  if s.rd .XS_LOCK_MODE n = mode ∧ s.rd .XS_HOLDER n = holder then skip
  else all [set .XS_LOCK_MODE mode n, set .XS_HOLDER (if mode = 0 then 0 else holder) n,
    look fun s => set .XP_LOCKED_OUTS (((List.range s.ports).filter fun o => s.rd .XS_LOCK_MODE o != 0).length),
    raise .LOCK_CHANGE n mode]

/-- What the selector takes at a cell position (R132): plane 0, plane 1, or neither (2). -/
def selectPlane (mode pref : Nat) (planes : Nat) (a b : Bool) : Nat :=
  let one := if planes = 1 then some 0 else if planes = 2 then some 1 else none
  let have_ (p : Nat) := if p = 0 then a else b
  match mode, one with
  | 1, _ => if a then 0 else 2
  | 2, _ => if b then 1 else 2
  | _, some p => if have_ p then p else 2
  | _, none => if planes = 0 then 2 else if have_ pref then pref else if have_ (1 - pref) then 1 - pref else 2

-- Commands ---------------------------------------------------------------------------------------------------------

/-- PATH_RELEASE (R108): this module's part of the path of router input `src` to router output `out` ends; not while an output here still carries the
stream on it. -/
def execPathRelease (t src out : Nat) (s : State) : Host.Outcome State Fault Refusal :=
  run (all [at_ t, look fun s =>
    let (e, p) := s.home out
    let carries := e == s.ownNode && decide (p < s.ports) && s.rd .XS_CUR_BLACK p == 0 && s.rd .XS_LOCAL p == 0 && s.rd .XS_CUR p == src
    iff (!carries) (release src out)]) s

end Sys2Proof.Machine
end

