-- ==== Sys2Proof/Machine/Due.lean ====
section
/-! DEFINITION. The due moment of an action (02_raster_time.md, R53, R58, R59): execution points, lateness, refusal as too late, and
the judging again of pending actions when house time has changed (R48, R305). -/
set_option Elab.async false
namespace Sys2Proof.Machine

/-- The house time of an execution point in frame `F` of a format. -/
def pointTime (fm : Format) (F : Nat) : Pt → Nat
  | .frameStart => fm.frameStart F
  | .switchLine => fm.posTime F fm.sw1 0
  | .line l smp => fm.posTime F l smp
  | .lineBoundary => fm.frameStart F

/-- How many frames after its stamp an action falling due at house time `t` executes: 0 on time, 1 or 2 LATE, none refused
(R53). -/
def lateBy (fm : Format) (S : Nat) (pt : Pt) (t : Nat) : Option Nat :=
  [0, 1, 2].find? fun k => decide (t ≤ pointTime fm (S + k) pt)

/-- The first frame of a format whose point lies at or after house time `t` (R58). -/
def firstAhead (fm : Format) (pt : Pt) (t : Nat) : Nat :=
  let F := fm.frameAt t
  if t ≤ pointTime fm F pt then F else F + 1

/-- The action is refused as too late (R30, R53, R54); the manager passes the refusal to the session that sent it. -/
def refuseLate (order dom : Nat) : Act := look fun s =>
  all [count .ORD_REFUSED_LATE, count .RD_REFUSED 1 dom, raise .ACTION_REFUSED_LATE 0 order,
    match s.senders.find? fun x => x.1 == order with | some x => emit (.refusal x.2 order) | none => skip]

/-- The action is LATE by `k` frames of domain `dom` (R53, R58). -/
def noteLate (order dom k : Nat) : Act := all [count .RD_LATE 1 dom, raise .ACTION_LATE 0 (orderAnd order k)]

/-- RD_COUNT_VALID follows RD_STATE and the fabric frame count (R60). -/
def countValid : Act := look fun s =>
  let ok := s.isManager || (s.q .fabCountSeen == 1 && s.q .slipPending == 0)
  each (List.range 8) fun d => set .RD_COUNT_VALID (b2n (s.domReady d && ok)) d

-- Placement (R55, R57, R58) ---------------------------------------------------------------------------------------

/-- The objects of an action (R52): outputs, audio destinations, the objects of its fields, the reference. A path is no object, and a RESTORE
changes no output. -/
def Item.objs : Item → List (Nat × Nat)
  | .take o _ _ restore _ => if restore then [] else [(1, o)]
  | .lock o _ _ => [(1, o)]
  | .words a d => wordObjs a d
  | .audio es => (es.filter fun x => bits x 44 3 != 4).map fun x => (2, bits x 0 14)
  | .realign _ _ => [(4, 0)]
  | .path _ | .image => []

/-- The item is part of an action that lands at a switching line: a take or salvo, no RESTORE (R59, R110). -/
def Item.lands : Item → Bool
  | .take _ _ _ restore _ => !restore
  | .path sp => !(decodeTake sp).restore
  | _ => false

/-- An action joins the pending ones. -/
def addPend (p : Pend) : Act := look fun s =>
  all [setActs (s.acts ++ [p]), match p.item with | .take o _ _ _ _ => pendShow o | _ => skip]

/-- The raster domain of a router output, as this module knows it (R57). -/
def State.domOfOut (s : State) (out : Nat) : Nat :=
  let (e, p) := s.home out
  if e = s.ownNode then s.rd .VO_DOMAIN (s.voBase p) else s.view e .VO_DOMAIN (if s.view e .VO_LINK_MODE p = 2 then p / 4 * 4 else p)

/-- The start of the frame in which an item executes when its action is moved by `k` frames of its stamp's domain (R57). -/
def State.itemStart (s : State) (st : Stamp) (k : Nat) (it : Item) : Nat :=
  match s.domFormat st.dom with
  | none => 0
  | some fx => match it with
    | .take _ _ _ false sp => (match s.domFormat (s.domOfOut (decodeTake sp).dest) with
      | some fy => fy.frameStart (fx.place fy (st.frame + k))
      | none => fx.frameStart (st.frame + k))
    | _ => fx.frameStart (st.frame + k)

/-- An action also moves to the frame of an earlier one on the same object that R53 has moved (R55): how far it is moved in all, where its own
lateness moves it by `k`. -/
def State.pushed (s : State) (st : Stamp) (items : List Item) (k : Nat) : Nat :=
  let moved := s.acts.filter fun q => decide (0 < q.moved) && !q.stamp.imm
  let before (j : Nat) : Bool := items.any fun it => moved.any fun q =>
    q.item.objs.any it.objs.contains && decide (s.itemStart st j it < ((s.domFormat q.dom).map fun f => f.frameStart q.frame).getD 0)
  ((List.range 64).find? fun j => !before (k + j)).elim k fun j => k + j

/-- The last earlier action on an object of the item that R53 has moved to a frame still ahead (R55). -/
def State.movedBefore (s : State) (it : Item) : Option Pend :=
  (s.acts.filter fun q => decide (0 < q.moved) && !q.stamp.imm && q.item.objs.any it.objs.contains && decide (s.house < q.at_)).getLast?

/-- The action already counts as LATE here through another of its destinations (R58). -/
def State.lateAlready (s : State) (order : Nat) : Bool := s.acts.any fun q => q.order == order && decide (0 < q.moved + q.shift)

/-- An item of a take placed in the domain of its destination from frame `stamp.frame + k` of the stamp's domain (R57, R58); `was` is how far
the second case of R58 had shifted it before. -/
def placeTake (order kind : Nat) (stamp : Stamp) (k was : Nat) (it : Item) (out : Nat) (pt : Pt) : Act := look fun s =>
  let dy := s.domOfOut out
  match s.domFormat stamp.dom, s.domFormat dy with
  | some fx, some fy =>
    let G := fx.place fy (stamp.frame + k)
    let t := pointTime fy G pt
    if t < s.house ∧ pt ≠ .frameStart then
      let G' := firstAhead fy pt s.house
      all [iff (decide (was < G' - G)) (all [iff (k == 0 && !s.lateAlready order) (count .ORD_LATE), noteLate order dy (G' - G)]),
        addPend ⟨order, kind, stamp, dy, G', pt, pointTime fy G' pt, k, G' - G, it⟩]
    else match it with
      | .path sp => if t < s.house then establish (decodeTake sp) (some (dy, G)) [] else addPend ⟨order, kind, stamp, dy, G, pt, t, k, 0, it⟩
      | _ => addPend ⟨order, kind, stamp, dy, G, pt, t, k, 0, it⟩
  | _, _ => skip

/-- An item of an action, due now, after a move by `k` frames; `pt` is the point of an item that lands at no switching line. -/
def placeAt (order kind : Nat) (stamp : Stamp) (k was : Nat) (it : Item) (pt : Pt) : Act := look fun s =>
  let here (pt : Pt) : Act := match s.domFormat stamp.dom with
    | some fm => addPend ⟨order, kind, stamp, stamp.dom, stamp.frame + k, pt, pointTime fm (stamp.frame + k) pt, k, 0, it⟩
    | none => skip
  match it with
  | .take _ _ _ true _ => here .frameStart
  | .take _ _ _ false sp => placeTake order kind stamp k was it (decodeTake sp).dest .switchLine
  | .path sp => if (decodeTake sp).restore then here .frameStart else placeTake order kind stamp k was it (decodeTake sp).dest .frameStart
  | _ => here pt

-- Judging again (R48, R305) ----------------------------------------------------------------------------------------

/-- The point by which R53 judges an action of which `ps` is this module's part. -/
def judgePt (ps : List Pend) : Pt := if ps.any fun p => p.item.lands then .switchLine else (ps.head?.map Pend.pt).getD .frameStart

/-- One pending action judged again beside those judged before it: kept, moved and LATE, or refused, whole; an immediate one keeps its point. -/
def judgeOne (ps : List Pend) : Act := look fun s =>
  match ps.head? with
  | none => skip
  | some p => match s.domFormat p.stamp.dom with
    | none => setActs (s.acts ++ ps)
    | some fx =>
      if p.stamp.imm then setActs (s.acts ++ ps)
      else match lateBy fx p.stamp.frame (judgePt ps) s.house with
        | none => refuseLate p.order p.stamp.dom
        | some k0 =>
          let k := s.pushed p.stamp (ps.map Pend.item) k0
          all [iff (decide ((ps.map Pend.moved).foldl max 0 < k)) (all [count .ORD_LATE, noteLate p.order p.stamp.dom k]),
            each ps fun q => placeAt q.order q.kind q.stamp k q.shift q.item q.pt]

/-- Every pending action is judged again, in order, after house time has changed (R48, R55, R58, R305). -/
def judgeAgain : Act := look fun s =>
  all [setActs [], each (s.acts.map Pend.order).dedup (fun o => judgeOne (s.acts.filter fun p => p.order == o)), each (List.range s.ports) pendShow]

end Sys2Proof.Machine
end

