-- ==== Sys2Proof/Machine/Clock.lean ====
section
/-! DEFINITION. The counter, its scales, and house frequency (12_reference_selection.md, R297 to R304; 13_ptp_timestamps.md,
R310 to R314, R320, R322). Commands carry their moments in picoseconds as house time counts them (log 2), so house time is the
moment plus an offset, and the counter and the domain scales are read from it through the house frequency. -/
set_option Elab.async false
namespace Sys2Proof.Machine

/-- INCR of a rate of 1: A000_0000_0000h, 0.625 ns (R311). -/
abbrev incrOne : Nat := 175921860444160

/-- Units of 2^-16 ns in a second. -/
abbrev unitsS : Nat := 65536000000000

/-- INCR for a frequency offset of `f` tenths of a part per billion. -/
def incrOf (f : Int) : Nat := ((incrOne : Int) + (incrOne : Int) * f / 10000000000).toNat

-- House frequency --------------------------------------------------------------------------------------------------

/-- The slew limit in tenths of a part per billion per second. -/
def State.slewLimit (s : State) : Nat := 10 * s.rd .REF_SLEW_PPB_S

/-- House frequency now, 0.1 ppb: on its way to the target at the slew limit while REF_SLEWING is set (R298). -/
def State.freqNow (s : State) : Int :=
  let f := s.rdS .REF_FREQ
  if s.rd .REF_SLEWING = 0 then f
  else
    let room : Int := (s.slewLimit * (s.now - s.qn .refAcc) / psS : Nat)
    clampInt (min f (s.q .refTarget)) (max f (s.q .refTarget)) (if f ≤ s.q .refTarget then f + room else f - room)

/-- REF_OFFSET, ps. -/
def State.refOffset (s : State) : Int := toSigned (s.rd .REF_OFFSET_LO + s.rd .REF_OFFSET_HI * 2 ^ 32) 64

/-- REF_OFFSET takes a value. -/
def setOffset (x : Int) : Act :=
  all [set .REF_OFFSET_LO (ofSigned x 64 % 2 ^ 32), set .REF_OFFSET_HI (ofSigned x 64 / 2 ^ 32)]

/-- The input that the selected entry names; 15 when none is selected. -/
def State.selInput (s : State) : Nat := if s.rd .REF_SEL = 15 then 15 else s.rd .RE_INPUT (s.rd .REF_SEL)

/-- The duration of one ramp of the SLEW profile of R304, ps. -/
def rampTime (d rate peak : Nat) : Nat :=
  if rate = 0 then 0
  else if 1000 * peak * peak ≤ d * rate then peak * psS / rate else Nat.sqrt (d * 10 ^ 21 / rate)

/-- The duration of the whole profile, ps. -/
def profileTime (d rate peak : Nat) : Nat :=
  let tr := rampTime d rate peak
  if rate = 0 ∨ peak = 0 then 0
  else if 1000 * peak * peak ≤ d * rate then 2 * tr + (d - 1000 * peak * peak / rate) * 1000000000 / peak else 2 * tr

/-- The area that the profile has removed after `tau` ps, ps. -/
def profileArea (d rate peak tau : Nat) : Nat :=
  let tr := rampTime d rate peak
  let T := profileTime d rate peak
  let ramp (x : Nat) := rate * x * x / (2 * 10 ^ 21)
  if T ≤ tau then d
  else if tau ≤ tr then min d (ramp tau)
  else if tau + tr ≤ T then min d (ramp tr + peak * (tau - tr) / 1000000000)
  else d - ramp (T - tau)

/-- How much of its Δ the running SLEW profile has removed, with Δ's sign. -/
def State.slewDone (s : State) : Int :=
  if s.rd .REF_REALIGNING = 0 then 0
  else
    let d := s.q .slewDelta
    let a := profileArea d.natAbs (s.qn .slewRate) (s.qn .slewPeak) (s.now - s.qn .slewStart)
    if d < 0 then -(a : Int) else a

/-- REF_REALIGN_LEFT, ps. -/
def State.realignLeft (s : State) : Int := toSigned (s.rd .REF_REALIGN_LEFT_LO + s.rd .REF_REALIGN_LEFT_HI * 2 ^ 32) 64

/-- REF_REALIGN_LEFT takes a value. -/
def setLeft (x : Int) : Act :=
  all [set .REF_REALIGN_LEFT_LO (ofSigned x 64 % 2 ^ 32), set .REF_REALIGN_LEFT_HI (ofSigned x 64 / 2 ^ 32)]

/-- What the SLEW profile has removed since REF_REALIGN_LEFT was last brought up to date. -/
def State.slewStep (s : State) : Int := if s.rd .REF_REALIGNING = 0 then 0 else s.slewDone - (s.q .slewDelta - s.realignLeft)

/-- What a profile at the reference itself has removed since the last update, ps: that of the manager, whose house time FAB carries (R303). -/
def State.refStep (s : State) : Int :=
  if s.rd .REF_REALIGNING = 0 ∨ s.q .slewRef = 0 then 0
  else
    let d := s.q .slewRef
    let area (t : Nat) : Nat := profileArea d.natAbs (s.qn .slewRate) (s.qn .slewPeak) (t - s.qn .slewStart)
    let a : Int := (area s.now : Int) - area (max (s.qn .slewStart) (s.qn .refAcc))
    if d < 0 then -a else a

-- The counter ------------------------------------------------------------------------------------------------------

/-- The counter in units of 2^-48 ns, before rounding to its tick: the value at the last change of frequency, and the house time
since, with what a profile has removed, at the mean rate (R310, R311). -/
def State.count48 (s : State) : Nat :=
  let span : Int := ((s.now - s.qn .refAcc : Nat) : Int) + s.slewStep
  (s.q .ptCount + span * 2 ^ 49 * 10000000000 / (1000 * (20000000000 + s.rdS .REF_FREQ + s.freqNow))).toNat

/-- The counter C in units of 2^-16 ns: it stands on multiples of 40,960 (R310). -/
def State.counter (s : State) : Nat := s.count48 / 2 ^ 32 / 40960 * 40960

/-- A time in units of 2^-16 ns in the layout of R310: SUB, NS, SEC. -/
def layout96 (x : Nat) : Nat := x % 65536 + x % unitsS / 65536 * 2 ^ 16 + x / unitsS % 2 ^ 48 * 2 ^ 48

/-- Picoseconds as units of 2^-16 ns. -/
def psToUnits (x : Int) : Int := x * 65536 / 1000

/-- Units of 2^-16 ns as picoseconds. -/
def unitsToPs (x : Int) : Int := x * 1000 / 65536

/-- An offset field of R331: seconds [47:0], ns from bit 64, sub-ns from bit 96; as units of 2^-16 ns. -/
def decodeOff (x : Nat) : Int := toSigned (bits x 0 48) 48 * unitsS + (bits x 64 32 * 65536 + bits x 96 16 : Nat)

/-- The offset field of a number of units. -/
def encodeOff (x : Int) : Nat :=
  let fr := (x % unitsS).toNat
  ofSigned (x / unitsS) 48 + fr / 65536 * 2 ^ 64 + fr % 65536 * 2 ^ 96

/-- Domain time k in units of 2^-16 ns (R311). A domain in GRANDMASTER runs at the house rate, which PD_INCR then holds
(R318). -/
def State.domTime (s : State) (k : Nat) : Int :=
  ((s.counter * s.rd .PD_INCR k / incrOne : Nat) : Int) + decodeOff (s.rd .PD_OFFSET k)

/-- PT_ACT_ADJ now, ps: moving toward 0 at its slew (R322). -/
def State.actAdj (s : State) : Int :=
  let from_ := s.q .adjFrom
  let moved : Int := (s.qn .adjSlew * 1000 * (s.now - s.qn .adjAt) / psS : Nat)
  if 0 ≤ from_ then max 0 (from_ - moved) else min 0 (from_ + moved)

/-- Active PTP time, ps (R320). -/
def State.activeTime (s : State) : Int := unitsToPs (s.domTime (s.rd .PT_ACTIVE)) + s.actAdj

-- Bringing up to date ----------------------------------------------------------------------------------------------

/-- The last 10 s of house frequency in TRACKING (R300). -/
def trimLog : Nat → List (Int × Nat) → List (Int × Nat)
  | _, [] => []
  | room, (f, d) :: r => if d ≤ room then (f, d) :: trimLog (room - d) r else if room = 0 then [] else [(f, room)]

/-- The mean of a frequency log, weighted by duration; none if it is empty. -/
def meanFreq (l : List (Int × Nat)) : Option Int :=
  let t := (l.map Prod.snd).sum
  if t = 0 then none else some ((l.map fun x => x.1 * (x.2 : Int)).sum / (t : Int))

/-- Counter, frequency, offset, profile and average are brought up to the present moment. -/
def clockTick : Act := look fun s =>
  let f0 := s.rdS .REF_FREQ
  let f1 := s.freqNow
  let dt := s.now - s.qn .refAcc
  let gain : Int := if s.rd .REF_SLEWING = 1 ∧ s.rd .REF_SEL ≠ 15 then (f0 + f1 - 2 * s.q .refTarget) * (dt : Int) / 20000000000 else 0
  let step := s.slewStep
  let log := if s.rd .REF_STATE = 1 ∧ dt ≠ 0 then trimLog (10 * psS) (((f0 + f1) / 2, dt) :: s.freqLog) else s.freqLog
  all [put .ptCount (s.count48), iff (gain != 0 || step != 0 || s.refStep != 0) (setOffset (s.refOffset + gain - step + s.refStep)),
    iff (s.rd .REF_REALIGNING == 1) (setLeft (s.realignLeft - step)),
    setS .REF_FREQ f1, set .PT_HOUSE_INCR (incrOf f1), put .refAcc s.now, one (.freqLog log),
    each [0, 1] fun k => iff (s.rd .PD_SERVO k == 5) (look fun s =>
      -- r_k follows r_H without a step (R311, R318)
      let t := s.domTime k
      all [set .PD_INCR (incrOf f1) k, look fun s => set .PD_OFFSET (encodeOff (decodeOff (s.rd .PD_OFFSET k) + t - s.domTime k)) k])]

/-- House frequency begins to move toward `f` at the slew limit (R298). -/
def slewTo (f : Int) : Act := all [clockTick, put .refTarget f, look fun s => set .REF_SLEWING (b2n (s.rdS .REF_FREQ != f))]

end Sys2Proof.Machine
end

