-- ==== Sys2Proof/Machine/Ref.lean ====
section
/-! DEFINITION. Reference selection, Ember, REALIGN and the pulse outputs (12_reference_selection.md, R290 to R306). What only
the loop and its phase detectors know, the house frequency it holds while it tracks and the phase of each reference, comes with
the command (log 3). -/
set_option Elab.async false
namespace Sys2Proof.Machine

/-- Entry states (R307). -/
abbrev reEmpty : Nat := 0
abbrev reAbsent : Nat := 1
abbrev reQualifying : Nat := 2
abbrev reQualified : Nat := 3
abbrev reDrifting : Nat := 4
abbrev reDisqualified : Nat := 5
abbrev reDisabled : Nat := 6

/-- Reference states (R307). -/
abbrev rsAcquiring : Nat := 0
abbrev rsTracking : Nat := 1
abbrev rsDrifting : Nat := 2
abbrev rsHoldover : Nat := 3
abbrev rsFreeRun : Nat := 4

/-- The tolerance t of an entry in 0.1 ppb, and its q in s: as of the last evaluation, at which written fields take effect (R307). -/
def State.reTol (s : State) (e : Nat) : Nat := 100 * (if s.q .reTolUse e = 0 then s.rd .RE_TOL e else s.qn .reTolUse e)
def State.reQual (s : State) (e : Nat) : Nat := if s.q .reQualUse e = 0 then s.rd .RE_QUAL_S e else s.qn .reQualUse e

/-- The measured y of an entry, 0.1 ppb. -/
def State.reY (s : State) (e : Nat) : Int := s.rdS .RE_Y e

/-- The entry is a candidate (R293). -/
def State.candidate (s : State) (e : Nat) : Bool := s.rd .RE_STATE e == reQualified || s.rd .RE_STATE e == reDrifting

/-- RD_STATE of every enabled domain follows REF_STATE (R299), each change reported. -/
def domainsFollow : Act := look fun s =>
  let new := match s.rd .REF_STATE with | 0 => 1 | 1 | 2 => 2 | _ => 3
  all [each (List.range 8) fun d => iff (s.rd .RD_FORMAT d != 0) (moveState .RD_STATE_RASTER .DOMAIN_STATE_CHANGE d new), countValid]

/-- REF_STATE moves (R299, R300): Ember is reported on entry and on leaving. -/
def refState (new : Nat) : Act := look fun s =>
  let old := s.rd .REF_STATE
  let ember (x : Nat) := decide (rsHoldover ≤ x)
  if old = new then skip
  else all [clockTick, set .REF_STATE new,
    iff (new == rsHoldover) (all [count .REF_EMBER_ENTRIES, arm .refHold (s.rd .REF_EMBER_HOLD_S * psS)]),
    iff (new != rsHoldover) (disarm .refHold),
    iff (new != rsAcquiring) (disarm .refStart),
    iff (ember new && !ember old) (put .refEntered s.now),
    iff (ember new) (all [set .REF_SEL 15, set .RT_HOUSE_SRC 5]),
    iff (ember new || ember old) (raise .REF_EMBER 0 (newOld new old)),
    domainsFollow]

/-- What a change of entry state means for the reference state: the selected entry drifts or returns (R299). -/
def driftFollow (e : Nat) : Act := look fun s =>
  if s.rd .REF_SEL ≠ e then skip
  else if s.rd .RE_STATE e = reDrifting ∧ s.rd .REF_STATE = rsTracking then refState rsDrifting
  else if s.rd .RE_STATE e = reQualified ∧ s.rd .REF_STATE = rsDrifting then refState rsTracking
  else skip

/-- An entry changes state (R293). -/
def refEntry (e new : Nat) : Act := look fun s =>
  all [moveState .RE_STATE .REF_ENTRY_STATE e new,
    iff (new == reQualified && s.rd .RE_STATE e != reQualified) (put .refJust 1 e),
    iff (new == reDrifting && s.rd .RE_STATE e == reQualified) (raise .REF_DRIFT e (ofSigned (s.reY e) 64)),
    iff (new == reDisqualified) (count .RE_DISQUALS 1 e),
    driftFollow e]

/-- The timer of an entry runs for its q, from now, or stops. -/
def qualTimer (e : Nat) (on : Bool) : Act := look fun s =>
  if on then iff (s.timer .reQual e).isNone (arm .reQual (s.reQual e * psS) e) else disarm .reQual e

/-- The entry's y lies within t/2, or beyond t. -/
def State.near (s : State) (e : Nat) : Bool := decide (2 * (s.reY e).natAbs ≤ s.reTol e)
def State.far (s : State) (e : Nat) : Bool := decide (s.reTol e < (s.reY e).natAbs)

/-- QUALIFYING is entered: the timer runs while y is near. -/
def qualify (e : Nat) : Act := look fun s => all [disarm .reQual e, refEntry e reQualifying, qualTimer e (s.near e)]

/-- The entries that name an input. -/
def State.entriesOf (s : State) (input : Nat) : List Nat := (List.range 8).filter fun e => s.rd .RE_INPUT e == input

/-- The input is one that can be present here (R290, R292, R319): FAB never at a manager; a PTP domain while its servo is
LOCKING or LOCKED; an SDI input while it is READY. -/
def State.mayBePresent (s : State) (input : Nat) : Bool :=
  if input = 10 then !s.isManager
  else if input = 4 ∨ input = 5 then s.rd .PD_SERVO (input - 4) == 3 || s.rd .PD_SERVO (input - 4) == 4
  else if 6 ≤ input ∧ input ≤ 9 then s.rd .VI_STATE (s.rd .RI_VIN0_PORT (input - 6)) == 4
  else true

/-- The lock condition that a PTP or VIN entry must meet before it leaves QUALIFYING (R293, R319). -/
def State.lockMet (s : State) (input : Nat) : Bool :=
  if input = 4 ∨ input = 5 then s.rd .PD_SERVO (input - 4) == 4
  else if 6 ≤ input ∧ input ≤ 9 then s.rd .VI_STATE (s.rd .RI_VIN0_PORT (input - 6)) == 4
  else true

/-- A reference input is present (R293). -/
def inputPresent (input : Nat) : Act := look fun s =>
  if !s.mayBePresent input then skip
  else all [put .rePresent 1 input, iff (decide (input ≤ 1)) (set .RI_SYN_OK (Nat.lor (s.rd .RI_SYN_OK) (2 ^ input))),
    each (s.entriesOf input) fun e => iff (s.rd .RE_STATE e == reAbsent) (qualify e)]

/-- A reference input is lost (R290, R293). -/
def inputLost (input : Nat) : Act := look fun s =>
  all [put .rePresent 0 input, iff (decide (input ≤ 1) && bit (s.rd .RI_SYN_OK) input) (set .RI_SYN_OK (s.rd .RI_SYN_OK - 2 ^ input)),
    each (s.entriesOf input) fun e =>
      iff (decide (reQualifying ≤ s.rd .RE_STATE e) && decide (s.rd .RE_STATE e ≤ reDisqualified))
        (all [disarm .reQual e, count .RE_LOSSES 1 e, refEntry e reAbsent])]

/-- A step `a` of SDI input `n`, with what follows from it: the outputs (R146), and the reference inputs that take their edges from its port
or its group's base, which are lost while it is below READY (R290). -/
def sdiInput (n : Nat) (a : Act) : Act := look fun s => all [feeding n a,
  look fun u => each (List.range 4) fun k =>
    let p := s.rd .RI_VIN0_PORT k
    if p ≠ n ∧ p ≠ n / 4 * 4 then skip
    else if s.rd .VI_STATE p = 4 ∧ u.rd .VI_STATE p ≠ 4 then inputLost (6 + k)
    else iff (s.rd .VI_STATE p != 4 && u.rd .VI_STATE p == 4) (inputPresent (6 + k))]

/-- A new measurement of y (R291, R293). -/
def measured (e : Nat) (y : Int) : Act := look fun s =>
  all [setS .RE_Y (clampInt (-2147483648) 2147483647 y) e, look fun s =>
    match s.rd .RE_STATE e with
    | 2 => qualTimer e (s.near e)
    | 3 => iff (s.far e) (all [disarm .reQual e, refEntry e reDrifting, qualTimer e true])
    | 4 => iff (!s.far e) (all [disarm .reQual e, refEntry e reQualified])
    | 5 => iff (s.near e) (qualify e)
    | _ => skip,
    -- the frequency that the loop follows
    iff (s.rd .REF_SEL == e && s.rd .REF_SLEWING == 1) (slewTo y)]

/-- The timer of an entry expires (R293). -/
def qualExpiry (e : Nat) : Act := look fun s =>
  if !s.due .reQual e then skip
  else match s.rd .RE_STATE e with
    | 2 => iff (s.near e && s.lockMet (s.rd .RE_INPUT e)) (all [disarm .reQual e, refEntry e reQualified])
    | 4 => all [disarm .reQual e, refEntry e reDisqualified]
    | _ => skip

/-- House frequency as the loop holds it while it tracks the selected entry: within the slew limit of what it was, and within t of
nominal while the entry drifts (R297). -/
def loopFreq (f : Int) : Act := look fun s =>
  if s.rd .REF_SLEWING = 1 ∨ !(s.rd .REF_STATE == rsTracking || s.rd .REF_STATE == rsDrifting) then skip
  else
    let room : Int := (s.slewLimit * (s.now - s.qn .refAcc) / psS : Nat)
    let old := s.rdS .REF_FREQ
    let lim := clampInt (old - room) (old + room) f
    let t : Int := s.reTol (s.rd .REF_SEL)
    all [clockTick, setS .REF_FREQ (if s.rd .REF_STATE = rsDrifting then clampInt (-t) t lim else lim),
      look fun s => set .PT_HOUSE_INCR (incrOf (s.rdS .REF_FREQ))]

-- Selection --------------------------------------------------------------------------------------------------------

/-- Two entries disagree (R295). -/
def State.disagree (s : State) (a b : Nat) : Bool := decide (min (s.reTol a) (s.reTol b) < 2 * (s.reY a - s.reY b).natAbs)

/-- The votes for a member: of the local oscillator and of every candidate outside the group (R295). -/
def State.votesFor (s : State) (q g : List Nat) (m : Nat) : Nat :=
  let yes (y : Int) := decide (2 * (y - s.reY m).natAbs ≤ s.reTol m)
  b2n (yes 0) + ((q.filter fun e => !g.contains e && yes (s.reY e)).length)

/-- TIE(G) (R295): the choice, and whether some members disagree, and whether none then wins. -/
def State.tie (s : State) (q g : List Nat) (c : Nat) : Nat × Bool × Bool :=
  let lowest := g.foldl min 15
  let keep := if g.contains c then c else lowest
  if !(g.any fun a => g.any fun b => s.disagree a b) then (keep, false, false)
  else
    let voters := 1 + (q.filter fun e => !g.contains e).length
    match g.find? fun m => decide (voters < 2 * s.votesFor q g m) && g.all (fun o => o == m || decide (s.votesFor q g o < s.votesFor q g m)) with
    | some m => (m, true, false)
    | none => (keep, true, true)

/-- The group that the selection calls TIE on (R294); none keeps c. -/
def State.tieGroup (s : State) (q : List Nat) (c : Nat) : Option (List Nat) :=
  let low := q.foldl (fun m e => min m (s.rd .RE_RANK e)) 7
  let best := q.filter fun e => s.rd .RE_RANK e == low
  if !q.contains c then some best
  else if q.any fun e => decide (s.rd .RE_RANK e < s.rd .RE_RANK c) && s.rd .RE_REVERT e == 1 && s.q .refJust e == 1 then some best
  else if q.any fun e => s.rd .RE_RANK e == s.rd .RE_RANK c && s.disagree e c then some (q.filter fun e => s.rd .RE_RANK e == s.rd .RE_RANK c)
  else none

/-- The format or rate of an input's edges (R290): its edge period as numerator and denominator of a frame rate. -/
def State.edgeRate (s : State) (input : Nat) : Option (Nat × Nat) :=
  let ofFmt (f : Nat) := (format f).map fun x => (x.num, x.den)
  if input = 0 then ofFmt (s.rd .RI_SYN0_FMT)
  else if input = 1 then ofFmt (s.rd .RI_SYN1_FMT)
  else if input = 2 then (if s.rd .RI_FP0_RATE = 0 then some (1, 1) else ofFmt (s.rd .RI_FP0_RATE))
  else if input = 3 then (if s.rd .RI_FP1_RATE = 0 then some (1, 1) else ofFmt (s.rd .RI_FP1_RATE))
  else if 6 ≤ input ∧ input ≤ 9 then ofFmt (s.rd .VI_FMT (s.rd .RI_VIN0_PORT (input - 6)))
  else none

/-- The anchor domain of a frame rate: the lowest-numbered enabled domain of that rate (R47). -/
def State.anchor (s : State) (r : Nat × Nat) : Option Format :=
  (List.range 8).findSome? fun d => match s.domFormat d with
    | some f => if f.num * r.2 = r.1 * f.den then some f else none
    | none => none

/-- The start of the frame nearest to time `x` in a format, ps; midway between two, the earlier one (R297). -/
def Format.nearestFrame (f : Format) (x : Nat) : Nat := f.frameStart ((2 * x * f.num + f.den * psS - 1) / (2 * f.den * psS))

/-- How far house time lies from the reference of an input (R297): `x` is the manager's house time for FAB, and the moment of the
latest edge for an input with edges. An edge is compared with the nearest frame start of its anchor domain. -/
def State.offsetOf (s : State) (input : Nat) (x : Int) : Option Int :=
  if input = 4 ∨ input = 5 then some ((s.house : Int) - unitsToPs (s.domTime (input - 4)))
  else if input = 10 then some ((s.house : Int) - x)
  else match s.edgeRate input with
    | none => none
    | some r =>
      let at_ := (x + s.q .houseOff).toNat
      let near := match s.anchor r with
        | some f => f.nearestFrame at_
        | none => let k := (2 * at_ * r.1 + r.2 * psS - 1) / (2 * r.2 * psS); ceilDiv (k * r.2 * psS) r.1
      some ((at_ : Int) - near)

/-- REF_OFFSET is captured against the reference of an entry (R298); without a defined phase its value is open (log 4). -/
def captureOffset (e : Nat) (x : Int) : Act := look fun s =>
  match s.offsetOf (s.rd .RE_INPUT e) x with
  | some o => setOffset o
  | none => withFree fun v => setOffset (v : Int)

/-- House time is set on leaving ACQUIRING (R47, R299), with REF_OFFSET = 0. Where an input without time of day has no anchor
domain, the spec gives its phase no house time (log 4). A worker takes the manager's house time, `fab`, that the fabric reference carries; free
where no entry brings it. -/
def setHouse (e : Nat) (x : Int) (fab : Option Int) : Act := look fun s =>
  let input := s.rd .RE_INPUT e
  let go (off : Int) : Act := put .houseOff off
  all [clockTick,
    if input = 4 ∨ input = 5 then go (unitsToPs (s.domTime (input - 4)) - s.now)
    else if input = 10 then go (x - s.now)
    else if !s.isManager then (match fab with | some y => go (y - s.now) | none => withFree fun v => go v)
    else match s.edgeRate input with
      | none => withFree fun v => go v
      | some r => match s.anchor r with
        | none => withFree fun v => go v
        | some f =>
          if s.rd .PT_TOD_VALID = 1 then
            -- the last valid PTP time, carried on to the edge
            let tod := (s.q .todLast + x).toNat
            go ((f.nearestFrame tod : Int) - x)
          else
            -- house time 0 at the first anchor edge after the start
            let back : Int := (x - s.qn .routerStart) / (f.period : Int) * f.period
            go (-(x - back)),
    setOffset 0]

/-- RT_HOUSE_SRC for an input (R60, R296). -/
def houseSrc (input : Nat) : Nat := if input = 10 then 3 else if input = 4 then 1 else if input = 5 then 2 else 4

/-- The entry `e` becomes the selected one (R296, R298, R299); `refs` gives by entry what `offsetOf` asks for, the manager's house time for FAB. The first selection since the start is no change of c (log 14). -/
def selectEntry (e : Nat) (refs : List Int) : Act := look fun s =>
  let x := refs.getD e 0
  let fab := ((List.range 8).find? fun k => s.rd .RE_INPUT k == 10 && s.rd .RE_EN k == 1 && s.q .rePresent 10 == 1).map fun k => refs.getD k 0
  let input := s.rd .RE_INPUT e
  let was := s.qn .refC
  let local_ := decide (!s.isManager ∧ input ≠ 10)
  all [
    if s.rd .REF_STATE = rsAcquiring then setHouse e x fab else all [clockTick, captureOffset e x, put .slewRef 0],
    set .REF_SEL e, set .RT_HOUSE_SRC (houseSrc input), put .refC (e + 1),
    iff (was != 0 && was != e + 1) (all [count .REF_SWITCHES, raise .REF_SWITCH e (newOld e (was - 1))]),
    iff (local_ && s.q .refLocal == 0) (raise .REF_LOCAL_SELECTED e),
    put .refLocal (b2n local_),
    iff (s.rd .REF_STATE != rsTracking || was != e + 1)
      (refState (if s.rd .RE_STATE e = reDrifting ∧ s.rd .REF_STATE ≠ rsAcquiring ∧ was = e + 1 then rsDrifting else rsTracking)),
    slewTo (s.reY e)]

/-- No candidate is left: HOLDOVER, or FREE_RUN (R299, R300). -/
def enterEmber : Act := look fun s =>
  if !(s.rd .REF_STATE == rsTracking || s.rd .REF_STATE == rsDrifting) then skip
  else all [clockTick, look fun s => match meanFreq s.freqLog with
    | some f =>
      if s.rd .REF_EMBER_HOLD_S = 0 then all [refState rsFreeRun, slewTo 0]
      else all [setS .REF_EMBER_AVG f, refState rsHoldover, slewTo f]
    | none => all [refState rsFreeRun, slewTo 0]]

/-- The fields of the entries take effect: an entry is enabled or disabled (R293, R307); FAB is lost at a manager (R290). -/
def enablesApply : Act := each (List.range 8) fun e => all [look fun s => all [put .reTolUse (s.rd .RE_TOL e) e, put .reQualUse (s.rd .RE_QUAL_S e) e], look fun s =>
  let st := s.rd .RE_STATE e
  if st = reEmpty then skip
  else if s.rd .RE_EN e = 0 then iff (st != reDisabled) (all [disarm .reQual e, refEntry e reDisabled])
  else if s.isManager ∧ s.rd .RE_INPUT e = 10 ∧ reQualifying ≤ st ∧ st ≤ reDisqualified then inputLost 10
  else iff (st == reDisabled) (all [refEntry e reAbsent, iff (s.q .rePresent (s.rd .RE_INPUT e) == 1 && s.mayBePresent (s.rd .RE_INPUT e)) (qualify e)])]

/-- The selection is evaluated (R294, R295, R299). `refs` gives, by entry, what `offsetOf` asks for. -/
def evaluate (refs : List Int) : Act := all [enablesApply, look fun s =>
  let q := (List.range 8).filter s.candidate
  let c := s.rd .REF_SEL
  let clear := each (List.range 8) fun e => all [put .refJust 0 e, set .RE_VOTES 0 e]
  if q.isEmpty then all [clear, set .REF_NOMAJ 0, enterEmber]
  else
    match s.tieGroup q c with
    | none => all [clear, set .REF_NOMAJ 0]
    | some g =>
      let (e, split, noMaj) := s.tie q g c
      all [clear,
        iff split (each g fun m => set .RE_VOTES (s.votesFor q g m) m),
        iff (noMaj && s.rd .REF_NOMAJ == 0) (all [count .REF_NOMAJ_CNT, raise .REF_NO_MAJORITY e]),
        set .REF_NOMAJ (b2n noMaj),
        iff (e != c) (selectEntry e refs)]]

-- REALIGN ----------------------------------------------------------------------------------------------------------

/-- Δ of a REALIGN record (R302): whole seconds and the fraction. -/
def decodeDelta : List Nat → Int
  | a :: b :: _ => toSigned (bits a 0 48) 48 * psS + (bits b 0 40 : Nat)
  | _ => 0

/-- The mode of a REALIGN record (R302). -/
def decodeMode (sp : Nat) : Nat := bits sp 48 2

/-- The body of a REALIGN record. -/
def encodeRealign (mode : Nat) (d : Int) : List Nat :=
  [ofSigned (d / psS) 48 + mode % 4 * 2 ^ 48, (d % psS).toNat % 2 ^ 40]

/-- A REALIGN is complete (R306). REALIGN_DONE carries mode and Δ, whose packing in PARAM the spec does not state (log 4). -/
def realignDone : Act := all [count .REF_REALIGNS, withFree fun v => raise .REALIGN_DONE 0 v]

/-- A REALIGN executes (R303 to R306): a worker that follows FAB adds its own offset, and the reference it follows moves by Δ as well, so that its
offset ends at 0; a running profile is abandoned. -/
def realignAt (mode : Nat) (delta : Int) : Act := all [clockTick, look fun s =>
  let d := if s.selInput = 10 then delta + s.refOffset else delta
  if mode = 1 then
    all [set .REF_REALIGNING 0, setLeft 0, put .slewDelta 0, put .slewRef 0,
      put .houseOff (s.q .houseOff - d), setOffset (if s.selInput = 10 then 0 else s.refOffset - d), realignDone, judgeAgain]
  else
    all [put .slewDelta d, put .slewRef (if s.selInput = 10 then delta else 0), put .slewStart s.now, put .slewRate (s.rd .REF_SLEW_PPB_S), put .slewPeak (s.rd .REF_REALIGN_PPB),
      set .REF_REALIGNING 1, setLeft d]]

/-- The end of a running profile, ps since power-on. -/
def State.profileEnd (s : State) : Nat :=
  s.qn .slewStart + profileTime (s.q .slewDelta).natAbs (s.qn .slewRate) (s.qn .slewPeak)

-- Pulse outputs ----------------------------------------------------------------------------------------------------

/-- The pulse period of an output under its fields in use, ps (R301). -/
def State.pulsePeriod (s : State) (mode dom : Nat) : Nat :=
  if mode = 2 then psS else match s.domFormat dom with | some f => f.period | none => 0

/-- A pulse falls due at an output (R301). Written fields count from the first pulse at least one period after the write. -/
def pulse (k : Nat) : Act := look fun s =>
  let written : Nat := s.rd .PO_MODE k + 4 * s.rd .PO_DOMAIN k + 32 * s.rd .PO_WIDTH_US k
  let held := s.qn .poUse k
  let period := s.pulsePeriod (held % 4) (held / 4 % 8)
  let use := if s.q .poAt k = 0 ∨ s.q .poAt k - 1 + period ≤ (s.now : Int) then written else held
  let mode := use % 4
  -- after a STEP, no 1 PPS pulse within 0.5 s of the last one (R305)
  let soon := mode == 2 && s.q .poLast k != 0 && decide (2 * (s.now + 1 - s.qn .poLast k) < psS)
  all [put .poUse use k, iff (!soon) (put .poLast (s.now + 1) k),
    iff (!soon) (iff (mode == 2 || (mode == 1 && s.domReady (use / 4 % 8))) (emit (.pulse k (use / 32))))]

/-- A write of PO_ fields was made: what is in use is kept until a pulse is due that far ahead. -/
def pulseWritten (k : Nat) : Act := look fun s => put .poAt (s.now + 1) k

-- Commands ---------------------------------------------------------------------------------------------------------

/-- REF_INPUT_LOST (R293). -/
def execRefInputLost (t input : Nat) (s : State) : Host.Outcome State Fault Refusal := run (all [at_ t, inputLost input]) s

/-- REF_INPUT_PRESENT (R293). -/
def execRefInputPresent (t input : Nat) (s : State) : Host.Outcome State Fault Refusal := run (all [at_ t, inputPresent input]) s

/-- REF_Y_MEASURE (R291): the new y of an entry, and the house frequency that the loop holds. -/
def execRefYMeasure (t entry : Nat) (y freq : Int) (s : State) : Host.Outcome State Fault Refusal :=
  run (all [at_ t, measured entry y, loopFreq freq]) s

/-- REF_QUALIFY_TIMER (R293). -/
def execRefQualifyTimer (t entry : Nat) (s : State) : Host.Outcome State Fault Refusal := run (all [at_ t, qualExpiry entry]) s

/-- REF_START_WAIT_EXPIRY (R299): with no candidate, FREE_RUN; house time starts at 0 or at the last valid PTP time. -/
def execRefStartWaitExpiry (t : Nat) (s : State) : Host.Outcome State Fault Refusal :=
  run (all [at_ t, look fun s =>
    iff (s.due .refStart && s.rd .REF_STATE == rsAcquiring && !((List.range 8).any s.candidate))
      (all [clockTick, put .houseOff (if s.rd .PT_TOD_VALID = 1 then s.q .todLast else -(s.now : Int)), refState rsFreeRun, slewTo 0])]) s

/-- REF_EMBER_HOLD_EXPIRY (R299). -/
def execRefEmberHoldExpiry (t : Nat) (s : State) : Host.Outcome State Fault Refusal :=
  run (all [at_ t, look fun s => iff (s.due .refHold && s.rd .REF_STATE == rsHoldover) (all [refState rsFreeRun, slewTo 0])]) s

/-- REF_SLEW_DONE (R298): the target is reached, and REF_OFFSET is held with what the slew added. -/
def execRefSlewDone (t : Nat) (s : State) : Host.Outcome State Fault Refusal :=
  run (all [at_ t, look fun s => iff (s.rd .REF_SLEWING == 1 && s.freqNow == s.q .refTarget) (all [clockTick, set .REF_SLEWING 0])]) s

/-- REF_10M_LOSS (R290). -/
def execRef10mLoss (t n : Nat) (s : State) : Host.Outcome State Fault Refusal :=
  run (all [at_ t, look fun s => iff (decide (n < 2) && bit (s.rd .RI_10M_OK) n)
    (all [set .RI_10M_OK (s.rd .RI_10M_OK - 2 ^ n), iff (s.selInput == 2 + n) (raise .REF_10M_LOSS n)])]) s

/-- REF_10M_PRESENT (R290). -/
def execRef10mPresent (t n : Nat) (s : State) : Host.Outcome State Fault Refusal :=
  run (all [at_ t, look fun s => iff (decide (n < 2)) (set .RI_10M_OK (Nat.lor (s.rd .RI_10M_OK) (2 ^ n)))]) s

/-- REALIGN_SLEW_DONE (R306). -/
def execRealignSlewDone (t : Nat) (s : State) : Host.Outcome State Fault Refusal :=
  run (all [at_ t, look fun s => iff (s.rd .REF_REALIGNING == 1 && decide (s.profileEnd ≤ s.now))
    (all [clockTick, setLeft 0, set .REF_REALIGNING 0, realignDone])]) s

/-- PULSE_OUTPUT (R301). -/
def execPulseOutput (t out : Nat) (s : State) : Host.Outcome State Fault Refusal := run (all [at_ t, pulse out]) s

end Sys2Proof.Machine
end

