-- ==== Sys2Proof/Machine/Ptp.lean ====
section
/-! DEFINITION. PTP and time-stamps (13_ptp_timestamps.md, R308 to R332): the best master clock algorithm, the servo states, the
domain scales, messages, the two-step queues, snapshots and the switch of active time. -/
set_option Elab.async false
namespace Sys2Proof.Machine

/-- Servo states (R331). -/
abbrev svOff : Nat := 0
abbrev svListening : Nat := 1
abbrev svAcquiring : Nat := 2
abbrev svLocking : Nat := 3
abbrev svLocked : Nat := 4
abbrev svGrandmaster : Nat := 5

/-- IEEE 1588 port states. -/
abbrev ptDisabled : Nat := 3
abbrev ptListening : Nat := 4
abbrev ptMaster : Nat := 6
abbrev ptPassive : Nat := 7
abbrev ptUncalibrated : Nat := 8
abbrev ptSlave : Nat := 9

/-- A port's state field in a domain. -/
def ppState (k : Nat) : Fld := if k = 0 then .PP_STATE0 else .PP_STATE1

/-- The index of the Announce receipt timer of a port in a domain. -/
def annIdx (p k : Nat) : Nat := 2 * p + k

/-- The value in use of a PD_ field that takes effect at the Announce interval (R331): 0 PD_NUMBER, 1 PD_LOG_SYNC, 2 PD_LOG_ANNC,
3 PD_LOG_DREQ, 4 PD_ANNC_TMO. -/
def State.pdUse (s : State) (k j : Nat) : Nat := s.qn .pdNext k j

/-- The written values of a domain come into use. -/
def pdApply (k : Nat) : Act := look fun s =>
  all [put .pdNext (s.rd .PD_NUMBER k) k 0, put .pdNext (s.rd .PD_LOG_SYNC k) k 1, put .pdNext (s.rd .PD_LOG_ANNC k) k 2,
    put .pdNext (s.rd .PD_LOG_DREQ k) k 3, put .pdNext (s.rd .PD_ANNC_TMO k) k 4]

/-- A log interval of 4 bits as a duration, ps. -/
def logPs (v : Nat) : Nat :=
  let x := toSigned v 4
  if 0 ≤ x then psS * 2 ^ x.toNat else psS / 2 ^ (-x).toNat

/-- The module's domain that a message on a port belongs to, by its domainNumber (R315). -/
def State.domOf (s : State) (p num : Nat) : Option Nat :=
  [0, 1].find? fun k => s.rd .PD_EN k == 1 && bit (s.rd .PP_DOM_EN p) k && s.pdUse k 0 == num

/-- The ports of a domain, and those of them that are up (R315). -/
def State.domPorts (s : State) (k : Nat) : List Nat := (List.range 259).filter fun p => bit (s.rd .PP_DOM_EN p) k
def State.livePorts (s : State) (k : Nat) : List Nat := (s.domPorts k).filter fun p => s.rd .MC_STATE p == 2

/-- The clockIdentity: the base MAC address with FFFEh after byte 2 (R309), byte 0 first. -/
def State.clockId (s : State) : Nat :=
  let b (i : Nat) := if i < 4 then bits (s.rd .MC_BASE_LO) (8 * i) 8 else bits (s.rd .MC_BASE_HI) (8 * (i - 4)) 8
  [b 0, b 1, b 2, 0xFF, 0xFE, b 3, b 4, b 5].foldl (fun a x => a * 256 + x) 0

/-- The clockClass announced (R316). -/
def State.ownClass (s : State) (k : Nat) : Nat := if s.rd .REF_STATE = 4 then 248 else s.rd .PD_CLASS k

/-- The module's own data set, while it offers one (R316). Accuracy and variance are IEEE 1588's "unknown" (log 15). -/
def State.ownSet (s : State) (k : Nat) : Option Foreign :=
  if s.rd .REF_STATE = 0 ∨ s.rd .PD_GM_OK k = 0 then none
  else some ⟨k, 0, 0, s.rd .PD_PRIO1 k, s.ownClass k, 0xFE, 0xFFFF, s.rd .PD_PRIO2 k, s.clockId, 0, s.rd .PD_UTC_OFFSET k, 0, 0⟩

/-- The first of two numbers to differ decides. -/
def lexLess : List (Nat × Nat) → Bool
  | [] => false
  | (a, b) :: r => if a = b then lexLess r else decide (a < b)

/-- Data set comparison (IEEE 1588-2019, 9.3.4): `a` is better than `b`. -/
def better (a b : Foreign) : Bool :=
  if a.gm = b.gm then lexLess [(a.steps, b.steps), (a.sender, b.sender), (a.port, b.port)]
  else lexLess [(a.prio1, b.prio1), (a.cls, b.cls), (a.acc, b.acc), (a.var, b.var), (a.prio2, b.prio2), (a.gm, b.gm)]

/-- The best of a list of data sets. -/
def best : List Foreign → Option Foreign
  | [] => none
  | a :: r => match best r with | none => some a | some b => if better b a then some b else some a

/-- A foreign master is qualified: two Announce messages within four Announce intervals (IEEE 1588-2019, 9.3.2.5). -/
def State.qualified (s : State) (f : Foreign) : Bool := f.prev != 0 && decide (f.last - f.prev ≤ 4 * logPs (s.pdUse f.dom 2))

/-- The best qualified foreign master of a port. -/
def State.erBest (s : State) (k p : Nat) : Option Foreign := best (s.foreign.filter fun f => f.dom == k && f.port == p && s.qualified f)

/-- The best of the domain. -/
def State.eBest (s : State) (k : Nat) : Option Foreign := best ((s.livePorts k).filterMap fun p => s.erBest k p)

/-- The state decision for a live port (IEEE 1588-2019, 9.3.3; R315, R316): 0 keeps a port listening whose Announce receipt time
still runs. -/
def State.portDecision (s : State) (k p : Nat) : Nat :=
  let er := s.erBest k p
  let eb := s.eBest k
  let own := s.ownSet k
  let waiting := er.isNone && (s.timer .ptAnnounce (annIdx p k)).isSome
  let master := if s.rd .PP_MASTER_OK p = 1 then (if waiting then ptListening else ptMaster) else if er.isSome then ptPassive else ptListening
  let ownWins (o : Option Foreign) := match own, o with | some a, some b => better a b | some _, none => true | none, _ => false
  match own with
  | some a =>
    if a.cls ≤ 127 then (if ownWins er then master else ptPassive)
    else if ownWins eb then master
    else match eb with
      | some e => if e.port = p then ptSlave else if er.isSome && (er.map Foreign.gm) == some e.gm then ptPassive else master
      | none => master
  | none => match eb with
    | some e => if e.port = p then ptSlave else if er.isSome && (er.map Foreign.gm) == some e.gm then ptPassive else master
    | none => ptListening

/-- A port's state in a domain moves (PTP_PORT_STATE). -/
def portState (k p new : Nat) : Act := moveState (ppState k) .PTP_PORT_STATE p new

-- The servo --------------------------------------------------------------------------------------------------------

/-- The last instant of valid PTP time is noted while the active domain is LOCKED (R320). -/
def todNote : Act := look fun s =>
  iff (s.rd .PD_SERVO (s.rd .PT_ACTIVE) == svLocked) (all [set .PT_TOD_VALID 1, put .todLast (s.activeTime - s.now)])

/-- The offset of a domain's scale changes by `d` units: a step. -/
def stepScale (k : Nat) (d : Int) : Act := look fun s => set .PD_OFFSET (encodeOff (decodeOff (s.rd .PD_OFFSET k) + d)) k

/-- The increment of a domain's scale changes at counter value `w` without a step (R311). -/
def slopeScale (k incr w : Nat) : Act := look fun s =>
  all [set .PD_INCR incr k, stepScale k ((w : Int) * ((s.rd .PD_INCR k : Int) - incr) / incrOne)]

/-- The servo changes state (R317, R318). -/
def servo (k new : Nat) : Act := look fun s =>
  if s.rd .PD_SERVO k = new then skip
  else all [todNote, moveState .PD_SERVO .PTP_SERVO_STATE k new, put .pdGood 0 k, put .pdBad 0 k,
    iff (new == svLocked) (all [put .pdHadLock 1 k, todNote]),
    iff (new == svGrandmaster) (all [clockTick, look fun s => slopeScale k (incrOf (s.rdS .REF_FREQ)) s.counter,
      look fun s => iff (s.q .pdHadLock k == 0) (stepScale k (psToUnits s.house - s.domTime k))]),
    iff (decide (new ≤ svListening) || new == svGrandmaster) (set .PD_SLAVE_PORT 0 k),
    -- the reference input of the domain (R319)
    if new = svLocking ∨ new = svLocked then inputPresent (4 + k) else inputLost (4 + k)]

/-- The best master clock algorithm of a domain runs (R315 to R317). -/
def bmca (k : Nat) : Act := look fun s =>
  if s.rd .PD_EN k = 0 then skip
  else
    let live := s.livePorts k
    let slave := live.find? fun p => s.portDecision k p == ptSlave
    let calm := decide (svLocking ≤ s.rd .PD_SERVO k) && decide (s.rd .PD_SERVO k ≤ svLocked)
    let ownBest := match s.ownSet k, s.eBest k with | some a, some b => better a b | some _, none => true | none, _ => false
    let heard := live.any fun p => (s.erBest k p).isSome || (s.timer .ptAnnounce (annIdx p k)).isNone
    all [
      each (s.domPorts k) fun p =>
        if !live.contains p then portState k p ptDisabled
        else match s.portDecision k p with
          | 9 => portState k p (if calm && s.rd .PD_SLAVE_PORT k == p + 1 then ptSlave else ptUncalibrated)
          | x => portState k p x,
      match slave with
      | some p =>
        let gm := match s.eBest k with | some e => e.gm | none => 0
        let sv := s.rd .PD_SERVO k
        let fresh := sv == svListening || sv == svGrandmaster
        let changed := !fresh && s.rd .PD_GM_ID k != gm
        all [iff (s.rd .PD_SLAVE_PORT k != p + 1) (put .pdMpdN 0 k),
          iff changed (all [count .PD_GM_CHANGES 1 k, raise .PTP_GM_CHANGE k gm]),
          set .PD_GM_ID gm k, iff (fresh || changed) (servo k svAcquiring), set .PD_SLAVE_PORT (p + 1) k]
      | none =>
        if ownBest && heard then all [set .PD_GM_ID s.clockId k, servo k svGrandmaster] else iff (s.rd .PD_SERVO k != svOff) (servo k svListening)]

/-- The state of a port's link has changed (R315): its Announce receipt time starts, or what it heard is forgotten. -/
def ptpPort (p : Nat) : Act := look fun s =>
  each [0, 1] fun k => iff (bit (s.rd .PP_DOM_EN p) k && s.rd .PD_EN k == 1)
    (all [if s.rd .MC_STATE p = 2 then arm .ptAnnounce (s.pdUse k 4 * logPs (s.pdUse k 2)) (annIdx p k)
      else all [disarm .ptAnnounce (annIdx p k), one (.foreign (s.foreign.filter fun f => !(f.port == p && f.dom == k)))],
      bmca k])

/-- Ports and masters are judged again after a write of PP_ or PD_ fields. -/
def ptpFollow : Act := all [bmca 0, bmca 1]

/-- The mean path delay of a domain, in units: the mean of the last 16 exchanges (R317). -/
def State.mpd (s : State) (k : Nat) : Option Int :=
  let n := min 16 (s.qn .pdMpdN k)
  if n = 0 then none else some (((List.range n).map fun j => s.q .pdMpdSum k j).sum / (n : Int))

/-- θ has been computed for a Sync (R317). The servo's own rule for r_k is open (log 4): the increment it writes is a free value
within the range of PD_INCR. -/
def theta (k : Nat) (th : Int) : Act := look fun s =>
  let ns (x : Nat) : Nat := x * 65536
  let mag := th.natAbs
  let big := decide (ns (s.rd .PD_STEP_NS k) < mag)
  let own := s.rd .PD_SERVO_EN k == 1
  let steer : Act := iff own (all [clockTick, withFree fun v => look fun s =>
    slopeScale k (incrOne - incrOne / 1000 + v % (2 * (incrOne / 1000) + 1)) s.counter])
  all [setS .PD_THETA (clampInt (-2147483648) 2147483647 (th * 10 / 65536)) k,
    match s.rd .PD_SERVO k with
    | 2 => all [iff (big && own) (all [stepScale k (-th), count .PD_STEPS 1 k, raise .PTP_STEP k (ofSigned th 64)]), servo k svLocking, bmca k]
    | 3 =>
      if big then servo k svAcquiring
      else if mag ≤ ns (s.rd .PD_LOCK_NS k) then
        all [addQ .pdGood 1 k, steer, look fun s => iff (decide (16 ≤ s.q .pdGood k)) (servo k svLocked)]
      else all [put .pdGood 0 k, steer]
    | 4 =>
      if big then servo k svAcquiring
      else if 4 * ns (s.rd .PD_LOCK_NS k) < mag then
        all [addQ .pdBad 1 k, steer, look fun s => iff (decide (4 ≤ s.q .pdBad k)) (servo k svLocking)]
      else all [put .pdBad 0 k, steer, todNote]
    | _ => skip]

-- Time-stamps ------------------------------------------------------------------------------------------------------

/-- The point in force at a port is the port's land (R323). -/
def State.atPort (s : State) (p : Nat) : Bool := s.rd .PP_TS_POINT p == 0 && s.rd .MC_MODE p != 4 && !(s.rd .MC_MODE p == 2 && s.rd .MC_FEC p == 2)

/-- A time-stamp as a counter value in units of 2^-16 ns: at the land with the lane's resolution of 78.125 ps and the integrator's
asymmetry, at the medium boundary to one tick (R323). `fine` counts eighths of a tick. -/
def State.stamp (s : State) (p fine : Nat) (rx : Bool) : Int :=
  if s.atPort p then
    let asym := s.rdS (if rx then .PP_ASYM_RX else .PP_ASYM_TX) p * 65536 / 10
    (s.counter : Int) + (fine % 8 * 5120 : Nat) + (if rx then -asym else asym)
  else s.counter

/-- A counter value on the scale of domain k. -/
def State.onScale (s : State) (k : Nat) (c : Int) : Int := c * (s.rd .PD_INCR k : Int) / incrOne + decodeOff (s.rd .PD_OFFSET k)

/-- The head fields of a port's queues (R332). -/
def pqShow (p : Nat) : Act := look fun s =>
  let q := s.tsq.filter fun e => e.port == p
  let l := s.tsLost.filter fun e => e.port == p
  all [set .PQ_COUNT q.length p, set .PQ_LOST_COUNT l.length p,
    match q with
    | [] => all [set .PQ_HEAD_SEQ 0 p, set .PQ_HEAD_TYPE 0 p, set .PQ_HEAD_DOM 0 p, set .PQ_HEAD_COMP 0 p, set .PQ_HEAD_PTP 0 p, set .PQ_HEAD_TS 0 p]
    | e :: _ => all [set .PQ_HEAD_SEQ e.seq p, set .PQ_HEAD_TYPE e.type p, set .PQ_HEAD_DOM e.dom p, set .PQ_HEAD_COMP (b2n e.comp) p,
        set .PQ_HEAD_PTP (b2n e.ptp) p, set .PQ_HEAD_TS e.ts p],
    match l with
    | [] => all [set .PQ_LOST_SEQ 0 p, set .PQ_LOST_TYPE 0 p]
    | e :: _ => all [set .PQ_LOST_SEQ e.seq p, set .PQ_LOST_TYPE e.type p]]

/-- The list without its first entry of a port. -/
def popPort (p : Nat) : List TsEnt → List TsEnt
  | [] => []
  | e :: r => if e.port = p then r else e :: popPort p r

/-- Where a message of a domain goes (R308): with PD_HYBRID, a Delay_Req to the selected master. -/
def State.ptpTo (s : State) (k type : Nat) : Option Nat :=
  if type = 1 ∧ s.rd .PD_HYBRID k = 1 then (s.eBest k).map Foreign.sender else none

/-- The servo has the transmit time of a Delay_Req. -/
def reqSent (k seq : Nat) (c : Int) : Act := all [put .pdReqT3 c k, put .pdReqSeq (seq + 1) k]

/-- A sent event message, or a frame that firmware marked, is stamped (R325 to R327). -/
def txStamp (p k type seq fine : Nat) (ptp : Bool) : Act := look fun s =>
  let c := s.stamp p fine false
  let e : TsEnt := ⟨p, type, seq, k, layout96 c.toNat, s.atPort p, ptp⟩
  let mine := s.tsq.filter fun x => x.port == p
  all [iff ptp (count .PP_TX_EVENTS 1 p),
    if ptp ∧ s.rd .PP_TWO_STEP p = 0 then all [emit (.ptp p k type seq (s.onScale k c) (s.ptpTo k type)), iff (type == 1) (reqSent k seq c)]
    else if mine.length < 64 then
      all [one (.tsq (s.tsq ++ [e])),
        iff (ptp && type == 0) (emit (.ptp p k 8 seq (s.onScale k c) none)),
        iff (ptp && type == 1) (reqSent k seq c), pqShow p]
    else
      let lost := s.tsLost.filter fun x => x.port == p
      all [one (.tsLost ((if lost.length < 16 then s.tsLost else popPort p s.tsLost) ++ [e])),
        iff (decide (16 ≤ lost.length)) (count .PP_LOST_OVF 1 p),
        count .PP_TS_LOST 1 p, raisePerSecond .PTP_TS_LOST .ppTsLostAt p seq, pqShow p]]

/-- The offset is computed from a Sync's two times, once a path delay has been measured (R317). -/
def syncTimes (k : Nat) (t1 t2 : Int) : Act := look fun s =>
  all [put .pdSyncT1 t1 k, put .pdSyncT2 t2 k, put .pdFirst 1 k,
    match s.mpd k with
    | some d => theta k (s.onScale k t2 - t1 - d)
    | none => skip]

-- Scales -----------------------------------------------------------------------------------------------------------

/-- The counter at the next tick. -/
def State.nextTick (s : State) : Nat := s.counter + 40960

/-- A write of PD_INCR, PD_OFFSET or both, as one WRITE, at the next tick (R311, R312, R331): refused while the servo owns the
scale; the increment clamps to 1,000 ppm; an offset whose ns is no fraction of a second is refused. -/
def scaleWrite (k : Nat) (incr off : Option Nat) : Act := look fun s =>
  let badNs : Bool := match off with | some o => decide (1000000000 ≤ bits o 64 32) | none => false
  let fit (v : Nat) : Nat := clampNat (incrOne - incrOne / 1000) (incrOne + incrOne / 1000) v
  let say (f : Fld) : Status → Nat → Act := sayWritten f k 0
  if s.rd .PD_SERVO_EN k = 1 then say .PD_INCR .SERVO_OWNED (s.rd .PD_INCR k)
  else if badNs then say .PD_OFFSET .REFUSED (s.rd .PD_OFFSET k)
  else all [
    match incr with
    | some v => all [slopeScale k (fit v) s.nextTick, iff (fit v != v) (say .PD_INCR .CLAMPED (fit v))]
    | none => skip,
    match off with | some o => set .PD_OFFSET o k | none => skip]

/-- A snapshot at the next tick (R313). -/
def snapshotTimes : Act := look fun s =>
  let c := s.nextTick
  let later : Int := ((c * 2 ^ 32 - s.count48 : Nat) : Int) * (incrOf s.freqNow : Int) / incrOne
  let house := psToUnits s.house + later / 2 ^ 32
  let dom (k : Nat) := s.onScale k c
  all [set .PT_SNAP_DONE 0, set .PT_SNAP_CNT (layout96 c), set .PT_SNAP_HOUSE (layout96 house.toNat),
    set .PT_SNAP_T0 (layout96 (dom 0).toNat), set .PT_SNAP_T1 (layout96 (dom 1).toNat),
    set .PT_SNAP_ACT (layout96 (dom (s.rd .PT_ACTIVE) + psToUnits s.actAdj).toNat), set .PT_SNAP_DONE 1]

/-- The ordered switch of the active domain at its frame start (R321, R322). -/
def activeSwitch (b : Nat) : Act := look fun s =>
  if s.rd .PT_ACTIVE = b then skip
  else if s.rd .PD_SERVO b = svLocked ∨ s.rd .PD_SERVO b = svGrandmaster then
    let adj := s.activeTime - unitsToPs (s.domTime b)
    all [todNote, setS .PT_ACT_ADJ adj, put .adjFrom adj, put .adjAt s.now, put .adjSlew (s.rd .PT_ACT_SLEW_NS_S),
      set .PT_ACTIVE b, count .PT_SWITCHES, raise .PTP_ACTIVE_SWITCH 0 (newOld b (1 - b)), todNote]
  else all [count .PT_SWITCH_REFUSED, raise .PTP_SWITCH_REFUSED 0 b]

/-- A PTP time in domain k as house time, ps, under the present scales (R329). -/
def State.ptpToHouse (s : State) (k : Nat) (x : Int) : Int :=
  let c := (x - decodeOff (s.rd .PD_OFFSET k)) * incrOne / (s.rd .PD_INCR k : Int)
  (s.house : Int) + unitsToPs ((c - (s.counter : Int)) * (incrOf s.freqNow : Int) / incrOne)

-- Commands ---------------------------------------------------------------------------------------------------------

/-- An event message has come in on a port with PP_DOM_EN ≠ 0, whatever domain it names (R323, R332). -/
def eventHeard (port : Nat) : Act := look fun s => iff (s.rd .PP_DOM_EN port != 0) (count .PP_RX_EVENTS 1 port)

/-- PTP_SYNC_RECEIVE (R317): a Sync on the slave port; a two-step one waits for its Follow_Up. `origin` is its origin time plus
correction in units of 2^-16 ns. -/
def execPtpSyncReceive (t port num seq fine : Nat) (twoStep : Bool) (origin : Int) (s : State) : Host.Outcome State Fault Refusal :=
  run (all [at_ t, eventHeard port, look fun s => match s.domOf port num with
    | none => skip
    | some k => 
        iff (s.rd .PD_SLAVE_PORT k == port + 1)
          (if twoStep then all [put .pdSyncT2 (s.stamp port fine true) k, put .pdSyncSeq (seq + 1) k]
           else all [put .pdSyncSeq 0 k, syncTimes k origin (s.stamp port fine true)])]) s

/-- PTP_FOLLOW_UP_RECEIVE (R317). -/
def execPtpFollowUpReceive (t port num seq : Nat) (origin : Int) (s : State) : Host.Outcome State Fault Refusal :=
  run (all [at_ t, look fun s => match s.domOf port num with
    | none => skip
    | some k => iff (s.rd .PD_SLAVE_PORT k == port + 1 && s.q .pdSyncSeq k == seq + 1)
        (all [put .pdSyncSeq 0 k, syncTimes k origin (s.q .pdSyncT2 k)])]) s

/-- PTP_DELAY_REQ_RECEIVE (R308): a master port answers with Delay_Resp. -/
def execPtpDelayReqReceive (t port num seq fine : Nat) (s : State) : Host.Outcome State Fault Refusal :=
  run (all [at_ t, eventHeard port, look fun s => match s.domOf port num with
    | none => skip
    | some k => iff (s.rd (ppState k) port == ptMaster) (emit (.ptp port k 9 seq (s.onScale k (s.stamp port fine true)) none))]) s

/-- PTP_DELAY_RESP_RECEIVE (R317): the answer to the last Delay_Req adds an exchange; one whose stamp was lost yields none. -/
def execPtpDelayRespReceive (t port num seq : Nat) (rx : Int) (s : State) : Host.Outcome State Fault Refusal :=
  run (all [at_ t, look fun s => match s.domOf port num with
    | none => skip
    | some k => iff (s.rd .PD_SLAVE_PORT k == port + 1 && s.q .pdReqSeq k == seq + 1 && s.q .pdFirst k == 1)
        (let d := ((s.onScale k (s.q .pdSyncT2 k) - s.q .pdSyncT1 k) + (rx - s.onScale k (s.q .pdReqT3 k))) / 2
         all [put .pdReqSeq 0 k, put .pdMpdSum d k (s.qn .pdMpdN k % 16), addQ .pdMpdN 1 k,
           look fun s => set .PD_MPD ((s.mpd k).getD 0 * 10 / 65536).toNat k])]) s

/-- PTP_ANNOUNCE_RECEIVE (R315): `a` is the data set announced, its port and times filled in here. -/
def execPtpAnnounceReceive (t port num sender prio1 cls acc var prio2 gm steps utc : Nat) (s : State) : Host.Outcome State Fault Refusal :=
  run (all [at_ t, look fun s => match s.domOf port num with
    | none => skip
    | some k =>
      let prev := match s.foreign.find? fun f => f.dom == k && f.port == port && f.sender == sender with | some f => f.last | none => 0
      let f : Foreign := ⟨k, port, sender, prio1, cls, acc, var, prio2, gm, steps, utc, s.now + 1, prev⟩
      all [one (.foreign ((s.foreign.filter fun g => !(g.dom == k && g.port == port && g.sender == sender)) ++ [f])),
        arm .ptAnnounce (s.pdUse k 4 * logPs (s.pdUse k 2)) (annIdx port k),
        iff (s.rd .PD_SLAVE_PORT k == port + 1) (set .PD_UTC_OFFSET utc k), bmca k]]) s

/-- PTP_ANNOUNCE_TIMEOUT (R317). -/
def execPtpAnnounceTimeout (t port k : Nat) (s : State) : Host.Outcome State Fault Refusal :=
  run (all [at_ t, look fun s => iff (s.due .ptAnnounce (annIdx port k))
    (all [disarm .ptAnnounce (annIdx port k), one (.foreign (s.foreign.filter fun f => !(f.port == port && f.dom == k))), bmca k])]) s

/-- PTP_MANAGEMENT_GET (R308): `id` 0 default, 1 current, 2 parent, 3 time properties, 4 port; anything but a GET of these is answered
NOT_SUPPORTED. -/
def execPtpManagementGet (t port num id : Nat) (get : Bool) (s : State) : Host.Outcome State Fault Refusal :=
  run (all [at_ t, look fun s => match s.domOf port num with
    | none => skip
    | some k =>
      let steps := match s.eBest k with | some e => if s.rd .PD_SLAVE_PORT k = 0 then 0 else e.steps + 1 | none => 0
      let data : Option (List Nat) :=
        if !get then none
        else match id with
          | 0 => some [s.clockId, 259, s.rd .PD_PRIO1 k, s.ownClass k, s.rd .PD_PRIO2 k, s.pdUse k 0]
          | 1 => some [steps, s.rd .PD_THETA k, s.rd .PD_MPD k]
          | 2 => some [s.rd .PD_GM_ID k, s.rd .PD_SLAVE_PORT k]
          | 3 => some [s.rd .PD_UTC_OFFSET k, if s.rd .PD_SERVO k = svGrandmaster then 0xA0 else 0x20]
          | 4 => some [port + 1, s.rd (ppState k) port, s.pdUse k 1, s.pdUse k 2, s.pdUse k 3, s.pdUse k 4]
          | _ => none
      emit (.ptpMgmt port k id data)]) s

/-- An event message of the next sequence number leaves its port. That of a one-step port carries its own time: it leaves at PTP_TX_TIMESTAMP, which
writes the time into it (R325); that of a two-step port carries none. -/
def eventSent (port k type : Nat) (seq : Qty) : Act := look fun s =>
  all [addQ seq 1 port k, iff (s.rd .PP_TWO_STEP port == 1) (emit (.ptp port k type (s.qn seq port k % 65536) 0 (s.ptpTo k type)))]

/-- PTP_SYNC_INTERVAL (R325, R326): a master port sends its next Sync. -/
def execPtpSyncInterval (t port k : Nat) (s : State) : Host.Outcome State Fault Refusal :=
  run (all [at_ t, look fun s => iff (s.rd (ppState k) port == ptMaster && s.rd .MC_STATE port == 2) (eventSent port k 0 .ppSeqSync)]) s

/-- PTP_ANNOUNCE_INTERVAL (R316, R331): written values come into use, by which the ports are judged again; a master port announces the parent's data set, or the
module's own. -/
def execPtpAnnounceInterval (t port k : Nat) (s : State) : Host.Outcome State Fault Refusal :=
  run (all [at_ t, pdApply k, bmca k, look fun s => iff (s.rd (ppState k) port == ptMaster && s.rd .MC_STATE port == 2)
    (match (if s.rd .PD_SLAVE_PORT k = 0 then s.ownSet k else s.eBest k) with
      | some d => if s.rd .PD_SLAVE_PORT k = 0 then emit (.announce port k d.prio1 d.cls d.acc d.var d.prio2 d.gm 0 (s.rd .PD_UTC_OFFSET k) (some 0xA0))
        else emit (.announce port k d.prio1 d.cls d.acc d.var d.prio2 d.gm (d.steps + 1) (s.rd .PD_UTC_OFFSET k) none)
      | none => skip)]) s

/-- PTP_DELAY_REQ_INTERVAL (R308): the slave port sends Delay_Req. -/
def execPtpDelayReqInterval (t port k : Nat) (s : State) : Host.Outcome State Fault Refusal :=
  run (all [at_ t, look fun s => iff (s.rd .PD_SLAVE_PORT k == port + 1 && s.rd .MC_STATE port == 2) (eventSent port k 1 .ppSeqReq)]) s

/-- PTP_TX_TIMESTAMP (R325 to R327). -/
def execPtpTxTimestamp (t port k type seq fine : Nat) (ptp : Bool) (s : State) : Host.Outcome State Fault Refusal :=
  run (all [at_ t, clockTick, txStamp port k type seq fine ptp]) s

/-- PT_SNAP (R313): a write of 1. -/
def execPtSnap (t value : Nat) (s : State) : Host.Outcome State Fault Refusal :=
  run (all [at_ t, clockTick, iff (value % 2 == 1) snapshotTimes]) s

/-- A write of 1 to PQ_ACK pops the queue of a port; refused while it is empty (R332). -/
def pqAck (p value : Nat) : Act := look fun s =>
  iff (value % 2 == 1 && s.rd .PQ_COUNT p != 0) (all [one (.tsq (popPort p s.tsq)), pqShow p])

/-- A write of 1 to PQ_LOST_ACK pops the lost list (R332). -/
def pqLostAck (p value : Nat) : Act := look fun s =>
  iff (value % 2 == 1 && s.rd .PQ_LOST_COUNT p != 0) (all [one (.tsLost (popPort p s.tsLost)), pqShow p])

/-- PQ_ACK (R326, R332): EMPTY where nothing is queued. -/
def execPqAck (port value : Nat) (s : State) : Host.Outcome State Fault Refusal :=
  run (look fun s => if value % 2 = 1 ∧ s.rd .PQ_COUNT port = 0 then sayWritten .PQ_ACK port 0 .EMPTY 0 else pqAck port value) s

/-- PQ_LOST_ACK (R327, R332): EMPTY where nothing is listed. -/
def execPqLostAck (port value : Nat) (s : State) : Host.Outcome State Fault Refusal :=
  run (look fun s => if value % 2 = 1 ∧ s.rd .PQ_LOST_COUNT port = 0 then sayWritten .PQ_LOST_ACK port 0 .EMPTY 0 else pqLostAck port value) s

/-- PD_SCALE_WRITE (R311, R312). -/
def execPdScaleWrite (t k : Nat) (incr off : Option Nat) (s : State) : Host.Outcome State Fault Refusal :=
  run (all [at_ t, clockTick, scaleWrite k incr off]) s

/-- PT_ACT_ADJ_SETTLE (R322). -/
def execPtActAdjSettle (t : Nat) (s : State) : Host.Outcome State Fault Refusal :=
  run (all [at_ t, look fun s => iff (s.actAdj == 0) (all [set .PT_ACT_ADJ 0, put .adjFrom 0])]) s

end Sys2Proof.Machine
end

