-- ==== Sys2Proof/Machine/Tdm.lean ====
section
/-! DEFINITION. TDM audio ports (11_tdm_audio_ports.md): slot formats, silent start and stop, slave clocks, slips, triggers. A
frame is taken as a whole at its start: the slots received in it are an operand (log 3). -/
set_option Elab.async false
namespace Sys2Proof.Machine

/-- Port states (R287) and clock states (R273). -/
abbrev tdOff : Nat := 0
abbrev tdIdle : Nat := 1
abbrev tdStarting : Nat := 2
abbrev tdRunning : Nat := 3
abbrev tdStopping : Nat := 4
abbrev tdMuted : Nat := 5

/-- The port carries frames (R287). -/
def State.tdActive (s : State) (p : Nat) : Bool := decide (2 ≤ s.rd .TD_STATE p) && decide (s.rd .TD_STATE p ≤ 4)

/-- The rate of a TD_RATE code, mHz. -/
def tdRateMHz : Nat → Nat
  | 0 => 44100000 | 1 => 48000000 | _ => 96000000

/-- The port runs at the matrix rate (R274). -/
def State.tdAtRate (s : State) (p : Nat) : Bool := s.rd .TD_RATE_NOW p == s.rd .AM_RATE + 1

-- Slots ------------------------------------------------------------------------------------------------------------

/-- The slot word of a sample with its V, U, C and block-start bits (R270). -/
def slotWord (aes : Bool) (w : Nat) (v : Int) (cs : Nat) : Nat :=
  if aes then
    let x := ofSigned v 24 * 256 + bits cs 0 1 * 128 + bits cs 1 1 * 64 + bits cs 2 1 * 32 + bits cs 3 1 * 8
    let ones := ((List.range 28).filter fun k => bit x (k + 4)).length
    x + ones % 2 * 16
  else if w = 32 then ofSigned v 24 * 256
  else if w = 24 then ofSigned v 24
  else ofSigned (clampInt (-(2 ^ (w - 1))) (2 ^ (w - 1) - 1) (convergent v (24 - w))) w

/-- The sample of a received slot word, and its bits (R270). -/
def slotSample (aes : Bool) (w x : Nat) : Int × Nat :=
  if aes then (toSigned (bits x 8 24) 24, bits x 7 1 + 2 * bits x 6 1 + 4 * bits x 5 1 + 8 * bits x 3 1)
  else if w = 32 then (toSigned (bits x 8 24) 24, 0)
  else (toSigned (x % 2 ^ w * 2 ^ (24 - w)) 24, 0)

/-- Bits [31:4] of an AES3 slot hold an odd number of ones (R270). -/
def oddParity (x : Nat) : Bool := ((List.range 28).filter fun k => bit x (k + 4)).length % 2 == 1

-- Silent start and stop --------------------------------------------------------------------------------------------

/-- A channel's state: 0 silent, 1 held until its zero crossing, 2 carrying signal, 3 carrying until its zero crossing, 4 ramping in,
5 ramping out, 6 silent before its lead-in ramp (R277, R278). A channel's index is its slot, plus 32 for receive. -/
abbrev chanIx (rx : Bool) (k : Nat) : Nat := if rx then 32 + k else k

/-- One sample of a channel: what comes out, the new state and ramp level. `cross` tells a zero crossing, `frame` the frame's number
since the fire. -/
def chanStep (ch lvl frame : Nat) (cross : Bool) (x : Int) : Int × Nat × Nat :=
  let up (l : Nat) : Int × Nat × Nat := (roundQ (x * (l + 1)) 64, if l + 1 < 64 then 4 else 2, l + 1)
  match ch with
  | 1 => if cross then (x, 2, 64) else (0, 1, 0)
  | 2 => (x, 2, 64)
  | 3 => if cross then (x, 0, 0) else (x, 3, 64)
  | 4 => up lvl
  | 5 => (roundQ (x * (lvl - 1 : Nat)) 64, if lvl ≤ 1 then 0 else 5, lvl - 1)
  | 6 => if frame < 64 then (0, 6, 0) else up 0
  | _ => (0, 0, 0)

/-- A zero crossing (R277): the sample is 0, or its sign differs from the last one's (1 positive, 2 negative, 0 none yet). -/
def crossing (prev : Nat) (x : Int) : Bool := x == 0 || (prev == 1 && decide (x < 0)) || (prev == 2 && decide (0 < x))

/-- A channel takes its next sample. -/
def chanTake (p ix frame : Nat) (x : Int) : Act := look fun s =>
  let (_, ch, lvl) := chanStep (s.qn .tdCh p ix) (s.qn .tdLevel p ix) frame (crossing (s.qn .tdPrev p ix) x) x
  all [put .tdCh ch p ix, put .tdLevel lvl p ix, put .tdPrev (if x < 0 then 2 else 1) p ix,
    iff (ch != 1 && ch != 3) (disarm .tdZc (p * 64 + ix))]

/-- What a channel gives for a sample now. -/
def State.chanOut (s : State) (p ix frame : Nat) (x : Int) : Int :=
  (chanStep (s.qn .tdCh p ix) (s.qn .tdLevel p ix) frame (crossing (s.qn .tdPrev p ix) x) x).1

/-- A channel begins to wait for its zero crossing (R277), within TD_ZC_TIMEOUT_MS. -/
def chanWait (p ix ch : Nat) : Act := look fun s =>
  all [put .tdCh ch p ix, put .tdPrev 0 p ix, arm .tdZc (s.rd .TD_ZC_TIMEOUT_MS p * psMs) (p * 64 + ix)]

/-- The masks in effect (R276, R288): those of the last port frame start of a running port, the fields themselves otherwise. -/
def State.maskOf (s : State) (p : Nat) (rx : Bool) : Nat :=
  if s.tdActive p then s.qn .tdMask p (b2n rx) else s.rd (if rx then .TD_RX_MASK else .TD_TX_MASK) p

/-- The slot is active (R276). -/
def State.slotOn (s : State) (p ix : Nat) : Bool :=
  let rx := decide (32 ≤ ix)
  let k := ix % 32
  bit (s.maskOf p rx) k && decide (k < s.rd .TD_SLOTS p) && decide (k < s.tdmSlots)

/-- Active slots of a direction. -/
def State.activeSlots (s : State) (p : Nat) (rx : Bool) : Nat := ((List.range 32).filter fun k => s.slotOn p (chanIx rx k)).length

/-- At a port frame start strictly after the frame start that applied them, the masks take effect (R279, R282, R288): a slot newly
set starts, unless the port is stopping, and a slot newly cleared stops, by zero crossings. -/
def masksTake (p : Nat) : Act := look fun s =>
  if !s.tdActive p ∨ s.house ≤ s.qn .tdMaskAt p then skip
  else
    each [false, true] fun rx => look fun s =>
      let new := s.rd (if rx then .TD_RX_MASK else .TD_TX_MASK) p
      let old := s.qn .tdMask p (b2n rx)
      if new = old then skip
      else all [put .tdMask new p (b2n rx), each (List.range 32) fun k =>
        let ix := chanIx rx k
        let ch := s.qn .tdCh p ix
        if bit new k = bit old k ∨ s.tdmSlots ≤ k ∨ s.rd .TD_SLOTS p ≤ k ∨ (bit new k = true ∧ s.rd .TD_STATE p = tdStopping) then skip
        else if bit new k then (if ch = 3 then all [put .tdCh 2 p ix, disarm .tdZc (p * 64 + ix)]
          else if ch = 5 then put .tdCh 4 p ix else chanWait p ix 1)
        else if ch = 2 then chanWait p ix 3
        else if ch = 4 then put .tdCh 5 p ix
        else all [put .tdCh 0 p ix, disarm .tdZc (p * 64 + ix)]]

-- States -----------------------------------------------------------------------------------------------------------

/-- TD_SYNC and TD_ASRC (R275): a master at the matrix rate is synchronous, a slave by its measurement. A change in a running port begins
the cross-fade of its sources. -/
def syncShow (p : Nat) : Act := look fun s =>
  let sync := s.tdAtRate p && (s.rd .TD_MASTER p == 1 || s.q .tdSyncRun p == 1)
  if s.rd .TD_CLK p = 2 then all [set .TD_SYNC (b2n sync) p, set .TD_ASRC (b2n !sync) p,
    iff (s.tdActive p && s.rd .TD_ASRC p != b2n !sync) (put .tdFadeAt (s.sampleFrom s.house + 1) p)]
  else all [set .TD_SYNC 0 p, set .TD_ASRC 0 p]

/-- The port's sources are within the 64 samples of a cross-fade at sample `i` (R275). -/
def State.tdFading (s : State) (p i : Nat) : Bool := s.q .tdFadeAt p != 0 && decide (i < s.qn .tdFadeAt p - 1 + 64)

/-- The port's buffers and channels are emptied: its sources read 0 and its destinations are not sent (R287). -/
def portSilent (p : Nat) : Act := look fun s =>
  all [one (.tdBuf (s.tdBuf.filter fun f => f.port != p)), put .tdFadeAt 0 p,
    each (List.range 64) fun ix => all [put .tdCh 0 p ix, put .tdLevel 0 p ix, disarm .tdZc (p * 64 + ix)]]

/-- The port changes state (R287). -/
def tdmState (p new : Nat) : Act := look fun s =>
  if s.rd .TD_STATE p = new then skip
  else all [moveState .TD_STATE .TDM_STATE_CHANGE p new,
    iff (new == tdOff || new == tdIdle || new == tdMuted) (portSilent p),
    iff (new == tdOff) (all [set .TD_CLK 0 p, set .TD_QUAL_COUNT 0 p, syncShow p])]

/-- The port comes into use at start (R287): a master's clock is its own (R273). -/
def tdmBegin (p : Nat) : Act := look fun s =>
  all [tdmState p tdIdle,
    if s.rd .TD_MASTER p = 1 then all [set .TD_CLK 2 p, set .TD_RATE_NOW (s.rd .TD_RATE p) p, syncShow p]
    else all [set .TD_CLK 0 p, set .TD_RATE_NOW 3 p, syncShow p]]

/-- TD_CLK follows a write of TD_MASTER or TD_RATE (R273); `changed` tells that TD_MASTER has changed. -/
def clkFollow (p : Nat) (changed : Bool) : Act := look fun s =>
  if s.rd .TD_STATE p = tdOff then skip
  else if s.rd .TD_MASTER p = 1 then
    all [set .TD_CLK 2 p, set .TD_QUAL_COUNT 0 p, set .TD_RATE_NOW (s.rd .TD_RATE p) p,
      set .TD_BCLK_KHZ (roundQ ((tdRateMHz (s.rd .TD_RATE p) * s.rd .TD_FRAME_BCLK p : Nat) : Int) 1000000).toNat p, syncShow p]
  else iff changed (all [set .TD_CLK 0 p, set .TD_QUAL_COUNT 0 p, set .TD_RATE_NOW 3 p, syncShow p])

/-- The port's destinations at matrix sample `i`, if they are among the last noted: such rows stand under port 16 + p. -/
def State.tdRow (s : State) (p i : Nat) : Option TdFrame := s.tdBuf.find? fun f => f.port == 16 + p && f.at_ == i

/-- Both buffers of a slave port at a fire at matrix sample `fire` (R274, R283): half full, on transmit with the samples that the mapping names, from
two before the fire on. -/
def State.halfFull (s : State) (p fire : Nat) : List TdFrame :=
  let row (i : Nat) : TdFrame := ⟨p, false, i, (s.tdRow p i).elim [] TdFrame.slots⟩
  [row (fire - 2), row (fire - 1)] ++ ([fire, fire + 1].filter fun i => (s.tdRow p i).isSome).map row ++ [⟨p, true, 0, []⟩, ⟨p, true, 0, []⟩]

/-- A START takes effect at the port (R276, R281): the silent mode is chosen, frames are numbered from here. -/
def portStart (p fire : Nat) : Act := look fun s =>
  let again := s.rd .TD_STATE p == tdStopping
  let txm := s.maskOf p false
  let rxm := s.maskOf p true
  let lead := decide (16 < s.activeSlots p false) || decide (16 < s.activeSlots p true)
  all [
    put .tdMask txm p 0, put .tdMask rxm p 1, set .TD_SILENT_MODE (b2n lead) p, put .tdFrame 0 p, set .TD_SLIP_NET 0 p,
    set .TD_FIRE_LO (fire % 2 ^ 32) p, set .TD_FIRE_HI (fire / 2 ^ 32) p,
    iff (s.rd .TD_MASTER p == 0) (one (.tdBuf (s.tdBuf.filter (fun f => f.port != p) ++ s.halfFull p fire))),
    tdmState p tdStarting,
    each ((List.range 64).filter fun ix => s.slotOn p ix) fun ix => look fun s =>
      let ch := s.qn .tdCh p ix
      if again ∧ ch = 3 then all [put .tdCh 2 p ix, disarm .tdZc (p * 64 + ix)]
      else if again ∧ ch = 5 then put .tdCh 4 p ix
      else if again ∧ (ch = 2 ∨ ch = 4) then skip
      else if lead then all [put .tdCh 6 p ix, put .tdLevel 0 p ix] else chanWait p ix 1]

/-- A STOP takes effect at the port (R277, R278). -/
def portStop (p : Nat) : Act := look fun s =>
  let lead := s.rd .TD_SILENT_MODE p == 1
  all [put .tdStopAt (s.q .tdFrame p) p,
    each (List.range 64) fun ix => look fun s =>
      let ch := s.qn .tdCh p ix
      if ch = 1 ∨ ch = 6 then all [put .tdCh 0 p ix, disarm .tdZc (p * 64 + ix)]
      else if ch = 4 then put .tdCh 5 p ix
      else if ch = 2 then (if lead then all [put .tdCh 5 p ix, put .tdLevel 64 p ix] else chanWait p ix 3)
      else skip,
    tdmState p tdStopping]

/-- A slip is counted (R283). It moves the mapping of R274 by one sample: up at a receive underrun, and at a transmit overrun, after which a
frame sends a later sample; down at the others (log 36). -/
def slip (p : Nat) (rx under : Bool) : Act := look fun s =>
  let by_ : Int := if rx == under then 1 else -1
  all [count (if under then .TD_UNDERRUNS else .TD_OVERRUNS) 1 p, setS .TD_SLIP_NET (s.rdS .TD_SLIP_NET p + by_) p,
    raisePerSecond .TDM_SLIP .tdSlipAt p (ofSigned (s.rdS .TD_SLIP_NET p + by_) 16)]

/-- The frames that a direction of a port's buffer holds. -/
def State.tdHeld (s : State) (p : Nat) (rx : Bool) : List TdFrame := s.tdBuf.filter fun f => f.port == p && f.rx == rx

/-- A frame joins a slave's buffer; at a full one the oldest goes (R283). -/
def bufPush (f : TdFrame) : Act := look fun s =>
  match s.tdHeld f.port f.rx with
  | h :: _ :: _ :: _ :: _ => all [one (.tdBuf (s.tdBuf.erase h ++ [f])), slip f.port f.rx false]
  | _ => one (.tdBuf (s.tdBuf ++ [f]))

/-- The oldest frame leaves a slave's buffer; at an empty one a frame of 0 is taken and the slip is counted (R283). -/
def bufPop (p : Nat) (rx : Bool) : Act := look fun s =>
  match s.tdHeld p rx with
  | h :: _ => one (.tdBuf (s.tdBuf.erase h))
  | [] => slip p rx true

/-- The frame that a direction of a port gives next: a master's by its matrix sample, a slave's the oldest. -/
def State.tdNext (s : State) (p : Nat) (rx : Bool) (at_ : Nat) : List (Int × Nat) :=
  let held := s.tdHeld p rx
  let pick := if s.rd .TD_MASTER p = 0 then held.head? else if rx then held.find? fun f => f.at_ == at_ else s.tdRow p at_
  match pick with | some f => f.slots | none => []

-- Lands ------------------------------------------------------------------------------------------------------------

/-- The frame sync and the data as port `p` samples them (R269): on the rising edge, or with TD_BCLK_INV on the falling one. -/
def State.sampled (s : State) (p : Nat) (c : TdmClk) : Bool × Bool :=
  if s.rd .TD_BCLK_INV p = 1 then (c.fsFall, c.dFall) else (c.fsRise, c.dRise)

/-- The frame sync is asserted at the first bit clock and was not at the one before (R269). -/
def State.syncHere (s : State) (p : Nat) (pins : List TdmClk) : Bool :=
  match pins with
  | [] => false
  | c :: _ => b2n (s.sampled p c).1 == s.rd .TD_FS_POL p && s.q .tdFsPrev p == 0

/-- The frame sync's level at the last bit clock is kept: 1 asserted. -/
def syncKeep (p : Nat) (pins : List TdmClk) : Act := look fun s =>
  match pins.getLast? with
  | some c => put .tdFsPrev (b2n (b2n (s.sampled p c).1 == s.rd .TD_FS_POL p)) p
  | none => skip

/-- The words of the slots, most significant bit first, from TD_OFFSET on. -/
def State.slotWords (s : State) (p : Nat) (pins : List TdmClk) : List Nat :=
  let ds := pins.map fun c => (s.sampled p c).2
  let w := s.rd .TD_WIDTH p
  (List.range (s.rd .TD_SLOTS p)).map fun k => (List.range w).foldl (fun v j => 2 * v + b2n (ds.getD (s.rd .TD_OFFSET p + k * w + j) false)) 0

/-- The data land through a frame of these slot words: 0 before the slots and after them, high impedance where a slot has no word. -/
def State.dataOut (s : State) (p : Nat) (words : List (Option Nat)) : List (Option Bool) :=
  let w := s.rd .TD_WIDTH p
  let body := words.flatMap fun x => (List.range w).map fun j => x.map fun v => bit v (w - 1 - j)
  let used := s.rd .TD_OFFSET p + body.length
  List.replicate (s.rd .TD_OFFSET p) (some false) ++ body ++ List.replicate (s.rd .TD_FRAME_BCLK p - used) (some false)

/-- The frame sync that a master port drives (R269). -/
def State.syncOut (s : State) (p : Nat) : Option (Bool × Nat) :=
  if s.rd .TD_MASTER p = 1 then some (s.rd .TD_FS_POL p == 1, if s.rd .TD_FS_LEN p = 1 then s.rd .TD_FRAME_BCLK p / 2 else 1) else none

-- Frames -----------------------------------------------------------------------------------------------------------

/-- A frame of a port, both directions (R269, R270, R274): `h` is the matrix sample at its start, `cut` tells a frame cut by an early or late
frame sync after `len` bit clocks (R285). -/
def portFrame (p h : Nat) (words : List Nat) (cut : Bool) (len : Nat) : Act := look fun s =>
  if !s.tdActive p then skip
  else
    let aes := s.rd .TD_FMT p == 1
    let w := s.rd .TD_WIDTH p
    let n := s.rd .TD_SLOTS p
    let fr := s.qn .tdFrame p
    let asrc := s.rd .TD_ASRC p == 1
    let tx := s.tdNext p false (h - 2)
    let slots := (List.range n).filter fun k => decide (k < s.tdmSlots)
    let txv (k : Nat) : Int := s.chanOut p (chanIx false k) fr (tx.getD k (0, 0)).1
    let got (k : Nat) : Int × Nat := if cut then (0, 0) else slotSample aes w (words.getD k 0)
    let rxs := slots.map fun k => (s.chanOut p (chanIx true k) fr (got k).1, if s.slotOn p (chanIx true k) then (got k).2 else 0)
    let word (k : Nat) : Nat := if s.slotOn p (chanIx false k) then slotWord aes w (txv k) (tx.getD k (0, 0)).2 else slotWord aes w (txv k) 0
    let hiz (k : Nat) : Bool := s.rd .TD_HIZ p == 1 && decide (k < s.tdmSlots) && !s.slotOn p (chanIx false k) && s.q .tdCh p (chanIx false k) == 0
    let send (value : Nat → Nat) : Act :=
      emit (.tdm p (s.syncOut p) (s.rd .TD_BCLK_INV p == 1) ((s.dataOut p ((List.range n).map fun k => if hiz k then none else some (value k))).take len))
    all [
      if asrc then withFree fun v => send fun k => if s.slotOn p k then (v + k) % 2 ^ w else 0
      else send fun k => if k < s.tdmSlots then word k else 0,
      iff aes (count .TD_PARITY_ERRS ((slots.filter fun k => oddParity (words.getD k 0)).length) p),
      each slots fun k => all [
        iff (!cut) (chanTake p (chanIx false k) fr (tx.getD k (0, 0)).1),
        chanTake p (chanIx true k) fr (got k).1],
      if s.rd .TD_MASTER p = 1 then look fun s => one (.tdBuf (s.tdBuf.filter (fun f => f.port != p || decide (h < f.at_)) ++ [⟨p, true, h + 2, rxs⟩]))
      else iff (!asrc) (all [iff (!cut) (bufPop p false), bufPush ⟨p, true, 0, rxs⟩]),
      put .tdFrame (fr + 1) p,
      look fun s =>
        let on := (List.range 64).filter fun ix => s.slotOn p ix
        match s.rd .TD_STATE p, s.rd .TD_SILENT_MODE p with
        | 2, 0 => iff (on.all fun ix => s.qn .tdCh p ix == 2) (tdmState p tdRunning)
        | 2, _ => iff (decide (128 ≤ fr + 1)) (tdmState p tdRunning)
        | 4, 0 => iff ((List.range 64).all fun ix => s.qn .tdCh p ix == 0) (tdmState p tdIdle)
        | 4, _ => iff (decide (s.qn .tdStopAt p + 127 ≤ fr)) (tdmState p tdIdle)
        | _, _ => skip]

/-- The frame start of a port: masks first (R282), then the frame. -/
def frameStart (p : Nat) (pins : List TdmClk) (cut : Bool) (len : Nat) : Act := look fun s =>
  all [masksTake p, portFrame p (s.sampleFrom s.house) (s.slotWords p pins) cut len]

/-- The port's clock is lost or has changed rate: a running port is MUTED (R284, R286). -/
def clockGone (p : Nat) : Act := look fun s => iff (s.tdActive p) (tdmState p tdMuted)

/-- A frame rate within ±500 ppm of a rate, both in mHz. -/
def within500 (x r : Nat) : Bool := decide (r * 999500 ≤ x * 1000000) && decide (x * 1000000 ≤ r * 1000500)

/-- The rate code at which a slave port's clock qualifies (R273). -/
def State.tdQualRate (s : State) (p mHz : Nat) : Option Nat :=
  (if s.rd .TD_RATE p = 3 then [0, 1, 2] else [s.rd .TD_RATE p]).find? fun c => within500 mHz (tdRateMHz c)

/-- A frame received at a slave port (R273, R275, R283, R285, R286). A frame gained against the port's own count is an overrun on receive and
an underrun on transmit, a frame lost the other way round, so that each buffer keeps its fill. -/
def slaveFrame (p : Nat) (f : TdmFrame) : Act := look fun s =>
  let here := s.syncHere p f.pins
  let cut := decide (f.pins.length < s.rd .TD_FRAME_BCLK p)
  if s.rd .TD_MASTER p = 1 ∨ s.rd .TD_STATE p = tdOff then skip
  else all [syncKeep p f.pins, match s.rd .TD_CLK p with
    | 1 =>
      all [set .TD_BCLK_KHZ f.kHz p, masksTake p,
        match s.tdQualRate p f.mHz with
        | some c =>
          if f.pins.length = s.rd .TD_FRAME_BCLK p ∧ here ∧ f.kHz ≤ 50000 then
            (if 256 ≤ s.rd .TD_QUAL_COUNT p + 1 then
              all [set .TD_QUAL_COUNT 256 p, set .TD_CLK 2 p, set .TD_RATE_NOW c p, put .tdSyncRun 0 p, syncShow p]
            else set .TD_QUAL_COUNT (s.rd .TD_QUAL_COUNT p + 1) p)
          else set .TD_QUAL_COUNT 0 p
        | none => set .TD_QUAL_COUNT 0 p]
    | 2 =>
      if !within500 f.mHz (tdRateMHz (s.rd .TD_RATE_NOW p)) then
        all [clockGone p, set .TD_CLK 1 p, set .TD_QUAL_COUNT 0 p, count .TD_RATE_CHANGES 1 p, raise .TDM_CLOCK_RATE p f.mHz,
          set .TD_BCLK_KHZ f.kHz p, syncShow p]
      else all [set .TD_BCLK_KHZ f.kHz p,
        match f.win with
        | some w =>
          let a := w.natAbs
          all [put .tdSyncRun (if a ≤ 100 then 1 else if a ≤ 200 then s.q .tdSyncRun p else 0) p, syncShow p]
        | none => skip,
        iff (cut || !here) (all [count .TD_GLITCHES 1 p, raisePerSecond .TDM_GLITCH .tdGlitchAt p 0]),
        frameStart p f.pins cut f.pins.length,
        look fun s => iff (s.tdActive p && s.rd .TD_ASRC p == 0)
          (if 0 < f.gain then all [one (.tdBuf (⟨p, false, 0, []⟩ :: (s.tdBuf.erase ((s.tdHeld p true).headD ⟨p, true, 0, []⟩)))), slip p true false, slip p false true]
           else if f.gain < 0 then all [one (.tdBuf ((s.tdBuf.erase ((s.tdHeld p false).headD ⟨p, false, 0, []⟩)) ++ [⟨p, true, 0, []⟩])), slip p true true, slip p false false]
           else skip)]
    | _ => skip]

-- Triggers ---------------------------------------------------------------------------------------------------------

/-- The trigger object is written by an ordered WRITE, executing now (R280, R289): it arms a START or STOP on the named ports. `dom` is the
domain of its stamp. A trigger at a time of a domain that is neither LOCKED nor GRANDMASTER (R329), and one more than two frames past, is
refused (R386). -/
def trigWrite (order dom : Nat) (data : List Nat) : Act := look fun s =>
  let w0 := data.getD 0 0
  let ports := bits w0 0 16
  let op := bits w0 16 2
  let sec := data.getD 1 0 % 2 ^ 32 + bits (data.getD 2 0) 0 16 * 2 ^ 32
  let ns := bits (data.getD 3 0) 0 30
  if data.length ≠ 4 ∨ op = 0 ∨ op = 3 ∨ 999999999 < ns then writeRefused order
  else
    let shown : Act := all [set .TT_PORTS ports, set .TT_OP op, set .TT_KIND (bits w0 18 1), set .TT_PTP_DOM (bits w0 19 1),
      set .TT_PTP_SEC_LO (data.getD 1 0), set .TT_PTP_SEC_HI (bits (data.getD 2 0) 0 16), set .TT_PTP_NS ns,
      set .TT_LAST_ORDER (order % 2 ^ 32)]
    let armIt (at_ : Nat) : Act := all [shown, one (.trigs (s.trigs ++ [⟨order, ports, op, bits w0 18 1, at_⟩]))]
    if bits w0 18 1 = 0 then armIt s.house
    else if s.rd .PD_SERVO (bits w0 19 1) ≠ svLocked ∧ s.rd .PD_SERVO (bits w0 19 1) ≠ svGrandmaster then writeRefused order
    else
      let P := s.ptpToHouse (bits w0 19 1) (psToUnits (((sec * 1000000000 + ns) * psNs : Nat) : Int))
      let two : Int := match s.domFormat dom with | some f => ((2 * f.period : Nat) : Int) | none => 0
      if (s.house : Int) ≤ P then armIt P.toNat
      else if (s.house : Int) ≤ P + two then all [armIt s.house, raise .TDM_TRIGGER_LATE 0 order]
      else writeRefused order

/-- The triggers due at a port now, in order. -/
def State.trigsDue (s : State) (p : Nat) : List Trig := s.trigs.filter fun g => bit g.ports p && decide (g.at_ ≤ s.house)

/-- The due triggers of a port have fired. -/
def trigsDone (p : Nat) : Act := look fun s =>
  one (.trigs ((s.trigs.map fun g => if bit g.ports p && decide (g.at_ ≤ s.house) then { g with ports := g.ports - 2 ^ p } else g).filter
    fun g => g.ports != 0))

/-- A START fires (R281), at matrix sample `st`. -/
def startFires (p st : Nat) : Act := look fun s =>
  let missed (e : Bool) : Act := all [count .TD_TRIG_MISSED 1 p, iff e (raise .TDM_TRIGGER_MISSED p)]
  match s.rd .TD_STATE p with
  | 0 => skip
  | 1 | 5 => if s.rd .TD_CLK p = 2 then portStart p st else missed true
  | 2 | 3 => missed false
  | _ => portStart p st

/-- A STOP fires (R281). -/
def stopFires (p : Nat) : Act := look fun s =>
  match s.rd .TD_STATE p with
  | 1 => iff (s.rd .TD_CLK p != 2) (tdmState p tdIdle)
  | 5 => tdmState p tdIdle
  | 2 | 3 => portStop p
  | _ => skip

/-- The due triggers fire at the port's frame start (R280, R282): masks first; of several the last wins, if it is of this kind. -/
def fires (p op : Nat) : Act := look fun s =>
  match s.trigsDue p with
  | [] => skip
  | g0 :: rest =>
    let g := rest.foldl (fun a b => if later b.order a.order then b else a) g0
    if g.op ≠ op then skip
    else all [masksTake p, trigsDone p, if op = 1 then startFires p (s.sampleFrom g.at_) else stopFires p]

-- Commands ---------------------------------------------------------------------------------------------------------

/-- TDM_MASTER_FRAME_START (R272, R274): a frame start of a master port; only a running port has frames. -/
def execTdmMasterFrameStart (t port : Nat) (pins : List TdmClk) (s : State) : Host.Outcome State Fault Refusal :=
  run (all [at_ t, look fun s => iff (s.rd .TD_MASTER port == 1) (frameStart port pins false (s.rd .TD_FRAME_BCLK port))]) s

/-- TDM_SLAVE_FRAME_RECEIVED (R273, R283, R285, R286). -/
def execTdmSlaveFrameReceived (t port : Nat) (f : TdmFrame) (s : State) : Host.Outcome State Fault Refusal :=
  run (all [at_ t, slaveFrame port f]) s

/-- TDM_CLOCK_DETECT (R273): edges and a frame sync seen. -/
def execTdmClockDetect (t port : Nat) (s : State) : Host.Outcome State Fault Refusal :=
  run (all [at_ t, look fun s => iff (s.rd .TD_MASTER port == 0 && s.rd .TD_STATE port != tdOff && s.rd .TD_CLK port == 0)
    (all [set .TD_CLK 1 port, set .TD_QUAL_COUNT 0 port])]) s

/-- TDM_CLOCK_STOP (R273, R284). -/
def execTdmClockStop (t port : Nat) (s : State) : Host.Outcome State Fault Refusal :=
  run (all [at_ t, look fun s => iff (s.rd .TD_MASTER port == 0 && s.rd .TD_CLK port == 2)
    (all [clockGone port, set .TD_CLK 0 port, set .TD_QUAL_COUNT 0 port, count .TD_CLK_STOPS 1 port, raise .TDM_CLOCK_STOP port,
      syncShow port])]) s

/-- TDM_ZC_TIMEOUT (R277): every channel of the port whose wait has run out ramps in, or out, over 64 samples. -/
def execTdmZcTimeout (t port : Nat) (s : State) : Host.Outcome State Fault Refusal :=
  run (all [at_ t, each (List.range 64) fun ix => look fun s =>
    if s.due .tdZc (port * 64 + ix) then
      all [disarm .tdZc (port * 64 + ix),
        if s.qn .tdCh port ix = 3 then all [put .tdCh 5 port ix, put .tdLevel 64 port ix]
        else all [put .tdCh 4 port ix, put .tdLevel 0 port ix],
        count .TD_ZC_TIMEOUTS 1 port, raisePerSecond .TDM_ZC_TIMEOUT .tdZcAt port 0]
    else skip]) s

/-- TDM_TRIGGER_WRITE (R289): the four words of the ordered write, executing at its stamp. -/
def execTdmTriggerWrite (t order dom : Nat) (data : List Nat) (s : State) : Host.Outcome State Fault Refusal :=
  run (all [at_ t, trigWrite order dom data]) s

/-- TDM_START (R281): the START due at this frame start of the port fires. -/
def execTdmStart (t port : Nat) (s : State) : Host.Outcome State Fault Refusal := run (all [at_ t, fires port 1]) s

/-- TDM_STOP (R281). -/
def execTdmStop (t port : Nat) (s : State) : Host.Outcome State Fault Refusal := run (all [at_ t, fires port 2]) s

end Sys2Proof.Machine
end

