-- ==== Sys2Proof/Machine/Audio.lean ====
section
/-! DEFINITION. The audio matrix of one module (09_audio_matrix.md): nodes and their ramps, transparent routes, mix buses, non-audio
muting, imports and exports, and the sample tick that computes every destination from the sources of the period before. -/
set_option Elab.async false
namespace Sys2Proof.Machine

-- Nodes ------------------------------------------------------------------------------------------------------------

/-- The number under which a bus stands among the destinations of nodes. -/
abbrev busDst (b : Nat) : Nat := 8192 + b

/-- The coefficient in effect at sample `i` (R224). -/
def ANode.coef (n : ANode) (i : Nat) : Int :=
  if i ≤ n.st then n.k0 else if n.len ≤ i - n.st then n.k1 else n.k0 + nearest ((n.k1 - n.k0) * (i - n.st : Nat)) n.len

/-- A ramp is in progress at sample `i`. -/
def ANode.ramping (n : ANode) (i : Nat) : Bool := n.k0 != n.k1 && decide (i < n.st + n.len)

/-- The node has ramped to absence (R217). -/
def ANode.gone (n : ANode) (i : Nat) : Bool := n.leaving && decide (n.st + n.len ≤ i)

/-- A new ramp from the coefficient in effect (R224). -/
def ANode.turn (n : ANode) (i : Nat) (k1 : Int) (len : Nat) : ANode := { n with k0 := n.coef i, k1 := k1, st := i, len := len }

/-- The node begins to leave over `len` samples; a transparent route leaves at once (R225). -/
def ANode.leave (n : ANode) (i len : Nat) : ANode := { n.turn i 0 (if n.transp then 0 else len) with leaving := true }

/-- The node stays after this change. -/
def ANode.stays (i : Nat) (n : ANode) : Bool := !n.gone i

/-- The fields of an entry (R221). -/
structure AEnt where
  dst : Nat
  src : Nat
  gain : Nat
  inv : Bool
  op : Nat
  ramp : Nat
  transp : Bool
  deriving DecidableEq, Repr

/-- An entry's 64 bits (R221). -/
def decodeEnt (x : Nat) : AEnt :=
  ⟨bits x 0 13 + (if bit x 13 then 8192 else 0), bits x 14 13, bits x 27 16, bit x 43, bits x 44 3, bits x 47 12 + 1, bit x 59⟩
def encodeEnt (e : AEnt) : Nat :=
  e.dst % 8192 + b2n (decide (8192 ≤ e.dst)) * 2 ^ 13 + e.src % 8192 * 2 ^ 14 + e.gain % 2 ^ 16 * 2 ^ 27 + b2n e.inv * 2 ^ 43 + e.op % 8 * 2 ^ 44
    + (e.ramp - 1) % 4096 * 2 ^ 47 + b2n e.transp * 2 ^ 59

/-- The nodes after a SET of an entry's node at sample `i` (R220, R224): any transparent route of the destination ends there (R225). -/
def setNode (ns : List ANode) (e : AEnt) (i : Nat) : List ANode :=
  let g := storedGain e.gain
  let k := coefOf g e.inv
  let others := (ns.map fun n => if n.dst = e.dst ∧ n.transp then n.leave i 0 else n).filter (ANode.stays i)
  if others.any fun n => n.dst = e.dst ∧ n.src = e.src then
    others.map fun n => if n.dst = e.dst ∧ n.src = e.src then { n.turn i k e.ramp with gain := g, inv := e.inv, ramp := e.ramp, leaving := false } else n
  else others ++ [⟨e.dst, e.src, g, e.inv, e.ramp, false, 0, k, i, e.ramp, false, 0, 0⟩]

/-- The nodes after a transparent ROUTE (R225): the others ramp down, and it takes effect at the end of the longest of their ramps. -/
def setTransp (ns : List ANode) (e : AEnt) (i : Nat) : List ANode :=
  if ns.any fun n => n.dst = e.dst ∧ n.src = e.src ∧ n.transp ∧ !n.leaving then ns
  else
    let down := ns.map fun n => if n.dst = e.dst then n.leave i (if n.leaving then n.st + n.len - i else n.ramp) else n
    let wait := (down.filter fun n => n.dst = e.dst).foldl (fun m n => max m (n.st + n.len)) i
    (down.filter (ANode.stays i)) ++ [⟨e.dst, e.src, 0, false, e.ramp, true, 2 ^ 20, 2 ^ 20, wait, 0, false, 0, 0⟩]

/-- The nodes after one entry (R220): 0 SET, 1 ROUTE, 2 CLEAR, 3 CLEAR_ALL. -/
def entryNodes (ns : List ANode) (e : AEnt) (i : Nat) : List ANode :=
  match e.op, e.transp with
  | 0, _ => setNode ns e i
  | 1, true => setTransp ns e i
  | 1, false => setNode (ns.map fun n => if n.dst = e.dst ∧ n.src ≠ e.src ∧ !n.leaving then n.leave i n.ramp else n) e i
  | 2, _ => (ns.map fun n => if n.dst = e.dst ∧ n.src = e.src then n.leave i e.ramp else n).filter (ANode.stays i)
  | 3, _ => (ns.map fun n => if n.dst = e.dst then n.leave i e.ramp else n).filter (ANode.stays i)
  | _, _ => ns

/-- The depth of bus `b` (R226): one more than the largest depth among its bus inputs; `fuel` bounds the search. -/
def busDepth (fast : Bool) (ns : List (Nat × Nat)) : Nat → Nat → Nat
  | 0, _ => 1
  | fuel + 1, b =>
    1 + ((ns.filter fun n => n.1 = busDst b).map fun n => match chanOfSource fast n.2 with
      | some (.bus b') => busDepth fast ns fuel b'
      | _ => 0).foldl max 0

/-- The counts that follow the nodes of destinations `ds` and sources `ss` (R236, R238). -/
def nodesShow (ds ss : List Nat) : Act := look fun s =>
  all [set .AM_NODES s.nodes.length, set .AM_NODES_PEAK (max (s.rd .AM_NODES_PEAK) s.nodes.length),
    each ds.dedup fun d =>
      let here := s.nodes.filter fun n => n.dst == d
      if 8192 ≤ d then set .BUS_INPUTS here.length (d - 8192)
      else all [set .AD_NODES here.length d,
        match chanOfDest s.fast d with
        | some (.bundle k c) => set .AX_USED (Nat.lor (s.rd .AX_USED k - Nat.land (s.rd .AX_USED k) (2 ^ c)) (if here.isEmpty then 0 else 2 ^ c)) k
        | _ => skip],
    each ss.dedup fun x => set .AS_FANOUT ((s.nodes.filter fun n => n.src == x).length) x,
    each (((s.nodes.map ANode.dst ++ ds).filter fun d => decide (8192 ≤ d)).dedup) fun d =>
      set .BUS_DEPTH (busDepth s.fast (s.nodes.map fun n => (n.dst, n.src)) 5 (d - 8192)) (d - 8192)]

/-- The module's nodes become `x`. -/
def setNodes (x : List ANode) : Act := look fun s =>
  let gone := (s.nodes.filter fun n => !x.any fun m => m.dst == n.dst && m.src == n.src)
  let new := (x.filter fun n => !s.nodes.any fun m => m.dst == n.dst && m.src == n.src)
  all [one (.nodes x), iff (!(gone ++ new).isEmpty) (nodesShow ((gone ++ new).map ANode.dst) ((gone ++ new).map ANode.src))]

-- Actions ----------------------------------------------------------------------------------------------------------

/-- An audio bundle takes the lowest of the links that is open to new paths and has room (R93, R214), unless it has one already: `x` and `y` name
the bundle and its use, FL_AUD_TX or FL_AUD_RX counts it. -/
def audTake (tx : Bool) (x y : Nat) (links : List Nat) : Act := look fun s =>
  let q : Qty := if tx then .auTxLink else .auRxLink
  let f : Fld := if tx then .FL_AUD_TX else .FL_AUD_RX
  if s.q q x y ≠ 0 then skip
  else match links.find? fun l => s.rd .FL_NEW_PATHS l == 1 && decide (s.rd f l < if s.fast then 64 else 128) with
    | some l => all [put q (l + 1 : Nat) x y, set f (s.rd f l + 1) l]
    | none => skip

/-- The bundle leaves its link. -/
def audDrop (tx : Bool) (x y : Nat) : Act := look fun s =>
  let q : Qty := if tx then .auTxLink else .auRxLink
  let f : Fld := if tx then .FL_AUD_TX else .FL_AUD_RX
  if s.q q x y = 0 then skip else all [set f (s.rd f (s.qn q x y - 1) - 1) (s.qn q x y - 1), put q 0 x y]

/-- The planes of the legs of a bundle that leave this module. -/
def State.legPlanes (s : State) (k : Nat) : Nat := (List.range 64).foldl (fun m n => Nat.lor m (s.qn .auLeg k n)) 0

/-- An IMPORT entry (R221). At the importing module the slot comes into use with sample `i`; at the source module and at a centre it adds a
leg toward the edge module in [19:14]. An entry that names no plane releases instead, at the point of R216 (log 18). -/
def importEnt (x i : Nat) : Act := look fun s =>
  let bundle := bits x 0 13
  let planes := bits x 30 1 + 2 * bits x 34 1
  let centre (p : Nat) : Nat := if p = 0 then bits x 27 3 else bits x 31 3
  let far := bits x 14 6
  let relAt := i + bits x 47 12 + 1 + s.dfab
  if s.isCentre then
    if planes = 0 then put .auRelease (relAt + 1 : Nat) (2 ^ 20 + bundle) far
    else all [put .auRelease 0 (2 ^ 20 + bundle) far, put .auLeg planes bundle far, audTake false bundle 2 (s.linksDown (bundle / 128)),
      audTake true bundle (16 + far) (s.linksDown far)]
  else if bundle / 128 = s.ownNode then
    if planes = 0 then put .auRelease (relAt + 1 : Nat) (2 ^ 20 + bundle) far
    else all [put .auRelease 0 (2 ^ 20 + bundle) far, put .auLeg planes bundle far,
      each [0, 1] (fun p => iff (bit planes p) (audTake true bundle p (s.linksUp p (centre p)))),
      look fun s => set .AX_LEGS (((List.range 64).filter fun n => s.q .auLeg bundle n != 0).length) (bundle % 128)]
  else match chanOfSource s.fast (bits x 14 13) with
    | some (.bundle m _) => all [
        iff (planes == 1 || planes == 2) (all [count .FAB_SINGLE_PLANE, raise .PATH_SINGLE_PLANE bundle]), set .AI_BUNDLE bundle m, set .AI_VALID 1 m, set .AI_PLANES planes m, put .auImpFrom (i + s.dfab : Nat) m,
        put .auRelease 0 m, each [0, 1] (fun p => iff (bit planes p) (audTake false bundle p (s.linksUp p (centre p))))]
    | _ => skip

/-- The destination entries that use an import slot which the same action assigns (R223). -/
def lateDests (fast : Bool) (es : List Nat) : List Nat :=
  let slots := es.filterMap fun x => if bits x 44 3 = 4 then (match chanOfSource fast (bits x 14 13) with | some (.bundle m _) => some m | _ => none) else none
  es.filterMap fun x => if bits x 44 3 = 4 then none else match chanOfSource fast (bits x 14 13) with
    | some (.bundle m _) => if slots.contains m then some (decodeEnt x).dst else none
    | _ => none

/-- An audio action executes at house time `t` (R223): its entries start at s0, or at s0 + Dfab for a destination that uses an import
assigned here. -/
def audioApply (es : List AudEntry) (t : Nat) : Act := look fun s =>
  let s0 := s.sampleFrom t
  let late := lateDests s.fast es
  all [each (es.filter fun x => bits x 44 3 == 4) (fun x => importEnt x s0),
    look fun s => one (.changes (s.changes ++ (es.filter fun x => bits x 44 3 != 4).map fun x =>
      ⟨if late.contains (decodeEnt x).dst then s0 + s.dfab else s0, x⟩))]

/-- What an entry of a state image asks for is what stands here (R34). -/
def State.holdsEntry (s : State) (x : Nat) : Bool :=
  if bits x 44 3 = 4 then
    (if s.isCentre ∨ bits x 0 13 / 128 = s.ownNode then s.qn .auLeg (bits x 0 13) (bits x 14 6) == bits x 30 1 + 2 * bits x 34 1
     else match chanOfSource s.fast (bits x 14 13) with
       | some (.bundle m _) => s.rd .AI_VALID m == 1 && s.rd .AI_BUNDLE m == bits x 0 13 && s.rd .AI_PLANES m == bits x 30 1 + 2 * bits x 34 1
       | _ => true)
  else
    let e := decodeEnt x
    s.nodes.any fun n => n.dst == e.dst && n.src == e.src && n.gain == storedGain e.gain && n.inv == e.inv && n.transp == e.transp && n.ramp == e.ramp && !n.leaving

/-- One entry starts at sample `i`. Clearing an export node waits for its release point (R216, log 18). -/
def changeNode (i x : Nat) : Act := look fun s =>
  let e := decodeEnt x
  match chanOfDest s.fast e.dst, decide (2 ≤ e.op) && decide (e.dst < 8192) with
  | some (.bundle _ _), true => put .auRelease (i + e.ramp + s.dfab + 1 : Nat) (2 ^ 21 + e.dst)
  | some (.bundle _ _), false => all [put .auRelease 0 (2 ^ 21 + e.dst), setNodes (entryNodes s.nodes e i)]
  | _, _ => setNodes (entryNodes s.nodes e i)

/-- Import slots and nodes that no longer need them (R216): a slot whose last node leaves with the change at `i` is released at the first
D0 frame start from the sample noted here. -/
def importsFollow (i : Nat) : Act := look fun s =>
  each ((List.range s.importSlots).filter fun m => s.rd .AI_VALID m == 1) fun m =>
    let users := s.nodes.filter fun n => match chanOfSource s.fast n.src with | some (.bundle k _) => k == m | _ => false
    if users.any fun n => !n.leaving then put .auRelease 0 m
    else if s.q .auRelease m = 0 ∧ !users.isEmpty then
      put .auRelease (users.foldl (fun k n => max k (n.st + n.len)) i + s.dfab + 1 : Nat) m
    else skip

/-- At a D0 frame start, what has passed its release point goes (R216). -/
def audioRelease : Act := look fun s =>
  let i := s.sampleFrom s.house
  let due (k n : Nat) : Bool := s.q .auRelease k n != 0 && decide (s.qn .auRelease k n ≤ i + 1)
  let legs := (List.range 8192).flatMap fun k => if s.isCentre ∨ k / 128 = s.ownNode then (List.range 64).filterMap fun n => if due (2 ^ 20 + k) n then some (k, n) else none else []
  all [
    each ((List.range s.importSlots).filter fun m => due m 0) (fun m => all [audDrop false (s.rd .AI_BUNDLE m) 0, audDrop false (s.rd .AI_BUNDLE m) 1, set .AI_VALID 0 m, set .AI_BUNDLE 0 m, set .AI_PLANES 0 m, put .auRelease 0 m,
      put .auImpFrom 0 m, look fun s => one (.imports (s.imports.filter fun c => c.slot != m))]),
    look fun s => setNodes (s.nodes.filter fun n => !due (2 ^ 21 + n.dst) 0),
    each ((s.nodes.map ANode.dst).dedup.filter fun d => due (2 ^ 21 + d) 0) (fun d => put .auRelease 0 (2 ^ 21 + d)),
    each legs fun (k, n) => all [put .auLeg 0 k n, put .auRelease 0 (2 ^ 20 + k) n,
      if s.isCentre then all [audDrop true k (16 + n), look fun s => iff (s.legPlanes k == 0) (audDrop false k 2)]
      else look fun s => all [iff (!bit (s.legPlanes k) 0) (audDrop true k 0), iff (!bit (s.legPlanes k) 1) (audDrop true k 1)],
      iff (k / 128 == s.ownNode && !s.isCentre) (look fun s => set .AX_LEGS (((List.range 64).filter fun n => s.q .auLeg k n != 0).length) (k % 128))]]

-- Bundles ----------------------------------------------------------------------------------------------------------

/-- Sample periods in an audio cell (R88). -/
abbrev cellPeriods : Nat := 9

/-- A copy of a bundle cell arrives from a plane (R215): the first copy is used, a copy after its samples are due is late. -/
def bundleArrive (bundle idx : Nat) (smps : List (List (Int × Nat))) : Act := look fun s =>
  match (List.range s.importSlots).find? fun m => s.rd .AI_VALID m == 1 && s.rd .AI_BUNDLE m == bundle with
  | none => skip
  | some m =>
    let at_ := idx + s.dfab
    if at_ ≤ s.sampleAt s.house then count .AI_LATE 1 m
    else if s.imports.any fun c => c.slot == m && c.idx == at_ then skip
    else one (.imports (s.imports ++ [⟨m, at_, smps⟩]))

/-- The sample of import slot `m`, channel `c`, at index `i`, if a cell holds it. -/
def State.impSample (s : State) (m c i : Nat) : Option (Int × Nat) :=
  (s.imports.find? fun x => x.slot == m && decide (x.idx ≤ i) && decide (i < x.idx + cellPeriods)).map
    fun x => (x.smps.getD (i - x.idx) []).getD c (0, 0)

/-- A cell missing from both planes is counted when its first sample is due (R215). -/
def importLost (i : Nat) : Act := look fun s =>
  each ((List.range s.importSlots).filter fun m => s.rd .AI_VALID m == 1) fun m =>
    let from_ := s.qn .auImpFrom m
    if from_ ≤ i ∧ (i - from_) % cellPeriods = 0 ∧ !(s.imports.any fun x => x.slot == m && decide (x.idx ≤ i) && decide (i < x.idx + cellPeriods)) then
      all [count .AI_LOST 1 m, raisePerSecond .AUDIO_BUNDLE_LOST .auLostAt m (s.rd .AI_BUNDLE m)]
    else skip

/-- Every export bundle in use takes this period's samples into the cell it fills (R213, R215). -/
def exportFill (i : Nat) : Act := look fun s =>
  each ((List.range s.exportBundles).filter fun k => s.rd .AX_USED k != 0) fun k => look fun s =>
    let row := (List.range 16).map fun c => (s.q .auDst (s.exportNo k c), s.qn .auDstCs (s.exportNo k c))
    let mine := s.exports.filter fun x => x.slot == k
    let rest := s.exports.filter fun x => x.slot != k
    match mine.getLast? with
    | some x =>
      if x.smps.length < cellPeriods then one (.exports (rest ++ mine.dropLast ++ [{ x with smps := x.smps ++ [row] }]))
      else one (.exports (rest ++ [x, ⟨k, i, [row]⟩]))
    | none => one (.exports (s.exports ++ [⟨k, i, [row]⟩]))

-- Non-audio --------------------------------------------------------------------------------------------------------

/-- The flags of a source at sample `i` (R230): its channel-status bits, if it carries any, and whether an ST 337 preamble pair was found
now. When the flag clears, every node that is no transparent route ramps up from 0 (R231). -/
def naFollow (x i : Nat) (cs : Option Nat) (found : Bool) : Act := look fun s =>
  let pos := match cs with | some c => if bit c 3 then 0 else s.qn .auCsPos x | none => 0
  let b1 := match cs with | some c => if pos = 1 then b2n (bit c 2) else s.qn .auCsBit x | none => 0
  let csNa := match cs with | some _ => if pos = 191 then b1 else s.rd .AS_CS_NA x | none => 0
  let at_ := if found then i + 1 else s.qn .auSt337At x
  let st := b2n (decide (at_ ≠ 0) && decide (i + 1 < at_ + 8192))
  let new := max csNa st
  let old := s.rd .AS_NONAUDIO x
  if cs.isNone ∧ at_ = 0 ∧ s.rd .AS_CS_NA x = 0 then skip
  else all [put .auCsPos (pos + 1 : Nat) x, put .auCsBit b1 x, set .AS_CS_NA csNa x, put .auSt337At (if st = 1 then at_ else 0 : Nat) x,
    set .AS_ST337 st x, set .AS_NONAUDIO new x,
    iff (old == 1 && new == 0) (look fun s => one (.nodes (s.nodes.map fun n =>
      if n.src = x ∧ !n.transp then { n with k0 := 0, st := i + 1, len := n.ramp } else n)))]

-- Buses ------------------------------------------------------------------------------------------------------------

/-- σ of a bus at sample `i`, in units of 2^-23 (R227): unity until an evaluation has found something else. -/
def State.sigma (s : State) (b i : Nat) : Int :=
  if s.q .auScaleTo b = 0 then 2 ^ 23
  else
    let j := i - s.qn .auScaleAt b
    if 64 ≤ j then s.q .auScaleTo b
    else s.q .auScaleFrom b + roundQ ((s.q .auScaleTo b - s.q .auScaleFrom b) * (j : Int)) 64

/-- The target scale for `n` active inputs (R227). -/
def scaleTarget (law n : Nat) : Int :=
  if n ≤ 1 then 2 ^ 23
  else if law = 0 then roundQ (2 ^ 23) n
  else
    let q := Nat.sqrt (2 ^ 46 / n)
    q + (if q * q * n = 2 ^ 46 then 0 else (b2n (Config.roundsUp (2 ^ 46) n) : Int))

/-- A conference bus is evaluated at sample `i` (R227): the block is that of the source samples up to `i`; an input is held for the samples up to
BUS_HOLD after it (log 18). -/
def confEvaluate (b i : Nat) : Act := look fun s =>
  let thr := s.rd .BUS_THRESH b
  let hold := s.rd .BUS_HOLD b
  let ns := s.nodes.map fun n =>
    if n.dst = busDst b then
      let loud := n.gain != 0x8000 && n.peak != 0 && reaches n.peak thr
      { n with peak := 0, activeTill := if loud then i + hold + 1 else n.activeTill }
    else n
  let active := (ns.filter fun n => n.dst = busDst b ∧ n.gain ≠ 0x8000 ∧ i < n.activeTill).length
  let goal := scaleTarget (s.rd .BUS_LAW b) active
  let was := if s.q .auScaleTo b = 0 then 2 ^ 23 else s.q .auScaleTo b
  all [one (.nodes ns), set .BUS_ACTIVE active b,
    iff (goal != was) (all [put .auScaleFrom (s.sigma b i) b, put .auScaleTo goal b, put .auScaleAt i b])]

/-- A source contributes nothing while it is flagged non-audio (R231). -/
def State.heard (s : State) (n : ANode) : Bool := s.rd .AS_NONAUDIO n.src == 0

/-- What a node adds at sample `i` (R229, R231). -/
def State.contrib (s : State) (n : ANode) (i : Nat) : Int := if s.heard n then s.q .auSrc n.src * n.coef i else 0

/-- The sum of nodes in the accumulator (R229). -/
def State.sumOf (s : State) (ns : List ANode) (i : Nat) : Int := ns.foldl (fun a n => sat56 (a + s.contrib n i)) 0

/-- The nodes of a destination or bus. -/
def State.nodesAt (s : State) (d : Nat) : List ANode := s.nodes.filter fun n => n.dst == d

/-- The output of bus `b` at sample `i` in the accumulator: the sum, times σ for a conference bus (R227, R229). -/
def State.busAcc (s : State) (b i : Nat) : Int :=
  let S := s.sumOf (s.nodesAt (busDst b)) i
  if s.rd .BUS_CLASS b = 1 then convergent (S * s.sigma b i) 23 else S

/-- The mix-minus term of a bus without source `x`, in the accumulator (R228). -/
def State.mmTerm (s : State) (b x i : Nat) : Int :=
  let ns := s.nodesAt (busDst b)
  match ns.find? fun n => n.src == x with
  | none => s.busAcc b i
  | some n => convergent ((s.sumOf ns i - s.contrib n i) * s.sigma b i) 23

/-- Destinations with AD_MM_EN set. -/
def State.mmDests (s : State) : List Nat :=
  s.regs.filterMap fun (k, v) => if k / 2 ^ 40 = Fld.AD_MM_EN.ctorIdx ∧ v = 1 then some (k / 2 ^ 20 % 2 ^ 20) else none

/-- The mix-minus term of destination `d` at sample `i`, with the cross-fade of a change (R228). -/
def State.mmAt (s : State) (d i : Nat) : Int :=
  let new := if s.rd .AD_MM_EN d = 1 then s.mmTerm (s.rd .AD_MM_BUS d) (s.rd .AD_MM_AS d) i else 0
  match s.fades.find? fun f => f.dst == d with
  | none => new
  | some f =>
    let old := if f.en then s.mmTerm f.bus f.src i else 0
    if i < f.start then old else if 64 ≤ i - f.start then new else old + roundQ ((new - old) * ((i - f.start : Nat) : Int)) 64

-- Destinations -----------------------------------------------------------------------------------------------------

/-- Destination `d` at sample `i`: its value, its V, U, C and block-start bits, whether it saturated, and whether it is muted (R225, R229, R231,
R232): 1 for a non-audio source, 2 for a transparent route from a converter; 0 in RESTRICTED (R450). The mix-minus term is the one of the bus
period before. -/
def State.destOut (s : State) (d i : Nat) : Int × Nat × Bool × Nat :=
  let ns := s.nodesAt d
  if s.rd .SU_STATE = 5 then (0, 0, false, 0)
  else match ns.find? fun n => n.transp && !n.leaving && decide (n.st ≤ i) with
  | some n =>
    if s.rd .AS_ASRC n.src = 1 then (0, 0, false, 2) else (s.q .auSrc n.src, s.qn .auCs n.src, false, 0)
  | none =>
    let plain := ns.filter fun n => !n.transp
    let acc := sat56 (s.sumOf plain i + s.q .auMm d)
    let v := convergent acc 20
    let cs := 4 * b2n (statusBit s.fast (i % 192)) + 8 * b2n (i % 192 == 0)
    (sat24 v, cs, sat24 v != v, b2n (plain.any fun n => !s.heard n))

/-- AD_PEAK over the last 4,800 samples (R236). -/
def peakFollow (d i : Nat) (v : Int) : Act := look fun s =>
  let mag := v.natAbs
  let kept := s.peaks.filter fun (e, j, m) => e != d || (decide (i < j + 4800) && decide (mag < m))
  let now := if mag = 0 then kept else kept ++ [(d, i, mag)]
  let top := (now.filter fun (e, _, _) => e == d).foldl (fun a (_, _, m) => max a m) 0
  all [iff (now != s.peaks) (one (.peaks now)), set .AD_PEAK (if top = 0 then 0x8000 else Config.peakCode top) d]

/-- Sample `i` of a destination that an output may embed is noted, with those of the last 8,192 periods (R155). -/
def embNote (d i : Nat) (v : Int) (cs : Nat) : Act := look fun s =>
  match chanOfDest s.fast d with
  | some (.edge _ _) => one (.emb ((s.emb.filter fun e => decide (i < e.idx + 8192)) ++ [⟨d, i, v, cs⟩]))
  | _ => skip

/-- Destination `d` takes its sample. -/
def destTake (d i : Nat) : Act := look fun s =>
  let (v, cs, sat, mute) := s.destOut d i
  all [put .auDst v d, put .auDstCs cs d, embNote d i v cs, peakFollow d i v,
    iff sat (all [count .AD_SAT 1 d, raisePerSecond .AUDIO_SATURATION .auSatAt d 0]),
    set .AD_TRANSP (b2n ((s.nodesAt d).any fun n => n.transp && !n.leaving && decide (n.st ≤ i))) d,
    iff (mute == 1 && s.q .auMuted d == 0) (all [count .AM_NA_MUTES, raisePerSecond .AUDIO_NONAUDIO_MUTE .auMuteAt d 0]),
    put .auMuted (b2n (mute == 1)) d, set .AD_NA_MUTE (b2n (mute != 0)) d]

-- Sources ----------------------------------------------------------------------------------------------------------

/-- The sample of generator `g` at index `i` (R233). -/
def State.genSample (s : State) (g i : Nat) : Int :=
  let k := g - 1
  let ms := i * 1000 / s.rate
  let silent := s.rd .GEN_MODE k = 0 ∨ (s.rd .GEN_MODE k = 2 ∧ ms % s.rd .GEN_PERIOD_MS k < s.rd .GEN_GAP_MS k)
  let ph := i * s.rd .GEN_FREQ_HZ k % s.rate
  if silent ∨ 2 * ph % s.rate = 0 then 0 else Config.tone (s.rd .GEN_FREQ_HZ k) (s.rd .GEN_LEVEL k) ph s.rate

/-- Sources that hold a sample now. -/
def State.liveSrc (s : State) : List Nat :=
  s.qty.filterMap fun (k, _) => if k / 2 ^ 80 = Qty.auSrc.ctorIdx ∨ k / 2 ^ 80 = Qty.auCs.ctorIdx then some (k / 2 ^ 40 % 2 ^ 40) else none

/-- Buses whose output is not 0. -/
def State.liveBuses (s : State) : List Nat := s.qty.filterMap fun (k, _) => if k / 2 ^ 80 = Qty.auBus.ctorIdx then some (k / 2 ^ 40 % 2 ^ 40) else none

/-- The edge port of an ingress slot (R210), if one is assigned. -/
def State.deembPort (s : State) (slot : Nat) : Option Nat :=
  if s.isEdge then some slot else if s.rd .AM_DEEMB_EN slot = 1 then some (s.rd .AM_DEEMB_PORT slot) else none

/-- A port receives an SDI stream, on its lane or in an ST 2022-6 flow (R62, R165). -/
def State.sdiPort (s : State) (p : Nat) : Bool := s.rd .VI_PORT_MODE p == 1 || (s.rd .VI_PORT_MODE p == 2 && s.rd .IV_MODE p == 2)

/-- The audio groups extracted at an SDI port (R62, R73): groups 5 to 8 on interfaces that carry ST 299-2 only, and a quad-link group's audio, which
travels on link 1, in the slot of its base. -/
def State.audGroups (s : State) (p : Nat) : Nat :=
  if s.rd .VI_LINK_MODE p = 2 then 0 else s.rd .VI_AUD_GROUPS p % (if 3 ≤ s.rd .VI_RATE p then 256 else 16)

/-- The channel of an ingress slot carries audio: at an SDI port, its group is one that is extracted (R73, R210). -/
def State.srcFed (s : State) (slot ch : Nat) : Bool :=
  match s.deembPort slot with
  | some p => !s.sdiPort p || bit (s.audGroups p) (ch / 4)
  | none => true

/-- The audio flow that feeds source `x` (R178). -/
def State.iaFeeds (s : State) (x : Nat) : Option Nat :=
  (List.range 512).find? fun k => s.rd .IA_MODE k != 0 && decide (s.rd .IA_FIRST_AS k ≤ x) && decide (x < s.rd .IA_FIRST_AS k + s.rd .IA_CHANNELS k)

/-- The audio of an input in frame alignment is delayed by VI_FS_MIN / 16 + ½ frames, to the nearest sample (R74). -/
def State.audDelay (s : State) (slot : Nat) : Option Nat :=
  match s.deembPort slot with
  | some p =>
    let b := s.viBase p
    if s.sdiPort p ∧ s.rd .VI_ALIGN b = 0 then
      (s.domFormat (s.rd .VI_DOMAIN b)).map fun fm => (nearest (((s.rd .VI_FS_MIN b + 8) * fm.den * s.rate : Nat) : Int) (16 * fm.num)).toNat
    else none
  | none => none

/-- The number under which an ingress source stands among the samples noted; those of an audio flow's targets are apart, by change-over. -/
abbrev srcDst (gen x : Nat) : Nat := (1 + gen % 3) * 2 ^ 20 + x

/-- The flow's entry. -/
def State.flow (s : State) (aud : Bool) (k : Nat) : IpFlow :=
  (s.flows.find? fun f => f.aud == aud && f.idx == k).getD ⟨aud, k, [], [], false, [], 0, 0, 0⟩

/-- A sample that source `x` has received for index `i` is noted, with its V, U, C and block-start bits and whether an ST 337 preamble pair ended in
it. -/
def srcNote (gen x i : Nat) (v : Int) (cs : Option Nat) (found : Bool) : Act := look fun s =>
  one (.emb ((s.emb.filter fun e => decide (i < e.idx + 8192)) ++ [⟨srcDst gen x, i, v, cs.elim 0 (· % 16 + 16) + 32 * b2n found⟩]))

/-- The sample noted for source `x` at index `i`. -/
def State.srcAt (s : State) (gen x i : Nat) : Option (Int × Option Nat × Bool) :=
  (s.emb.find? fun e => e.dst == srcDst gen x && e.idx == i).map fun e => (e.v, if bit e.cs 4 then some (e.cs % 16) else none, bit e.cs 5)

/-- A sample missing at ingress source `x` repeats the last one (R73, R178): the port delivers, or an IP flow feeds the source. -/
def State.srcKeeps (s : State) (slot x : Nat) : Bool :=
  (match s.deembPort slot with | some p => s.sdiPort p && s.rd .VI_ALIGN_STATE p != 0 | none => false)
    || (s.iaFeeds x).isSome

/-- A source passes a converter (R74, R178, R275). -/
def State.srcAsrc (s : State) (x : Nat) : Bool :=
  match chanOfSource s.fast x with
  | some (.edge slot _) =>
    match s.iaFeeds x with
    | some k => s.rd .IA_ASRC k == 1
    | none => match s.deembPort slot with | some p => s.sdiPort p && s.rd .VI_ASRC (s.viBase p) == 1 | none => false
  | some (.tdm p _) => s.rd .TD_ASRC p == 1
  | _ => false

/-- The sample that audio flow `k` brings to source `x` for index `i` (R178); for 64 samples from a change-over it cross-fades from the old flow's
(R172). -/
def State.flowSample (s : State) (k x i : Nat) : Option (Int × Option Nat × Bool) :=
  let f := s.flow true k
  let j := i - s.sampleFrom f.since
  match s.srcAt f.gen x i, s.srcAt (f.gen + 2) x i with
  | some (v, cs, found), some (old, _, _) =>
    if f.leaving.isEmpty ∨ 64 ≤ j then some (v, cs, found) else some (old + roundQ ((v - old) * (j : Int)) 64, cs, found)
  | some a, none => some a
  | none, old => if f.leaving.isEmpty ∨ 64 ≤ j then none else old

/-- Source `x` takes its sample of index `i`; the buses' outputs stand in `bus`. An ingress source takes what is extracted now, in frame alignment
what was extracted the delay of R74 before; one that an audio flow feeds takes the packets' sample (R178). What leaves a converter is an operand. -/
def srcTake (x i : Nat) (ins : List AudioIn) (bus : List (Nat × Int)) (found : Bool) : Act := look fun s =>
  let giveOf (found : Bool) (v : Int) (cs : Option Nat) : Act := all [put .auSrc v x, put .auCs (cs.getD 0 : Nat) x, naFollow x i cs found]
  let give := giveOf found
  let here := (ins.find? fun a => a.src == x).map fun a => (toSigned (ofSigned a.v 24) 24, a.cs)
  all [set .AS_ASRC (b2n (s.srcAsrc x)) x,
    match chanOfSource s.fast x with
    | some (.edge slot ch) =>
      let missing : Act := if s.srcKeeps slot x then iff (s.rd .AS_NONAUDIO x == 1) (put .auSrc 0 x) else give 0 none
      let took : Option (Int × Option Nat × Bool) → Act
        | some (v, cs, f) => giveOf f v cs
        | none => missing
      if (s.iaFeeds x).isSome ∧ !s.srcAsrc x then took ((s.iaFeeds x).bind fun k => s.flowSample k x i)
      else if (s.iaFeeds x).isSome then took (here.map fun h => (h.1, h.2, found))
      else if !s.srcFed slot ch then give 0 none
      else match s.audDelay slot with
        | some k => all [match here with | some (v, cs) => srcNote 0 x i v cs found | none => skip,
            look fun s => took (if k ≤ i then s.srcAt 0 x (i - k) else none)]
        | none => took (here.map fun h => (h.1, h.2, found))
    | some (.tdm p k) =>
      if !s.tdActive p then give 0 none
      else if s.rd .TD_ASRC p = 1 ∨ s.tdFading p i then (if s.slotOn p (chanIx true k) then withFree fun f => give (toSigned f 24) none else give 0 none)
      else
        let (v, cs) := (s.tdNext p true i).getD k (0, 0)
        give v (if s.rd .TD_FMT p = 1 then some cs else none)
    | some (.fern n) => match s.fernOutOf n with | some (c, k) => give (s.fernOut c k i) none | none => give 0 none
    | some (.bus b) => give ((bus.find? fun e => e.1 == b).map (fun e => e.2) |>.getD 0) none
    | some (.bundle m c) =>
      if s.rd .AI_VALID m = 0 then give 0 none
      else match s.impSample m c i with
        | some (v, cs) => give v (some cs)
        | none => iff (s.rd .AS_NONAUDIO x == 1) (put .auSrc 0 x)
    | some (.gen g) => give (s.genSample g i) none
    | _ => skip]

-- The tick ---------------------------------------------------------------------------------------------------------

/-- The TDM buffers give and take a frame at sample `i`, and the last rows of every port's destinations are noted (R274, R283). -/
def tdmTick (i : Nat) : Act := look fun s =>
  each ((List.range 16).filter fun p => s.rd .TD_STATE p != tdOff) fun p => look fun s =>
    let row := (List.range s.tdmSlots).map fun k => (s.q .auDst (s.tdmNo p k), s.qn .auDstCs (s.tdmNo p k))
    all [one (.tdBuf (s.tdBuf.filter (fun f => f.port != 16 + p || decide (i < f.at_ + 4)) ++ [⟨16 + p, false, i, row⟩])),
      iff (s.tdActive p && s.rd .TD_ASRC p == 0 && s.rd .TD_MASTER p == 0) (all [bufPop p true, bufPush ⟨p, false, i, row⟩])]

/-- The Fern inputs take their samples (R258). -/
def fernTick (i : Nat) : Act := look fun s =>
  each ((List.range 32).filter fun c => s.rd .FC_STATE c != 0) fun c =>
    each (List.range (s.rd .FC_IN_COUNT c)) fun k => look fun s =>
      put .fcIn (s.q .auDst (s.fernNo (s.rd .FC_IN_FIRST c + k))) c (i % s.fb c * s.rd .FC_IN_COUNT c + k)

/-- The changes due at sample `i` start, in order (R223, R56). -/
def changesStart (i : Nat) : Act := look fun s =>
  let due := s.changes.filter fun c => decide (c.at_ ≤ i)
  if due.isEmpty then skip
  else all [one (.changes (s.changes.filter fun c => !decide (c.at_ ≤ i))), each due (fun c => changeNode i c.entry), importsFollow i]

/-- One sample period of the matrix (R208): every destination and bus from the sources of the period before, then the sources. -/
def audioTick (ins : List AudioIn) (st337 : List Nat) : Act := look fun s =>
  let i := s.sampleAt s.house
  let before := s.nodes.map ANode.dst
  all [
    iff (s.nodes.any fun n => n.gone i) (setNodes (s.nodes.filter (ANode.stays i))),
    changesStart i,
    look fun s =>
      let buses := ((s.nodes.map ANode.dst).filter fun d => decide (8192 ≤ d)).dedup.map fun d => d - 8192
      let conf := buses.filter fun b => s.rd .BUS_CLASS b == 1
      all [
        look fun s =>
          let mm := (s.mmDests ++ s.fades.map MmFade.dst).dedup
          let dests := (((s.nodes.map ANode.dst ++ before).filter fun d => decide (d < 8192)) ++ mm ++ s.peaks.map fun e => e.1).dedup
          let outs := (buses ++ s.liveBuses).dedup.map fun b => (b, convergent (s.busAcc b i) 20)
          -- a bus stage adds a sample (R226)
          let given := outs.map fun (b, _) => (b, s.q .auBus b)
          let terms := mm.map fun d => (d, s.mmAt d i)
          all [
            each dests fun d => destTake d i,
            each outs fun (b, v) => all [iff (sat24 v != v) (count .BUS_SAT 1 b), set .BUS_SIGMA (s.sigma b i).toNat b, put .auBus (sat24 v) b],
            each terms fun (d, v) => put .auMm v d,
            one (.fades (s.fades.filter fun f => decide (i < f.start + 64))),
            importLost i,
            look fun s =>
              let need := (s.nodes.map ANode.src ++ (s.changes.filter fun c => decide (c.at_ ≤ i + 1)).map (fun c => (decodeEnt c.entry).src) ++ s.liveSrc
                ++ ins.map AudioIn.src ++ st337).dedup
              each need fun x => srcTake x i ins given (st337.contains x),
            tdmTick i, fernTick i, exportFill i,
            look fun s => one (.imports (s.imports.filter fun c => decide (i < c.idx + cellPeriods))),
            look fun s => one (.nodes (s.nodes.map fun n =>
              if 8192 ≤ n.dst ∧ s.rd .BUS_CLASS (n.dst - 8192) = 1 then { n with peak := max n.peak (s.contrib n (i + 1)).natAbs } else n)),
            iff (i % 16 == 0) (each conf fun b => confEvaluate b i)]]]

-- Commands ---------------------------------------------------------------------------------------------------------

/-- AUDIO_SAMPLE_TICK (R208, R224): `ins` are the ingress samples of this period, `st337` the sources at which a preamble pair of ST 337 was
found in it. -/
def execAudioSampleTick (t : Nat) (ins : List AudioIn) (st337 : List Nat) (s : State) : Host.Outcome State Fault Refusal :=
  run (all [at_ t, audioTick ins st337]) s

end Sys2Proof.Machine
end

