-- ==== Sys2Proof/Machine/Links.lean ====
section
/-! DEFINITION. Fabric links (04_rophor_fabric.md, R114) and their admission (18_xithaid_security.md, R428, R429). -/
set_option Elab.async false
namespace Sys2Proof.Machine

/-- Link states (R117). -/
abbrev flDown : Nat := 0
abbrev flTraining : Nat := 1
abbrev flAdmitting : Nat := 2
abbrev flMiswired : Nat := 3
abbrev flInService : Nat := 4
abbrev flDegraded : Nat := 5
abbrev flFailed : Nat := 6
abbrev flHeldDown : Nat := 7

/-- The plane of fabric link `l` (R14, R22). -/
def State.planeOf (s : State) (l : Nat) : Nat := if s.isCentre then (s.node - 32) / 8 else l / 64

/-- RD_PLANES: the planes with a link in service here; the loss of a plane and its return are reported (R374, "Fabric planes"). -/
def planesFollow : Act := look fun s =>
  let has (p : Nat) := (List.range s.links).any fun l => s.planeOf l == p && s.inService l
  let new := b2n (has 0) + 2 * b2n (has 1)
  let old := s.rd .RD_PLANES
  let seen := s.qn .planesSeen
  all [set .RD_PLANES new, put .planesSeen (Nat.lor seen new),
    each [0, 1] fun p =>
      iff (bit new p != bit old p && (bit old p || bit seen p)) (raise .REDUND_PLANE_LOST p (newOld (b2n (bit new p)) (b2n (bit old p))))]

/-- What ran on link `l` is no longer live (R110): an output here whose copy came over it keeps the other plane's. -/
def legsBreak (l : Nat) : Act := look fun s =>
  let on (g : Leg) : Bool := s.ownEnd g.node g.link == l
  all [setLegs (s.legs.filter fun g => !on g),
    each (s.legs.filter fun g => on g && !g.up && g.node != s.ownNode) fun g => each (g.outs.map fun o => (s.home o).2) fun p => look fun s =>
      set .XS_PLANES (s.rd .XS_PLANES p - Nat.land (s.rd .XS_PLANES p) (2 ^ g.plane)) p]

/-- A link changes state (R114): the reports of its entry, hold-down, opening to new paths, what ran on it. -/
def linkState (l new : Nat) : Act := look fun s =>
  let old := s.rd .FL_STATE l
  let was := s.inService l
  let is := new == 4 || new == 5
  if old = new then skip
  else all [moveState .FL_STATE .LINK_STATE_CHANGE l new,
    iff (new == flDegraded) (raise .LINK_DEGRADED l),
    iff (new == flFailed) (all [count .FL_FAILS 1 l, raise .LINK_FAILED l]),
    iff (new == flHeldDown) (all [raise .LINK_HELD_DOWN l, arm .flHold (s.rd .FAB_HOLDDOWN_S * psS) l]),
    iff (new != flHeldDown) (disarm .flHold l),
    iff (new != flAdmitting) (disarm .flAdmit l),
    iff (is && !was) (arm .flNew psS l),
    iff (was && !is) (all [set .FL_NEW_PATHS 0 l, disarm .flNew l, legsBreak l, wireDrop l]),
    iff (new == flTraining || new == flDown) (all [set .FL_FAR_VALID 0 l, set .FL_FAR_NODE 0 l, set .FL_FAR_LINK 0 l]),
    look fun s => set .LINK_MAP_FAULTS (((List.range s.links).filter fun k => s.rd .FL_STATE k == flMiswired).length),
    guarantee, planesFollow]

/-- Link `l` leads to a populated position in a role that uses it (R16, R114). -/
def State.linkUsed (s : State) (l : Nat) : Bool := decide (l < s.links) && s.populated.contains (s.farOf l).1

/-- A video path uses the link (R117). -/
def State.linkBusy (s : State) (l : Nat) : Bool :=
  s.legs.any fun g => s.ownEnd g.node g.link == l || (g.node == s.ownNode && (s.replicas g.link).contains l)

/-- A write of FL_ENABLE (R114, R117): 0 is refused with LINK_BUSY while a video path uses the link, and in a role without links any write with
ROLE_IDLE (R13); a refusal is reported (R11). -/
def enableLink (l v : Nat) : Act := look fun s =>
  let no (st : Status) : Act := sayWritten .FL_ENABLE l 0 st (s.rd .FL_ENABLE l)
  if s.idleBlock 3 then no .ROLE_IDLE
  else if v % 2 = 0 ∧ s.linkBusy l then no .LINK_BUSY
  else all [set .FL_ENABLE v l,
    if v % 2 = 0 then linkState l flDown
    else look fun s => iff (s.rd .FL_STATE l == flDown && s.linkUsed l) (linkState l flTraining)]

/-- Block lock, codewords and cell lock (R114): the link sends its LINK_STATUS and its CHALLENGE (R23, R428). The lane's receiver
is ALIGNED (R484) and its transmitter without fault (R477). -/
def cellLock (l : Nat) : Act := look fun s =>
  if s.rd .FL_STATE l ≠ flTraining ∨ s.rd .LN_RX_STATE (s.linkLane l) ≠ 4 ∨ 2 ≤ s.rd .LN_TX_STATE (s.linkLane l) then skip
  else all [linkState l flAdmitting, put .admitMine 0 l, put .admitFar 0 l,
    set .FL_CREDITS_CTRL 8 l, set .FL_CREDITS_AUD 32 l,
    each [Qty.flTxCtrl, .flTxAud, .flRxCtrl, .flRxAud, .flFreedCtrl, .flFreedAud, .flNewCtrl, .flNewAud, .flFreeAt, .flCtrlSeq, .flCtrlSeqRx, .flCalPos,
      .flGood, .flBad, .flUncSince, .flFarPR, .flChFar] (fun q => put q 0 l),
    emit (.linkStatus l s.node l (s.planeOf l) (s.rd .SYS_ROLE)),
    sendLocal l (s.node % 64 + l % 256 * 2 ^ 8 + s.planeOf l % 2 * 2 ^ 16 + s.rd .SYS_ROLE % 4 * 2 ^ 17 + 15 * 2 ^ 48),
    emit (.admission l 1 0), arm .flAdmit (50 * psMs) l]

/-- Loss of lock, or too many uncorrectable codewords (R114): FAILED, then HELD_DOWN at the third entry within 60 s, otherwise
TRAINING. A miswired link that loses cell lock trains again. -/
def linkFails (l : Nat) : Act := look fun s =>
  if s.inService l then
    let a := s.q .flFailAt l 0
    let third := a ≠ 0 ∧ (s.now : Int) + 1 - a ≤ 60 * psS
    all [linkState l flFailed, put .flFailAt (s.q .flFailAt l 1) l 0, put .flFailAt (s.now + 1) l 1,
      linkState l (if third then flHeldDown else flTraining)]
  else iff (s.rd .FL_STATE l == flMiswired) (linkState l flTraining)

/-- The bits of a codeword (R85): 544 symbols of 10. -/
abbrev codewordBits : Nat := 5440

/-- A window of the pre-FEC bit error ratio (R114): `secs` is 1 (FL_BER), 10 or 60. FL_BER is ⌊−100 log10(max(errors, 1) / bits)⌋
(R117), found as the number of decimal digits of a hundredth power; more than 1 uncorrectable codeword per 10^6 in
the second fails the link. -/
def berWindow (l secs errors bits_ : Nat) : Act := look fun s =>
  if secs = 1 then
    all [set .FL_BER (min 2047 (Nat.log 10 (bits_ ^ 100 / (max errors 1) ^ 100))) l, put .flUncSince 0 l,
      iff (s.inService l && decide (bits_ < s.qn .flUncSince l * 1000000 * codewordBits)) (linkFails l)]
  else if secs = 10 ∧ s.rd .FL_STATE l = flInService ∧ bits_ < errors * 100000 then linkState l flDegraded
  else if secs = 60 ∧ s.rd .FL_STATE l = flDegraded ∧ errors * 1000000 < bits_ then linkState l flInService
  else skip

/-- Admission is refused by this side (R429): the reason goes out in RESULT and is reported, and the link is held down. -/
def refuseLink (l why : Nat) : Act :=
  all [emit (.admission l 4 why), count .SEC_ADMIT_REFUSED, raise .SEC_ADMIT_REFUSED l why, linkState l flHeldDown]

/-- The far end of link `l` as LINK_STATUS names it, or, where none has come, its CHALLENGE (R23, R428). A plane or role that LINK_STATUS gives and
R22 does not fit is no far end. -/
def State.farEnd (s : State) (l : Nat) : Nat × Nat :=
  let role := if s.isCentre then 2 else 3
  if s.rd .FL_FAR_VALID l = 1 then
    if s.qn .flFarPR l = s.planeOf l + 2 * role then (s.rd .FL_FAR_NODE l, s.rd .FL_FAR_LINK l) else (64, 256)
  else (s.qn .flChFar l % 64, s.qn .flChFar l / 64)

/-- Both sides have sent RESULT 0: the wiring is checked and the link is in service or miswired (R23, R428). -/
def admitted (l : Nat) : Act := look fun s =>
  if s.q .admitMine l = 1 ∧ s.q .admitFar l = 1 then
    all [count .SEC_ADMIT_OK,
      if s.farEnd l = s.farOf l then linkState l flInService
      else all [linkState l flMiswired, raise .LINK_MISWIRED l]]
  else skip

-- Commands ---------------------------------------------------------------------------------------------------------

/-- FL_ENABLE_WRITE (R114). -/
def execFlEnableWrite (t link value : Nat) (s : State) : Host.Outcome State Fault Refusal :=
  run (all [at_ t, enableLink link value]) s

/-- LINK_CELL_LOCK (R114). -/
def execLinkCellLock (t link : Nat) (s : State) : Host.Outcome State Fault Refusal := run (all [at_ t, cellLock link]) s

/-- LINK_BER_WINDOW (R114). -/
def execLinkBerWindow (t link secs errors total : Nat) (s : State) : Host.Outcome State Fault Refusal :=
  run (all [at_ t, berWindow link secs errors total]) s

/-- LINK_FAILED (R114). -/
def execLinkFailed (t link : Nat) (s : State) : Host.Outcome State Fault Refusal := run (all [at_ t, linkFails link]) s

/-- LINK_HOLDDOWN_EXPIRY (R114). -/
def execLinkHolddownExpiry (t link : Nat) (s : State) : Host.Outcome State Fault Refusal :=
  run (all [at_ t, look fun s => iff (s.due .flHold link && s.rd .FL_STATE link == flHeldDown) (linkState link flTraining)]) s

/-- LINK_NEW_PATHS_OPEN (R114). -/
def execLinkNewPathsOpen (t link : Nat) (s : State) : Host.Outcome State Fault Refusal :=
  run (all [at_ t, look fun s => iff (s.due .flNew link && s.inService link) (all [disarm .flNew link, set .FL_NEW_PATHS 1 link])]) s

/-- CHALLENGE (R428): the far end names its node and link; the own chain goes out unless the far side has verified it. -/
def execChallenge (t link node index : Nat) (known : Bool) (s : State) : Host.Outcome State Fault Refusal :=
  run (all [at_ t, look fun s => iff (s.rd .FL_STATE link == flAdmitting)
    (all [put .flChFar (node % 64 + index % 256 * 64 : Nat) link,
      if known then emit (.admission link 3 0) else emit (.admission link 2 0)])]) s

/-- CHAIN (R428, R429): the far chain verifies to the Zeagrim root, or admission is refused with reason 1. -/
def execChain (t link : Nat) (chainOk : Bool) (s : State) : Host.Outcome State Fault Refusal :=
  run (all [at_ t, look fun s => iff (s.rd .FL_STATE link == flAdmitting)
    (if chainOk then emit (.admission link 3 0) else refuseLink link 1)]) s

/-- PROOF (R428, R429): the signature verifies (else reason 2) and the owner digests agree on two claimed modules (else 3). -/
def execProof (t link : Nat) (sigOk : Bool) (ownerDigest : Nat) (s : State) : Host.Outcome State Fault Refusal :=
  run (all [at_ t, look fun s => iff (s.rd .FL_STATE link == flAdmitting)
    (if !sigOk then refuseLink link 2
     else if s.rd .SEC_STATE = 0 ∨ ownerDigest ≠ s.rd .SEC_OWNER_DIGEST then refuseLink link 3
     else all [emit (.admission link 4 0), put .admitMine 1 link, admitted link])]) s

/-- RESULT (R428): the far side admits the link, or refuses it and the link is held down. -/
def execResult (t link reason : Nat) (s : State) : Host.Outcome State Fault Refusal :=
  run (all [at_ t, look fun s => iff (s.rd .FL_STATE link == flAdmitting)
    (if reason = 0 then all [disarm .flAdmit link, put .admitFar 1 link, admitted link] else linkState link flHeldDown)]) s

/-- ADMISSION_TIMEOUT (R429): no RESULT within 50 ms of the own CHALLENGE. -/
def execAdmissionTimeout (t link : Nat) (s : State) : Host.Outcome State Fault Refusal :=
  run (all [at_ t, look fun s => iff (s.due .flAdmit link && s.rd .FL_STATE link == flAdmitting) (refuseLink link 4)]) s

end Sys2Proof.Machine
end

