-- ==== Sys2Proof/Machine/Compose.lean ====
section
/-! DEFINITION. The frames that SDI outputs send (R144, R150, R153 to R157): the words of each line from what the output carried there, the ST 352
packet, the audio packets. -/
set_option Elab.async false
namespace Sys2Proof.Machine

-- Words ------------------------------------------------------------------------------------------------------------

/-- The bits of a line of 10-bit words, two a sample. -/
def lineBits (f : Format) : Nat := 20 * f.spl

/-- The lines of a frame that stands as packed words. -/
def linesOf (f : Format) (v : Nat) : List (List Nat) := (List.range f.lines).map fun L => unpackWords 10 (2 * f.spl) (v / 2 ^ (L * lineBits f))

/-- The frame of a remote stream that output `n` has received for picture `F` (R102, R105). -/
def State.remoteFrame (s : State) (f : Format) (n F : Nat) : List (List Nat) := linesOf f (s.qn .voBits n (F % 2))

/-- What output `n` sends on line number `a`, counted from house time 0: the last segment that has begun by then. -/
def State.segAt (s : State) (n a : Nat) : Option Seg := (s.segs.filter fun g => g.out == n && decide (g.line ≤ a)).getLast?

/-- The words that feed `g` brings on line `L` (from 1) of picture `F`; charcoal where it brings none. -/
def State.feedLine (s : State) (f : Format) (F L : Nat) (remote : List (List Nat)) (g : Feed) : List Nat :=
  let pick (ls : List (List Nat)) : List Nat := ls.getD (L - 1) (charcoalLine f.spl)
  match g with
  | .charcoal => charcoalLine f.spl
  | .input p => pick (s.frameOf p F)
  | .remote => pick remote
  | .head h => pick (s.pic (1024 + 2 * h + F % 2))

-- Audio ------------------------------------------------------------------------------------------------------------

/-- The picture delay that output `n` adds (R147), ps. -/
def State.pictureDelay (s : State) (n : Nat) : Nat :=
  match s.domFormat (s.rd .VO_DOMAIN (s.voBase n)) with
  | none => 0
  | some fm =>
    let x := s.rdS .VO_OFFSET (s.voBase n)
    let k := if x < 0 then ((fm.samples : Int) + x).toNat else x.toNat
    k * fm.den * psS / (fm.num * fm.samples)

/-- The line, counted from house time 0, in whose HANC output `n` carries sample `i` (R155, R156): the one that leaves the land when the sample
does, two samples and the picture delay after its destination had it; where that is the line after a switching line, the next. -/
def State.lineOfSample (s : State) (f : Format) (n std i : Nat) : Nat :=
  let delay := s.pictureDelay n
  let leaves := (i + 2 + (nearest ((delay * s.rate : Nat) : Int) psS).toNat) * psS / s.rate
  let a := (leaves - (s.deliveryPs std + 400 * psNs + delay)) * f.num * f.lines / (f.den * psS)
  let L := a % f.lines + 1
  if L = f.sw1 + 1 ∨ (f.sw2 ≠ 0 ∧ L = f.sw2 + 1) then a + 1 else a

/-- The sample that destination `d` had at index `i`: its value, its V, U, C and block-start bits; silence where nothing feeds it. -/
def State.embAt (s : State) (d i : Nat) : Int × Nat :=
  match s.emb.find? fun e => e.dst == d && e.idx == i with
  | some e => (e.v, e.cs)
  | none => (0, 4 * b2n (statusBit s.fast (i % 192)) + 8 * b2n (i % 192 == 0))

/-- The destination of channel `ch` of an egress slot (R211). -/
def State.slotDest (s : State) (slot ch : Nat) : Nat := slot * (if s.fast then 16 else 32) + ch

/-- The audio packets of output `n` with the samples `is` (R154, R155): by carrying group, each mapped destination group's four channels. -/
def State.audPkts (s : State) (n : Nat) (is : List Nat) : List AudPkt :=
  match s.embSlot n with
  | none => []
  | some slot =>
    if is.isEmpty then []
    else ((List.range 8).filterMap fun k =>
      ((List.range s.embGroups).find? fun g => bits (s.rd .VO_EMB_MAP n) (4 * g) 4 == k + 1 && !bit (s.embDropped n) g).map fun g =>
        ⟨k + 1, is.map fun i => (List.range 4).map fun c => s.embAt (s.slotDest slot (4 * g + c)) i⟩)

-- Frames -----------------------------------------------------------------------------------------------------------

/-- Picture `F` of SDI output `n` leaves line by line (R150, R153 to R157), in the interface in which it began. -/
def outputSend (F n : Nat) : Act := look fun s =>
  match s.linkFormat n with
  | none => skip
  | some f =>
    let std := s.qn .voStdAt n (F % 2)
    let vpid := s.qn .voVpidAt n (F % 2)
    let remote := s.remoteFrame f n F
    let near := (List.range (s.rate * f.den / f.num + 32)).map fun k => s.sampleFrom (f.frameStart F) + k - 8
    let smps := near.filterMap fun i => let a := s.lineOfSample f n std i; if a / f.lines = F then some (a, i) else none
    let lines := (List.range f.lines).map fun k =>
      let g := (s.segAt n (F * f.lines + k)).getD ⟨n, 0, .charcoal, false⟩
      let words := s.feedLine f F (k + 1) remote g.feed
      if g.pass then (⟨words, none, []⟩ : OutLine)
      else ⟨stripLine (std == 1) (removed false) words, if (Config.vpidLines std (s.fmtOut n)).contains (k + 1) then some vpid else none,
        s.audPkts n ((smps.filter fun x => x.1 == F * f.lines + k).map Prod.snd)⟩
    all [emit (.video n F std (if f.den = 1001 then some (F % 5) else none) lines),
      set .VO_FRAME_CRC (Config.frameCrc (s.fmtOut n) (lines.map OutLine.words) % 2 ^ 32) n]

/-- Segments that no frame from picture `F` on needs are dropped: those before the last that began by its first line. -/
def segsKeep (F n : Nat) : Act := look fun s =>
  match s.linkFormat n with
  | none => skip
  | some f =>
    let from_ := ((s.segAt n (F * f.lines)).map Seg.line).getD 0
    one (.segs (s.segs.filter fun g => g.out != n || decide (from_ ≤ g.line)))

/-- The pictures of domain `d` whose last words have been delivered by now: those of the frame before the present one (log 48). -/
def outputsSend (d : Nat) : Act := look fun s =>
  let F := s.frameNow d - 1
  each ((List.range s.ports).filter fun n => s.rd .VO_DOMAIN (s.voBase n) == d && s.rd .VO_PORT_MODE n == 1 && s.rd .VO_STATE n == 2 && s.qn .voFrameAt n (F % 2) == F + 1)
    fun n => all [outputSend F n, segsKeep (F + 1) n, put .voFrameAt 0 n (F % 2)]

end Sys2Proof.Machine
end

