-- ==== Sys2Proof/Machine/Ip.lean ====
section
/-! DEFINITION. IP media flows (07_ip_media_flows.md): packets of two legs and the frames made of their words, joins and make-before-break
changes, send flows. -/
set_option Elab.async false
namespace Sys2Proof.Machine

/-- Flow states (R180). -/
abbrev ivOff : Nat := 0
abbrev ivJoining : Nat := 1
abbrev ivReceiving : Nat := 2
abbrev ivChanging : Nat := 3

/-- The number of a flow among the quantities: positions first, then audio flows. -/
def flowKey (aud : Bool) (k : Nat) : Nat := if aud then 1000 + k else k

/-- The fields of a target (R171). -/
def targetFields (aud : Bool) : List Fld :=
  if aud then [.IA_MODE, .IA_DUAL, .IA_IPV6, .IA_L16, .IA_PTIME, .IA_CHANNELS, .IA_FIRST_AS, .IA_PLAYOUT, .IA_MAC_A, .IA_MAC_B, .IA_UDP_A, .IA_UDP_B,
    .IA_GRP_A, .IA_SRC_A, .IA_GRP_B, .IA_SRC_B]
  else [.IV_MODE, .IV_DUAL, .IV_IPV6, .IV_ANC, .IV_FMT, .IV_ANC_UDP, .IV_PLAYOUT_US, .IV_PLAYOUT_US, .IV_MAC_A, .IV_MAC_B, .IV_UDP_A, .IV_UDP_B,
    .IV_GRP_A, .IV_SRC_A, .IV_GRP_B, .IV_SRC_B]

/-- The target that the fields in effect form; empty with the flow off (R171). -/
def State.target (s : State) (aud : Bool) (k : Nat) : List Nat :=
  let v := (targetFields aud).map fun f => s.rd f k
  if v.headD 0 = 0 then [] else v

/-- The place of a field in a target. -/
def targetIx (aud : Bool) (f : Fld) : Nat := (targetFields aud).findIdx (· == f)

-- Joins ------------------------------------------------------------------------------------------------------------

/-- A multicast address (R180). -/
def multicast (ipv6 v : Nat) : Bool := if ipv6 = 1 then bits v 0 8 == 0xFF else bits v 4 4 == 0xE

/-- The groups of a target that are joined, each with the MAC that carries it and the source asked for (0: any): leg B's only with two legs, and no
unicast address (R171, R180). -/
def groupsOf (t : List Nat) : List (Nat × Nat × Nat) :=
  if t.isEmpty then []
  else ((t.getD 8 0, t.getD 12 0, t.getD 13 0) :: (if t.getD 1 0 = 1 then [(t.getD 9 0, t.getD 14 0, t.getD 15 0)] else [])).filter fun g =>
    multicast (t.getD 2 0) g.2.1

/-- Membership reports, one a group: 0 joins it, 1 leaves it (R171), in the version of the last querier heard on the MAC, 3 where none was (R161,
log 49). -/
def report (kind : Nat) (gs : List (Nat × Nat × Nat)) : Act := look fun s =>
  each gs fun (mac, g, src) => emit (.igmp kind g mac src (if s.q .mcQuerier mac = 0 then 3 else s.qn .mcQuerier mac))

/-- IV_STATE or IA_STATE. -/
def flowState (aud : Bool) (k v : Nat) : Act := set (if aud then .IA_STATE else .IV_STATE) v k

/-- The flow's entry is replaced; one with nothing left in it goes. -/
def putFlow (f : IpFlow) : Act := look fun s =>
  let rest := s.flows.filter fun g => !(g.aud == f.aud && g.idx == f.idx)
  one (.flows (if f.cur.isEmpty && f.want.isEmpty && f.leaving.isEmpty then rest else rest ++ [f]))

/-- Groups that only `a` uses, beside the other targets of the flow. -/
def onlyOf (a b c : List Nat) : List (Nat × Nat × Nat) := (groupsOf a).filter fun g => !(groupsOf b).contains g && !(groupsOf c).contains g

/-- The flow acts on the target in effect at this frame start (R171 to R173). -/
def flowFollow (aud : Bool) (k : Nat) : Act := look fun s =>
  let f := s.flow aud k
  let new := s.target aud k
  let timer : Act := iff (!aud) (arm .ivJoin (s.rd .IV_JOIN_TIMEOUT_MS k * psMs) (flowKey aud k))
  if new.isEmpty then
    all [report 1 (groupsOf f.cur), report 1 (onlyOf f.want f.cur []), putFlow { f with cur := [], want := [], qualified := false },
      flowState aud k ivOff, disarm .ivJoin (flowKey aud k), one (.rtp (s.rtp.filter fun g => g.pos != flowKey aud k)),
      iff (!aud) (put .ivDone 0 k), iff aud (each [0, 1, 2] fun j => put .ivSeqNext 0 k j)]
  else if new = f.cur then
    all [report 1 (onlyOf f.want f.cur f.leaving), putFlow { f with want := [], qualified := false }, flowState aud k ivReceiving,
      disarm .ivJoin (flowKey aud k)]
  else if new = f.want then skip
  else all [report 1 (onlyOf f.want f.cur new), report 0 (onlyOf new f.cur f.want), putFlow { f with want := new, qualified := false },
    flowState aud k (if f.cur.isEmpty then ivJoining else ivChanging), timer]

/-- At a frame start of the flow's domain, `here`, with `later` the frame start two frames on (R172): a qualified target is delivered from here, and
old groups are left two frames later. -/
def flowFrameStart (f : IpFlow) (here later : Nat) : Act := look fun s =>
  if f.qualified ∧ !f.want.isEmpty then
    all [putFlow { f with cur := f.want, want := [], qualified := false, leaving := f.cur, leaveAt := later, since := here, gen := f.gen + 1 },
      flowState f.aud f.idx ivReceiving, disarm .ivJoin (flowKey f.aud f.idx), iff (!f.aud) (count .IV_CHANGES 1 f.idx),
      raise .IP_FLOW_CHANGE (if f.aud then 256 + f.idx else f.idx)]
  else if !f.leaving.isEmpty ∧ f.leaveAt ≤ s.house then
    all [report 1 (onlyOf f.leaving f.cur f.want), putFlow { f with leaving := [] }]
  else skip

-- Packets ----------------------------------------------------------------------------------------------------------

/-- The field that shows a leg, its events. -/
def legField (aud : Bool) (leg : Nat) : Fld :=
  if aud then (if leg = 0 then .IA_LEG_A_UP else .IA_LEG_B_UP) else (if leg = 0 then .IV_LEG_A_UP else .IV_LEG_B_UP)

/-- The event's instance: a position, or 256 and up for an audio flow; the leg is its parameter. -/
def flowInst (aud : Bool) (k : Nat) : Nat := if aud then 256 + k else k

/-- A packet on a leg restarts its 10 ms; a gap of more than 1 ms restarts its 100 ms (R169). -/
def legTouch (key leg : Nat) : Act := look fun s =>
  let i := 2 * key + leg
  all [iff (s.q .ivLegSince i == 0 || decide (s.q .ivLegLast i + psMs < (s.now : Int))) (put .ivLegSince (s.now + 1 : Nat) i),
    put .ivLegLast s.now i, arm .ivLeg (10 * psMs) i]

/-- The position has a leg that is up (R170). -/
def State.anyLeg (s : State) (k : Nat) : Bool := s.rd .IV_LEG_A_UP k == 1 || s.rd .IV_LEG_B_UP k == 1

/-- The 90 kHz media clock at house time `t` (R166, R174). -/
def mediaClock (t : Nat) : Nat := t * 90000 / psS % 2 ^ 32

/-- The value of the media clock at the start of frame `F`, or of its field 2 (R174), truncated. -/
def Format.mediaTs (f : Format) (F : Nat) (second : Bool) : Nat :=
  (if second then (2 * F + 1) * f.den * 90000 / (2 * f.num) else F * f.den * 90000 / f.num) % 2 ^ 32

/-- The domain frame start whose media clock value is the timestamp `ts` (R166), among those about now; DESIGN CHOICE: where no frame start has that
value, the moment that has (log 49). -/
def State.rtpStart (s : State) (d ts : Nat) : Nat :=
  match s.domFormat d with
  | none => s.house
  | some fm =>
    let G := fm.frameAt s.house
    match ((List.range 66).map fun k => G + 1 - k).find? fun F => fm.mediaTs F false == ts % 2 ^ 32 with
    | some F => fm.frameStart F
    | none =>
      let back := (mediaClock s.house + 2 ^ 32 - ts % 2 ^ 32) % 2 ^ 32
      if back < 2 ^ 31 then s.house - back * psS / 90000 else s.house + (2 ^ 32 - back) * psS / 90000

/-- Serial number `a` of `m` values lies before `b`. -/
def serialBefore (m a b : Nat) : Bool := let d := (b + m - a % m) % m; decide (0 < d) && decide (2 * d < m)

/-- The key of a packet's frame: its timestamp, or the frame count of ST 2022-6. -/
def rtpKey (p : IpPacket) (mode : Nat) : Nat := if mode = 2 then p.frc % 256 else p.ts % 2 ^ 32
def keyRange (mode : Nat) : Nat := if mode = 2 then 256 else 2 ^ 32

/-- The delay of play-out in line and transparent alignment (R166); ST 2022-6 has it in every alignment. -/
def State.playout (s : State) (k mode us : Nat) : Nat := if mode = 2 ∨ s.rd .VI_ALIGN k ≠ 0 then us * psUs else 0

/-- The frames of position `k` in hand. -/
def State.rtpOf (s : State) (k : Nat) : List RtpFrame := s.rtp.filter fun g => g.pos == k

/-- A frame in hand is replaced. -/
def putRtp (g : RtpFrame) : Act := look fun s => one (.rtp ((s.rtp.filter fun x => !(x.pos == g.pos && x.key == g.key)) ++ [g]))

/-- The words at line `line` of a frame have been read (R168): the reader has taken or passed the frame, or the line has played out. -/
def State.rtpRead (s : State) (g : RtpFrame) (line : Nat) : Bool :=
  if s.rd .VI_ALIGN g.pos = 0 then g.idx != 0 && decide (g.idx ≤ s.qn .viReadP g.pos)
  else match s.domFormat (s.rd .VI_DOMAIN g.pos) with
    | some fm => decide (g.start + (line - 1) * fm.linePeriod ≤ s.house)
    | none => false

/-- The lines of a frame from the packets written (R165, R168): blanking of 200h and 040h with the active words put in it, the words that no packet
brought from the same places of the line before, the companion's packets. An ST 2022-6 frame is as it came. -/
def rtpLines (mode fmt : Nat) (f : Format) (g : RtpFrame) : List (List Nat) :=
  let (w, h) := activeSize fmt
  let act := 2 * (f.spl - w)
  let rows := (List.range h).map (Config.activeLine fmt)
  ((List.range f.lines).foldl (fun (acc : List (List Nat) × List Nat) k =>
    let L := k + 1
    let base := if mode = 2 then acc.2 else if rows.contains L then (charcoalLine f.spl).take act ++ acc.2.drop act else charcoalLine f.spl
    let words := (g.pkts.filter fun p => p.line == L).foldl (fun ws p => overlay 1 p.off p.words ws) base
    let all_ := (g.anc.filter fun a => a.line == L && !audioDid (a.words.getD 3 0 % 256)).foldl (fun ws a => overlay a.step a.off a.words ws) words
    (acc.1 ++ [all_], words)) ([], charcoalLine f.spl)).1

/-- Packets of a frame that no leg has brought (R168). -/
def RtpFrame.missing (g : RtpFrame) : Nat :=
  let lo := g.first.getD ((g.pkts.head?.map RtpPkt.seq).getD 0)
  let hi := g.last.getD ((g.pkts.getLast?.map RtpPkt.seq).getD lo)
  ((hi + 2 ^ 16 - lo) % 2 ^ 16 + 1) - g.pkts.length

/-- Packets missing from both legs are counted (R168). -/
def lostBoth (aud : Bool) (k n : Nat) : Act :=
  iff (n != 0) (all [count (if aud then .IA_LOST_BOTH else .IV_LOST_BOTH) n k, raisePerSecond .IP_LOST_BOTH .ivLostAt (flowInst aud k) n])

/-- A frame whose words have been read leaves. -/
def rtpSettle (g : RtpFrame) : Act := look fun s =>
  all [lostBoth false g.pos g.missing, put .ivDone (g.key + 1 : Nat) g.pos, one (.rtp (s.rtp.filter fun x => !(x.pos == g.pos && x.key == g.key)))]

/-- The target of a flow that a packet belongs to. -/
def IpFlow.targetOf (f : IpFlow) (which : Nat) : List Nat := match which with | 0 => f.cur | 1 => f.want | _ => f.leaving

/-- The format of the raster that a position's target rebuilds; ST 2022-6 carries the stream's own. -/
def rtpFmt (t : List Nat) (p : IpPacket) : Nat := if t.headD 0 = 2 then (p.measured.map sdiFmt).getD 0 else t.getD 4 0

/-- VI_VPID's value in the companion's ST 352 packet (R170). -/
def ancVpid (anc : List AncIn) : Option Nat :=
  (anc.find? fun a => vpidDid (a.words.getD 3 0 % 256) (a.words.getD 4 0 % 256)).map fun a => packWords 8 ((a.words.drop 6).take 4)

/-- The frame store and the passing stream follow a frame that has ended, with what has been written since (R168). -/
def rtpUpdate (t : List Nat) (g : RtpFrame) : Act := look fun s =>
  match s.frames.find? fun v => v.input == g.pos && v.idx == g.idx with
  | none => skip
  | some v =>
    match format v.fmt with
    | none => skip
    | some f =>
      let ls := rtpLines (t.headD 0) v.fmt f g
      all [storeLines f.spl (s.storeAt g.pos v.slot) ls,
        iff (v.good && s.rd .VI_ALIGN g.pos != 0) (putPic (2 * g.pos + g.endF % 2) (s.passLines g.pos (s.rd .VI_RATE g.pos) ls))]

/-- A frame ends on a position (R165, R169, R170): it is judged as a received frame of the rebuilt raster. It is complete where its beginning has been
seen. DESIGN CHOICE: the frames before it that have not been read yet in line or transparent alignment are settled here (log 49). -/
def rtpFinish (t : List Nat) (p : IpPacket) (g : RtpFrame) : Act := look fun s =>
  let k := g.pos
  let mode := t.headD 0
  let fmt := rtpFmt t p
  let skew := s.qn .ivSkewMax k
  let m := p.measured.getD ⟨0, true, 0, 0, false, 0, 0, 0, false, none, false, true, 0, false, 0, 0, 0, 0, []⟩
  let audErrs := (g.anc.filter fun a => audioDid (a.words.getD 3 0 % 256)).length
  let made : SdiFrame := match format fmt with
    | none => { m with start := g.start }
    | some f => { m with start := g.start, lines := rtpLines mode fmt f g }
  let frame : SdiFrame := if mode = 2 then { made with unsupported := m.unsupported || decide (3 < m.rate) }
    else rebuilt { made with complete := g.first.isSome, vpid := if t.getD 3 0 = 1 then ancVpid g.anc else none, audErrs := audErrs, crcLines := 0, ancErrs := 0 } fmt
  all [set .IV_SKEW_US (min skew 16383) k, put .ivSkewMax 0 k,
    iff (decide (s.rd .IV_SKEW_ALARM_US k < skew)) (raisePerSecond .IP_MERGE_SKEW .ivSkewAt k skew),
    each ((s.rtpOf k).filter fun x => x.key != g.key && x.idx != 0 && s.rd .VI_ALIGN k != 0) rtpSettle,
    feeding k (all [inputTrs k, sdiFrame k frame]),
    look fun s => putRtp { g with idx := s.qn .viFrameLast k, endF := s.frameNow (s.rd .VI_DOMAIN k) }]

/-- A frame's last packet has come: frames before it whose own last packet no leg has brought end first. -/
def rtpEnd (t : List Nat) (g : RtpFrame) (p : IpPacket) : Act := look fun s =>
  let older := (s.rtpOf g.pos).filter fun x => x.idx == 0 && serialBefore (keyRange (t.headD 0)) x.key g.key
  all [each older (rtpFinish t { p with measured := none }), rtpFinish t p g]

/-- A copy of a packet of a position's flow is written, or is a duplicate, or is late (R168). -/
def videoCopy (t : List Nat) (since : Nat) (p : IpPacket) : Act := look fun s =>
  let k := p.flow
  let mode := t.headD 0
  let key := rtpKey p mode
  let late : Act := count .IV_LATE_PKTS 1 k
  let fmt := t.getD 4 0
  let line := if mode = 2 then p.row else Config.activeLine fmt p.row
  let off := if mode = 2 then p.off else (match format fmt with | some f => 2 * (f.spl - (activeSize fmt).1) | none => 0) + p.off
  let done := s.q .ivDone k != 0 && !serialBefore (keyRange mode) (s.qn .ivDone k - 1) key
  let delay := s.playout k mode (t.getD 6 0)
  let found := (s.rtpOf k).find? fun x => x.key == key
  let before := ((s.rtpOf k).filter fun x => serialBefore (keyRange mode) x.key key).getLast?
  let prev := before.bind fun x => match x.last with | some q => some q | none => x.pkts.getLast?.map RtpPkt.seq
  let g0 := found.getD ⟨k, key, if mode = 2 then s.house + delay else s.rtpStart (s.rd .VI_DOMAIN k) p.ts + delay, 0, 0, prev.map fun q => (q + 1) % 2 ^ 16, none, [], [], []⟩
  let wrong := if p.target = 0 then decide (g0.start < since) else decide (since ≤ g0.start)
  if wrong ∧ since ≠ 0 then skip
  else if done ∨ s.rtpRead g0 line then late
  else if p.companion then
    if g0.ancSeqs.contains p.seq then skip
    else
      let g := { g0 with ancSeqs := p.seq :: g0.ancSeqs, anc := g0.anc ++ p.anc }
      all [putRtp g, iff (g.idx != 0) (rtpUpdate t g)]
  else match g0.pkts.find? fun x => x.seq == p.seq % 2 ^ 16 with
    | some x => put .ivSkewMax (max (s.qn .ivSkewMax k) ((s.now - x.at_) / psUs) : Nat) k
    | none =>
      let g := { g0 with
        start := if mode = 2 ∧ p.row = 1 ∧ p.off = 0 then s.house + delay else g0.start
        pkts := g0.pkts ++ [⟨p.seq % 2 ^ 16, line, off, p.words, p.leg, s.now⟩]
        last := if p.marker then some (p.seq % 2 ^ 16) else g0.last }
      all [putRtp g, count .IV_PKTS 1 k, iff (p.leg == 1) (count .IV_ALT_PKTS 1 k),
        if p.marker then rtpEnd t g p else iff (g.idx != 0) (rtpUpdate t g)]

-- Audio packets ----------------------------------------------------------------------------------------------------

/-- The sample a received audio packet opens with has already entered the matrix (R178): its RTP timestamp plus IA_PLAYOUT has passed. -/
def State.audRead (s : State) (play ts : Nat) : Bool :=
  decide ((2 ^ 32 + s.sampleAt s.house % 2 ^ 32 - (ts + play) % 2 ^ 32) % 2 ^ 32 < 2 ^ 31)

/-- The sample index near now whose value modulo 2^32 is `v`. -/
def State.indexNear (s : State) (v : Nat) : Nat :=
  let i := s.sampleAt s.house
  let d := (v + 2 ^ 32 - i % 2 ^ 32) % 2 ^ 32
  if d < 2 ^ 31 then i + d else i - (2 ^ 32 - d)

/-- The samples of an audio packet are noted for the sources that the target feeds, each for the sample period at which it enters (R178). -/
def audWords (t : List Nat) (gen : Nat) (p : IpPacket) : Act := look fun s =>
  let i0 := s.indexNear ((p.ts + t.getD 7 0) % 2 ^ 32)
  each p.smps.zipIdx fun (row, j) => each row.zipIdx fun ((v, cs), c) => if t.getD 5 0 ≤ c then skip
    else srcNote gen (t.getD 6 0 + c) (i0 + j) (toSigned (ofSigned v 24) 24) (if t.headD 0 = 2 then some (cs % 16) else none) false

/-- Audio packets whose samples have been due leave, and those missing among them are counted. -/
def audSettle (play k j : Nat) : Act := look fun s =>
  match (s.rtpOf (1000 + k)).find? fun x => x.key == j with
  | none => skip
  | some g =>
    let out := g.pkts.filter fun x => s.audRead play x.line
    match out.head? with
    | none => skip
    | some x =>
      let top := out.foldl (fun m y => if serialBefore (2 ^ 16) m y.seq then y.seq else m) x.seq
      let next := if s.q .ivSeqNext k j = 0 then out.foldl (fun m y => if serialBefore (2 ^ 16) y.seq m then y.seq else m) x.seq else s.qn .ivSeqNext k j - 1
      all [lostBoth true k (((top + 2 ^ 16 - next) % 2 ^ 16 + 1) - out.length), put .ivSeqNext ((top + 1) % 2 ^ 16 + 1 : Nat) k j,
        putRtp { g with pkts := g.pkts.filter fun y => !s.audRead play y.line }]

/-- A copy of an audio packet (R168, R178). -/
def audioCopy (t : List Nat) (gen : Nat) (p : IpPacket) : Act := look fun s =>
  let k := p.flow
  let g := ((s.rtpOf (1000 + k)).find? fun x => x.key == gen % 3).getD ⟨1000 + k, gen % 3, 0, 0, 0, none, none, [], [], []⟩
  all [
    if s.audRead (t.getD 7 0) p.ts then count .IA_LATE_PKTS 1 k
    else if g.pkts.any fun x => x.seq == p.seq % 2 ^ 16 then skip
    else all [putRtp { g with pkts := g.pkts ++ [⟨p.seq % 2 ^ 16, p.ts % 2 ^ 32, 0, [], p.leg, s.now⟩] }, count .IA_PKTS 1 k, audWords t gen p],
    audSettle (t.getD 7 0) k (gen % 3),
    match p.win with
    | some w =>
      let sync := if w.natAbs ≤ 100 then 1 else if w.natAbs ≤ 200 then s.rd .IA_SYNC k else 0
      all [set .IA_SYNC sync k, set .IA_ASRC (1 - sync) k]
    | none => skip]

/-- A media packet arrives (R168 to R170, R172). A waiting audio target's samples are held for the change-over; of a waiting video target only the
frame ends count. -/
def packetTake (p : IpPacket) : Act := look fun s =>
  let f := s.flow p.aud p.flow
  let t := f.targetOf p.target
  if t.isEmpty then skip
  else all [legTouch (flowKey p.aud p.flow) p.leg,
    if p.aud then (if p.target = 1 then audWords t (f.gen + 1) p else audioCopy t (if p.target = 0 then f.gen else f.gen + 2) p)
    else if p.target = 1 then iff (f.cur.isEmpty && p.marker) (inputTrs p.flow)
    else videoCopy t f.since p]

/-- VI_RATE and VI_RATE_FRAC of what a position's target rebuilds (R165). -/
def State.rtpRate (s : State) (k : Nat) : Nat × Nat :=
  let f := s.flow false k
  let t := if f.cur.isEmpty then f.want else f.cur
  if t.headD 0 = 1 then let r := rebuilt ⟨0, true, 0, 0, false, 0, 0, 0, false, none, false, true, 0, false, 0, 0, 0, 0, []⟩ (t.getD 4 0); (r.rate, r.frac)
  else (s.rd .VI_RATE k, s.rd .VI_RATE_FRAC k)

/-- The input states of a position follow its legs (R170). -/
def legsShow (aud : Bool) (k : Nat) : Act := look fun s =>
  if aud ∨ s.rd .VI_PORT_MODE k ≠ 2 then skip
  else if s.anyLeg k then inputRateLock k (s.rtpRate k).1 (s.rtpRate k).2 else feeding k (inputLockLoss k)

/-- Every flow of domain `d` at its frame start: positions in VI_DOMAIN, audio flows in D0. The frames that the reader has taken leave. -/
def flowsFrameStart (d : Nat) : Act := look fun s =>
  match s.domFormat d with
  | none => skip
  | some fm =>
    let F := fm.frameAt s.house
    all [each (s.rtp.filter fun g => decide (g.pos < 1000) && s.rd .VI_DOMAIN g.pos == d && s.rd .VI_ALIGN g.pos == 0 && s.rtpRead g 1) rtpSettle,
      each (s.flows.filter fun f => if f.aud then d == 0 else s.rd .VI_DOMAIN f.idx == d) fun f => flowFrameStart f (fm.frameStart F) (fm.frameStart (F + 2))]

/-- The arrival of the frame in progress on a position, for the reader of R76. -/
def State.rtpBegun (s : State) (k : Nat) : Option Nat := ((s.rtpOf k).find? fun g => g.idx == 0).map RtpFrame.start

-- Sending ----------------------------------------------------------------------------------------------------------

/-- The module sends its IP flows: not as a standby partner, not fenced, not without a manager beat for 3 ms (R361, R371, R372). -/
def State.ipSends (s : State) : Bool :=
  s.rd .RD_ROLE != 2 || (s.rd .RD_STATE_PAIR == 5 && s.q .mgrLost == 0)

/-- Samples in a packet of an audio send flow (R161, R181). -/
def State.oaSamples (s : State) (k : Nat) : Nat := if s.rd .OA_PTIME k = 0 then s.rate / 1000 else s.rate / 8000

/-- The SSRC of a send flow (R176). -/
def State.ssrc (s : State) (kind k : Nat) : Nat := s.node % 256 + k % 512 * 2 ^ 8 + (kind + 1) * 2 ^ 17

/-- What a send flow's packets carry on leg `l` beside their payload (R174 to R177). -/
def State.mediaHead (s : State) (kind k l seq ts : Nat) : Media :=
  if kind = 2 then ⟨2, k, l, s.rd (if l = 0 then .OA_MAC_A else .OA_MAC_B) k, s.rd (if l = 0 then .OA_GRP_A else .OA_GRP_B) k,
    s.rd (if l = 0 then .OA_UDP_A else .OA_UDP_B) k, s.rd .OA_VLAN k, s.rd .OA_PCP k, s.rd .OA_DSCP k, s.rd .OA_TTL k, s.rd .OA_PT k, s.ssrc 2 k,
    seq % 2 ^ 16, ts, false, 0, 0, 0, [], [], []⟩
  else ⟨kind, k, l, s.rd (if l = 0 then .OV_MAC_A else .OV_MAC_B) k, s.rd (if l = 0 then .OV_GRP_A else .OV_GRP_B) k,
    if kind = 1 then s.rd .OV_ANC_UDP k else s.rd (if l = 0 then .OV_UDP_A else .OV_UDP_B) k, s.rd .OV_VLAN k, s.rd .OV_PCP k, s.rd .OV_DSCP k,
    s.rd .OV_TTL k, s.rd (if kind = 1 then .OV_PT_ANC else .OV_PT_VID) k, s.ssrc kind k, seq % 2 ^ 16, ts, false, 0, 0, 0, [], [], []⟩

/-- A packet leaves on its legs, with the payload that `body` gives it. -/
def mediaSend (dual : Bool) (kind k seq ts : Nat) (body : Media → Media) : Act := look fun s =>
  each (if dual then [0, 1] else [0]) fun l => emit (.packet (body (s.mediaHead kind k l seq ts)))

/-- The words of line `L` of picture `F` at position `k` (R174). -/
def State.pictureLine (s : State) (f : Format) (k F L : Nat) : List Nat :=
  let g := (s.segAt k (F * f.lines + (L - 1))).getD ⟨k, 0, .charcoal, false⟩
  let ws := s.feedLine f F L (s.remoteFrame f k F) g.feed
  if g.pass then ws else stripLine (decide (f.lines < 700)) (removed false) ws

/-- Packet `j` of a frame (R167): the row of its words, the first pgroup of the row and how many, packets in a line; each line's whole pgroups are
divided as evenly as they go (log 49). A pgroup is 4 words. -/
def packetPlace (fmt : Nat) (two : Bool) (j : Nat) : Nat × Nat × Nat :=
  let (w, h) := activeSize fmt
  let per := ceilDiv (w * 5 / 2) 1200
  let r := j / per
  let i := j % per
  (if !two then r else if r < h / 2 then 2 * r else 2 * (r - h / 2) + 1, i * (w / 2) / per, (i + 1) * (w / 2) / per - i * (w / 2) / per)

/-- The next -20 packet of a position (R167, R174, R177): a frame's packets in order, the schedule type as it was at the frame's first. -/
def videoPacket (k : Nat) : Act := look fun s =>
  let d := s.rd .VO_DOMAIN (s.voBase k)
  match s.domFormat d with
  | none => skip
  | some f =>
    let fmt := s.rd .RD_FORMAT d
    let F := f.frameAt s.house
    let two := f.sw2 != 0
    let (w, h) := activeSize fmt
    let j := if s.qn .ovFrame k = F + 1 then s.qn .ovPkt k else 0
    let total := h * ceilDiv (w * 5 / 2) 1200
    let shape := if j = 0 then s.rd .OV_SHAPE k else s.qn .ovShape k
    let (row, at_, n) := packetPlace fmt two j
    let second := two && decide (total ≤ 2 * j)
    let L := Config.activeLine fmt row
    let ts := f.mediaTs F second
    let words := ((s.pictureLine f k F L).drop (2 * (f.spl - w) + 4 * at_)).take (4 * n)
    if total ≤ j then skip
    else all [
      mediaSend (s.rd .OV_DUAL k == 1) 0 k (s.qn .ovSeq k 0) ts fun m =>
        { m with marker := j + 1 == total || (two && 2 * (j + 1) == total), shape := shape, line := L, off := 4 * at_, words := words },
      addQ .ovSeq 1 k 0, put .ovFrame (F + 1 : Nat) k, put .ovPkt (j + 1 : Nat) k, put .ovShape shape k, count .OV_PKTS 1 k, set .OV_LAST_TS ts k]

/-- The -40 packet of the field that has ended last, once (R175): the ancillary packets of its lines, and the ST 352 packet of R153 on the lines that
have one. Of a frame of two fields the first has the first half of the lines, a middle one among them (log 49). -/
def ancPacket (k : Nat) : Act := look fun s =>
  let d := s.rd .VO_DOMAIN (s.voBase k)
  match s.domFormat d with
  | none => skip
  | some f =>
    let G := f.frameAt s.house
    let two := f.sw2 != 0
    let half := two && decide (f.posTime G ((f.lines + 1) / 2 + 1) 0 ≤ s.house)
    let F := if half then G else G - 1
    let second := two && !half
    let lines := (List.range f.lines).filter fun x => !two || (decide ((f.lines + 1) / 2 ≤ x) == second)
    let own := Config.vpidLines (lowestStd (s.fmtOut k)) (s.fmtOut k)
    let anc := lines.flatMap fun x =>
      let pass := ((s.segAt k (F * f.lines + x)).map Seg.pass).getD false
      ((lineAnc (decide (f.lines < 700)) (s.pictureLine f k F (x + 1))) ++ (if own.contains (x + 1) && !pass then [0x41 :: 1 :: 4 :: unpackWords 8 4 (s.vpidOut k)] else [])).map fun ws => (x + 1, ws)
    if s.qn .ovAnc k = 2 * F + b2n second + 1 then skip
    else all [mediaSend (s.rd .OV_DUAL k == 1) 1 k (s.qn .ovSeq k 1) (f.mediaTs F second) (fun m => { m with marker := true, anc := anc }),
      addQ .ovSeq 1 k 1, put .ovAnc (2 * F + b2n second + 1 : Nat) k]

/-- The next packet of an audio send flow (R179): it leaves (samples per packet + 3) samples after its first sample entered its destination, and
its timestamp is that sample's index. -/
def audioPacket (k : Nat) : Act := look fun s =>
  let n := s.oaSamples k
  let now := s.sampleAt s.house
  let i0 := if s.q .oaNext k = 0 then now - (n + 3) else s.qn .oaNext k - 1
  if now < i0 + n + 3 then skip
  else
    let row (i : Nat) : List (Int × Nat) := (List.range (s.rd .OA_CHANNELS k)).map fun c =>
      let (v, cs) := s.embAt (s.rd .OA_FIRST_AD k + c) i
      (if s.rd .OA_L16 k = 1 then v / 256 * 256 else v, if s.rd .OA_MODE k = 2 then cs else 0)
    all [mediaSend (s.rd .OA_DUAL k == 1) 2 k (s.qn .oaSeq k) (i0 % 2 ^ 32) (fun m => { m with smps := (List.range n).map fun j => row (i0 + j) }),
      addQ .oaSeq 1 k, put .oaNext (i0 + n + 1 : Nat) k, count .OA_PKTS 1 k]

/-- A send flow's next packet leaves on its legs (R174, R175, R179). -/
def sendPacket (aud anc : Bool) (k : Nat) : Act := look fun s =>
  if !s.ipSends then skip
  else match aud, anc with
    | false, false => if s.rd .OV_MODE k = 0 ∨ s.rd .VO_STATE k ≠ 2 then skip else videoPacket k
    | false, true => if s.rd .OV_MODE k = 0 ∨ s.rd .VO_STATE k ≠ 2 ∨ s.rd .OV_ANC k = 0 then skip else ancPacket k
    | true, _ => if s.rd .OA_MODE k = 0 then put .oaNext 0 k else audioPacket k

-- Commands ---------------------------------------------------------------------------------------------------------

/-- IP_PACKET_RECEIVE (R168). -/
def execIpPacketReceive (t : Nat) (p : IpPacket) (s : State) : Host.Outcome State Fault Refusal := run (all [at_ t, packetTake p]) s

/-- IP_LEG_DOWN (R169): 10 ms without a packet. -/
def execIpLegDown (t : Nat) (aud : Bool) (flow leg : Nat) (s : State) : Host.Outcome State Fault Refusal :=
  run (all [at_ t, look fun s =>
    let i := 2 * flowKey aud flow + leg
    if s.due .ivLeg i then
      all [disarm .ivLeg i, put .ivLegSince 0 i, iff (s.rd (legField aud leg) flow == 1)
        (all [set (legField aud leg) 0 flow, raise .IP_LEG_DOWN (flowInst aud flow) leg, legsShow aud flow])]
    else skip]) s

/-- IP_LEG_UP (R169): 100 ms of packets with no gap of more than 1 ms. -/
def execIpLegUp (t : Nat) (aud : Bool) (flow leg : Nat) (s : State) : Host.Outcome State Fault Refusal :=
  run (all [at_ t, look fun s =>
    let i := 2 * flowKey aud flow + leg
    let since := s.qn .ivLegSince i
    if since ≠ 0 ∧ since - 1 + 100 * psMs ≤ s.now ∧ (s.now : Int) ≤ s.q .ivLegLast i + psMs ∧ s.rd (legField aud leg) flow = 0 then
      all [set (legField aud leg) 1 flow, raise .IP_LEG_UP (flowInst aud flow) leg, legsShow aud flow]
    else skip]) s

/-- IP_FLOW_QUALIFY (R172): two consecutive complete frames of the waiting target have arrived. -/
def execIpFlowQualify (t : Nat) (aud : Bool) (flow : Nat) (s : State) : Host.Outcome State Fault Refusal :=
  run (all [at_ t, look fun s =>
    let f := s.flow aud flow
    if f.want.isEmpty then skip else all [putFlow { f with qualified := true }, disarm .ivJoin (flowKey aud flow)]]) s

/-- IP_JOIN_TIMEOUT (R173): raised once. -/
def execIpJoinTimeout (t : Nat) (aud : Bool) (flow : Nat) (s : State) : Host.Outcome State Fault Refusal :=
  run (all [at_ t, look fun s => iff (s.due .ivJoin (flowKey aud flow))
    (all [disarm .ivJoin (flowKey aud flow), raise .IP_JOIN_TIMEOUT (flowInst aud flow)])]) s

/-- IP_SEND_PACKET (R174 to R179): of an audio flow (`aud`), or of a video flow its -40 companion's packet (`anc`) or the next -20 one. -/
def execIpSendPacket (t : Nat) (aud anc : Bool) (index : Nat) (s : State) : Host.Outcome State Fault Refusal :=
  run (all [at_ t, sendPacket aud anc index]) s

end Sys2Proof.Machine
end

