-- ==== Sys2Proof/Machine/Sessions.lean ====
section
/-! DEFINITION. The end of a session and the release of the update lock (16_trarad_control.md, R375; 20_field_update.md, R458): what
ends when a port leaves UP, a timer runs out or a controller closes. -/
set_option Elab.async false
namespace Sys2Proof.Machine

/-- The update lock is released: no offer is held (R458). -/
def updRelease : Act :=
  all [one (.upd none), set .UP_STATE 0, set .UP_SOURCE 0, set .UP_HOLDER 0, set .UP_CONTENT 0, set .UP_RELAY_TARGETS 0,
    put .upVerified 0, put .upConflict 0,
    disarm .updLock, disarm .updHealth, disarm .updWindow, each (List.range 64) fun n => disarm .relay n]

/-- The session (64: the relay) holds the update lock, and ACTIVATE has not been accepted (R458). -/
def State.holdsOpen (s : State) (n : Nat) : Bool :=
  match s.upd with
  | some u => u.holder == n && decide (s.rd .UP_STATE < 3) && s.q .upVerified == 0
  | none => false

/-- The conditions of the health check (R465). -/
def State.healthBits (s : State) : Nat :=
  b2n (s.rd .SU_STATE == 3) + b2n (s.standAlone || s.rd .ORD_STATE == 1) * 2 + b2n (s.domReady 0) * 4

/-- TC_SESSIONS counts the open sessions. -/
def sessionsShow : Act := look fun s => set .TC_SESSIONS ((s.sessions.filter fun x => s.rd .TS_STATE x.slot == 2).length)

/-- A session closes (R375): its subscriptions and queue go; before ACTIVATE its update lock goes too (R458). -/
def closeSession (n : Nat) : Act := look fun s =>
  if (s.session n).isNone then skip
  else all [one (.sessions (s.sessions.filter fun x => x.slot != n)), set .TS_STATE 0 n, set .TS_EVQ_FILL 0 n,
    disarm .sessConfirm n, disarm .sessIdle n, disarm .msgPart n, disarm .eventResend n,
    iff (s.holdsOpen n) updRelease,
    sessionsShow, raise .SESSION_CLOSED n]

/-- Every session of a port closes (R375); `port` is 0 for C0, 1 for C1, 2 for SVC. -/
def closePort (port : Nat) : Act := look fun s => each ((s.sessions.filter fun x => x.port == port).map Session.slot) closeSession

/-- An authenticated session or an update session is open on a port (R203): a session that is OPEN. -/
def State.sessionOn (s : State) (port : Nat) : Bool := s.sessions.any fun x => x.port == port && s.rd .TS_STATE x.slot == 2

end Sys2Proof.Machine
end

