-- ==== Sys2Proof/Machine/Mac.lean ====
section
/-! DEFINITION. Ethernet ports (08_ethernet_mac.md, R183 to R207): states, receive filters and rings, transmit classes with
preemption or gates, native sleep and low-power idle. Ports are 0 to 255 for the edge ports, 256 C0, 257 C1, 258 SVC. -/
set_option Elab.async false
namespace Sys2Proof.Machine

/-- Port states (R206). -/
abbrev mcOff : Nat := 0
abbrev mcDown : Nat := 1
abbrev mcUp : Nat := 2
abbrev mcSleep : Nat := 3
abbrev mcWaking : Nat := 4

/-- The duration of one octet at a port's rate, ps. -/
def State.octetPs (s : State) (p : Nat) : Nat := match s.rd .MC_MODE p with | 1 => 800 | 2 => 320 | _ => 8000

/-- The preemption of a port has been verified (R190). -/
def State.preempts (s : State) (p : Nat) : Bool := s.rd .MC_URGENT_MODE p == 1 && s.rd .MC_VERIFY_STATE p == 2

/-- Verification starts (R190). -/
def verifyStart (p : Nat) : Act := look fun s =>
  if s.rd .MC_URGENT_MODE p = 1 then
    all [set .MC_VERIFY_STATE 1 p, put .mcVerifyN 0 p, arm .mcVerify (s.rd .MC_VERIFY_MS p * psMs) p]
  else skip

/-- What a port sends while it is DOWN (R187): modes 1 and 2 are 10GBASE-R and 25GBASE-R. -/
def downSends (p : Nat) : Act := look fun s => emit (.downSends p (s.rd .MC_MODE p == 1 || s.rd .MC_MODE p == 2))

/-- A port changes state (R187): sessions of a port that leaves UP close (R375), and PTP follows (R315). -/
def portMoves (p new : Nat) : Act := look fun s =>
  let old := s.rd .MC_STATE p
  if old = new then skip
  else all [moveState .MC_STATE .MAC_LINK_CHANGE p new,
    iff (old == mcUp && decide (256 ≤ p)) (closePort (p - 256)),
    iff (old == mcUp) (all [disarm .mcVerify p, set .MC_VERIFY_STATE 0 p, set .MC_LPI_TX 0 p]),
    iff (new == mcUp) (all [iff (old == mcWaking) (all [count .MC_WAKES 1 p, raise .MAC_WAKE p]), verifyStart p]),
    iff (new == mcDown && old != mcOff) (all [count .MC_LINK_DOWNS 1 p, set .MC_LPI_RX 0 p, put .mcDraining 0 p, set .MC_SLEEP 0 p,
      disarm .mcDrain p, one (.txq (s.txq.filter fun f => f.port != p))]),
    iff (new == mcDown) (downSends p),
    ptpPort p]

/-- A port goes DOWN (R187): lock lost (0), a fault sequence (1), or another speed (2). -/
def portDown (p why : Nat) : Act := look fun s =>
  let st := s.rd .MC_STATE p
  if st = mcUp ∨ st = mcWaking then all [set .MC_DOWN_WHY why p, portMoves p mcDown]
  else iff (st == mcDown) (set .MC_DOWN_WHY why p)

/-- A port goes UP (R184, R187): a media or 10GBASE-R port needs its lane's block lock and a transmitter without fault. -/
def portUp (p : Nat) (speedOk : Bool) : Act := look fun s =>
  if s.rd .MC_STATE p ≠ mcDown then skip
  else if s.rd .MC_MODE p = 4 ∧ !speedOk then set .MC_DOWN_WHY 2 p
  else if (s.rd .MC_MODE p = 1 ∨ s.rd .MC_MODE p = 2) ∧ s.rd .LN_RX_STATE p ≠ 4 then skip
  else if 2 ≤ s.rd .LN_TX_STATE p then skip
  else portMoves p mcUp

-- Receive ----------------------------------------------------------------------------------------------------------

/-- An enabled filter matches a frame (R196). -/
def State.matches (s : State) (p f : Nat) (x : EthFrame) : Bool :=
  let (tagged, vid, pcp) := match x.tag with | some (v, q) => (true, v, q) | none => (false, 0, 0)
  s.rd .MF_EN p f == 1 &&
    (match s.rd .MF_TAG p f with | 0 => true | 1 => !tagged | _ => tagged) &&
    (s.rd .MF_VID_ANY p f == 1 || (tagged && s.rd .MF_VID p f == vid)) &&
    bit (s.rd .MF_PCP_MASK p f) pcp &&
    (s.rd .MF_ETYPE_ANY p f == 1 || s.rd .MF_ETYPE p f == x.etype)

/-- Where a frame goes (R196): its filter (64 for none) and queue, or none if it is discarded. -/
def State.steer (s : State) (p : Nat) (x : EthFrame) : Option (Nat × Nat) :=
  let dest := match (List.range 64).find? fun f => s.matches p f x with
    | some f => if s.rd .MF_DROP p f = 1 then none else some (f, s.rd .MF_QUEUE p f)
    | none => if s.rd .MC_DEFAULT_DROP p = 1 then none else some (64, s.rd .MC_DEFAULT_Q p)
  match dest with
  | some (f, q) => if s.rd .MQ_RING_LEN p q = 0 then none else some (f, q)
  | none => none

/-- A queue of a port as one index. -/
def queueIdx (p q : Nat) : Nat := 16 * p + q

/-- Bytes of a frame in their buffers of the pool (R200). Which of the pool's buffers a descriptor owns the spec leaves open
(log 4). -/
def storeBuffers : Nat → List Nat → Act
  | 0, _ => skip
  | n + 1, bs => (withFree fun v => storeBytes (0x8784000000 + v % 32768 * 2048) (bs.take 2048)).andThen (storeBuffers n (bs.drop 2048))

/-- A frame is written to its queue's ring (R201, R202), after firmware has handed descriptors back. -/
def toRing (p q f : Nat) (x : EthFrame) : Act := look fun s =>
  let fill := s.rd .MQ_FILL p q - min x.freed (s.rd .MQ_FILL p q)
  let free := s.rd .MQ_RING_LEN p q - fill
  let need := max 1 (ceilDiv x.len 2048)
  let got := min need free
  let trunc := decide (free < need)
  let stamp := (s.stamp p x.fine true).toNat
  if free = 0 then
    all [set .MQ_FILL fill p q, count .MQ_NOBUF 1 p q, raisePerSecond .MAC_RX_NOBUF .mqNobufAt (queueIdx p q) (s.rd .MQ_NOBUF p q + 1)]
  else
    all [set .MQ_FILL (fill + got) p q, set .MQ_FILL_PEAK (max (s.rd .MQ_FILL_PEAK p q) (fill + got)) p q,
      storeBuffers got x.data,
      each (List.range got) fun d =>
        let last := d + 1 == got
        emit (.desc p q (min 2048 (x.len - 2048 * d)) (d == 0) (last && !trunc) trunc (last && x.fcsOk) f
          (layout96 stamp / 2 ^ 16 % 2 ^ 64) (s.atPort p)),
      count .MQ_FRAMES 1 p q,
      iff trunc (all [count .MQ_TRUNC 1 p q, raisePerSecond .MAC_RX_TRUNC .mqTruncAt (queueIdx p q) (s.rd .MQ_TRUNC p q + 1)])]

/-- The wake frame of R204: to the port's address (R185) or to all. -/
def State.isWake (s : State) (p : Nat) (x : EthFrame) : Bool :=
  (x.dst == s.rd .MC_ADDR_LO p + s.rd .MC_ADDR_HI p * 2 ^ 32 || x.dst == 0xFFFFFFFFFFFF) && x.etype == s.rd .MC_WAKE_ETYPE p && x.key == s.rd .MC_WAKE_KEY p && x.fcsOk

/-- A port begins to wake (R187, R204). -/
def wakePort (p : Nat) : Act := look fun s =>
  iff (s.rd .MC_STATE p == mcSleep) (all [set .MC_SLEEP 0 p, portMoves p mcWaking, arm .mcWake (100 * psUs) p])

/-- A frame is received (R186, R190, R196, R201 to R204). -/
def frameTake (p : Nat) (x : EthFrame) : Act := look fun s =>
  match s.rd .MC_STATE p with
  | 3 => iff (s.isWake p x) (wakePort p)
  | 4 => count .MC_RX_WAKE_DROPS 1 p
  | 2 =>
    if s.rd .MC_URGENT_MODE p = 1 ∧ x.broken then count .MC_RX_REASM_ERRS 1 p
    else if s.rd .MC_URGENT_MODE p = 1 ∧ x.verify = 1 then emit (.verify p true)
    else if s.rd .MC_URGENT_MODE p = 1 ∧ x.verify = 2 then
      iff (s.rd .MC_VERIFY_STATE p == 1) (all [disarm .mcVerify p, set .MC_VERIFY_STATE 2 p])
    else if x.len < 64 ∨ s.rd .MC_MAX_FRAME p < x.len then count .MC_RX_LEN_ERRS 1 p
    else if x.media then (if x.fcsOk then count .MC_RX_FRAMES 1 p else count .MC_RX_FCS_ERRS 1 p)
    else match s.steer p x with
      | none => if x.fcsOk then all [count .MC_RX_FRAMES 1 p, count .MC_RX_FILTER_DROPS 1 p] else count .MC_RX_FCS_ERRS 1 p
      | some (f, q) =>
        -- a frame with a bad FCS is dropped, but for one that its ring truncates (R186, R202)
        let fill := s.rd .MQ_FILL p q - min x.freed (s.rd .MQ_FILL p q)
        let short := decide (s.rd .MQ_RING_LEN p q < fill + max 1 (ceilDiv x.len 2048))
        if !x.fcsOk && !short then all [set .MQ_FILL fill p q, count .MC_RX_FCS_ERRS 1 p]
        else all [if x.fcsOk then count .MC_RX_FRAMES 1 p else count .MC_RX_FCS_ERRS 1 p, toRing p q f x]
  | _ => skip

/-- A frame arrives; a general query in it tells the version of the querier (R161). -/
def frameIn (p : Nat) (x : EthFrame) : Act := look fun s =>
  all [match x.querier with
    | some v => iff (s.rd .MC_STATE p == 2 && x.fcsOk) (put .mcQuerier v p)
    | none => skip,
    frameTake p x]

-- Transmit ---------------------------------------------------------------------------------------------------------

/-- The gate list in use at a port: intervals in ps and open classes, in order (R192). -/
def State.gateList (s : State) (p : Nat) : List (Nat × Nat) :=
  (List.range (s.qn .glCount p)).map fun e => (s.qn .glInt p e, s.qn .glGates p e)

/-- For how long class `c` is open from `x` ps after the cycle start on, within `T` ps of one cycle, from entry boundary `at_` on:
0 if closed; the last entry's gates stay in force to the cycle's end. -/
def openFor (c T : Nat) : List (Nat × Nat) → Nat → Nat → Nat → Nat
  | [], _, _, acc => acc
  | (d, g) :: r, at_, x, acc =>
    let stop := if r.isEmpty then max T (at_ + d) else at_ + d
    if stop ≤ x then openFor c T r stop x acc
    else if bit g c then openFor c T r stop x (acc + (stop - max at_ x))
    else if r.isEmpty ∨ 0 < acc then acc else 0

/-- For how long class `c` stays open at a port from now on (R193); without a limit outside mode 2 or before the first cycle. An
opening that lasts to the cycle's end goes on into the next cycle's first entries. -/
def State.openTime (s : State) (p c : Nat) : Option Nat :=
  if s.rd .MC_URGENT_MODE p ≠ 2 ∨ s.q .glStart p = 0 then none
  else
    let l := s.gateList p
    let T := s.qn .glCycle p
    let x := s.now + 1 - s.qn .glStart p
    let x := if T = 0 then 0 else x % T
    if l.all fun e => bit e.2 c then none
    else
      let a := openFor c T l 0 x 0
      some (if x + a = T then a + openFor c T l 0 0 0 else a)

/-- The longest open interval of a class in the list (R193). -/
def State.longestOpen (s : State) (p c : Nat) : Option Nat :=
  if s.rd .MC_URGENT_MODE p ≠ 2 ∨ s.q .glStart p = 0 then none
  else
    let l := s.gateList p
    if l.all fun e => bit e.2 c then none
    else
      let T := s.qn .glCycle p
      let starts := (List.range l.length).map fun k => ((l.take k).map Prod.fst).sum
      some (starts.foldl (fun m x => let a := openFor c T l 0 x 0; max m (if x + a = T then a + openFor c T l 0 0 0 else a)) 0)

/-- A gate of the list in use opens within `w` ps from now on (R205). -/
def State.gateOpens (s : State) (p w : Nat) : Bool :=
  if s.rd .MC_URGENT_MODE p ≠ 2 ∨ s.q .glStart p = 0 then false
  else
    let l := s.gateList p
    let T := max 1 (s.qn .glCycle p)
    let x := (s.now + 1 - s.qn .glStart p) % T
    (List.range l.length).any fun k =>
      let was := ((if k = 0 then l.getLast? else l[k - 1]?).map Prod.snd).getD 0
      let new := (l[k]?.map Prod.snd).getD 0
      (List.range 8).any (fun c => bit new c && !bit was c) && decide ((((l.take k).map Prod.fst).sum + T - x) % T ≤ w)

/-- The time a frame holds the transmitter, inter-frame gap and preamble included, ps. -/
def State.airTime (s : State) (p octets : Nat) : Nat := (octets + 20) * s.octetPs p

/-- The first waiting frame of class `c` at a port. -/
def headOf (q : List TxFrame) (p c : Nat) : Option TxFrame := q.find? fun f => f.port == p && f.cls == c

/-- The queue without the first frame of class `c` at a port. -/
def popTx (p c : Nat) : List TxFrame → List TxFrame
  | [] => []
  | f :: r => if f.port = p ∧ f.cls = c then r else f :: popTx p c r

/-- A frame whose class's gate does not let it through now is counted once, or discarded when no open interval is long enough
(R193). -/
def gateWait (p c : Nat) : Act := look fun s =>
  match headOf s.txq p c with
  | none => skip
  | some f =>
    let air := s.airTime p f.octets
    match s.longestOpen p c with
    | some w =>
      if w < air then
        all [one (.txq (popTx p c s.txq)), count .MC_TX_GATE_DROPS 1 p, raisePerSecond .MAC_GATE_STARVED .mcStarvedAt p c]
      else match s.openTime p c with
        | some o => iff (decide (o < air) && !f.waited)
            (all [count .MC_TX_GATE_WAITS 1 p, one (.txq (s.txq.map fun g => if g = f then { g with waited := true } else g))])
        | none => skip
    | none => skip

/-- The class that sends next: the highest whose head frame completes before its gate closes (R188, R193). -/
def State.nextClass (s : State) (p : Nat) : Option Nat :=
  [7, 6, 5, 4, 3, 2, 1, 0].find? fun c => match headOf s.txq p c with
    | none => false
    | some f => match s.openTime p c with | some o => decide (s.airTime p f.octets ≤ o) | none => true

/-- The transmitter starts a frame (R188, R190, R193, R205), or an express frame cuts a preemptable one (R191), as it may again once it has gone. -/
def frameOut (p : Nat) : Act := look fun s =>
  if s.rd .MC_STATE p ≠ mcUp then skip
  else all [each [7, 6, 5, 4, 3, 2, 1, 0] (gateWait p), look fun s =>
    match s.nextClass p with
    | none => skip
    | some c =>
      match headOf s.txq p c with
      | none => skip
      | some f =>
        let express := bit (s.rd .MC_EXPRESS p) c
        let busy := decide (s.now < s.qn .mcTxEnd p)
        let cuts := busy && s.preempts p && express && s.q .mcTxExpress p == 0 && decide (s.qn .mcExprEnd p ≤ s.now)
        -- after low-power idle, the wake time comes first (R205)
        let air := s.airTime p f.octets + (if s.rd .MC_LPI_TX p = 1 then Config.lpiWake (s.rd .MC_MODE p) else 0)
        if busy && !cuts then skip
        else all [set .MC_LPI_TX 0 p, one (.txq (popTx p c s.txq)), count .MC_TX_FRAMES 1 p,
          emit (.frame p c f.octets (s.preempts p && express)),
          if cuts then
            all [iff (s.q .mcTxCut p == 0) (count .MC_TX_PREEMPTS 1 p), put .mcTxCut 1 p, put .mcExprEnd (s.now + air) p, put .mcTxEnd (s.qn .mcTxEnd p + air) p]
          else all [put .mcTxEnd (s.now + air) p, put .mcTxExpress (b2n (express || !s.preempts p)) p, put .mcTxCut 0 p]]]

/-- The class of a frame (R188). -/
def State.classOf (s : State) (k : TxKind) : Nat :=
  match k with
  | .tagged pcp => pcp % 8
  | .ptp => 7
  | .trarad => 6
  | .video f => s.rd .OV_PCP f
  | .audio f => s.rd .OA_PCP f
  | .other => 0

/-- The frames that have joined a port's classes: none are accepted while it drains for sleep (R203). -/
def enqueue (p : Nat) (fs : List (TxKind × Nat)) : Act := look fun s =>
  if s.q .mcDraining p = 1 ∨ s.rd .MC_STATE p ≠ mcUp then skip
  else one (.txq (s.txq ++ fs.map fun x => ⟨p, s.classOf x.1, x.2, false⟩))

/-- The start of the gate cycle that begins now (R192): that of the exact alignment nearest at or before half a tick from now, rounded to the 625 ps
tick. With lock the cycles divide the frame of MC_GATE_DOMAIN, from its frame start and MC_GATE_OFFSET_NS; else they count from the PTP epoch. -/
def State.gateStart (s : State) (p : Nat) : Nat :=
  let h : Int := s.now + 312
  let at_ : Int :=
    if s.rd .MC_GATE_LOCK p = 1 then
      match s.domFormat (s.rd .MC_GATE_DOMAIN p) with
      | some f =>
        let n : Int := s.rd .MC_GATE_PER_FRAME p
        let off : Int := s.rd .MC_GATE_OFFSET_NS p * psNs
        -- k of n cycles in a frame, over the whole of house time
        let k := (h + s.q .houseOff - off) * f.num * n / (f.den * psS : Nat)
        off + k * (f.den * psS : Nat) / (f.num * n) - s.q .houseOff
      | none => h
    else h - (s.activeTime + 312) % (max 1 (s.rd .MC_GATE_CYCLE_NS p * psNs) : Nat)
  (((at_ + 312) / 625) * 625).toNat

/-- A gate cycle starts and takes the list in effect (R192, R194). -/
def gateCycle (p : Nat) : Act := look fun s =>
  if s.rd .MC_URGENT_MODE p ≠ 2 then skip
  else
    let n := s.rd .MC_GATE_ENTRIES p
    let cycle := if s.rd .MC_GATE_LOCK p = 1 then
        (match s.domFormat (s.rd .MC_GATE_DOMAIN p) with | some f => f.period / max 1 (s.rd .MC_GATE_PER_FRAME p) | none => 0)
      else s.rd .MC_GATE_CYCLE_NS p * psNs
    all [put .glStart (s.gateStart p + 1) p, put .glCycle cycle p, put .glCount n p,
      each (List.range n) fun e => all [put .glInt (s.rd .GL_INTERVAL_NS p e * psNs) p e, put .glGates (s.rd .GL_GATES p e) p e]]

-- Low power --------------------------------------------------------------------------------------------------------

/-- The ports that carry the PTP domain which house time follows (R203, R47). -/
def State.houseOnPort (s : State) (p : Nat) : Bool :=
  let i := s.selInput
  (i == 4 || i == 5) && s.rd .PD_SLAVE_PORT (i - 4) == p + 1

/-- The status with which a write of MC_SLEEP is refused, if it is (R203, R205). -/
def State.sleepRefused (s : State) (p v : Nat) : Option Status :=
  if v % 2 = 0 then none
  else if p < 256 then some .NOT_SUPPORTED
  else if s.sessionOn (p - 256) then some .BUSY
  else if s.houseOnPort p then some .IN_USE
  else none

/-- A write of MC_SLEEP (R203, R204): 1 in UP starts the drain, 0 in SLEEP wakes the port. -/
def sleepWrite (p v : Nat) : Act := look fun s =>
  if s.rd .MC_MODE p = 0 ∨ (s.sleepRefused p v).isSome then skip
  else if v % 2 = 1 then
    iff (s.rd .MC_STATE p == mcUp) (all [set .MC_SLEEP 1 p, put .mcDraining 1 p, arm .mcDrain psMs p])
  else if s.q .mcDraining p = 1 then all [set .MC_SLEEP 0 p, put .mcDraining 0 p, disarm .mcDrain p]
  else wakePort p

/-- The drain ends (R203): at 1 ms, or before when nothing waits; what waits is dropped. -/
def drainDone (p : Nat) : Act := look fun s =>
  let left := (s.txq.filter fun f => f.port == p).length
  iff (s.q .mcDraining p == 1 && (left == 0 || s.due .mcDrain p))
    (all [count .MC_TX_SLEEP_DROPS left p, one (.txq (s.txq.filter fun f => f.port != p)), put .mcDraining 0 p, disarm .mcDrain p,
      portMoves p mcSleep])

-- Commands ---------------------------------------------------------------------------------------------------------

/-- MAC_FRAME_RECEIVE (R196). -/
def execMacFrameReceive (t port : Nat) (f : EthFrame) (s : State) : Host.Outcome State Fault Refusal := run (all [at_ t, frameIn port f]) s

/-- MAC_FRAME_TRANSMIT (R193): `arrived` are the frames that have become ready at the port, among them those of the module's own messages and packets, with
their octets. -/
def execMacFrameTransmit (t port : Nat) (arrived : List (TxKind × Nat)) (s : State) : Host.Outcome State Fault Refusal :=
  run (all [at_ t, enqueue port arrived, frameOut port]) s

/-- MAC_LINK_UP (R187). -/
def execMacLinkUp (t port : Nat) (speedOk : Bool) (s : State) : Host.Outcome State Fault Refusal := run (all [at_ t, portUp port speedOk]) s

/-- MAC_LINK_DOWN (R187). -/
def execMacLinkDown (t port why : Nat) (s : State) : Host.Outcome State Fault Refusal := run (all [at_ t, portDown port why]) s

/-- MC_SLEEP_WRITE (R203, R205): a refused value is reported (R11). -/
def execMcSleepWrite (t port value : Nat) (s : State) : Host.Outcome State Fault Refusal :=
  run (all [at_ t, look fun s => match s.sleepRefused port value with
    | some st => sayWritten .MC_SLEEP port 0 st (s.rd .MC_SLEEP port)
    | none => sleepWrite port value]) s

/-- SLEEP_DRAIN_DONE (R203). -/
def execSleepDrainDone (t port : Nat) (s : State) : Host.Outcome State Fault Refusal := run (all [at_ t, drainDone port]) s

/-- WAKING_EXPIRY (R187). -/
def execWakingExpiry (t port : Nat) (s : State) : Host.Outcome State Fault Refusal :=
  run (all [at_ t, look fun s => iff (s.due .mcWake port && s.rd .MC_STATE port == mcWaking) (all [disarm .mcWake port, portMoves port mcUp])]) s

/-- PREEMPT_VERIFY_TIMER (R190): the next verify message, or failure after three without a response. -/
def execPreemptVerifyTimer (t port : Nat) (s : State) : Host.Outcome State Fault Refusal :=
  run (all [at_ t, look fun s => iff (s.due .mcVerify port && s.rd .MC_VERIFY_STATE port == 1)
    (if s.q .mcVerifyN port < 3 then
      all [addQ .mcVerifyN 1 port, emit (.verify port false), arm .mcVerify (s.rd .MC_VERIFY_MS port * psMs) port]
    else all [disarm .mcVerify port, set .MC_VERIFY_STATE 3 port, raise .MAC_PREEMPT_FAIL port])]) s

/-- GATE_CYCLE_START (R192). -/
def execGateCycleStart (t port : Nat) (s : State) : Host.Outcome State Fault Refusal := run (all [at_ t, gateCycle port]) s

/-- LPI_ENTER (R205): every class empty and, in mode 2, no gate opening within the wake time of Clause 78; never in
SLEEP. `quiet` tells that no frame has come to a class since the last MAC_FRAME_TRANSMIT, which names those that come (log 35). -/
def execLpiEnter (t port : Nat) (quiet : Bool) (s : State) : Host.Outcome State Fault Refusal :=
  run (all [at_ t, look fun s =>
    iff (quiet && s.rd .MC_EEE port == 1 && s.rd .MC_STATE port == mcUp && s.rd .MC_LPI_TX port == 0 && (s.txq.all fun f => f.port != port)
        && decide (s.qn .mcTxEnd port ≤ s.now) && !s.gateOpens port (Config.lpiWake (s.rd .MC_MODE port)))
      (all [set .MC_LPI_TX 1 port, count .MC_LPI_ENTRIES 1 port, emit (.lpi port)])]) s

/-- PARTNER_LOW_POWER_IDLE (R205). -/
def execPartnerLowPowerIdle (t port : Nat) (enters : Bool) (s : State) : Host.Outcome State Fault Refusal :=
  run (all [at_ t, look fun s => iff (s.rd .MC_EEE port == 1 && s.rd .MC_STATE port == mcUp) (set .MC_LPI_RX (b2n enters) port)]) s

end Sys2Proof.Machine
end

