-- ==== Sys2Proof/Machine/Lanes.lean ====
section
/-! DEFINITION. Serial lanes (21_serdes_lanes.md, R471 to R491): receiver and transmitter states, what the functions read of them,
PRBS, error injection and the eye scan. Lanes 256, 257 and 258 are LC0, LC1 and LSV. The values that adaptation finds are open
(log 4). -/
set_option Elab.async false
namespace Sys2Proof.Machine

/-- Receiver states (R490). -/
abbrev rxOff : Nat := 0
abbrev rxNoSignal : Nat := 1
abbrev rxAcquiring : Nat := 2
abbrev rxRateLocked : Nat := 3
abbrev rxAligned : Nat := 4

/-- The lane is PAM4: a fabric lane outside its NRZ test (R472). -/
def State.pam4 (s : State) (l : Nat) : Bool := s.rd .LN_USE l == 4 && s.rd .LN_PRBS_NRZ l == 0

/-- The fabric link on a lane (R3). -/
def State.laneLink (s : State) (l : Nat) : Nat := if s.isEdge then l - 128 else l

/-- What runs on the lane sends (R475): an SDI output outside OFF and WAIT, a fabric link outside DOWN, a MAC port outside OFF, or
the PRBS generator. -/
def State.laneSends (s : State) (l : Nat) : Bool :=
  s.rd .LN_PRBS_TX l != 0 ||
  (match s.rd .LN_USE l with
   | 0 => false
   | 1 => decide (2 ≤ s.rd .VO_STATE l)
   | 4 => s.rd .FL_STATE (s.laneLink l) != flDown
   | _ => s.rd .MC_STATE l != mcOff)

/-- LN_TX_STATE: what is held of it is TX_FAULT or HELD; otherwise it says whether the lane sends (R490). -/
def State.txState (s : State) (l : Nat) : Nat := if 2 ≤ s.rd .LN_TX_STATE l then s.rd .LN_TX_STATE l else b2n (s.laneSends l)

/-- Equalisation returns to its default (R479). -/
def eqDefault (l : Nat) : Act := all [set .LN_CTLE 8 l, each (List.range 12) fun j => set .LN_DFE 0 l j]

/-- Adaptation has moved the equaliser (R479): values within the spans it gives, off at 270 Mb/s. -/
def adapt (l : Nat) : Act := look fun s =>
  if s.rd .LN_ADAPT_HOLD l = 1 ∧ rxRateLocked ≤ s.rd .LN_RX_STATE l then skip
  else all [setFree .LN_CTLE l,
    if s.rd .LN_USE l = 1 ∧ s.rd .LN_RATE_NOW l = 1 then each (List.range 12) fun j => set .LN_DFE 0 l j
    else each (List.range 12) fun j => withFree fun v =>
      let w := if j = 0 then 127 else 63
      setS .LN_DFE (((v % (2 * w + 1) : Nat) : Int) - w) l j]

/-- A running eye scan is aborted (R488). -/
def scanAbort (l : Nat) : Act := look fun s =>
  iff (s.rd .LN_ES_STATE l == 1) (all [set .LN_ES_STATE 3 l, raise .EYE_SCAN_DONE l 3])

/-- A receiver changes state (R478): LANE_RX_STATE at most once per 10 ms and lane, each exit from ALIGNED counted, an eye scan
aborted when neither RATE_LOCKED nor ALIGNED remains. -/
def rxMoves (l new : Nat) : Act := look fun s =>
  let old := s.rd .LN_RX_STATE l
  if old = new then skip
  else all [set .LN_RX_STATE new l,
    iff (s.q .lnEventAt l == 0 || decide (s.q .lnEventAt l + 10 * psMs ≤ (s.now : Int) + 1))
      (all [put .lnEventAt (s.now + 1) l, raise .LANE_RX_STATE l (newOld new old)]),
    iff (old == rxAligned) (all [count .LN_LOCK_LOSSES 1 l, set .LN_ALIGNED_COUNT (s.rd .LN_ALIGNED_COUNT - 1)]),
    iff (new == rxAligned) (set .LN_ALIGNED_COUNT (s.rd .LN_ALIGNED_COUNT + 1)),
    iff (decide (new < rxRateLocked)) (scanAbort l)]

/-- The rates that an SDI receiver tries, in order (R480): what it held last, then from 11.88 Gb/s down. -/
def State.sdiRates (s : State) (l : Nat) : List Nat :=
  if s.rd .LN_SDI_RATE l ≠ 0 then [s.rd .LN_SDI_RATE l]
  else (if s.q .lnRateHeld l = 0 then [] else [s.qn .lnRateHeld l]) ++ [5, 4, 3, 2, 1]

/-- The rate that the present attempt tries. -/
def State.rateTry (s : State) (l : Nat) : Nat :=
  let r := s.sdiRates l
  r.getD (s.qn .lnRateTry l % max 1 r.length) 0

/-- ACQUIRING is entered, or an attempt starts again (R478): 2.5 ms on NRZ, 100 ms on PAM4. -/
def acquire (l try_ : Nat) : Act := look fun s =>
  all [rxMoves l rxAcquiring, set .LN_RATE_NOW 0 l, set .LN_RX_PPM 0 l, set .LN_RX_FRAC 0 l, put .lnRateTry try_ l, eqDefault l,
    arm .lnAcquire (if s.pam4 l then 100 * psMs else 2500 * psUs) l]

/-- The function of a lane loses its alignment or its lock (R484). -/
def laneLost (l : Nat) (rateToo : Bool) : Act := look fun s =>
  match s.rd .LN_USE l with
  | 0 => skip
  | 1 => sdiInput l (if rateToo then inputLockLoss l else inputTrsLoss l)
  | 4 => linkFails (s.laneLink l)
  | _ => portDown l 0

/-- LN_RATE_NOW of a use other than SDI (R490). -/
def State.useRate (s : State) (l : Nat) : Nat :=
  match s.rd .LN_USE l with
  | 2 => 7 | 3 => 8 | 5 => 6
  | 4 => if s.rd .LN_PRBS_NRZ l = 1 then 10 else 9
  | _ => 0

/-- The receiver is ALIGNED (R478, R481, R482). -/
def aligned (l : Nat) : Act := look fun s =>
  iff (s.rd .LN_RX_STATE l == rxRateLocked)
    (all [rxMoves l rxAligned, adapt l, iff (s.rd .LN_USE l == 1) (inputTrs l)])

/-- CDR lock (R478, R480): `ppm` in 0.1 ppm from the nominal rate chosen. -/
def cdrLock (l rate frac : Nat) (ppm : Int) : Act := look fun s =>
  if s.rd .LN_RX_STATE l ≠ rxAcquiring then skip
  else
    let sdi := s.rd .LN_USE l == 1
    let ok := if sdi then rate == s.rateTry l && decide (ppm.natAbs ≤ 4500) else decide (ppm.natAbs ≤ 2000)
    if !ok then skip
    else all [disarm .lnAcquire l, rxMoves l rxRateLocked, set .LN_RATE_NOW (if sdi then rate else s.useRate l) l,
      set .LN_RX_FRAC (if sdi then frac else 0) l, setS .LN_RX_PPM ppm l, adapt l,
      iff sdi (all [put .lnRateHeld rate l, inputRateLock l rate frac]),
      iff (s.rd .LN_USE l == 5) (aligned l)]

/-- Loss of CDR lock, or a rate outside the window (R478). -/
def cdrLoss (l : Nat) : Act := look fun s =>
  iff (decide (rxRateLocked ≤ s.rd .LN_RX_STATE l)) (all [acquire l 0, laneLost l true])

/-- No signal for 10 us (R478). -/
def signalLoss (l : Nat) : Act := look fun s =>
  iff (decide (rxNoSignal < s.rd .LN_RX_STATE l))
    (all [disarm .lnAcquire l, rxMoves l rxNoSignal, set .LN_RATE_NOW 0 l, set .LN_RX_PPM 0 l, set .LN_RX_FRAC 0 l, laneLost l true])

/-- Block lock or TRS alignment is lost (R481, R482). -/
def alignLoss (l errs : Nat) : Act := look fun s =>
  iff (s.rd .LN_RX_STATE l == rxAligned) (all [count .LN_HDR_ERRS errs l, rxMoves l rxRateLocked, laneLost l false])

-- Transmitter ------------------------------------------------------------------------------------------------------

/-- A transmitter fault (R477): TX_FAULT, or HELD at the third fault within 1 s; what runs on the lane is told. -/
def txFault (l : Nat) : Act := look fun s =>
  if 2 ≤ s.rd .LN_TX_STATE l ∨ s.rd .LN_USE l = 0 then skip
  else
    let a := s.q .lnTxFaultAt l 0
    let third := decide (a ≠ 0) && decide ((s.now : Int) + 1 - a ≤ psS)
    all [count .LN_TX_FAULTS 1 l, raise .LANE_TX_FAULT l,
      put .lnTxFaultAt (s.q .lnTxFaultAt l 1) l 0, put .lnTxFaultAt (s.now + 1) l 1,
      if third then all [set .LN_TX_STATE 3 l, raise .LANE_TX_HELD l] else all [set .LN_TX_STATE 2 l, arm .lnResume (10 * psMs) l],
      match s.rd .LN_USE l with
      | 1 => outputFault l
      | 4 => linkFails (s.laneLink l)
      | _ => portDown l 0]

/-- The transmitter sends again: a quad clock that was lost has locked. -/
def txSends (l : Nat) : Act := look fun s =>
  all [set .LN_TX_STATE 0 l, disarm .lnResume l, iff (decide (l < 256)) (set .QD_CLK_LOCK 1 (l / 4)), iff (s.rd .LN_USE l == 1) (outputResume l)]

/-- A write of 1 to LN_TX_RETRY (R477): refused but in HELD. -/
def txRetry (l value : Nat) : Act := look fun s => iff (value % 2 == 1 && s.rd .LN_TX_STATE l == 3) (txSends l)

-- Tests ------------------------------------------------------------------------------------------------------------

/-- The status with which a write of LN_PRBS_TX is refused, if it is (R485, R490). -/
def State.prbsRefused (s : State) (l v : Nat) : Option Status :=
  if v = 0 then none
  else if 4 < v then some .REFUSED
  else if s.rd .LN_USE l = 0 then some .ROLE_IDLE
  else if s.rd .LN_USE l = 4 ∧ s.rd .FL_STATE (s.laneLink l) ≠ flDown ∧ s.rd .FL_STATE (s.laneLink l) ≠ flHeldDown then some .IN_USE
  else if 256 ≤ l ∧ s.sessionOn (l - 256) then some .BUSY
  else none

/-- A write of LN_PRBS_TX (R485). -/
def prbsTx (l v : Nat) : Act := look fun s =>
  if (s.prbsRefused l v).isSome then skip
  else
    let was := s.rd .LN_TEST l
    let is := b2n (v != 0)
    all [set .LN_PRBS_TX v l, set .LN_TEST is l,
      iff (was != is) (all [set .LN_TEST_COUNT (s.rd .LN_TEST_COUNT + is - was), raise .LANE_TEST_ACTIVE l (newOld is was)])]

/-- The bits compared so far, as a 48-bit count that saturates (R486). -/
def prbsCount (l bits_ errs : Nat) : Act := look fun s =>
  let n := min (s.rd .LN_PRBS_BITS_LO l + s.rd .LN_PRBS_BITS_HI l * 2 ^ 32 + bits_) (2 ^ 48 - 1)
  all [set .LN_PRBS_BITS_LO (n % 2 ^ 32) l, set .LN_PRBS_BITS_HI (n / 2 ^ 32) l, count .LN_PRBS_ERRS errs l]

/-- The checker locks, or loses lock with what it has counted since it locked (R486). -/
def prbsLock (l : Nat) (locked : Bool) (bits_ errs : Nat) : Act := look fun s =>
  if s.rd .LN_PRBS_RX l = 0 then skip
  else all [iff (s.rd .LN_PRBS_LOCK l == 1) (prbsCount l bits_ errs), set .LN_PRBS_LOCK (b2n locked) l]

/-- A write of 1 to LN_INJ_GO (R487): never while the transmitter is idle. -/
def injectGo (l value : Nat) : Act := look fun s =>
  if value % 2 = 0 ∨ s.txState l ≠ 1 then skip
  else match s.rd .LN_INJ_MODE l with
    | 1 => count .LN_INJ_COUNT 1 l
    | 2 => count .LN_INJ_COUNT (s.rd .LN_INJ_LEN l) l
    | _ => skip

/-- LN_INJ_MODE changes (R487): in mode 3 bits were inverted at random, so the count is open (log 4). -/
def injectMode (l v : Nat) : Act := look fun s =>
  all [iff (s.rd .LN_INJ_MODE l == 3 && s.txState l == 1) (withFree fun n => count .LN_INJ_COUNT n l), set .LN_INJ_MODE v l]

/-- A write of 1 to LN_ES_GO (R488): refused while a measurement runs. -/
def scanGo (l value : Nat) : Act := look fun s =>
  if value % 2 = 0 ∨ s.rd .LN_ES_STATE l = 1 then skip
  else all [set .LN_ES_STATE 1 l, iff (decide (s.rd .LN_RX_STATE l < rxRateLocked)) (scanAbort l)]

-- Writes that act at once (R483, R485) -----------------------------------------------------------------------------

/-- Polarity of the receiver changes: a 64b/66b lane loses block lock. -/
def polarity (l : Nat) : Act := look fun s => iff (decide (2 ≤ s.rd .LN_USE l) && decide (s.rd .LN_USE l ≤ 4)) (alignLoss l 0)

/-- Loopback is entered or left, or the modulation changes: the receiver acquires anew. -/
def reacquire (l : Nat) : Act := look fun s =>
  iff (decide (rxNoSignal ≤ s.rd .LN_RX_STATE l)) (if rxRateLocked ≤ s.rd .LN_RX_STATE l then cdrLoss l else acquire l 0)

/-- The receiver of a lane in use starts (R478). -/
def laneStart (l : Nat) : Act := look fun s =>
  let rx := match s.rd .LN_USE l with | 0 => false | 1 => s.rd .VI_PORT_MODE l == 1 | _ => true
  iff (rx && s.rd .LN_RX_STATE l == rxOff) (rxMoves l rxNoSignal)

-- Commands ---------------------------------------------------------------------------------------------------------

/-- SDI_FRAME_RECEIVED (R66). -/
def execSdiFrameReceived (t input : Nat) (f : SdiFrame) (s : State) : Host.Outcome State Fault Refusal :=
  run (all [at_ t, look fun s => iff (s.rd .VI_PORT_MODE input == 1) (sdiInput input (sdiFrame input f))]) s

/-- SDI_RATE_MEASURE (R68); the lane's LN_RX_PPM follows it (R490). -/
def execSdiRateMeasure (t input : Nat) (ppm : Int) (s : State) : Host.Outcome State Fault Refusal :=
  run (all [at_ t, look fun s => iff (s.rd .VI_PORT_MODE input == 1 && decide (rxRateLocked ≤ s.rd .LN_RX_STATE input)) (setS .LN_RX_PPM (roundQ ppm 10) input),
    sdiInput input (sdiRate input ppm)]) s

/-- LANE_SIGNAL_DETECT (R478). -/
def execLaneSignalDetect (t lane : Nat) (s : State) : Host.Outcome State Fault Refusal :=
  run (all [at_ t, look fun s => iff (s.rd .LN_RX_STATE lane == rxNoSignal) (acquire lane 0)]) s

/-- LANE_SIGNAL_LOSS (R478). -/
def execLaneSignalLoss (t lane : Nat) (s : State) : Host.Outcome State Fault Refusal := run (all [at_ t, signalLoss lane]) s

/-- LANE_CDR_LOCK (R478, R480). -/
def execLaneCdrLock (t lane rate frac : Nat) (ppm : Int) (s : State) : Host.Outcome State Fault Refusal :=
  run (all [at_ t, cdrLock lane rate frac ppm]) s

/-- LANE_ACQUIRE_TIMEOUT (R480). -/
def execLaneAcquireTimeout (t lane : Nat) (s : State) : Host.Outcome State Fault Refusal :=
  run (all [at_ t, look fun s => iff (s.due .lnAcquire lane && s.rd .LN_RX_STATE lane == rxAcquiring) (acquire lane (s.qn .lnRateTry lane + 1))]) s

/-- LANE_CDR_LOSS (R478). -/
def execLaneCdrLoss (t lane : Nat) (s : State) : Host.Outcome State Fault Refusal := run (all [at_ t, cdrLoss lane]) s

/-- LANE_ALIGNED (R481, R482). -/
def execLaneAligned (t lane : Nat) (s : State) : Host.Outcome State Fault Refusal := run (all [at_ t, aligned lane]) s

/-- LANE_ALIGN_LOSS (R482): `errs` headers or preambles were found wrong since the lane aligned. -/
def execLaneAlignLoss (t lane errs : Nat) (s : State) : Host.Outcome State Fault Refusal := run (all [at_ t, alignLoss lane errs]) s

/-- LANE_TX_FAULT (R477). -/
def execLaneTxFault (t lane : Nat) (s : State) : Host.Outcome State Fault Refusal := run (all [at_ t, txFault lane]) s

/-- LANE_TX_RESUME (R477): 10 ms after the fault, if its cause has cleared. -/
def execLaneTxResume (t lane : Nat) (cleared : Bool) (s : State) : Host.Outcome State Fault Refusal :=
  run (all [at_ t, look fun s => iff (s.due .lnResume lane && s.rd .LN_TX_STATE lane == 2 && cleared) (txSends lane)]) s

/-- QUAD_CLOCK_LOSS (R477, R489). -/
def execQuadClockLoss (t quad : Nat) (s : State) : Host.Outcome State Fault Refusal :=
  run (all [at_ t, look fun s => iff (s.rd .QD_CLK_LOCK quad == 1)
    (all [set .QD_CLK_LOCK 0 quad, count .QD_CLK_LOSSES 1 quad, raise .QUAD_CLOCK_LOSS quad,
      each [0, 1, 2, 3] fun k => txFault (4 * quad + k)])]) s

/-- LN_TX_RETRY (R477): a refusal is reported. -/
def execLnTxRetry (t lane value : Nat) (s : State) : Host.Outcome State Fault Refusal :=
  run (all [at_ t, if s.rd .LN_TX_STATE lane ≠ 3 then sayWritten .LN_TX_RETRY lane 0 .REFUSED 0 else txRetry lane value]) s

/-- LN_PRBS_TX (R485): a refusal is reported. -/
def execLnPrbsTx (t lane value : Nat) (s : State) : Host.Outcome State Fault Refusal :=
  run (all [at_ t,
    match s.prbsRefused lane value with
    | some st => sayWritten .LN_PRBS_TX lane 0 st (s.rd .LN_PRBS_TX lane)
    | none => prbsTx lane value]) s

/-- LN_INJ_GO (R487). -/
def execLnInjGo (t lane value : Nat) (s : State) : Host.Outcome State Fault Refusal := run (all [at_ t, injectGo lane value]) s

/-- LN_ES_GO (R488): a refusal is reported. -/
def execLnEsGo (t lane value : Nat) (s : State) : Host.Outcome State Fault Refusal :=
  run (all [at_ t, if value % 2 = 1 ∧ s.rd .LN_ES_STATE lane = 1 then sayWritten .LN_ES_GO lane 0 .BUSY 0 else scanGo lane value]) s

/-- EYE_SCAN_DONE (R488): the measurement completes with its count of disagreements. -/
def execEyeScanDone (t lane errs : Nat) (s : State) : Host.Outcome State Fault Refusal :=
  run (all [at_ t, look fun s => iff (s.rd .LN_ES_STATE lane == 1)
    (all [set .LN_ES_STATE 2 lane, set .LN_ES_ERRS (min errs (2 ^ 32 - 1)) lane, raise .EYE_SCAN_DONE lane 2])]) s

/-- PRBS_CHECKER_LOCK (R486). -/
def execPrbsCheckerLock (t lane : Nat) (locked : Bool) (compared errs : Nat) (s : State) : Host.Outcome State Fault Refusal :=
  run (all [at_ t, prbsLock lane locked compared errs]) s

end Sys2Proof.Machine
end

