-- ==== Sys2Proof/Machine/Layers.lean ====
section
/-! DEFINITION. The picture of a Moss head (14_moss_multiviewer.md, R335, R339, R340, R342, R344 to R347, R350, R352): its layers, sample by sample, and the
CRC of a signature region. Colours and places that the spec leaves open are log 51. -/
set_option Elab.async false
namespace Sys2Proof.Machine

/-- A colour as 10-bit codes. -/
structure Colour where
  y : Nat
  cb : Nat
  cr : Nat
  deriving DecidableEq, Repr

abbrev white : Colour := ⟨0x3AC, 0x200, 0x200⟩
abbrev black : Colour := ⟨0x40, 0x200, 0x200⟩
abbrev red : Colour := ⟨0xFA, 0x199, 0x3C0⟩
abbrev green : Colour := ⟨0x2B3, 0x0A7, 0x069⟩
abbrev amber : Colour := ⟨0x2D0, 0x096, 0x28F⟩

-- Places -----------------------------------------------------------------------------------------------------------

/-- A canvas coordinate in head samples or lines (R335): rounded to the nearest, a horizontal one down to an even sample. -/
def headX (w x : Nat) : Nat := (2 * x * w + 3840) / 7680 / 2 * 2
def headY (h y : Nat) : Nat := (2 * y * h + 2160) / 4320

/-- The object number of tile `t` or region `r` of head `h` in events and quantities. -/
abbrev tileNo (h t : Nat) : Nat := 64 * h + t
abbrev regionNo (h r : Nat) : Nat := 256 * h + r

/-- Places of surfaces among the delivered frames: a generator's newest complete one, and the one that a tile shows. -/
abbrev surfaceAt (g : Nat) : Nat := 2048 + g
abbrev shownAt (n : Nat) : Nat := 4096 + n

/-- A rectangle in head samples. -/
structure Rect where
  x : Nat
  y : Nat
  w : Nat
  h : Nat
  deriving DecidableEq, Repr

def Rect.has (r : Rect) (px py : Nat) : Bool := decide (r.x ≤ px) && decide (px < r.x + r.w) && decide (r.y ≤ py) && decide (py < r.y + r.h)

/-- A canvas rectangle at the head. -/
def canvasRect (wa ha x y w h : Nat) : Rect := ⟨headX wa x, headY ha y, headX wa (x + w) - headX wa x, headY ha (y + h) - headY ha y⟩

/-- A size clamped so that its ratio to the surface's lies between 1/8 and 2 (R340). -/
def ratioFit (surface size : Nat) : Nat := if surface = 0 then size else max (ceilDiv surface 8) (min (2 * surface) size)

/-- Tile `t` at the head, of the size in use for the surface that it shows (R340, R342). -/
def State.tileRect (s : State) (h t wa ha : Nat) : Rect :=
  let n := tileNo h t
  let r := canvasRect wa ha (s.rd .TL_X h t) (s.rd .TL_Y h t) (s.rd .TL_W h t) (s.rd .TL_H h t)
  if s.rd .TL_STATE h t = 3 then r else { r with w := ratioFit (s.qn .tlSize n 0) r.w, h := ratioFit (s.qn .tlSize n 1) r.h }

/-- The height of an overlay text box, canvas units (R344). -/
def umdHeight : Nat → Nat
  | 0 => 48 | 1 => 72 | _ => 96

/-- A tile's UMD box (R344) and meter bars (R346). -/
def State.umdRect (s : State) (h t wa ha : Nat) : Rect :=
  let r := s.tileRect h t wa ha
  let k := min r.h (headY ha (umdHeight (s.rd .TL_UMD_SIZE h t)))
  { r with y := if s.rd .TL_UMD_TOP h t = 1 then r.y else r.y + r.h - k, h := k }
def State.meterRect (s : State) (h t wa ha : Nat) : Rect :=
  let r := s.tileRect h t wa ha
  let k := min r.w (headX wa (24 * s.rd .TL_METERS h t))
  { r with x := r.x + r.w - k, w := k }

/-- The samples of a tile's tally border, inside its edge (R345). -/
def State.inBorder (s : State) (h t wa ha px py : Nat) : Bool :=
  let r := s.tileRect h t wa ha
  let bx := headX wa (s.rd .TL_BORDER h t)
  let b := headY ha (s.rd .TL_BORDER h t)
  r.has px py && !(Rect.has ⟨r.x + bx, r.y + b, r.w - 2 * bx, r.h - 2 * b⟩ px py)

-- Text (R344) ------------------------------------------------------------------------------------------------------

/-- The characters of a text field: up to the first 00h byte, control codes as spaces. -/
def textOf (v : Nat) : List Nat :=
  ((unpackWords 8 32 v).takeWhile (· != 0)).map fun c => if c < 0x20 ∨ (0x7F ≤ c ∧ c ≤ 0x9F) then 0x20 else c

/-- Ink of a text centred in a box `w` canvas units wide, at a place in it: characters that do not fit whole are cut. -/
def inkAt (size w : Nat) (text : List Nat) (ux uy : Nat) : Bool :=
  let cw := Config.charWidth size
  let n := min text.length (w / cw)
  let x := (w - n * cw) / 2
  decide (x ≤ ux) && decide ((ux - x) / cw < n) && Config.glyph size (text.getD ((ux - x) / cw) 0x20) ((ux - x) % cw) uy

/-- Two digits. -/
def twoDigits (n : Nat) : List Nat := [0x30 + n / 10 % 10, 0x30 + n % 10]

/-- The clock of R347: seconds of house time with the offset, and the head's frame starts since the last whole second. -/
def State.clockText (s : State) (f : Format) (offset : Int) : List Nat :=
  let sec := s.house / psS
  let t := (((sec : Int) + offset) % 86400).toNat
  let ff := f.frameAt s.house - ceilDiv (sec * f.num) f.den
  twoDigits (t / 3600) ++ [0x3A] ++ twoDigits (t / 60 % 60) ++ [0x3A] ++ twoDigits (t % 60) ++ [0x3A] ++ twoDigits ff

-- Layers (R339) ----------------------------------------------------------------------------------------------------

/-- The background colour. -/
def State.background (s : State) (h : Nat) : Colour := ⟨s.rd .MV_BG_Y h, s.rd .MV_BG_CB h, s.rd .MV_BG_CR h⟩

/-- A tile's picture (R340, R342): its surface scaled, or background colour, with the marker in NO_SIGNAL. -/
def State.tileLayer (s : State) (h t wa ha px py : Nat) : Option Colour :=
  let r := s.tileRect h t wa ha
  if s.rd .TL_EN h t = 0 ∨ !r.has px py then none
  else
    let surface := s.pic (shownAt (tileNo h t))
    if s.rd .TL_STATE h t = 3 then
      let k := headY ha (umdHeight 1)
      let top := r.y + (r.h - k) / 2
      some (if top ≤ py ∧ inkAt 1 (r.w * 3840 / wa) ("NO SIGNAL".toList.map Char.toNat) ((px - r.x) * 3840 / wa) ((py - top) * 2160 / ha) then white else s.background h)
    else if surface.isEmpty then some (s.background h)
    else
      let c := Config.tileSample (s.rd .TL_VTAPS_EFF h t) surface r.w r.h (px - r.x) (py - r.y)
      some ⟨c.1 % 1024, c.2.1 % 1024, c.2.2 % 1024⟩

/-- A tile's meters (R346): the level in hundredths of a dB above −60 dBFS fills its bar from below; above it the bar is black. -/
def State.meterLayer (s : State) (h t wa ha px py : Nat) : Option Colour :=
  let m := s.meterRect h t wa ha
  if s.rd .TL_EN h t = 0 ∨ !m.has px py then none
  else
    let v := (m.y + m.h - 1 - py) * 6000 / m.h
    let bar := (px - m.x) * s.rd .TL_METERS h t / m.w
    some (if s.qn .mtLevel (tileNo h t) bar ≤ v then black else if v < 4000 then green else if v < 5400 then amber else red)

/-- A tile's UMD box (R344). -/
def State.umdLayer (s : State) (h t wa ha px py : Nat) : Option Colour :=
  let u := s.umdRect h t wa ha
  if s.rd .TL_EN h t = 0 ∨ s.rd .TL_UMD_EN h t = 0 ∨ !u.has px py then none
  else some (if inkAt (s.rd .TL_UMD_SIZE h t) (u.w * 3840 / wa) (textOf (s.rd .TL_UMD_TEXT h t)) ((px - u.x) * 3840 / wa) ((py - u.y) * 2160 / ha) then white else black)

/-- The tally of a tile (R345). -/
def State.tileTally (s : State) (h t : Nat) : Option Colour :=
  let v := s.rd .TL_TALLY h t
  let g := s.rd .TL_TALLY_GPI h t
  if bit v 0 ∨ (g ≠ 0 ∧ bit (s.rd .GP_IN) (g - 1)) then some red
  else if bit v 1 then some green
  else if bit v 2 then some amber
  else none

/-- A tile's tally border (R345). -/
def State.tallyLayer (s : State) (h t wa ha px py : Nat) : Option Colour :=
  if s.rd .TL_EN h t = 1 ∧ s.inBorder h t wa ha px py then s.tileTally h t else none

/-- A free element (R347). -/
def State.elementLayer (s : State) (f : Format) (h e wa ha px py : Nat) : Option Colour :=
  let size := s.rd .EL_SIZE h e
  let text := if s.rd .EL_KIND h e = 1 then s.clockText f (s.rdS .EL_OFFSET_S h e) else textOf (s.rd .EL_TEXT h e)
  let w := text.length * Config.charWidth size
  let r := canvasRect wa ha (s.rd .EL_X h e) (s.rd .EL_Y h e) w (umdHeight size)
  if s.rd .EL_KIND h e = 0 ∨ !r.has px py then none
  else some (if inkAt size w text ((px - r.x) * 3840 / wa) ((py - r.y) * 2160 / ha) then white else black)

/-- A tile's unverified border (R352): outside the tile's edge, hatched. -/
def State.unverifiedLayer (s : State) (h t wa ha px py : Nat) : Option Colour :=
  let r := s.tileRect h t wa ha
  let bx := headX wa 32
  let b := headY ha 32
  if s.rd .TL_UNVERIFIED h t = 1 ∧ decide (r.x ≤ px + bx) ∧ decide (px < r.x + r.w + bx) ∧ decide (r.y ≤ py + b) ∧ decide (py < r.y + r.h + b) ∧ !r.has px py then
    some (if (px * 3840 / wa + py * 2160 / ha) / 16 % 2 = 0 then red else white)
  else none

/-- The sample of a head's picture at a place of the active picture: each layer over those below it, the unverified borders where `five`. -/
def State.headSample (s : State) (f : Format) (five : Bool) (h wa ha px py : Nat) : Colour :=
  let lay (c : Colour) (l : Option Colour) : Colour := l.getD c
  let ts := (List.range 64).filter fun t => s.rd .TL_EN h t == 1
  let c := ts.foldl (fun c t => lay c (s.tileLayer h t wa ha px py)) (s.background h)
  let c := ts.foldl (fun c t => lay (lay (lay c (s.meterLayer h t wa ha px py)) (s.umdLayer h t wa ha px py)) (s.tallyLayer h t wa ha px py)) c
  let c := (List.range 16).foldl (fun c e => lay c (s.elementLayer f h e wa ha px py)) c
  if five then ts.foldl (fun c t => lay c (s.unverifiedLayer h t wa ha px py)) c else c

/-- The words of a sample, chroma and luma: an even sample has Cb, the next one Cr of the even sample (R350). -/
def State.sampleWords (s : State) (f : Format) (five : Bool) (h wa ha px py : Nat) : List Nat :=
  let c := s.headSample f five h wa ha (px / 2 * 2) py
  [if px % 2 = 0 then c.cb else c.cr, (s.headSample f five h wa ha px py).y]

/-- The lines of a head's picture in format `fmt` (R339): blanking outside the active picture. -/
def State.headPicture (s : State) (h fmt : Nat) (f : Format) : List (List Nat) :=
  let (wa, ha) := activeSize fmt
  let rows := (List.range ha).map (Config.activeLine fmt)
  (List.range f.lines).map fun k =>
    match rows.findIdx? (· == k + 1) with
    | some py => (charcoalLine f.spl).take (2 * (f.spl - wa)) ++ (List.range wa).flatMap fun px => s.sampleWords f true h wa ha px py
    | none => charcoalLine f.spl

-- Signatures (R350) ------------------------------------------------------------------------------------------------

/-- A sample belongs to region `r` of the head. -/
def State.regionHas (s : State) (h r wa ha px py : Nat) : Bool :=
  let t := s.rd .RG_TILE h r
  match s.rd .RG_KIND h r with
  | 0 => (canvasRect wa ha (s.rd .RG_X h r) (s.rd .RG_Y h r) (s.rd .RG_W h r) (s.rd .RG_H h r)).has px py
  | 1 => (s.tileRect h t wa ha).has px py
  | 2 => (s.umdRect h t wa ha).has px py
  | 3 => (s.tileTally h t).isSome && s.inBorder h t wa ha px py
  | _ => (s.meterRect h t wa ha).has px py

/-- One byte more in the CRC-32 of IEEE 802.3. -/
def crc32Byte (crc b : Nat) : Nat :=
  (List.range 8).foldl (fun c _ => if c % 2 = 1 then Nat.xor (c / 2) 0xEDB88320 else c / 2) (Nat.xor crc b)

/-- The CRC of a region over its words in raster order as composed through layer 4, each word as two bytes. -/
def State.regionCrc (s : State) (f : Format) (h r wa ha : Nat) : Nat :=
  let words := (List.range ha).flatMap fun py => ((List.range wa).filter fun px => s.regionHas h r wa ha px py).flatMap fun px => s.sampleWords f false h wa ha px py
  Nat.xor (words.foldl (fun c w => crc32Byte (crc32Byte c (w % 256)) (w / 256)) 0xFFFFFFFF) 0xFFFFFFFF

end Sys2Proof.Machine
end

