-- ==== Sys2Proof/Machine/Moss.lean ====
section
/-! DEFINITION. The Moss multiviewer (14_moss_multiviewer.md): proxy generators, heads, tiles, vertical taps, signature regions and unverified
borders. -/
set_option Elab.async false
namespace Sys2Proof.Machine

-- Proxies ----------------------------------------------------------------------------------------------------------

/-- A generator's PX_KIND, PX_POS and PX_SCALE in use (R338): written values wait for a frame start. -/
def State.pxKind (s : State) (g : Nat) : Nat := if s.q .pxPend g = 1 then s.qn .pxUse g 0 else s.rd .PX_KIND g
def State.pxPos (s : State) (g : Nat) : Nat := if s.q .pxPend g = 1 then s.qn .pxUse g 1 else s.rd .PX_POS g
def State.pxDown (s : State) (g : Nat) : Nat := if (if s.q .pxPend g = 1 then s.qn .pxUse g 2 else s.rd .PX_SCALE g) = 0 then 2 else 4

/-- The raster domain of a source (R336). -/
def State.sourceDomain (s : State) (kind pos : Nat) : Nat := if kind = 1 then s.rd .VI_DOMAIN pos else s.rd .VO_DOMAIN pos

/-- The raster domain of a generator's source, and the one at whose frame start its written values come into use (R338): that of the new source, or,
when it is turned off, of the old one. -/
def State.pxDomain (s : State) (g : Nat) : Nat := s.sourceDomain (s.pxKind g) (s.pxPos g)
def State.pxNextDomain (s : State) (g : Nat) : Nat :=
  if s.rd .PX_KIND g = 0 then s.pxDomain g else s.sourceDomain (s.rd .PX_KIND g) (s.rd .PX_POS g)

/-- The format that a generator's source delivers; 0 where it delivers no picture, or none that makes a surface (R336, R338). -/
def State.pxFormat (s : State) (g : Nat) : Nat :=
  let p := s.pxPos g
  match s.pxKind g with
  | 1 => if s.rd .VI_ALIGN_STATE p = 0 ∨ s.rd .VI_FMT p = 255 then 0 else s.rd .VI_FMT p
  | 2 => if (s.stream p).1 = 0 then 0 else (s.stream p).2
  | _ => 0

/-- MV_PX_RUNNING (R355). -/
def pxShow : Act := look fun s => set .MV_PX_RUNNING ((List.range 256).filter fun g => s.rd .PX_KIND g != 0).length

/-- PX_STATE, with the event of an entry into MISSING (R338). -/
def pxState (g new : Nat) : Act := look fun s =>
  if s.rd .PX_STATE g = new then skip else all [set .PX_STATE new g, iff (new == 2) (raise .MOSS_PROXY_MISSING g)]

/-- A write of a PX_ field waits for the next frame start of the source's domain (R338). -/
def pxWritten (g : Nat) : Act := all [put .pxPend 1 g, pxShow]

/-- The values in use are noted: a write after this waits beside them. -/
def pxNote (g : Nat) : Act := look fun s =>
  all [put .pxUse (s.rd .PX_KIND g) g 0, put .pxUse (s.rd .PX_POS g) g 1, put .pxUse (s.rd .PX_SCALE g) g 2]

/-- A frame start of domain `d` at a generator (R338). -/
def pxFrameStart (d g : Nat) : Act := look fun s =>
  let new := s.q .pxPend g == 1
  if (if new then s.pxNextDomain g else s.pxDomain g) ≠ d then skip
  else all [
    iff new (all [put .pxPend 0 g, put .pxDone 0 g, putPic (surfaceAt g) []]), pxNote g,
    look fun s =>
      if s.rd .PX_KIND g = 0 then iff new (all [pxState g 0, set .PX_MISS 0 g, set .PX_W 0 g, set .PX_H 0 g])
      else
        let (w, h) := activeSize (s.pxFormat g)
        let k := s.pxDown g
        let miss := s.pxFormat g == 0
        all [
          iff (!miss) (all [set .PX_W (w / k) g, set .PX_H (h / k) g]),
          iff miss (count .PX_MISSES 1 g),
          if miss then count .PX_MISS 1 g else iff new (set .PX_MISS 1 g),
          look fun s => if 1 ≤ s.rd .PX_MISS g then pxState g 2 else iff (s.rd .PX_STATE g == 0) (pxState g 1)]]

/-- The picture that a generator's source delivers now (R336): an input's at the crosspoint, or the stream delivered to an output before its stage. -/
def State.pxPicture (s : State) (g : Nat) : List (List Nat) :=
  let p := s.pxPos g
  let F := s.frameNow (s.pxDomain g)
  if s.pxKind g = 1 then s.frameOf p F
  else match s.localSrc p, s.linkFormat p with
    | some q, _ => s.frameOf q F
    | none, some f => s.remoteFrame f p F
    | none, none => []

/-- Bytes per second of a surface `w` by `h` at `f`'s frame rate, in thousandths: a quarter of each line's uncoded bytes, rounded up to 64-byte codewords
(R336). -/
def surfaceRate (f : Format) (w h : Nat) : Nat := ceilDiv (w * 5 / 2) 256 * 64 * h * 1000 * f.num / f.den

/-- MV_PX_BW (R337, R355): the surfaces written, and those that the tiles of running heads read, one per frame each; check bytes included, to the
nearest GB/s (log 48). -/
def State.pxBandwidth (s : State) : Nat :=
  let at_ (d w h : Nat) : Nat := match s.domFormat d with | some f => surfaceRate f w h | none => 0
  let written := (((List.range 256).filter fun g => s.rd .PX_STATE g == 1).map fun g => at_ (s.pxDomain g) (s.rd .PX_W g) (s.rd .PX_H g)).sum
  let read := (((List.range 4).filter fun h => s.rd .MV_STATE h == 2).flatMap fun h =>
    ((List.range 64).filter fun t => s.rd .TL_EN h t == 1 && s.rd .TL_STATE h t != 3).map fun t =>
      at_ (s.rd .VO_DOMAIN (s.rd .MV_OUT_POS h)) (s.qn .tlSize (tileNo h t) 0) (s.qn .tlSize (tileNo h t) 1)).sum
  (nearest (((written + read) * 68 : Nat) : Int) (64 * 1000000000000)).toNat

/-- A generator completes a surface (R337, R338). -/
def surfaceDone (g uncorr : Nat) : Act := look fun s =>
  if s.pxKind g = 0 ∨ s.pxFormat g = 0 then skip
  else
    let (w, h) := activeSize (s.pxFormat g)
    let k := s.pxDown g
    all [count .PX_PEAT_UNCORR uncorr g, addQ .pxDone 1 g, putPic (surfaceAt g) (Config.proxy (s.pxFormat g) k (s.pxPicture g)), set .PX_MISS 0 g,
      count .PX_FRAMES 1 g, set .PX_W (w / k) g, set .PX_H (h / k) g, pxState g 1]

-- Tiles ------------------------------------------------------------------------------------------------------------

/-- A tile's lines at the head, first and one past the last. -/
def State.tileLines (s : State) (h t ha : Nat) : Nat × Nat :=
  (headY ha (s.rd .TL_Y h t), headY ha (s.rd .TL_Y h t + s.rd .TL_H h t))

/-- Taps fitted to a scaler's line buffer (R341): while a group's sum exceeds 16,384, the tile with the most taps, the highest-numbered among
equals, loses one. A tile is its number, its surface width and its taps. -/
def fitTaps : Nat → List (Nat × Nat × Nat) → List (Nat × Nat × Nat)
  | 0, ts => ts
  | n + 1, ts =>
    if (ts.foldl (fun a (_, w, k) => a + w * k) 0) ≤ 16384 then ts
    else
      let top := ts.foldl (fun a (_, _, k) => max a k) 0
      match (ts.filter fun (_, _, k) => k == top).getLast? with
      | some (t, _, _) => fitTaps n (ts.map fun (u, w, k) => if u = t then (u, w, k - 1) else (u, w, k))
      | none => ts

/-- The taps of a scaler's tiles (R341): every group of tiles that cover a common head line is fitted in turn. `wide` gives a generator's surface
width. -/
def State.scalerTaps (s : State) (wide : Nat → Nat) (h c ha : Nat) : List (Nat × Nat × Nat) :=
  let ts := ((List.range 64).filter fun t => t % 16 == c && s.rd .TL_EN h t == 1).map fun t => (t, wide (s.rd .TL_PX h t), s.rd .TL_VTAPS h t)
  ts.foldl (fun all_ (t, _, _) =>
    let y := (s.tileLines h t ha).1
    let inGroup (u : Nat) : Bool := decide ((s.tileLines h u ha).1 ≤ y) && decide (y < (s.tileLines h u ha).2)
    let fitted := fitTaps 32 (all_.filter fun (u, _, _) => inGroup u)
    all_.map fun (u, w, k) => match fitted.find? fun (v, _, _) => v == u with | some x => x | none => (u, w, k)) ts

/-- The effective taps of the head's tiles (R341). -/
def tapsFollow (h ha : Nat) : Act := look fun s =>
  each ((List.range 16).flatMap fun c => s.scalerTaps (fun g => s.rd .PX_W g) h c ha) fun (t, _, k) =>
    if s.rd .TL_VTAPS_EFF h t = k then skip
    else all [set .TL_VTAPS_EFF k h t,
      iff (decide (k < s.rd .TL_VTAPS h t)) (all [count .MV_TAP_CLAMPS 1 h, raise .MOSS_TAP_CLAMP (tileNo h t) k])]

/-- The scaling ratio of a tile is clamped (R340): its size at the head over its surface's lies outside 1/8 to 2. -/
def State.ratioClamped (s : State) (h t wa ha : Nat) : Bool :=
  let n := tileNo h t
  let out (size surface : Nat) : Bool := surface != 0 && (decide (2 * surface < size) || decide (8 * size < surface))
  out (headX wa (s.rd .TL_W h t)) (s.qn .tlSize n 0) || out (headY ha (s.rd .TL_H h t)) (s.qn .tlSize n 1)

/-- A tile at a head frame start (R342, R343). -/
def tileJudge (h t wa ha : Nat) : Act := look fun s =>
  let n := tileNo h t
  let g := s.rd .TL_PX h t
  if s.rd .TL_EN h t = 0 then
    iff (s.rd .TL_STATE h t != 0 || s.q .tlPx n != 0) (all [set .TL_STATE 0 h t, set .TL_HOLD_COUNT 0 h t, set .TL_VTAPS_EFF 0 h t, set .TL_STALE 0 h t,
      put .tlPx 0 n, put .tlClamp 0 n, put .tlSize 0 n 0, put .tlSize 0 n 1, putPic (shownAt n) []])
  else
    let fresh := s.q .tlPx n != ((g + 1 : Nat) : Int)
    let hold := if fresh then 0 else s.rd .TL_HOLD_COUNT h t
    let old := if fresh then 0 else s.rd .TL_STATE h t
    let ready := s.pxKind g != 0 && s.rd .PX_MISS g == 0 && s.q .pxDone g != 0
    let surface (w h_ : Nat) (p : List (List Nat)) : Act := all [put .tlSize w n 0, put .tlSize h_ n 1, putPic (shownAt n) p]
    all [
      put .tlPx (g + 1 : Nat) n,
      if ready then surface (s.rd .PX_W g) (s.rd .PX_H g) (s.pic (surfaceAt g)) else iff fresh (surface 0 0 []),
      look fun s =>
        let clamped := s.ratioClamped h t wa ha && (ready || decide (hold + 1 ≤ s.rd .TL_HOLD h t))
        all [iff (clamped && s.q .tlClamp n == 0) (raise .MOSS_TAP_CLAMP n), put .tlClamp (b2n clamped) n],
      if ready then all [set .TL_STATE 1 h t, set .TL_HOLD_COUNT 0 h t]
      else if hold + 1 ≤ s.rd .TL_HOLD h t then
        all [set .TL_STATE 2 h t, set .TL_HOLD_COUNT (hold + 1) h t, count .TL_HOLDS 1 h t, count .MV_HOLDS 1 h,
          iff (old != 2) (raise .MOSS_TILE_HOLD n)]
      else all [set .TL_STATE 3 h t, set .TL_HOLD_COUNT (s.rd .TL_HOLD h t) h t,
        iff (old != 3) (all [count .TL_NOSIGS 1 h t, count .MV_NOSIGS 1 h, raise .MOSS_TILE_NO_SIGNAL n])]]

-- Regions ----------------------------------------------------------------------------------------------------------

/-- The area of a region in head samples, of fields read by `f` (R349, R350). -/
def regionArea (wa ha : Nat) (f : Fld → Nat) (tile : Fld → Nat) : Nat :=
  let rect (x y w h : Nat) : Nat := (headX wa (x + w) - headX wa x) * (headY ha (y + h) - headY ha y)
  let x := tile .TL_X
  let y := tile .TL_Y
  let w := tile .TL_W
  let h := tile .TL_H
  match f .RG_KIND with
  | 0 => rect (f .RG_X) (f .RG_Y) (f .RG_W) (f .RG_H)
  | 1 => rect x y w h
  | 2 => if tile .TL_UMD_TOP = 1 then rect x y w (umdHeight (tile .TL_UMD_SIZE)) else rect x (y + h - umdHeight (tile .TL_UMD_SIZE)) w (umdHeight (tile .TL_UMD_SIZE))
  | 3 => let b := tile .TL_BORDER; rect x y w h - rect (x + b) (y + b) (w - 2 * b) (h - 2 * b)
  | _ => rect (x + w - 24 * tile .TL_METERS) y (24 * tile .TL_METERS) h

/-- The sum of the areas of a head's enabled regions (R349). -/
def State.sigArea (s : State) (h : Nat) : Nat :=
  let (wa, ha) := activeSize (s.rd .RD_FORMAT (s.rd .VO_DOMAIN (s.rd .MV_OUT_POS h)))
  ((List.range 256).filter fun r => s.rd .RG_EN h r == 1).foldl (fun a r =>
    a + regionArea wa ha (fun f => s.rd f h r) (fun f => s.rd f h (s.rd .RG_TILE h r))) 0

/-- The check of a region over the frame that has just ended (R350, R351, R352): RG_ACT and RG_EXP are the CRC of its samples as composed, each but for the
bits in which its path has failed, `fault`. -/
def regionJudge (h r : Nat) (fault : Nat × Nat) : Act := look fun s =>
  let n := regionNo h r
  let t := s.rd .RG_TILE h r
  let kind := s.rd .RG_KIND h r
  if s.rd .RG_EN h r = 0 then iff (s.rd .RG_STATE h r != 0) (all [iff (s.rd .RG_STATE h r == 3) (set .TL_STALE 0 h t), set .RG_STATE 0 h r, put .rgHold 0 n, put .rgCrc 0 n])
  else if kind = 1 ∧ s.rd .TL_STATE h t = 3 then all [set .RG_STATE 3 h r, set .TL_STALE 1 h t]
  else if s.q .rgCrc n = 0 then skip
  else
      let act := Nat.xor (s.qn .rgCrc n - 1) (fault.1 % 2 ^ 32)
      let exp := Nat.xor (s.qn .rgCrc n - 1) (fault.2 % 2 ^ 32)
      let bad := fault.1 % 2 ^ 32 != fault.2 % 2 ^ 32
      let safe := (kind == 2 || kind == 3) && s.rd .RG_FORCE h r == 1
      all [set .RG_ACT act h r, set .RG_EXP exp h r, set .RG_STATE (if bad then 2 else 1) h r, iff (kind == 1) (set .TL_STALE 0 h t),
        iff bad (all [count .RG_MISMATCHES 1 h r, count .MV_MISMATCHES 1 h, raisePerSecond .MOSS_SIG_MISMATCH .rgAt n exp]),
        put .rgHold (if bad then (if safe || decide (0 < s.q .rgHold n) then (s.rd .RG_CLEAR h r : Int) else 0) else s.q .rgHold n - min 1 (s.q .rgHold n)) n]

/-- The unverified borders of a head's tiles; one ends for good where its region or its tile is disabled (R352). -/
def borders (h : Nat) : Act := look fun s =>
  let marked := (List.range 256).filter fun r => s.rd .RG_EN h r == 1 && decide (0 < s.q .rgHold (regionNo h r))
  let on (t : Nat) : Bool := s.rd .TL_EN h t == 1 && marked.any fun r => s.rd .RG_TILE h r == t
  all [each (marked.filter fun r => s.rd .TL_EN h (s.rd .RG_TILE h r) == 0) (fun r => put .rgHold 0 (regionNo h r)),
    each ((List.range 64).filter fun t => b2n (on t) != s.rd .TL_UNVERIFIED h t) (fun t =>
      all [set .TL_UNVERIFIED (b2n (on t)) h t, raise .MOSS_UNVERIFIED (tileNo h t) (b2n (on t))]),
    set .MV_UNVERIFIED (((List.range 64).filter on).length) h]

-- Pictures ---------------------------------------------------------------------------------------------------------

/-- A peak magnitude in hundredths of a dB above −60 dBFS, 0 to 6,000 (R346): ⌊6000 + 2000 log10(p / 2^23)⌋. -/
def meterLevel (p : Nat) : Nat := min 6000 (Nat.log 10 (p ^ 2000 * 10 ^ 6000 / 2 ^ 46000))

/-- The field with bar `i`'s tap. -/
def meterField (i : Nat) : Fld :=
  [Fld.TL_METER_AD0, .TL_METER_AD1, .TL_METER_AD2, .TL_METER_AD3, .TL_METER_AD4, .TL_METER_AD5, .TL_METER_AD6, .TL_METER_AD7, .TL_METER_AD8,
    .TL_METER_AD9, .TL_METER_AD10, .TL_METER_AD11, .TL_METER_AD12, .TL_METER_AD13, .TL_METER_AD14, .TL_METER_AD15].getD i .TL_METER_AD0

/-- A tile's meters over the frame period before a frame start of domain `d` (R346). -/
def metersFollow (d h t : Nat) : Act := look fun s =>
  match s.domFormat d with
  | none => skip
  | some f =>
    each (List.range (if s.rd .TL_EN h t = 1 then s.rd .TL_METERS h t else 0)) fun i =>
      let dst := s.rd (meterField i) h t % 2 ^ 13
      let from_ := s.sampleAt s.house - s.rate * f.den / f.num
      let peak := (s.peaks.filter fun (e, j, _) => e == dst && decide (from_ ≤ j)).foldl (fun a (_, _, m) => max a m) 0
      put .mtLevel (max (meterLevel peak) (s.qn .mtLevel (tileNo h t) i - 2000 * f.den / f.num) : Nat) (tileNo h t) i

/-- A head's picture of the frame that starts now, and the CRCs of its regions (R339, R350). -/
def headCompose (d h : Nat) : Act := look fun s =>
  match s.domFormat d with
  | none => skip
  | some f =>
    let fmt := s.rd .RD_FORMAT d
    let (wa, ha) := activeSize fmt
    all [putPic (1024 + 2 * h + f.frameAt s.house % 2) (s.headPicture h fmt f),
      each ((List.range 256).filter fun r => s.rd .RG_EN h r == 1) fun r => put .rgCrc (s.regionCrc f h r wa ha + 1 : Nat) (regionNo h r)]

-- Heads ------------------------------------------------------------------------------------------------------------

/-- The raster domain of a head (R333). -/
def State.headDomain (s : State) (h : Nat) : Nat := s.rd .VO_DOMAIN (s.rd .MV_OUT_POS h)

/-- A head's state (R334). -/
def headState (h new : Nat) : Act := moveState .MV_STATE .MOSS_HEAD_STATE h new

/-- A frame start of domain `d` at a head (R334, R340 to R343, R348, R351, R352). -/
def headFrameStart (d h : Nat) (sigs : List (Nat × Nat × Nat × Nat)) : Act := look fun s =>
  if s.rd .MV_STATE h = 0 ∨ s.headDomain h ≠ d then skip
  else if !s.domReady d then iff (s.rd .MV_STATE h == 2) (headState h 1)
  else
    let (wa, ha) := activeSize (s.rd .RD_FORMAT d)
    let was := s.rd .MV_STATE h = 2
    all [
      headState h 2,
      iff (decide was) (each ((List.range 256).filter fun r => s.rd .RG_EN h r == 1 || s.rd .RG_STATE h r != 0) fun r =>
        regionJudge h r (((sigs.find? fun x => x.1 == h && x.2.1 == r).map fun x => x.2.2).getD (0, 0))),
      each (List.range 64) fun t => tileJudge h t wa ha,
      tapsFollow h ha, borders h, each (List.range 64) (metersFollow d h), headCompose d h,
      look fun s => all [set .MV_TILES_LIVE (((List.range 64).filter fun t => s.rd .TL_STATE h t == 1).length) h, set .MV_SIG_AREA (s.sigArea h) h]]

/-- Moss at a frame start of domain `d`: generators first, then heads; in RESTRICTED the heads carry nothing (R450). -/
def mossFrameStart (d : Nat) (sigs : List (Nat × Nat × Nat × Nat)) : Act := look fun s =>
  if s.idleBlock 13 ∨ s.rd .SU_STATE = 5 then skip
  else all [each ((List.range 256).filter fun g => s.rd .PX_KIND g != 0 || s.q .pxPend g == 1) (pxFrameStart d),
    each (List.range 4) fun h => headFrameStart d h sigs]

-- Commands ---------------------------------------------------------------------------------------------------------

/-- PROXY_SURFACE_COMPLETE (R337, R338): `uncorr` codewords of it could not be corrected. -/
def execProxySurfaceComplete (t gen uncorr : Nat) (s : State) : Host.Outcome State Fault Refusal :=
  run (all [at_ t, surfaceDone gen uncorr]) s

end Sys2Proof.Machine
end

