-- ==== Sys2Proof/Machine/Ranges.lean ====
section
/-! DEFINITION. The "Range or clamp" column of the object maps (R11): what is made of a value written to a field. A check sees the other
fields as they will stand when the write takes effect (R349, R445). -/
set_option Elab.async false
namespace Sys2Proof.Machine

/-- What a check makes of a value: stored as it is, stored clamped, or refused. -/
inductive Verdict where
  | ok (v : Nat)
  | clamped (v : Nat)
  | refused (st : Status)
  deriving DecidableEq, Repr

/-- What a check sees: the role of the module written, its AM_RATE and format fields through `get`, the stamp's domain, whether the write is a
record of the image, and whether it comes from an ordered WRITE of the active manager itself. -/
structure View where
  role : Nat
  img : Bool
  dom : Nat
  own : Bool
  get : Fld → Nat → Nat → Nat

/-- A value of a field limited to an interval; an interval whose lower bound lies above its upper one is of two's complement numbers. -/
def clampTo (f : Fld) (lo hi v : Nat) : Verdict :=
  let w := f.desc.width
  let x := if lo ≤ hi then clampNat lo hi v else ofSigned (clampInt (toSigned lo w) (toSigned hi w) (toSigned v w)) w
  if x = v then .ok v else .clamped x

/-- A value of a field limited to an interval of two's complement numbers. -/
def clampS (f : Fld) (lo hi : Int) (v : Nat) : Verdict :=
  let w := f.desc.width
  let x := ofSigned (clampInt lo hi (toSigned v w)) w
  if x = v then .ok v else .clamped x

/-- The value stands if the condition holds; the write is refused with `st` otherwise. -/
def must (c : Bool) (v : Nat) (st : Status := .REFUSED) : Verdict := if c then .ok v else .refused st

/-- One check, then another of what it stores. -/
def Verdict.then_ (a : Verdict) (k : Nat → Verdict) : Verdict :=
  match a with
  | .refused st => .refused st
  | .ok v => k v
  | .clamped v => match k v with | .ok x => .clamped x | b => b

/-- `a`, unless one of the checks is broken: the first one's status. -/
def Verdict.but (a : Verdict) (cs : List (Bool × Status)) : Verdict :=
  match a, cs.find? fun c => !c.1 with
  | .refused st, _ => .refused st
  | a, none => a
  | _, some c => .refused c.2

namespace View

/-- A field of which there is one copy, or the first. -/
def at0 (w : View) (f : Fld) : Nat := w.get f 0 0

/-- Domain `d` is enabled (R40). -/
def on (w : View) (d : Nat) : Bool := w.get .RD_FORMAT d 0 != 0

/-- The format of an output's, and of an input's domain. -/
def voFmt (w : View) (n : Nat) : Nat := w.get .RD_FORMAT (w.get .VO_DOMAIN n 0) 0
def viFmt (w : View) (n : Nat) : Nat := w.get .RD_FORMAT (w.get .VI_DOMAIN n 0) 0

/-- Edge ports. -/
def ports (w : View) : Nat := if w.role = 1 then 256 else if w.role = 2 then 128 else 0

/-- The port is an IP position: both port modes are 2 (07_ip_media_flows.md). -/
def ipPos (w : View) (n : Nat) : Bool := decide (n < w.ports) && w.get .VI_PORT_MODE n 0 == 2 && w.get .VO_PORT_MODE n 0 == 2

/-- The port is an IP position with a media MAC (R183). -/
def hasMac (w : View) (n : Nat) : Bool := w.ipPos n && w.get .MC_MODE n 0 != 0

/-- The matrix runs at 96 kHz. -/
def fast (w : View) : Bool := w.at0 .AM_RATE == 1
def rate (w : View) : Nat := if w.fast then 96000 else 48000

-- IP media flows (R163, R164, R178 to R181) -------------------------------------------------------------------------

/-- The port to which an ingress or egress slot belongs (R210, R212), if any. -/
def slotPort (w : View) (egress : Bool) (k : Nat) : Option Nat :=
  if w.role = 2 then some k
  else if w.get (if egress then .AM_EMB_EN else .AM_DEEMB_EN) k 0 = 1 then some (w.get (if egress then .AM_EMB_PORT else .AM_DEEMB_PORT) k 0)
  else none

/-- The slot belongs to the range of IP audio flows: its port is an IP position, or it has none (R210, R212). -/
def ipSlot (w : View) (egress : Bool) (k : Nat) : Bool :=
  match w.slotPort egress k with
  | none => true
  | some p => w.ipPos p

/-- `n` consecutive channels from `first` lie in the range of IP audio flows. -/
def ipRange (w : View) (egress : Bool) (first n : Nat) : Bool :=
  (List.range n).all fun i =>
    match (if egress then chanOfDest w.fast (first + i) else chanOfSource w.fast (first + i)) with
    | some (.edge slot _) => w.ipSlot egress slot
    | _ => false

/-- Samples in a packet of an audio flow (R181). -/
def packetSamples (w : View) (ptime : Nat) : Nat := match ptime with | 0 => w.rate / 1000 | 1 => w.rate / 8000 | _ => w.rate / 4000

/-- The bytes of a sample in a packet: 2 for L16, 3 for L24, 4 for AES3 subframes (R164). -/
def sampleBytes (mode l16 : Nat) : Nat := if mode = 2 then 4 else if l16 = 1 then 2 else 3

/-- An audio flow's fields by kind. -/
def aMode (tx : Bool) : Fld := if tx then .OA_MODE else .IA_MODE
def aCh (tx : Bool) : Fld := if tx then .OA_CHANNELS else .IA_CHANNELS
def aPtime (tx : Bool) : Fld := if tx then .OA_PTIME else .IA_PTIME
def aL16 (tx : Bool) : Fld := if tx then .OA_L16 else .IA_L16

/-- The channels of all audio flows of a direction stay within the bound of R164. -/
def channelsOk (w : View) (tx : Bool) : Bool :=
  decide ((List.range 512).foldl (fun a k => if w.get (aMode tx) k 0 = 0 then a else a + w.get (aCh tx) k 0) 0 ≤ (if w.fast then 2048 else 4096))

/-- A packet of audio flow `k` stays within 1,440 bytes (R164). -/
def packetOk (w : View) (tx : Bool) (k : Nat) : Bool :=
  decide (w.get (aCh tx) k 0 * w.packetSamples (w.get (aPtime tx) k 0) * sampleBytes (w.get (aMode tx) k 0) (w.get (aL16 tx) k 0) ≤ 1440)

/-- The sources of receive flow `k` lie in their range and in no other flow's (R178); the destinations of a send flow in theirs (R179). -/
def rangeOk (w : View) (tx : Bool) (k : Nat) : Bool :=
  if w.get (aMode tx) k 0 = 0 then true
  else
    let n := w.get (aCh tx) k 0
    let first := w.get (if tx then .OA_FIRST_AD else .IA_FIRST_AS) k 0
    w.ipRange tx first n && (tx || (List.range 512).all fun j =>
      j == k || w.get .IA_MODE j 0 == 0 || decide (w.get .IA_FIRST_AS j 0 + w.get .IA_CHANNELS j 0 ≤ first) || decide (first + n ≤ w.get .IA_FIRST_AS j 0))

/-- Octets of IP, UDP and RTP headers, and of preamble, gap, Ethernet header and FCS (R163). -/
def headOctets (ipv6 vlan : Nat) : Nat := (if ipv6 = 1 then 60 else 40) + (if vlan = 0 then 38 else 42)

/-- The rate on the wire of a flow of -20 packets split as R167 splits them, in bit/s, rounded up; its payload header is ST 2110-20's
8 octets (log 20). -/
def rate20 (fmt head : Nat) : Nat :=
  match format fmt with
  | none => 0
  | some f =>
    let (x, y) := activeSize fmt
    let bytes := x * 5 / 2
    ceilDiv (y * (ceilDiv bytes 1200 * (head + 8) + bytes) * 8 * f.num) f.den

/-- The rate of an ST 2022-6 stream of a format: 1,376 octets of the SDI stream and 8 of its header in a datagram (log 20). -/
def rate6 (fmt head : Nat) : Nat :=
  let sdi := match lowestStd fmt with | 1 => 270000000 | 2 => 1485000000 | 3 => 2970000000 | _ => 0
  ceilDiv (sdi * (1376 + 8 + head)) 1376

/-- The rate of an audio flow. -/
def rateAud (w : View) (samples ch bytes head : Nat) : Nat := if samples = 0 then 0 else ceilDiv (w.rate * (ch * samples * bytes + head) * 8) samples

/-- The rate that receive position `n` brings to MAC `m`, of fields read by `g`. -/
def ivRate (w : View) (n m : Nat) (g : Fld → Nat) : Nat :=
  let head := headOctets (g .IV_IPV6) 0
  let r := match g .IV_MODE with | 1 => rate20 (g .IV_FMT) head | 2 => rate6 (w.viFmt n) head | _ => 0
  (if g .IV_MAC_A = m then r else 0) + (if g .IV_DUAL = 1 ∧ g .IV_MAC_B = m then r else 0)

/-- The rate that an audio receive flow brings to MAC `m`. -/
def iaRate (w : View) (m : Nat) (g : Fld → Nat) : Nat :=
  let r := if g .IA_MODE = 0 then 0 else
    w.rateAud (w.packetSamples (g .IA_PTIME)) (g .IA_CHANNELS) (sampleBytes (g .IA_MODE) (g .IA_L16)) (headOctets (g .IA_IPV6) 0)
  (if g .IA_MAC_A = m then r else 0) + (if g .IA_DUAL = 1 ∧ g .IA_MAC_B = m then r else 0)

/-- The rates that send flows bring to MAC `m`. -/
def ovRate (w : View) (n m : Nat) : Nat :=
  let g (f : Fld) : Nat := w.get f n 0
  let r := if g .OV_MODE = 0 then 0 else rate20 (w.voFmt n) (headOctets (g .OV_IPV6) (g .OV_VLAN))
  (if g .OV_MAC_A = m then r else 0) + (if g .OV_DUAL = 1 ∧ g .OV_MAC_B = m then r else 0)
def oaRate (w : View) (k m : Nat) : Nat :=
  let g (f : Fld) : Nat := w.get f k 0
  let r := if g .OA_MODE = 0 then 0 else
    w.rateAud (w.packetSamples (g .OA_PTIME)) (g .OA_CHANNELS) (sampleBytes (g .OA_MODE) (g .OA_L16)) (headOctets (g .OA_IPV6) (g .OA_VLAN))
  (if g .OA_MAC_A = m then r else 0) + (if g .OA_DUAL = 1 ∧ g .OA_MAC_B = m then r else 0)

/-- What a MAC carries in a direction stays within its bound (R163). -/
def macOk (w : View) (tx : Bool) (m : Nat) : Bool :=
  let cap := if w.get .MC_MODE m 0 = 2 then 23750000000 else 9500000000
  let v := (List.range 256).foldl (fun a n => a + if tx then w.ovRate n m else w.ivRate n m fun f => w.get f n 0) 0
  let x := (List.range 512).foldl (fun a k => a + if tx then w.oaRate k m else w.iaRate m fun f => w.get f k 0) 0
  decide (v + x ≤ cap)

/-- The MACs of both legs of a flow stay within their bound. -/
def legsOk (w : View) (tx : Bool) (a b : Fld) (i : Nat) : Bool := w.macOk tx (w.get a i 0) && w.macOk tx (w.get b i 0)

/-- An address field is well formed for its family: an IPv4 address leaves three words 0 (R180). -/
def addrForm (ipv6 v : Nat) : Bool := ipv6 == 1 || decide (v < 2 ^ 32)

/-- A group may be joined on a MAC: it is a multicast address or the MAC's own unicast address, which no field gives (log 20). -/
def groupOk (ipv6 mac v : Nat) : Bool := addrForm ipv6 v && (Machine.multicast ipv6 v || v == Config.ownAddress mac ipv6)

-- Gates (R192, R195) -------------------------------------------------------------------------------------------------

/-- The cycle time of a port as a fraction of ps. -/
def cycle (w : View) (p : Nat) : Nat × Nat :=
  if w.get .MC_GATE_LOCK p 0 = 0 then (w.get .MC_GATE_CYCLE_NS p 0 * psNs, 1)
  else match format (w.get .RD_FORMAT (w.get .MC_GATE_DOMAIN p 0) 0) with
    | some f => (f.den * psS, f.num * w.get .MC_GATE_PER_FRAME p 0)
    | none => (0, 1)

/-- The gate list: intervals in ns, and gates. -/
def gates (w : View) (p : Nat) : List (Nat × Nat) :=
  (List.range (w.get .MC_GATE_ENTRIES p 0)).map fun e => (w.get .GL_INTERVAL_NS p e, w.get .GL_GATES p e)

/-- The longest closed run in a list of intervals, `now` being the run so far. -/
def closedRun (c : Nat) : List (Nat × Nat) → Nat → Nat
  | [], now => now
  | (i, g) :: r, now => if bit g c then max now (closedRun c r 0) else closedRun c r (now + i)

/-- Class `c` is never closed for more than 2 us (R195): the list's last gates hold to the end of the cycle, and the cycle repeats. -/
def classOpen (w : View) (p c : Nat) : Bool :=
  let l := w.gates p
  let (n, d) := w.cycle p
  let sum := (l.map Prod.fst).sum
  let rest := n / (d * psNs) - sum
  let full := match l.getLast? with | some (_, g) => l ++ [(rest, g)] | none => []
  (full.any fun x => bit x.2 c && x.1 != 0) && decide (closedRun c (full ++ full) 0 ≤ 2000)

/-- The classes of the send flows that a MAC carries (R188). -/
def mediaClasses (w : View) (p : Nat) : List Nat :=
  ((List.range 256).filter fun n => w.get .OV_MODE n 0 != 0 && (w.get .OV_MAC_A n 0 == p || (w.get .OV_DUAL n 0 == 1 && w.get .OV_MAC_B n 0 == p))).map
    (fun n => w.get .OV_PCP n 0)
  ++ ((List.range 512).filter fun k => w.get .OA_MODE k 0 != 0 && (w.get .OA_MAC_A k 0 == p || (w.get .OA_DUAL k 0 == 1 && w.get .OA_MAC_B k 0 == p))).map
    (fun k => w.get .OA_PCP k 0)

/-- No send flow of the port is in a class that its gates close for too long. -/
def mediaOk (w : View) (p : Nat) : Bool := decide (256 ≤ p) || w.get .MC_URGENT_MODE p 0 != 2 || (w.mediaClasses p).all fun c => w.classOpen p c

/-- A send flow of class `c` may leave on the MAC of port `p` (R195). -/
def pcpOk (w : View) (p c : Nat) : Bool := w.get .MC_URGENT_MODE p 0 != 2 || w.classOpen p c

/-- The checks of R192 and R195 over the gate fields of a port. -/
def gateChecks (w : View) (p : Nat) : List (Bool × Status) :=
  if w.get .MC_URGENT_MODE p 0 ≠ 2 then []
  else
    let (n, d) := w.cycle p
    let lock := w.get .MC_GATE_LOCK p 0 == 1
    [(!lock || decide (d * psUs ≤ n), .GATE_CYCLE), (decide (((w.gates p).map Prod.fst).sum * psNs * d ≤ n), .GATE_SUM),
      (!lock || decide (w.get .MC_GATE_OFFSET_NS p 0 * psNs * d < n), .GATE_OFFSET), (w.mediaOk p, .GATE_MEDIA)]

-- TDM (R268) ----------------------------------------------------------------------------------------------------------

/-- The fastest frame rate a port may run, mHz. -/
def tdFastest (w : View) (p : Nat) : Nat := if w.get .TD_RATE p 0 = 3 then 96000000 else tdRateMHz (w.get .TD_RATE p 0)

/-- The conditions on a port's frame (R268). -/
def frameChecks (w : View) (p : Nat) : List (Bool × Status) :=
  [(!(w.get .TD_MASTER p 0 == 1 && w.get .TD_RATE p 0 == 3), .BAD_RATE),
    (!(w.get .TD_FMT p 0 == 1 && w.get .TD_WIDTH p 0 != 32), .BAD_FORMAT),
    (decide (w.get .TD_OFFSET p 0 + w.get .TD_SLOTS p 0 * w.get .TD_WIDTH p 0 ≤ w.get .TD_FRAME_BCLK p 0), .FRAME_FIT),
    (decide (w.tdFastest p * w.get .TD_FRAME_BCLK p 0 ≤ 50000000000), .BCLK_RATE)]

/-- A slot mask without the bits that name no slot (R271, R288). -/
def maskClamp (w : View) (p v : Nat) : Verdict :=
  let x := v % 2 ^ (min (w.get .TD_SLOTS p 0) (if w.fast then 16 else 32))
  if x = v then .ok v else .clamped x

-- Moss (R349) ---------------------------------------------------------------------------------------------------------

/-- An even value clamped to an interval, odd ones down (R354). -/
def evenClamp (lo hi v : Nat) : Verdict :=
  let x := clampNat lo (max lo hi) (v / 2 * 2)
  if x = v then .ok v else .clamped x

/-- The sum of the areas of a head's enabled regions as the layout will stand. -/
def area (w : View) (h : Nat) : Nat :=
  let (wa, ha) := activeSize (w.voFmt (w.get .MV_OUT_POS h 0))
  ((List.range 256).filter fun r => w.get .RG_EN h r == 1).foldl (fun a r =>
    a + regionArea wa ha (fun f => w.get f h r) (fun f => w.get f h (w.get .RG_TILE h r))) 0

/-- Every enabled region of kinds 1 to 4 names an enabled tile (log 20). -/
def tilesOk (w : View) (h : Nat) : Bool :=
  (List.range 256).all fun r => w.get .RG_EN h r == 0 || w.get .RG_KIND h r == 0 || w.get .TL_EN h (w.get .RG_TILE h r) == 1

/-- The checks of R349 over a head's layout. -/
def layoutChecks (w : View) (h : Nat) : List (Bool × Status) := [(decide (w.area h ≤ 2073600), .SIG_AREA), (w.tilesOk h, .NO_SUCH_TILE)]

end View

/-- The meter fields of a tile. -/
def meterFields : List Fld :=
  [.TL_METER_AD0, .TL_METER_AD1, .TL_METER_AD2, .TL_METER_AD3, .TL_METER_AD4, .TL_METER_AD5, .TL_METER_AD6, .TL_METER_AD7,
   .TL_METER_AD8, .TL_METER_AD9, .TL_METER_AD10, .TL_METER_AD11, .TL_METER_AD12, .TL_METER_AD13, .TL_METER_AD14, .TL_METER_AD15]

/-- Every nibble of an embedding map lies in 0 to 8, and no group but 0 is named twice (R159). -/
def embMapOk (v : Nat) : Bool :=
  let g := (List.range 8).map fun k => bits v (4 * k) 4
  g.all (fun x => decide (x ≤ 8)) && ((g.filter fun x => x != 0).dedup.length == (g.filter fun x => x != 0).length)

/-- The largest power of two at or below `v`, and at least 32 (R200). -/
def ringLen (v : Nat) : Nat := if v = 0 then 0 else max 32 (min 32768 (2 ^ Nat.log2 v))

/-- The range rules of single fields that no interval states (R11). -/
def ruleCheck (w : View) (f : Fld) (i j v : Nat) : Verdict :=
  let g (x : Fld) : Nat := w.get x i 0
  match f with
  -- 01: geometry and role (R37, R39)
  | .SYS_ROLE => must (decide (1 ≤ v) && decide (v ≤ 3)) v
  | .SYS_PLANE => must (if w.role = 3 then v == 1 || v == 2 else v == 0) v
  | .SYS_GEOM => must (decide (1 ≤ v) && decide (v ≤ 5)) v
  | .SYS_EDGE_COUNT => must (if w.at0 .SYS_GEOM = 1 then v == 1 else decide (2 ≤ v) && decide (v ≤ maxEdges (w.at0 .SYS_GEOM))) v
  | .SYS_MGR_A => must (if w.at0 .SYS_GEOM = 1 then v == 0 else decide (v ≤ 0x2F) && v != w.at0 .SYS_MGR_B) v
  | .SYS_MGR_B => must (if w.at0 .SYS_GEOM = 1 then v == 0 else decide (v ≤ 0x2F) && v != w.at0 .SYS_MGR_A) v
  | .ORD_RESYNC_REQ => must (v == 1) v
  -- 03, 06: ports (R64, R83, R144, R158, R159)
  | .VI_LINK_MODE | .VO_LINK_MODE => must (v == 0 || (!w.ipPos i && ((v == 1 && i % 4 == 0) || (v == 2 && i % 4 != 0)))) v
  | .VI_DOMAIN | .VO_DOMAIN | .FC_DOMAIN | .TD_DOMAIN | .PO_DOMAIN => must (w.on v) v
  | .VO_STD => must (decide (v ≤ 9) && stdCarries v (w.voFmt i)) v
  | .VO_IDLE_STD =>
    if v = 0 ∨ (v ≤ 8 ∧ stdCarries v (w.voFmt i)) then .ok v else .clamped (lowestStd (w.voFmt i))
  | .VO_OFFSET =>
    if w.ipPos i ∧ v ≠ 0 then .refused .IP_OUTPUT
    else match format (w.voFmt i) with
      | some fm => clampS f (-((fm.samples : Int) - 1)) ((fm.samples : Int) - 1) v
      | none => .ok v
  | .VO_EMB_MAP => must (embMapOk v) v
  -- 07: positions and audio flows (R180, R181)
  | .IV_ANC => must (!(v == 1 && g .IV_MODE == 2)) v
  | .IV_FMT => must (g .IV_MODE == 2 || (decide (1 ≤ v) && decide (v ≤ 0x15))) v
  | .IV_MAC_A => (must (w.hasMac v) v .NO_MAC).then_ fun v => must (g .IV_MODE == 0 || View.groupOk (g .IV_IPV6) v (g .IV_GRP_A)) v .BAD_ADDRESS
  | .IV_MAC_B => (must (w.hasMac v) v .NO_MAC).then_ fun v => must (g .IV_MODE == 0 || g .IV_DUAL == 0 || View.groupOk (g .IV_IPV6) v (g .IV_GRP_B)) v .BAD_ADDRESS
  | .IA_MAC_A => (must (w.hasMac v) v .NO_MAC).then_ fun v => must (g .IA_MODE == 0 || View.groupOk (g .IA_IPV6) v (g .IA_GRP_A)) v .BAD_ADDRESS
  | .IA_MAC_B => (must (w.hasMac v) v .NO_MAC).then_ fun v => must (g .IA_MODE == 0 || g .IA_DUAL == 0 || View.groupOk (g .IA_IPV6) v (g .IA_GRP_B)) v .BAD_ADDRESS
  | .OV_MAC_A | .OV_MAC_B | .OA_MAC_A | .OA_MAC_B => must (w.hasMac v) v .NO_MAC
  | .IV_GRP_A => must (View.groupOk (g .IV_IPV6) (g .IV_MAC_A) v) v .BAD_ADDRESS
  | .IV_GRP_B => must (View.groupOk (g .IV_IPV6) (g .IV_MAC_B) v) v .BAD_ADDRESS
  | .IA_GRP_A => must (View.groupOk (g .IA_IPV6) (g .IA_MAC_A) v) v .BAD_ADDRESS
  | .IA_GRP_B => must (View.groupOk (g .IA_IPV6) (g .IA_MAC_B) v) v .BAD_ADDRESS
  | .IV_SRC_A | .IV_SRC_B => must (View.addrForm (g .IV_IPV6) v && !Machine.multicast (g .IV_IPV6) v) v
  | .IA_SRC_A | .IA_SRC_B => must (View.addrForm (g .IA_IPV6) v && !Machine.multicast (g .IA_IPV6) v) v
  | .OV_GRP_A | .OV_GRP_B => must (View.addrForm (g .OV_IPV6) v) v
  | .OA_GRP_A | .OA_GRP_B => must (View.addrForm (g .OA_IPV6) v) v
  | .IA_L16 => must (!(v == 1 && g .IA_MODE == 2)) v
  | .OA_L16 => must (!(v == 1 && g .OA_MODE == 2)) v
  | .IA_CHANNELS => must (decide (1 ≤ v) && decide (v ≤ 64) && (g .IA_MODE != 2 || v % 2 == 0)) v
  | .OA_CHANNELS => must (decide (1 ≤ v) && decide (v ≤ 64) && (g .OA_MODE != 2 || v % 2 == 0)) v
  | .IA_PLAYOUT => clampTo f (2 * w.packetSamples (g .IA_PTIME)) 4800 v
  -- 08: ports (R183, R184, R190, R192, R200, R203 to R206)
  | .MC_MODE =>
    if i < 256 then must (v == 0 || (decide (v ≤ 2) && w.ipPos i)) v
    else if i < 258 then must (v == 1 || v == 3) v else must (v == 3 || v == 4) v
  | .MC_FEC => if g .MC_MODE = 2 ∧ v ≤ 2 then .ok v else if v = 0 then .ok 0 else .clamped 0
  | .MC_EXPRESS => if g .MC_URGENT_MODE = 1 ∧ !bit v 7 then .clamped (v + 128) else .ok v
  | .MC_GATE_DOMAIN => must (w.on v) v
  | .MC_GATE_PER_FRAME => must (decide (1 ≤ v) && decide (v ≤ 1024)) v
  | .MC_GATE_OFFSET_NS => if g .MC_GATE_LOCK = 1 then .ok v else must (decide (v < g .MC_GATE_CYCLE_NS)) v
  | .GL_INTERVAL_NS => must (decide (1 ≤ v) && decide (v ≤ 1000000000)) v
  | .MC_SLEEP => must (v == 0 || decide (256 ≤ i)) v .NOT_SUPPORTED
  | .MC_EEE => must (v == 0 || i == 256 || i == 257) v .NOT_SUPPORTED
  | .MQ_RING_LEN => if ringLen v = v then .ok v else .clamped (ringLen v)
  -- 09: audio (R209, R211, R236 to R238)
  | .AD_MM_EN => must (!(v == 1 && g .AD_TRANSP == 1)) v
  | .AD_MM_BUS => must (decide (v < busCount w.fast) && w.get .BUS_CLASS v 0 == 1) v
  | .AD_MM_AS | .AN_LOOK_SRC => must (chanOfSource w.fast v).isSome v .NO_SUCH_SOURCE
  | .AN_LOOK_DST => must (if w.at0 .AN_LOOK_DBUS = 1 then decide (v < busCount w.fast) else (chanOfDest w.fast v).isSome) v .NO_SUCH_DEST
  | .GEN_GAP_MS => clampTo f 1 (min 4000 (g .GEN_PERIOD_MS - 1)) v
  | .AM_DEEMB_PORT | .AM_DEEMB_EN => must (w.role == 1 && !(g .AM_DEEMB_EN == 1 && (List.range 128).any fun k =>
      k != i && w.get .AM_DEEMB_EN k 0 == 1 && w.get .AM_DEEMB_PORT k 0 == g .AM_DEEMB_PORT)) v
  | .AM_EMB_PORT | .AM_EMB_EN => must (w.role == 1 && !(g .AM_EMB_EN == 1 && (List.range 128).any fun k =>
      k != i && w.get .AM_EMB_EN k 0 == 1 && w.get .AM_EMB_PORT k 0 == g .AM_EMB_PORT)) v
  -- 10: Fern (R265)
  | .FC_PROG => must (decide (v ≤ 36) || v == 0x3F) v
  | .FP_MODE => must (decide (v ≤ 2)) v
  | .FP_BASE => must (decide (v ≤ 0x2FFFFF)) v
  | .FP_MOD => clampS f (-2097151) 2097151 v
  | .FP_LEN => (if v = 0 ∨ v ≤ 2097151 then .ok v else .clamped 0 : Verdict).then_ fun x =>
      must (!(w.get .FP_MODE i j == 2 && 2 ^ Nat.log2 (lenOf x) != lenOf x)) x .BAD_LENGTH
  | .FT_DELAY => let fb := 8 * 2 ^ g .FC_BLOCK; clampTo f fb ((if w.fast then 393216 else 196608) - 2 * fb) v
  | .FT_LINE => must (decide (v < g .FC_DL_COUNT)) v
  -- 11: TDM (R268, R271, R288)
  | .TD_WIDTH => must (v == 8 || v == 16 || v == 20 || v == 24 || v == 32) v
  | .TD_TX_MASK | .TD_RX_MASK => w.maskClamp i v
  -- 12: reference (R292, R307)
  | .RE_INPUT => must (decide (v ≤ 10) || v == 15) v
  | .RI_FP0_RATE | .RI_FP1_RATE => must (decide (v ≤ 0x15)) v
  | .RI_VIN0_PORT => must (decide (v < w.ports) && w.get .VI_PORT_MODE v 0 == 1) v .NOT_SDI
  -- 13: PTP (R330 to R332)
  | .PD_NUMBER => (must (decide (v ≤ 127)) v).then_ fun x =>
      must (!(w.get .PD_EN 0 0 == 1 && w.get .PD_EN 1 0 == 1 && w.get .PD_NUMBER (1 - i) 0 == x)) x .DUP_DOMAIN
  | .PD_LOG_SYNC => clampS f (-7) 1 v
  | .PD_LOG_ANNC => clampS f (-3) 4 v
  | .PD_LOG_DREQ => let a := toSigned (g .PD_LOG_SYNC) 4; clampS f a (a + 5) v
  | .PD_INCR => clampTo f (incrOne - incrOne / 1000) (incrOne + incrOne / 1000) v
  | .PD_OFFSET => must (decide (bits v 64 32 < 1000000000)) v
  | .PD_UTC_OFFSET => clampTo f 0 255 v
  | .PP_TS_POINT => if v = 0 ∧ (g .MC_MODE = 4 ∨ (g .MC_MODE = 2 ∧ g .MC_FEC = 2)) then .clamped 1 else .ok v
  -- 14: Moss (R354)
  | .MV_OUT_POS => must (decide (v < w.ports) && w.get .VO_LINK_MODE v 0 != 2 &&
      !(List.range 4).any fun h => h != i && w.get .MV_EN h 0 == 1 && w.get .MV_OUT_POS h 0 == v) v
  | .PX_POS => (must (decide (v < w.ports)) v).then_ fun x =>
      must (if g .PX_KIND = 2 then w.get .VO_LINK_MODE x 0 != 2 else w.get .VI_PORT_MODE x 0 != 0 && w.get .VI_LINK_MODE x 0 != 2) x .NO_SUCH_INPUT
  | .TL_X | .RG_X | .EL_X => View.evenClamp 0 3776 v
  | .TL_W => View.evenClamp 64 (3840 - w.get .TL_X i j) v
  | .TL_H => clampTo f 36 (max 36 (2160 - w.get .TL_Y i j)) v
  | .RG_W => View.evenClamp 2 (3840 - w.get .RG_X i j) v
  | .RG_H => clampTo f 1 (max 1 (2160 - w.get .RG_Y i j)) v
  | .RG_FORCE => let k := w.get .RG_KIND i j; if v = 1 ∧ (k = 0 ∨ k = 1 ∨ k = 4) then .clamped 0 else .ok v
  -- 15, 16 (R374, R401)
  | .RD_FAB_POS => must (decide (w.at0 .SYS_EDGE_COUNT ≤ v) && decide (v < maxEdges (w.at0 .SYS_GEOM))) v
  | .RD_TAKEBACK => must (v == 1 && w.own) v .NOT_MANAGER
  | .GP_PULSE_SAMPLE => match format (w.get .RD_FORMAT w.dom 0) with
      | some fm => must (decide (v < fm.spl)) v
      | none => .refused .REFUSED
  -- 17, 19 (R402, R414, R456)
  | .BM_QOS => (must (decide (4 ≤ i) && i != 8) v).then_ fun x => if x = 15 then .clamped 14 else .ok x
  | .SYS_RESTART => must (v == 0x5A5A) v
  -- 21: lanes (R485, R490)
  | .LN_PRBS_NRZ => must (v == 0 || g .LN_USE == 4) v
  | .LN_SDI_RATE => must (v == 0 || (g .LN_USE == 1 && decide (v ≤ 5))) v
  | .LN_TX_MAIN => let top := 63 - g .LN_TX_PRE - g .LN_TX_POST; if 24 ≤ top then clampTo f 24 top v else .refused .REFUSED
  | .LN_TX_RETRY => must (v == 1) v
  | .LN_PRBS_TX => must (decide (v ≤ 4)) v
  | .LN_ES_Y => clampS f (-127) 127 v
  | .LN_ES_EYE => must (if g .LN_USE = 4 ∧ g .LN_PRBS_NRZ = 0 then decide (v ≤ 2) else v == 0) v
  | _ => if meterFields.contains f then
      must (match chanOfDest w.fast (v % 2 ^ 13) with | some (.tap _) => true | _ => false) v .NO_SUCH_DEST
    else .ok v

/-- The "Range or clamp" column for a value of a field. -/
def rangeCheck (w : View) (f : Fld) (i j v : Nat) : Verdict :=
  match f.desc.rng with
  | .any => .ok v
  | .clamp lo hi => clampTo f lo hi v
  | .sclamp lo hi => clampS f lo hi v
  | .refuse lo hi => must (decide (lo ≤ v) && decide (v ≤ hi)) v
  | .rule => ruleCheck w f i j v

-- Checks over several fields -------------------------------------------------------------------------------------------

/-- What binds a field to others, beside its own range: conditions and the status of each when broken (R163, R164, R178, R192, R195, R268,
R349, R476). The fields of one object are read as they will stand. -/
def boundChecks (w : View) (f : Fld) (i : Nat) : List (Bool × Status) :=
  match f with
  | .IV_MODE | .IV_DUAL | .IV_IPV6 | .IV_FMT | .IV_MAC_A | .IV_MAC_B | .VI_DOMAIN =>
    if w.ipPos i ∧ w.get .IV_MODE i 0 ≠ 0 then [(w.legsOk false .IV_MAC_A .IV_MAC_B i, .BANDWIDTH)] else []
  | .OV_MODE | .OV_DUAL | .OV_IPV6 | .OV_MAC_A | .OV_MAC_B | .OV_VLAN | .VO_DOMAIN =>
    if w.ipPos i ∧ w.get .OV_MODE i 0 ≠ 0 then [(w.legsOk true .OV_MAC_A .OV_MAC_B i, .BANDWIDTH)] else []
  | .OV_PCP => [(w.get .OV_MODE i 0 == 0 || (w.pcpOk (w.get .OV_MAC_A i 0) (w.get .OV_PCP i 0)
      && (w.get .OV_DUAL i 0 == 0 || w.pcpOk (w.get .OV_MAC_B i 0) (w.get .OV_PCP i 0))), .GATE_MEDIA)]
  | .OA_PCP => [(w.get .OA_MODE i 0 == 0 || (w.pcpOk (w.get .OA_MAC_A i 0) (w.get .OA_PCP i 0)
      && (w.get .OA_DUAL i 0 == 0 || w.pcpOk (w.get .OA_MAC_B i 0) (w.get .OA_PCP i 0))), .GATE_MEDIA)]
  | .IA_MODE | .IA_L16 | .IA_PTIME | .IA_CHANNELS | .IA_FIRST_AS | .IA_DUAL | .IA_IPV6 | .IA_MAC_A | .IA_MAC_B =>
    if w.get .IA_MODE i 0 = 0 then [] else
      [(w.channelsOk false, .AUDIO_CHANNELS), (w.packetOk false i, .PACKET_SIZE), (w.rangeOk false i, .BAD_RANGE),
        (w.legsOk false .IA_MAC_A .IA_MAC_B i, .BANDWIDTH)]
  | .OA_MODE | .OA_L16 | .OA_PTIME | .OA_CHANNELS | .OA_FIRST_AD | .OA_DUAL | .OA_IPV6 | .OA_MAC_A | .OA_MAC_B | .OA_VLAN =>
    if w.get .OA_MODE i 0 = 0 then [] else
      [(w.channelsOk true, .AUDIO_CHANNELS), (w.packetOk true i, .PACKET_SIZE), (w.rangeOk true i, .BAD_RANGE),
        (w.legsOk true .OA_MAC_A .OA_MAC_B i, .BANDWIDTH)]
  | .MC_GATE_LOCK | .MC_GATE_DOMAIN | .MC_GATE_ENTRIES | .MC_GATE_PER_FRAME | .MC_GATE_OFFSET_NS | .MC_GATE_CYCLE_NS | .GL_INTERVAL_NS
    | .GL_GATES => w.gateChecks i
  | .TD_MASTER | .TD_RATE | .TD_FMT | .TD_SLOTS | .TD_WIDTH | .TD_OFFSET | .TD_FRAME_BCLK => w.frameChecks i
  | .TL_EN | .TL_X | .TL_Y | .TL_W | .TL_H | .TL_UMD_TOP | .TL_UMD_SIZE | .TL_BORDER | .TL_METERS | .RG_EN | .RG_KIND | .RG_TILE | .RG_X
    | .RG_Y | .RG_W | .RG_H => w.layoutChecks i
  | .LN_TX_PRE | .LN_TX_POST => [(decide (w.get .LN_TX_PRE i 0 + w.get .LN_TX_POST i 0 ≤ 39), .REFUSED)]
  | _ => []

/-- The object of a field cannot be written at all (R13, R64, R158, R180, R206): an idle block, a quad-link member, a position that is no IP
position, a port without MAC. `idle` tells which blocks are idle. -/
def objectCheck (w : View) (idle : Nat → Bool) (f : Fld) (i : Nat) : Option Status :=
  let b := (f.desc.addr - 0x40000000) / 0x100000
  let cfg := f.desc.acc == .rw || f.desc.acc == .rws
  if idle b ∨ idleField w.role f then some .ROLE_IDLE
  else if beyondRate w.fast f i then some .NO_SUCH_DEST
  else if b = 2 ∧ f.desc.n = 256 ∧ (w.ports ≤ i ∧ cfg) then some .ROLE_IDLE
  else if (b = 4 ∨ b = 5) ∧ f.desc.n = 256 ∧ (w.ports ≤ i ∧ cfg) then some .ROLE_IDLE
  else if b = 2 ∧ cfg ∧ f.desc.n = 256 ∧ w.get .VI_LINK_MODE i 0 = 2 then some .QUAD_MEMBER
  else if (b = 4 ∨ b = 5) ∧ cfg ∧ f.desc.n = 256 ∧ w.get .VO_LINK_MODE i 0 = 2 then some .QUAD_MEMBER
  else if b = 6 ∧ f.desc.n = 256 ∧ !w.ipPos i then some .NOT_IP
  else if b = 7 ∧ f.desc.n = 259 ∧ f ≠ .MC_MODE ∧ w.get .MC_MODE i 0 = 0 then some .NO_MAC
  else none

/-- A value written to a field against everything that a field's range and the ordered state decide (R11, R386). -/
def fieldCheck (w : View) (idle : Nat → Bool) (f : Fld) (i j v : Nat) : Verdict :=
  match objectCheck w idle f i with
  | some st => .refused st
  | none =>
    let a := (rangeCheck w f i j v).but (boundChecks w f i)
    match f, a with
    -- the main tap gives way to the others (R476)
    | .LN_TX_PRE, .ok x | .LN_TX_POST, .ok x =>
      if 63 < w.get .LN_TX_PRE i 0 + w.get .LN_TX_POST i 0 + w.get .LN_TX_MAIN i 0 then .clamped x else .ok x
    | _, a => a

end Sys2Proof.Machine
end

