-- ==== Sys2Proof/Machine/Reads.lean ====
section
/-! DEFINITION. Reads of the object map (R6, R7, R8, R387): the value a field shows now, the words of an address range, and the words of the
status window (R395, R396). A running quantity is computed from what it reports; no read changes the state. -/
set_option Elab.async false
namespace Sys2Proof.Machine

/-- The position of a raster domain within its frame, in samples (R43, R46). -/
def State.rasterPos (s : State) (d : Nat) : Nat × Nat :=
  match s.domFormat d with
  | some f => let p := s.house * f.num * f.lines * f.spl / (f.den * psS) % (f.lines * f.spl); (p / f.spl + 1, p % f.spl)
  | none => (0, 0)

/-- Whole seconds left on a timer, rounded to the nearest (a tie is open, log 16). -/
def State.secondsLeft (s : State) (x : Tmr) (i : Nat := 0) : Nat :=
  match s.timer x i with
  | some d => (nearest ((d - s.now : Nat) : Int) psS).toNat
  | none => 0

/-- The offset of a lane's interpolator in 0.01 ppm (R474): the house frequency, and 1/1.001 on an SDI lane whose output's domain has such a
rate. -/
def State.txPpm (s : State) (l : Nat) : Int :=
  let f := s.freqNow
  match s.rd .LN_USE l with
  | 1 =>
    let frac := match s.domFormat (s.rd .VO_DOMAIN l) with | some fm => fm.den == 1001 | none => false
    if s.rd .VO_PORT_MODE l ≠ 1 then 0
    else if frac then roundQ ((10000000000 + f) * 1000 - 10010000000000) 100100 else roundQ f 100
  | 4 => roundQ f 100
  | _ => 0

/-- The node that AN_LOOK_DST, AN_LOOK_DBUS and AN_LOOK_SRC name, if it is present (R237). -/
def State.lookNode (s : State) (dst dbus src : Nat) : Option ANode :=
  s.nodes.find? fun n => n.dst == (if dbus = 1 then busDst dst else dst) && n.src == src && !n.gone (s.sampleAt s.house)

/-- The fields of a node as the AN_ fields show them (R237). -/
def State.nodeField (s : State) (n : Option ANode) (f : Fld) : Nat :=
  match n with
  | none => f.resetAt 0 0
  | some n =>
    let i := s.sampleAt s.house
    match f with
    | .AN_PRESENT => 1
    | .AN_INV => b2n n.inv
    | .AN_TRANSP => b2n n.transp
    | .AN_RAMPING => b2n (n.ramping i)
    | .AN_GAIN => n.gain
    | .AN_RAMP => n.ramp
    | _ => ofSigned (n.coef i) 24

/-- The channels of the audio flows of a direction that are on (R182). -/
def State.flowChannels (s : State) (tx : Bool) : Nat :=
  (List.range 512).foldl (fun a k => if s.rd (View.aMode tx) k = 0 then a else a + s.rd (View.aCh tx) k) 0

/-- Seconds since the entry into Ember; 0 outside it (R300). -/
def State.emberS (s : State) : Nat := if 3 ≤ s.rd .REF_STATE then min ((s.now - s.qn .refEntered) / psS) 0x1FFFF else 0

/-- The value that a field shows (R6 to R8): WO fields (but for the trigger object, R289) and blocks idle in the role show 0 and their reset values. -/
def State.readField (s : State) (f : Fld) (i j : Nat) : Nat :=
  if !f.has i j then 0
  else if (f.desc.acc = .wo ∧ f.desc.addr / 0x100 ≠ 0x40AF00) ∨ beyondRate s.fast f i then 0
  else if (s.idleBlock ((f.desc.addr - 0x40000000) / 0x100000) || idleField (s.rd .SYS_ROLE) f) && !(f.desc.n == 259 && i == 258) then f.resetAt i j
  else match f with
    | .RD_FRAME_LO => s.frameNow i % 2 ^ 32
    | .RD_FRAME_HI => s.frameNow i / 2 ^ 32 % 2 ^ 16
    | .RD_LINE => (s.rasterPos i).1
    | .RD_SAMPLE => (s.rasterPos i).2
    | .REF_FREQ | .REF_OFFSET_LO | .REF_OFFSET_HI | .REF_REALIGN_LEFT_LO | .REF_REALIGN_LEFT_HI | .PT_HOUSE_INCR | .PD_INCR | .PD_OFFSET =>
      (s.apply (clockTick s)).rd f i j
    | .PT_ACT_ADJ => ofSigned s.actAdj f.desc.width
    | .REF_EMBER_ELAPSED_S => s.emberS
    | .RE_QUAL_LEFT_S => min (s.secondsLeft .reQual i) 1023
    | .SEC_TIME_UNCHECKED => 1 - s.rd .PT_TOD_VALID
    | .UP_HEALTH => if s.rd .UP_STATE = 3 then s.healthBits else s.rd .UP_HEALTH
    | .UP_LEFT_S => min (s.secondsLeft .updWindow) 0x1FFFF
    | .LN_TX_STATE => s.txState i
    | .IP_AUD_RX_CH => s.flowChannels false
    | .IP_AUD_TX_CH => s.flowChannels true
    | .PP_COMP => b2n (s.atPort i)
    | .MV_PX_BW => s.pxBandwidth
    | .VI_FS_BW => s.fsBandwidth
    | .VO_FB_BW => s.fbBandwidth
    | .LN_TX_PPM => ofSigned (s.txPpm i) 20
    | .RD_HEALTH_S => if s.rd .RD_HEALTH = 255 ∧ s.q .healthSince ≠ 0 then min ((s.now + 1 - s.qn .healthSince) / psS) 0xFFF else 0
    | .RD_PARTNER_FAILS => ((List.range 3).filter fun k => s.q .failAt k != 0 && decide ((s.now : Int) + 1 - s.q .failAt k < 3600 * psS)).length
    | .AD_RAMPING =>
      let x := s.sampleAt s.house
      b2n ((s.nodes.any fun n => n.dst == i && n.ramping x) || s.fades.any fun m => m.dst == i && decide (x < m.start + 64))
    | .AN_PRESENT | .AN_INV | .AN_TRANSP | .AN_RAMPING | .AN_GAIN | .AN_RAMP | .AN_COEF =>
      s.nodeField (s.lookNode (s.rd .AN_LOOK_DST) (s.rd .AN_LOOK_DBUS) (s.rd .AN_LOOK_SRC)) f
    | .FP_LEN_PEND => if s.rd .FP_PEND i j = 0 then s.rd .FP_LEN i j else s.rd .FP_LEN_PEND i j
    | _ => s.rd f i j

/-- The word of the object map at address `a` (R10, R387): what no field covers reads 0. -/
def State.readWord (s : State) (a : Nat) : Nat :=
  (Fld.ofBlock (blockOf a)).foldl (fun w f => (f.copiesIn a).foldl (fun w (i, j) =>
    let b := f.bitAddr i j
    let v := s.readField f i j
    w + (if a * 8 ≤ b then v * 2 ^ (b - a * 8) else v / 2 ^ (a * 8 - b)) % 2 ^ 32) w) 0 % 2 ^ 32

/-- `n` words from address `a`. -/
def State.readWords (s : State) (a n : Nat) : List Nat := (List.range n).map fun k => s.readWord (a + 4 * k)

-- Status window (R395, R396) --------------------------------------------------------------------------------------------

/-- The tally of an output: red and green (R396). -/
def State.tally (s : State) (n : Nat) : Nat :=
  let g := s.rd .ST_TALLY_GPI n
  b2n (bit (s.rd .ST_TALLY n) 0 || (g != 0 && bit (s.rd .GP_IN) (g - 1))) + 2 * b2n (bit (s.rd .ST_TALLY n) 1)

/-- The tally of router input `i` and the count of local outputs that carry it. -/
def State.tallyIn (s : State) (i : Nat) : Nat :=
  let outs := (List.range s.ports).filter fun n => s.rd .XS_CUR n == i && s.rd .XS_CUR_BLACK n == 0
  b2n (outs.any fun n => bit (s.tally n) 0) + 2 * b2n (outs.any fun n => bit (s.tally n) 1) + outs.length % 512 * 2 ^ 16

/-- The word of the status window at `a` (R395): from power-good on, and 0 while it is not valid. -/
def State.window (s : State) (a : Nat) : Nat :=
  if s.q .powerGood = 0 then 0
  else if a < 0x100 then (if a < s.ports then s.readWord (0x40400000 + 64 * a) else 0)
  else if a < 0x200 then (if a - 0x100 < s.ports then s.tally (a - 0x100) else 0)
  else if a < 0x1200 then s.tallyIn (a - 0x200)
  else match a with
    | 0x3000 => s.rd .SYS_NODE + s.rd .SYS_ROLE * 2 ^ 8 + s.rd .ORD_STATE * 2 ^ 16 + s.rd .RD_STATE_PAIR * 2 ^ 24
    | 0x3001 => s.rd .ORD_APPLIED % 2 ^ 32
    | 0x3002 => s.readField .RD_FRAME_LO 0 0
    | 0x3003 => s.rd .GP_IN
    | 0x3004 => s.rd .GP_OUT_NOW
    | 0x3005 => s.rd .EP_PINS + s.rd .XP_PENDING_OUTS * 2 ^ 16
    | _ => 0

end Sys2Proof.Machine
end

