-- ==== Sys2Proof/Machine/Fields.lean ====
section
/-! DEFINITION. Writes to the object map (R6, R9, R11, R386, R446, R507): the fields that a write covers, the checks over all of them, what
each field does when its value lands, and the values that waited for a frame start. -/
set_option Elab.async false
namespace Sys2Proof.Machine

-- Checks -----------------------------------------------------------------------------------------------------------

/-- A view in which the given writes have landed. -/
def View.over (w : View) (fs : List FieldWrite) : View :=
  { w with get := fun f i j => match fs.find? fun x => x.fld == f && x.i == i && x.j == j with
      | some x => x.v
      | none => w.get f i j }

/-- What a write is made of: accepted with the values to store and whether one was clamped, or refused with a status. -/
abbrev Judged := Except Status (List FieldWrite × Bool)

/-- The verdicts of a list of fields: the first refusal in address order, or what is stored. -/
def verdicts (chk : FieldWrite → Verdict) : List FieldWrite → Judged
  | [] => .ok ([], false)
  | x :: r =>
    if !x.whole then .error .REFUSED
    else match chk x with
      | .refused st => .error st
      | .ok v => (verdicts chk r).map fun (l, c) => ({ x with v := v } :: l, c)
      | .clamped v => (verdicts chk r).map fun (l, _) => ({ x with v := v } :: l, true)

/-- The values as their ranges leave them, for the checks of other fields. -/
def settled (w : View) (fs : List FieldWrite) : List FieldWrite :=
  fs.map fun x => match rangeCheck (w.over fs) x.fld x.i x.j x.v with | .ok v | .clamped v => { x with v := v } | .refused _ => x

/-- A WRITE judged whole (R386, R507): NO_SUCH_OBJECT where it covers no field, READONLY where it covers RO fields only, else the first
refusal in address order. `more` is what the target alone can check. -/
def judgeWrite (w : View) (idle : Nat → Bool) (more : View → FieldWrite → Option Status) (a : Nat) (data : List Nat) : Judged :=
  let fs := covered a data
  let ws := fs.filter fun x => x.fld.desc.acc != .ro
  if fs.isEmpty then .error .NO_SUCH_OBJECT
  else if ws.isEmpty then .error .READONLY
  else
    let w' := w.over (settled w ws)
    verdicts (fun x => match fieldCheck w' idle x.fld x.i x.j x.v, more w' x with
      | .refused st, _ => .refused st
      | _, some st => .refused st
      | v, none => v) ws

/-- The module's own view: its fields as they will stand when what waits has taken effect. -/
def State.viewHere (s : State) (dom : Nat) (own : Bool) : View := ⟨s.rd .SYS_ROLE, false, dom, own, fun f i j => s.willBe f i j⟩

/-- The ten fields that TD_STATE locks (R268, R288). -/
def framing : List Fld :=
  [.TD_MASTER, .TD_RATE, .TD_FMT, .TD_FS_POL, .TD_FS_LEN, .TD_BCLK_INV, .TD_SLOTS, .TD_WIDTH, .TD_OFFSET, .TD_FRAME_BCLK]

/-- The rate that targets delivered still bring to MAC `m` while their flows are CHANGING (R163): `cur` lists flows with the targets they deliver,
and a flow changes where the values to be differ from its target and do not turn it off. -/
def View.oldRate (w : View) (cur : List (Bool × Nat × List Nat)) (m : Nat) : Nat :=
  (cur.filter fun (aud, k, t) => !t.isEmpty && t.headD 0 != 0 && w.get (if aud then .IA_MODE else .IV_MODE) k 0 != 0 &&
      (targetFields aud).map (fun f => w.get f k 0) != t).foldl (fun a (aud, k, t) =>
    let g (x : Fld) : Nat := (((targetFields aud).zip t).find? fun p => p.1 == x).elim 0 Prod.snd
    a + if aud then w.iaRate m g else w.ivRate k m g) 0

/-- MAC `m` carries what is asked and the old legs of CHANGING flows (R163). -/
def View.macFits (w : View) (cur : List (Bool × Nat × List Nat)) (m : Nat) : Bool :=
  let cap := if w.get .MC_MODE m 0 = 2 then 23750000000 else 9500000000
  let v := (List.range 256).foldl (fun a n => a + w.ivRate n m fun f => w.get f n 0) 0
  let x := (List.range 512).foldl (fun a k => a + w.iaRate m fun f => w.get f k 0) 0
  w.oldRate cur m == 0 || decide (v + x + w.oldRate cur m ≤ cap)

/-- A write to a target leaves a MAC of the flow without room for its old and its new legs together (R163). -/
def View.changeBar (w : View) (cur : List (Bool × Nat × List Nat)) (x : FieldWrite) : Bool :=
  let macs (aud : Bool) : List Nat := (if aud then [w.get .IA_MAC_A x.i 0, w.get .IA_MAC_B x.i 0] else [w.get .IV_MAC_A x.i 0, w.get .IV_MAC_B x.i 0]) ++
    (cur.filter fun c => c.1 == aud && c.2.1 == x.i).flatMap fun c => [c.2.2.getD 8 0, c.2.2.getD 9 0]
  [false, true].any fun aud => (targetFields aud).contains x.fld && !(macs aud).all (w.macFits cur)

/-- The offset that output `i` is to have needs a frame buffer (R148). -/
def View.needsBuf (w : View) (i : Nat) : Bool :=
  match format (w.voFmt i) with
  | some fm => offsetNeeds (toSigned (w.get .VO_OFFSET i 0) 25) fm
  | none => false

/-- The offsets of a write, all of them together, need more frame buffers than the `free` ones that no output holds (R148). -/
def View.bufShort (w : View) (free : Nat) (held : Nat → Bool) (x : FieldWrite) : Bool :=
  x.fld == .VO_OFFSET && w.needsBuf x.i && decide (free < ((List.range 256).filter fun i => !held i && w.needsBuf i).length)

/-- What only the target can check, because the order stream does not set it (R386): port states, clocks, levels, what is running. -/
def State.targetCheck (s : State) (w : View) (x : FieldWrite) : Option Status :=
  let i := x.i
  let v := x.v
  let no (c : Bool) (st : Status) : Option Status := if c then some st else none
  match x.fld with
  | .ORD_RESYNC_REQ => no (s.rd .ORD_STATE != 3) .REFUSED
  | .FL_ENABLE => no (v == 0 && s.linkBusy i) .LINK_BUSY
  | .VO_OFFSET => no (w.bufShort (s.rd .VO_FB_FREE) (fun k => s.rd .VO_BUF k == 1) x) .NO_BUFFER
  | .FP_MODE | .FP_BASE | .FP_MOD => no (s.rd .FC_STATE i == 3) .CORE_RUNNING
  | .RI_VIN0_PORT => no (s.selInput == 6 + i) .IN_USE
  | .PD_INCR | .PD_OFFSET => no (w.get .PD_SERVO_EN i 0 == 1) .SERVO_OWNED
  | .PD_UTC_OFFSET => no (s.rd .PD_SERVO i != 5) .SERVO_OWNED
  | .PQ_ACK => no (v == 1 && s.rd .PQ_COUNT i == 0) .EMPTY
  | .PQ_LOST_ACK => no (v == 1 && s.rd .PQ_LOST_COUNT i == 0) .EMPTY
  | .EQ_ACK => no (v == 1 && s.rd .EQ_COUNT == 0) .EMPTY
  | .MC_SLEEP => s.sleepRefused i v
  | .LN_PRBS_TX => s.prbsRefused i v
  | .LN_PRBS_NRZ => s.prbsRefused i v
  | .LN_TX_RETRY => no (s.rd .LN_TX_STATE i != 3) .REFUSED
  | .LN_ES_GO => no (v == 1 && s.rd .LN_ES_STATE i == 1) .BUSY
  | f => if w.changeBar (s.flows.map fun g => (g.aud, g.idx, g.cur)) x then some .BANDWIDTH else no (framing.contains f && s.tdActive i) .PORT_RUNNING

-- Effects of a landing value ----------------------------------------------------------------------------------------

/-- The copies of counter `c` that a write to copy (i, j) of the CNT_CLR field `f` clears: those of its own object, all of them where the
field is the block's. -/
def State.cleared (s : State) (f c : Fld) (i j : Nat) : List (Nat × Nat) :=
  s.regs.filterMap fun (k, _) =>
    let i' := k / 2 ^ 20 % 2 ^ 20
    let j' := k % 2 ^ 20
    if k / 2 ^ 40 = c.ctorIdx ∧ ((f.desc.n = 1 ∧ f.desc.m = 1) ∨ (i' = i ∧ (f.desc.m = 1 ∨ j' = j))) then some (i', j') else none

/-- A write of 1 to a CNT_CLR field clears the counters of its object. -/
def clearCounters (f : Fld) (i j : Nat) : Act := look fun s => each f.counters fun c => each (s.cleared f c i j) fun (a, b) => set c 0 a b

/-- GP_OUT_NOW: the levels, inverted on the lines that pulse; low without power-good (R398). -/
def gpoFollow : Act := look fun s =>
  let pulsing := (List.range 32).foldl (fun m k => m + s.qn .pulseOn k % 2 * 2 ^ k) 0
  set .GP_OUT_NOW (if s.q .powerGood = 0 then 0 else Nat.xor (s.rd .GP_OUT_LEVEL) pulsing)

/-- A GPI line is active or not: GP_IN follows; GPI_CHANGE at most once a millisecond and line (R397). -/
def gpiLine (k : Nat) (active : Bool) : Act := look fun s =>
  if bit (s.rd .GP_IN) k = active then skip
  else all [set .GP_IN (setBits (s.rd .GP_IN) k 1 (b2n active)),
    iff (s.q .gpiRaised k == 0 || decide (s.q .gpiRaised k + psMs ≤ (s.now : Int) + 1))
      (all [put .gpiRaised (s.now + 1) k, raise .GPI_CHANGE k (b2n active)])]

/-- GP_POL is written: the levels have held, and are inverted on the lines that change (R397). -/
def polWritten (v : Nat) : Act := look fun s =>
  all [set .GP_POL v, each ((List.range 32).filter fun k => bit v k != bit (s.rd .GP_POL) k) fun k => look fun s => gpiLine k (!bit (s.rd .GP_IN) k)]

/-- The pulse object is written (R398): its lines start a pulse now. -/
def pulseLines (lines us : Nat) : Act :=
  all [each ((List.range 32).filter fun k => bit lines k) (fun k => all [put .pulseOn 1 k, arm .gpoEnd (us * psUs) k]), gpoFollow]

/-- A pulse on a line ends. -/
def pulseEnd (k : Nat) : Act := all [put .pulseOn 0 k, disarm .gpoEnd k, gpoFollow]

/-- The oldest record leaves the firmware queue (R393). -/
def eqPop : Act := look fun s => all [one (.evq s.evq.tail), eqShow]

/-- The revert block and the failure history are cleared (R369). -/
def rearm : Act := all [set .RD_REVERT_BLOCKED 0, set .RD_PARTNER_FAILS 0, put .failAt 0 0, put .failAt 0 1, put .failAt 0 2]

/-- A start is due at the next D0 frame start, or in 1 ms where D0 is not ready (R453). -/
def restartAsked : Act := look fun s =>
  let wait := match s.domFormat 0 with
    | some fm => if s.domReady 0 then fm.frameStart (fm.frameAt s.house + 1) - s.house else psMs
    | none => psMs
  arm .restart wait

/-- A WO field takes a value: the action of its row. Fields that act as one object (TT_, GP_PULSE_, SEC_) act in `writeGroups`. -/
def woAct (f : Fld) (i j v : Nat) : Act := look fun s =>
  if !f.counters.isEmpty then iff (v == 1) (clearCounters f i j)
  else match f with
    | .ORD_RESYNC_REQ => iff (v == 1 && s.rd .ORD_STATE == 3) (all [set .ORD_STATE 4, one (.img none), emit (.resyncReq s.activeNode)])
    | .FC_RESTART => iff (v == 1 && decide (2 ≤ s.rd .FC_STATE i)) (put .fcRestartReq 1 i)
    | .PT_SNAP => iff (v == 1) (all [clockTick, snapshotTimes])
    | .PQ_ACK => pqAck i v
    | .PQ_LOST_ACK => pqLostAck i v
    | .EQ_ACK => iff (v == 1) eqPop
    | .RD_REARM => iff (v == 1) rearm
    | .LN_TX_RETRY => txRetry i v
    | .LN_INJ_GO => injectGo i v
    | .LN_ES_GO => scanGo i v
    | .SYS_RESTART => iff (v == 0x5A5A) restartAsked
    | .SEC_CLAIM_CODE | .SEC_CLAIM_LEN | .SEC_CLAIM_CERT | .SEC_RELEASE | .SEC_DEBUG_TOKEN => set f v i j
    | _ => skip

/-- A W1C field: the bits written as 1 become 0. -/
def w1cAct (f : Fld) (i j v : Nat) : Act := look fun s =>
  match f with
  | .BM_ERR_VALID => iff (v == 1) (each [Fld.BM_ERR_VALID, .BM_ERR_RESP, .BM_ERR_CODE, .BM_ERR_MASTER, .BM_ERR_WRITE, .BM_ERR_STATUS, .BM_ERR_ADDR_LO,
      .BM_ERR_ADDR_HI] fun x => set x 0)
  | _ => all [set f (s.rd f i j - Nat.land (s.rd f i j) v) i j, pins]

/-- An RW field takes a value at once (R6). -/
def rwAct (f : Fld) (i j v : Nat) : Act := look fun s =>
  match f with
  | .FL_ENABLE => enableLink i v
  | .MC_SLEEP => sleepWrite i v
  | .LN_PRBS_TX => prbsTx i v
  | .LN_INJ_MODE => injectMode i v
  | .LN_TX_INV | .LN_RX_INV => iff (s.rd f i != v) (all [set f v i, polarity i])
  | .LN_PRBS_RX => iff (s.rd f i != v) (all [set f v i, set .LN_PRBS_LOCK 0 i])
  | .LN_LOOP | .LN_PRBS_NRZ | .LN_SDI_RATE => iff (s.rd f i != v) (all [set f v i, reacquire i])
  | .LN_TX_PRE | .LN_TX_POST => all [set f v i, look fun s => set .LN_TX_MAIN (min (s.rd .LN_TX_MAIN i) (63 - s.rd .LN_TX_PRE i - s.rd .LN_TX_POST i)) i]
  | .TD_MASTER => all [set f v i, clkFollow i (s.rd f i != v)]
  | .TD_RATE | .TD_FRAME_BCLK => all [set f v i, clkFollow i false]
  | .PX_KIND | .PX_POS | .PX_SCALE => all [set f v i, pxWritten i]
  | .PT_ACTIVE => activeSwitch v
  | .PD_INCR | .PD_OFFSET | .SYS_REMAP => skip
  | .PD_PRIO1 | .PD_PRIO2 | .PD_CLASS | .PD_GM_OK => all [set f v i, bmca i]
  | .PP_DOM_EN => all [set f v i, ptpPort i, ptpFollow]
  | .PP_MASTER_OK => all [set f v i, ptpFollow]
  | .PO_MODE | .PO_DOMAIN | .PO_WIDTH_US => all [set f v i, pulseWritten i]
  | .RI_VIN0_PORT => all [set f v i, if s.rd .VI_STATE v = 4 then inputPresent (6 + i) else inputLost (6 + i)]
  | .REF_SLEW_PPB_S | .PT_ACT_SLEW_NS_S => all [clockTick, set f v i]
  | .EP_MASK0 | .EP_MASK1 => all [set f v i, pins]
  | .GP_OUT_LEVEL => all [set f v, gpoFollow]
  | .GP_POL => polWritten v
  | _ => set f v i j

/-- A shadowed value takes effect (R9) at a frame start. -/
def applied (f : Fld) (i j v : Nat) : Act := look fun s =>
  let same := s.rd f i j == v
  match f with
  | .VO_OFFSET => all [set f v i, offsetApplied i (!same)]
  | .TD_TX_MASK | .TD_RX_MASK => all [set f v i, put .tdMaskAt s.house i]
  | .AD_MM_EN | .AD_MM_BUS | .AD_MM_AS =>
    let i0 := s.sampleFrom s.house
    let old := s.fades.any fun m => m.dst == i && m.start == i0
    all [iff (!same && !old) (one (.fades ((s.fades.filter fun m => m.dst != i) ++ [⟨i, s.rd .AD_MM_EN i == 1, s.rd .AD_MM_BUS i, s.rd .AD_MM_AS i, i0⟩]))),
      set f v i]
  | _ => set f v i j

/-- The house time of the frame start at which domain `d` stands. -/
def State.startOf (s : State) (d : Nat) : Nat := match s.domFormat d with | some fm => fm.frameStart (fm.frameAt s.house) | none => s.house

/-- VI_DOMAIN, VI_ALIGN and VI_FS_MIN that land together realign the input once, where one of them changes (R80). -/
def realigns (s : State) (due : List Shadow) : List Nat :=
  ((due.filter fun w => [Fld.VI_DOMAIN, .VI_ALIGN, .VI_FS_MIN].contains w.fld && (due.filter fun x => x.fld == w.fld && x.i == w.i).getLast? == some w &&
    s.rd w.fld w.i != w.v).map Shadow.i).dedup

/-- VO_IDLE_STD that lands is clamped to the format that the output's domain has with what lands beside it (R159). -/
def idleStdLands (n : Nat) : Act := look fun s =>
  let v := s.rd .VO_IDLE_STD n
  iff (v != 0 && !stdCarries v (s.fmtOut n)) (set .VO_IDLE_STD (lowestStd (s.fmtOut n)) n)

/-- What an output sends follows fields that have landed, on every link of its group (R158). -/
def outputLands (n : Nat) : Act := look fun s => each ((List.range s.ports).filter fun m => s.voBase m == n) outputFollow

/-- The shadowed writes of domain `d` that completed before the frame start which has come take effect, in the order written (R9). -/
def shadowsLand (d : Nat) : Act := look fun s =>
  let due := s.shadows.filter fun w => w.dom == d && decide (w.from_ ≤ s.startOf d)
  let flowsOf (aud : Bool) := ((due.filter fun w => (targetFields aud).contains w.fld).map Shadow.i).dedup
  all [one (.shadows (s.shadows.filter fun w => !due.contains w)), each due (fun w => applied w.fld w.i w.j w.v),
    each (realigns s due) (fun n => sdiInput n (inputRealign n)),
    each ((due.filter fun w => w.fld == .VO_IDLE_STD).map Shadow.i).dedup idleStdLands,
    each ((due.filter fun w => [Fld.VO_DOMAIN, .VO_STD, .VO_IDLE_STD, .VO_TRANSP_MODE].contains w.fld).map Shadow.i).dedup outputLands,
    each (flowsOf false) (flowFollow false), each (flowsOf true) (flowFollow true)]

/-- A value lands in its field. -/
def storeField (from_ : Nat) (x : FieldWrite) : Act :=
  match x.fld.desc.acc with
  | .ro => skip
  | .rw => rwAct x.fld x.i x.j x.v
  | .wo => woAct x.fld x.i x.j x.v
  | .w1c => w1cAct x.fld x.i x.j x.v
  | .rww => writeLen x.i x.j x.v
  | .rws => if x.fld = .VO_OFFSET then offsetWrite x.i x.v from_ else shadow x.fld x.i x.j x.v from_

/-- The value that a list of writes gives a field. -/
def valueOf (fs : List FieldWrite) (f : Fld) (i : Nat) : Option Nat := (fs.find? fun x => x.fld == f && x.i == i).map FieldWrite.v

/-- The address and words of a write that covers the trigger object (R289): four words from its own. -/
def trigWords (fs : List FieldWrite) : Option (List Nat) :=
  match valueOf fs .TT_PORTS 0, valueOf fs .TT_OP 0, valueOf fs .TT_KIND 0, valueOf fs .TT_PTP_DOM 0, valueOf fs .TT_PTP_SEC_LO 0,
    valueOf fs .TT_PTP_SEC_HI 0, valueOf fs .TT_PTP_NS 0 with
  | some p, some o, some k, some d, some lo, some hi, some ns => some [p + o * 2 ^ 16 + k * 2 ^ 18 + d * 2 ^ 19, lo, hi, ns]
  | _, _, _, _, _, _, _ => none

/-- An ordered WRITE brings a debug token that Xithaid refuses (R431). -/
def State.tokenRefused (s : State) (v : Nat) : Bool := !s.owners.isEmpty && Config.tokenVerdict v (s.rd .SEC_ID_DIGEST) != 0

/-- An ordered WRITE brings a debug token that is good (R431): on a claimed module it opens the debug master. -/
def debugOpened : Act := look fun s => iff (!s.owners.isEmpty) (all [set .SEC_DEBUG_OPEN 1, raise .SEC_DEBUG_UNLOCKED])

/-- Objects whose words act together: the scales of R312, the trigger object of R289, the pulse object of R398. -/
def writeGroups (order dom : Nat) (fs : List FieldWrite) : Act := all [
  each [0, 1] fun k =>
    let i := valueOf fs .PD_INCR k
    let o := valueOf fs .PD_OFFSET k
    iff (i.isSome || o.isSome) (all [clockTick, scaleWrite k i o]),
  match trigWords fs with | some ws => trigWrite order dom ws | none => skip,
  match valueOf fs .SEC_DEBUG_TOKEN 0 with | some _ => iff (order != 0) debugOpened | none => skip,
  match valueOf fs .GP_PULSE_LINES 0, valueOf fs .GP_PULSE_US 0 with | some l, some us => pulseLines l us | _, _ => skip]

/-- The values of an accepted write land, all in one instant; `dom` is the domain of its stamp. -/
def storeAll (from_ order dom : Nat) (fs : List FieldWrite) : Act := all [each fs (storeField from_), writeGroups order dom fs]

/-- A write judged and carried out at this module by `dom` (the stamp's domain) and `own` (an order of the active manager itself). -/
def State.judgeHere (s : State) (dom : Nat) (own : Bool) (a : Nat) (data : List Nat) : Judged :=
  judgeWrite (s.viewHere dom own) s.idleBlock s.targetCheck a data

/-- An ordered WRITE executes here (R386): all of its fields, or none with WRITE_REFUSED. SYS_REMAP is refused to everyone but the control
cores (R414), and a debug token that does not verify is refused (R431). -/
def writeWords (a : Nat) (data : List Nat) (dom order : Nat) : Act := look fun s =>
  match s.judgeHere dom true a data with
  | .error _ => writeRefused order
  | .ok (fs, _) => if fs.any fun x => x.fld == .SYS_REMAP || (x.fld == .SEC_DEBUG_TOKEN && s.tokenRefused x.v) then writeRefused order else storeAll 0 order dom fs

/-- The words are what the fields that they cover hold, or will hold, already (R34). -/
def State.sameWords (s : State) (a : Nat) (data : List Nat) : Bool := (covered a data).all fun x => s.willBe x.fld x.i x.j == x.v

end Sys2Proof.Machine
end

