-- ==== Sys2Proof/Machine/Order.lean ====
section
/-! DEFINITION. The order stream at a worker (01_system_geometry.md, R28 to R35, R508) and the due moment of an action
(02_raster_time.md, R51 to R58): arrival, gaps, replay, loss, resynchronisation, state images, pending actions and lateness. -/
set_option Elab.async false
namespace Sys2Proof.Machine

/-- Order states (R39). -/
abbrev osJoining : Nat := 0
abbrev osInOrder : Nat := 1
abbrev osGap : Nat := 2
abbrev osLost : Nat := 3
abbrev osResync : Nat := 4
abbrev osMismatch : Nat := 5

/-- The number the module waits for: one more than ORD_APPLIED (R31). -/
def State.nextOrder (s : State) : Nat := succOrder (s.rd .ORD_APPLIED)

/-- ORDER of a record without an order number: the incarnation and a per-sender counter (R427). -/
def State.msgOrder (s : State) : Nat := s.rd .SEC_INCARNATION * 2 ^ 32 + s.qn .msgCounter % 2 ^ 32

/-- A sender whose counter would pass FFFF_FFFFh waits for a new incarnation (R427); the manager, which gives them, has no one to ask. -/
def State.counterSpent (s : State) : Bool := !s.isManager && decide ((0xFFFFFFFF : Int) < s.q .msgCounter)

/-- A record without an order number and stamp leaves on the fabric (R95), or a new JOIN where the counter is spent (R427); a REPLAY_ANS or an ACK is
a reply (R115). -/
def sendPlain (kind target : Nat) (body : List Nat) : Act := look fun s =>
  if s.counterSpent then iff (s.timer .joinSend).isNone (arm .joinSend 0)
  else all [addQ .msgCounter, giveRecord (kind == kReplayAns || kind == kAck) target ⟨kind, s.msgOrder, s.node, target, ⟨0, 0, 0, false⟩, body⟩]

-- Pending actions -------------------------------------------------------------------------------------------------

/-- The items of a body Spore of a TAKE or SALVO at this module: the take of a local output, and, in a router, this module's part of the
path (R97, R107), whose frame start may have passed when the take falls due (R108). -/
def State.takeItems (s : State) (sp : Nat) : List Item :=
  let x := decodeTake sp
  let (e', p) := s.home x.dest
  (if e' = s.ownNode ∧ p < s.ports then [Item.take p x.src x.black x.restore sp] else []) ++ (if s.links = 0 then [] else [Item.path sp])

/-- The sample at which an ordered pulse starts: GP_PULSE_SAMPLE as the WRITE itself gives it (R398). -/
def pulseSample : Item → Nat
  | .words a d => ((covered a d).find? fun x => x.fld == .GP_PULSE_SAMPLE).elim 0 FieldWrite.v
  | _ => 0

/-- An item of a record, due now: its execution point after a move by `k` frames. -/
def placeItem (r : Rec) (k : Nat) (it : Item) : Act :=
  placeAt r.order r.kind r.stamp k 0 it (match it with
    | .words _ _ => if r.stamp.line = 0 then .frameStart else .line r.stamp.line (pulseSample it)
    | _ => .frameStart)

/-- The raster domain whose line boundary an immediate item awaits (R54): its output's, its field's, or the stamp's. -/
def State.itemDom (s : State) (st : Stamp) (it : Item) : Nat :=
  match it with
  | .take o _ _ _ _ | .lock o _ _ => s.rd .VO_DOMAIN o
  | .words a d => (match (covered a d).find? fun x => x.fld.desc.dom != .none && x.fld.desc.dom != .d0 with | some x => s.fieldDom x.fld x.i | none => st.dom)
  | _ => st.dom

/-- An immediate item waits for the next line boundary (R54), or, where R53 has moved an earlier action on the same object, for that action's
point (R55). -/
def awaitLine (r : Rec) (it : Item) : Act := look fun s =>
  let dy := s.itemDom r.stamp it
  match s.movedBefore it, s.domFormat dy with
  | some q, _ => addPend ⟨r.order, r.kind, r.stamp, q.dom, q.frame, q.pt, q.at_, 0, 0, it⟩
  | none, some fm => addPend ⟨r.order, r.kind, r.stamp, dy, fm.frameAt s.house, .lineBoundary, fm.nextLine s.house, 0, 0, it⟩
  | none, none => skip

/-- An immediate item (R54): a take, a LOCK, a WRITE or a REALIGN waits for the next line boundary of its destination's domain; a path is
established at once (R108), and an audio action starts at its first sample (R223). -/
def immediateItem (r : Rec) (it : Item) : Act := look fun s =>
  match it with
  | .take _ _ _ false _ | .lock _ _ _ | .words _ _ | .realign _ _ => awaitLine r it
  | .take o _ _ true sp => restoreAt o sp
  | .path sp => establish (decodeTake sp) none []
  | .audio es => audioApply es s.house
  | .image => skip

/-- The items of a record at this module (R96). A notice has none (R508). -/
def State.itemsOf (s : State) (r : Rec) : List Item :=
  match r.kind with
  | 1 | 2 => r.body.flatMap s.takeItems
  | 3 => r.body.filterMap fun sp =>
      let (e, p) := s.home (bits sp 0 12)
      if e = s.ownNode ∧ p < s.ports then some (.lock p (bits sp 12 2) (bits sp 14 16)) else none
  | 4 => if r.body.isEmpty then [] else [.audio r.body]
  | 5 => if r.body.isEmpty then [] else let (a, d) := decodeWrite r.body; [.words a d]
  | 6 => match r.body with | [] => [] | sp :: rest => [.realign (decodeMode sp) (decodeDelta (sp :: rest))]
  | _ => []

/-- The record falls due at this module (R53, R54, R58): its items are placed, moved or refused together. -/
def dueNow (r : Rec) : Act := look fun s =>
  let items := s.itemsOf r
  if items.isEmpty then skip
  else match s.domFormat r.stamp.dom with
    | none => skip
    | some fm =>
      if r.stamp.imm then
        if r.stamp.frame + 2 < fm.frameAt s.house then refuseLate r.order r.stamp.dom
        else each items (immediateItem r)
      else
        let pt : Pt := if items.any Item.lands then .switchLine
          else if r.stamp.line = 0 then .frameStart else .line r.stamp.line ((items.map pulseSample).foldl max 0)
        match lateBy fm r.stamp.frame pt s.house with
        | none => refuseLate r.order r.stamp.dom
        | some k0 =>
          let k := s.pushed r.stamp items k0
          all [iff (k != 0) (all [count .ORD_LATE, noteLate r.order r.stamp.dom k]), each items (placeItem r k)]

-- Arrival ----------------------------------------------------------------------------------------------------------

/-- The record is applied in order: ORD_APPLIED moves, and what it does here falls due (R30, R508). -/
def applyNext (r : Rec) : Act := all [set .ORD_APPLIED r.order, dueNow r]

/-- Every buffered record that follows without a break is applied in turn (R31). `n` bounds the passes. -/
def drain : Nat → Act
  | 0 => skip
  | n + 1 => look fun s =>
    match s.buf.find? fun r => r.order == s.nextOrder with
    | none => skip
    | some r => all [one (.buf (s.buf.filter fun q => q.order != r.order)), applyNext r, drain n]

/-- How many numbers follow `x` up to `o`, where 0 is no order number (R28). -/
def orderSteps (o x : Nat) : Nat := if o % 2 ^ 48 < x % 2 ^ 48 then orderDiff o x - 1 else orderDiff o x

/-- The order number `k` steps after `x`: 1 follows FFFF_FFFF_FFFFh (R28). -/
def orderAfter (x k : Nat) : Nat := (x + k - 1) % (2 ^ 48 - 1) + 1

/-- The missing numbers up to the latest buffered one, as runs of (first, count) (R31, R32). -/
def State.missing (s : State) : List (Nat × Nat) :=
  let x := s.nextOrder
  let last := s.buf.foldl (fun m r => max m (orderSteps r.order x)) 0
  let gaps := (List.range last).filter fun k => !s.buf.any fun r => r.order == orderAfter x k
  let runs := gaps.foldl (fun acc k => match acc with
    | (a, c) :: rest => if a + c = k then (a, c + 1) :: rest else (k, 1) :: acc
    | [] => [(k, 1)]) ([] : List (Nat × Nat))
  runs.reverse.map fun (a, c) => (orderAfter x a, c)

/-- The replay requests for the missing numbers leave for the node taken to be the active manager (R32, R365, R389). -/
def askReplay : Act := look fun s =>
  each s.missing fun (first, c) => sendPlain kReplayReq s.activeNode [first % 2 ^ 48 + c % 2 ^ 9 * 2 ^ 48]

/-- Resynchronisation is requested (R33). The manager hears it as a REPLAY_REQ of COUNT 0 (log 27). -/
def askResync : Act := look fun s => all [set .ORD_STATE osResync, one (.img none), emit (.resyncReq s.activeNode)]

/-- ORDER_LOST is entered (R33): from now on no pending action executes, until an image is loaded. -/
def orderLost : Act := look fun s =>
  all [put .ordHeld 1, disarm .gap, disarm .replay, set .ORD_STATE osLost, count .ORD_LOSSES, one (.buf []), raise .ORDER_LOST 0 (s.rd .ORD_APPLIED),
    iff (s.rd .ORD_RESYNC_AUTO == 1) askResync]

/-- After buffered records were applied: IN_ORDER when none is left waiting, else GAP with its requests (R31, R32). -/
def settle : Act := look fun s =>
  if s.buf.isEmpty then all [iff (s.rd .ORD_STATE == osGap) (set .ORD_STATE osInOrder), disarm .gap, disarm .replay]
  else if s.rd .ORD_STATE = osGap then skip
  else all [set .ORD_STATE osGap, count .ORD_GAPS, raise .ORDER_GAP 0 s.nextOrder, arm .gap (64 * psMs), arm .replay psMs, askReplay]

/-- The record is a WRITE of ORD_RESYNC_AUTO or ORD_RESYNC_REQ, which takes effect in whatever order state it finds (R39). -/
def orderWrite (r : Rec) : Bool :=
  r.kind == kWrite && (covered (decodeWrite r.body).1 (decodeWrite r.body).2).any fun x => x.fld == .ORD_RESYNC_AUTO || x.fld == .ORD_RESYNC_REQ

/-- Such a WRITE takes effect where it arrives out of order. -/
def orderWriteNow (r : Rec) : Act :=
  if orderWrite r then writeWords (decodeWrite r.body).1 (decodeWrite r.body).2 r.stamp.dom r.order else skip

/-- A record joins the buffer; in JOINING and RESYNC the 256 highest numbers are kept (R35). One that has taken effect keeps only its
number. -/
def buffer (r : Rec) : Act := look fun s =>
  if s.buf.any fun q => q.order == r.order then count .ORD_DUPLICATES
  else
    let low := s.buf.foldl (fun m q => if later m q.order then q.order else m) r.order
    let r' := if orderWrite r then { r with body := [] } else r
    let kept := if s.buf.length < 256 then s.buf ++ [r'] else (s.buf ++ [r']).filter fun q => q.order != low
    all [one (.buf kept), orderWriteNow r]

/-- An ordered record of the active manager has arrived and verified (R31). -/
def orderArrive (r : Rec) : Act := look fun s =>
  let x := s.nextOrder
  let seen : Act := iff (later r.order (s.rd .ORD_SEEN)) (set .ORD_SEEN r.order)
  match s.rd .ORD_STATE with
  | 0 => all [seen, buffer r]
  | 4 => all [seen,
      match s.img with
      | some im =>
        if later r.order im.k then
          (if 256 ≤ orderDiff r.order (succOrder im.k) then askResync else buffer r)
        else count .ORD_DUPLICATES
      | none => buffer r]
  | 1 | 2 =>
    all [seen,
      if r.order = x then all [applyNext r, drain 256, settle]
      else if later r.order x then
        if orderDiff r.order x < 256 then
          all [buffer r, look fun s => if s.rd .ORD_STATE = osGap then skip else settle]
        else all [orderLost, orderWriteNow r]
      else count .ORD_DUPLICATES]
  | _ => all [seen, if r.order = x ∨ later r.order x then orderWriteNow r else skip]

/-- ORDERED_RECORD_ARRIVAL (R31, R98, R365): the tag verifies and the sender is the active manager, or the record is
discarded and counted. -/
def recordArrives (r : Rec) (ok : Bool) : Act := look fun s =>
  if !ok then all [count .FAB_TAG_FAILS, raise .SPORE_TAG_FAIL r.sender r.order]
  else if r.sender ≠ s.activeNode then count .RD_STALE_RECORDS
  else if s.rd .SU_STATE ≠ 3 then skip
  else orderArrive r

-- State images -----------------------------------------------------------------------------------------------------

/-- A part of a state image arrives (R34): it opens RESYNC, or serves the join. -/
def imagePart (sender k : Nat) (stamp : Stamp) (objs : List ImgObj) (last : Bool) : Act := look fun s =>
  let st := s.rd .ORD_STATE
  if st = osMismatch ∨ s.rd .SU_STATE ≠ 3 then skip
  else if sender ≠ s.activeNode then count .RD_STALE_RECORDS
  else all [
    iff (st != osJoining && st != osResync) (all [set .ORD_STATE osResync, disarm .gap, disarm .replay]),
    look fun s =>
      let im : ImgBuf := match s.img with
        | some im => if im.k = k then { im with objs := im.objs ++ objs, complete := last } else ⟨k, stamp, objs, last⟩
        | none => ⟨k, stamp, objs, last⟩
      all [one (.img (some im)),
        -- what was buffered before k was known is judged by the window now (R34)
        iff (s.rd .ORD_STATE == osResync && s.buf.any fun r => later r.order k && decide (256 ≤ orderDiff r.order (succOrder k)))
          (all [one (.buf []), askResync])]]

/-- What an object of the image changes here (R34): only what differs. A video change lands at the output's switching line of the stamped frame, an
audio change ramps from its frame start. -/
def loadObj (im : ImgBuf) (o : ImgObj) : Act := look fun s =>
  match o with
  | .output sp lock holder =>
    let x := decodeTake sp
    let (e, p) := s.home x.dest
    if e ≠ s.ownNode ∨ s.ports ≤ p then skip
    else all [lockAt p lock holder,
      if s.rd .XS_CUR_BLACK p = b2n x.black ∧ (x.black ∨ s.rd .XS_CUR p = x.src) then skip
      else
        let r : Rec := ⟨kTake, im.k, s.activeNode, s.node, im.stamp, [sp]⟩
        placeTake r.order r.kind r.stamp 0 0 (.take p x.src x.black false sp) x.dest .switchLine]
  | .node entry => iff (entry / 2 ^ 64 == s.ownNode && !s.holdsEntry (entry % 2 ^ 64)) (audioApply [entry % 2 ^ 64] s.house)
  | .words a d => iff (a / 2 ^ 64 == s.ownNode && !s.sameWords (a % 2 ^ 64) d) (writeWords (a % 2 ^ 64) d im.stamp.dom im.k)
  | .slot _ => skip
  | .action r => iff (r.target == s.node) (dueNow r)

/-- The objects that an image does not name are at their start: outputs BLACK and unlocked, nodes absent, imports unassigned, bundles without
legs. -/
def loadRest (im : ImgBuf) : Act := look fun s =>
  let named (p : Nat) : Bool := im.objs.any fun o => match o with | .output sp _ _ => (decodeTake sp).dest == s.routerNo p | _ => false
  let mine : List Nat := im.objs.filterMap fun o => match o with
    | .node e => if e / 2 ^ 64 = s.ownNode then some (e % 2 ^ 64) else none
    | _ => none
  let black (p : Nat) : Nat := encodeTake ⟨s.routerNo p, true, 0, 0, false, false, 0, false, false, false, false⟩
  let listed (n : ANode) : Bool := mine.any fun e => bits e 44 3 != 4 && (decodeEnt e).dst == n.dst && (decodeEnt e).src == n.src
  let slots : List Nat := mine.filterMap fun e => if bits e 44 3 = 4 then (match chanOfSource s.fast (bits e 14 13) with | some (.bundle m _) => some m | _ => none) else none
  let legs : List (Nat × Nat) := s.qty.filterMap fun (k, _) => if k / 2 ^ 80 = Qty.auLeg.ctorIdx then some (k / 2 ^ 40 % 2 ^ 40, k % 2 ^ 40) else none
  let kept (b n : Nat) : Bool := mine.any fun e => bits e 44 3 == 4 && bits e 0 13 == b && bits e 14 6 == n
  all [each ((List.range s.ports).filter fun p => !named p) (fun p => loadObj im (.output (black p) 0 0)),
    each (s.nodes.filter fun n => !n.leaving && !listed n) (fun n => audioApply [encodeEnt ⟨n.dst, n.src, 0, false, 2, max 1 n.ramp, false⟩] s.house),
    each ((List.range s.importSlots).filter fun m => s.rd .AI_VALID m == 1 && !slots.contains m) (fun m => put .auRelease 1 m),
    each (legs.filter fun (b, n) => !kept b n) fun (b, n) => put .auRelease 1 (2 ^ 20 + b) n]

/-- The image is complete and its stamp has come. -/
def State.imageReady (s : State) : Bool :=
  match s.img with
  | none => false
  | some im => im.complete && (s.rd .ORD_STATE == osJoining || s.rd .ORD_STATE == osResync) &&
      (match s.domFormat im.stamp.dom with | some fm => decide (fm.frameStart im.stamp.frame ≤ s.house) | none => true)

/-- The worker loads the image, sets ORD_APPLIED to k and goes on in order (R34, R35). -/
def imageLoad : Act := look fun s =>
  match s.img with
  | none => skip
  | some im =>
    if !s.imageReady then skip
    else
      let joined := s.rd .ORD_STATE = osJoining
      let dups := (s.buf.filter fun r => !later r.order im.k).length
      all [put .ordHeld 0, setActs [], each (List.range s.ports) pendShow,
        setLegs (im.objs.filterMap fun o => match o with | .slot g => if s.myLeg g then some g else none | _ => none),
        each im.objs (loadObj im), loadRest im, set .ORD_APPLIED im.k, set .ORD_STATE osInOrder,
        one (.img none), disarm .joinSend,
        iff (!decide joined) (raise .ORDER_RESYNC_DONE 0 im.k),
        count .ORD_DUPLICATES dups,
        look fun s => one (.buf (s.buf.filter fun r => later r.order im.k)),
        drain 256,
        -- what lies at x + 256 or later falls under the last row of R31 (R35)
        look fun s => if s.buf.any fun r => decide (256 ≤ orderDiff r.order s.nextOrder) then orderLost else settle]

-- Commands ---------------------------------------------------------------------------------------------------------

/-- ORDERED_RECORD_ARRIVAL (R31). -/
def execOrderedRecordArrival (t : Nat) (r : Rec) (ok : Bool) (s : State) : Host.Outcome State Fault Refusal :=
  run (all [at_ t, recordArrives r ok]) s

/-- REPLAY_REPEAT (R32): every 1 ms in GAP. -/
def execReplayRepeat (t : Nat) (s : State) : Host.Outcome State Fault Refusal :=
  run (all [at_ t, look fun s => iff (s.due .replay && s.rd .ORD_STATE == osGap) (all [askReplay, arm .replay psMs])]) s

/-- GAP_TIMEOUT (R32): 64 ms in GAP. -/
def execGapTimeout (t : Nat) (s : State) : Host.Outcome State Fault Refusal :=
  run (all [at_ t, look fun s => iff (s.due .gap && s.rd .ORD_STATE == osGap) orderLost]) s

/-- REPLAY_ANS (R32, R389): GONE = 1 in GAP enters ORDER_LOST. -/
def execReplayAns (t sender first count_ : Nat) (gone : Bool) (s : State) : Host.Outcome State Fault Refusal :=
  run (all [at_ t, look fun s =>
    if sender ≠ s.activeNode then count .RD_STALE_RECORDS
    else iff (gone && s.rd .ORD_STATE == osGap && decide (0 < count_) && decide (first < 2 ^ 48)) orderLost]) s

/-- ORD_RESYNC_REQ (R33, R39): 1 in ORDER_LOST requests resynchronisation; anything else is refused. -/
def execOrdResyncReq (value : Nat) (s : State) : Host.Outcome State Fault Refusal :=
  run (if s.rd .ORD_STATE ≠ osLost then sayWritten .ORD_RESYNC_REQ 0 0 .REFUSED 0 else iff (value % 2 == 1) askResync) s

/-- IMAGE (R34). -/
def execImage (t sender k : Nat) (stamp : Stamp) (objs : List ImgObj) (last : Bool) (s : State) : Host.Outcome State Fault Refusal :=
  run (all [at_ t, imagePart sender k stamp objs last]) s

/-- FAB_FRAME_COUNT_RECEIVE (R48): the manager's D0 frame count, as it stands at the moment `t` here. -/
def execFabFrameCountReceive (t count_ : Nat) (s : State) : Host.Outcome State Fault Refusal :=
  run (all [at_ t, look fun s => iff (!s.isManager && s.domReady 0)
    (all [put .fabCountSeen 1, put .slipPending (b2n (s.frameNow 0 != count_)), put .slipCount ((count_ : Int) - s.frameNow 0), countValid])]) s

/-- FRAME_COUNT_SLIP (R48): at the D0 frame start the manager's house time is adopted: whole D0 frames are added, and every
pending action is judged again. -/
def execFrameCountSlip (t : Nat) (s : State) : Host.Outcome State Fault Refusal :=
  run (all [at_ t, look fun s =>
    if s.q .slipPending = 0 then skip
    else match s.domFormat 0 with
      | none => skip
      | some fm => all [put .slipPending 0,
          put .houseOff (s.q .houseOff + s.q .slipCount * (fm.den * psS : Nat) / (fm.num : Nat)),
          count .RT_COUNT_SLIPS, raise .FRAME_COUNT_SLIP 0, countValid, judgeAgain]]) s

end Sys2Proof.Machine
end

