-- ==== Sys2Proof/Machine/Manager.lean ====
section
/-! DEFINITION. The active manager's ordering (R25 to R29, R36, R50 to R52, R122 to R125, R362 to R364): the stamp of a request, the manager's model
of the router and what an action adds to it, the order number, the records of an action for each node, the standby's acknowledgement and
the answer, state images. An audio entry in the body of an `Action` carries its node in [69:64]. -/
set_option Elab.async false
namespace Sys2Proof.Machine
open Host

-- Stamps (R50) -----------------------------------------------------------------------------------------------------

/-- The stamp that a request gets, or the status that refuses it (R49, R50, R385). `pulse`: the request writes the GPO pulse object. -/
def State.resolve (s : State) (req : Stamp) (pulse : Bool) : Except Status Stamp :=
  match s.domFormat req.dom with
  | none => if req.line ≠ 0 ∧ !pulse then .error .BAD_STAMP else .error .DOMAIN_OFF
  | some fm =>
    let now := fm.frameAt s.house
    if (if pulse then req.line = 0 ∨ fm.lines < req.line else req.line ≠ 0) then .error .BAD_STAMP
    else if !s.domReady req.dom then .error .DOMAIN_NOT_READY
    else if req.imm then .ok { req with frame := now }
    else if req.frame = 0 then
      let t := s.house + s.rd .SCHED_LEAD_US * psUs
      let F := fm.frameAt t
      .ok { req with frame := if fm.frameStart F < t then F + 1 else F }
    else if req.frame + 2 < now then .error .STAMP_PAST
    else if now + 2 ^ 24 < req.frame then .error .HORIZON
    else .ok req

/-- The frame of domain `dy` in which an action of this stamp executes, its start, and the clean switch point in it (R54, R57). -/
def State.execFrame (s : State) (st : Stamp) (dy : Nat) : Nat × Nat × Nat :=
  match s.domFormat st.dom, s.domFormat dy with
  | some fx, some fy =>
    if st.imm then (let G := fy.frameAt s.house; (G, fy.frameStart G, fy.nextLine s.house))
    else let G := fx.place fy st.frame; (G, fy.frameStart G, fy.posTime G fy.sw1 0)
  | _, _ => (0, 0, 0)

-- The model (R51, R52, R106) ---------------------------------------------------------------------------------------

/-- An output in the model. -/
def State.outView (s : State) (n : Nat) : OutView := s.vOuts.get OutView.start n

/-- The raster domain of a router output and of a router input, as ordered. -/
def State.outDom (s : State) (n : Nat) : Nat := let (e, p) := s.home n; s.view e .VO_DOMAIN p
def State.inDom (s : State) (n : Nat) : Nat := let (e, p) := s.home n; s.view e .VI_DOMAIN p

/-- The number of an object of R52 in the model: an output, an audio destination of a node, an object of a block of a node, the reference. -/
def objOut (n : Nat) : Nat := 2 ^ 45 + n
def objAudio (d : Nat) : Nat := 2 * 2 ^ 45 + d
def objBlock (b i : Nat) : Nat := 3 * 2 ^ 45 + b * 2 ^ 32 + i
def objRef : Nat := 4 * 2 ^ 45

/-- The number of the object of a field of node `n`. -/
def fieldObj (n : Nat) (f : Fld) (i : Nat) : Nat :=
  match f.obj i with
  | (1, p) => objOut (n * 128 + p)
  | (2, d) => objAudio d
  | (b, k) => objBlock b k

/-- The domain in which a field of node `n` lands (R59): its own where it is shadowed, the stamp's otherwise. -/
def State.landDom (s : State) (n : Nat) (f : Fld) (i : Nat) (st : Stamp) : Nat :=
  if f.desc.acc != .rws then st.dom
  else match f.desc.dom with
    | .vi => s.view n .VI_DOMAIN i
    | .vo => s.view n .VO_DOMAIN i
    | .gate => s.view n .MC_GATE_DOMAIN i
    | .fern => s.view n .FC_DOMAIN i
    | .tdm => s.view n .TD_DOMAIN i
    | .moss => s.view n .VO_DOMAIN (s.view n .MV_OUT_POS i)
    | .d0 | .none => 0

/-- What stands at an output now, as a body Spore. -/
def OutView.spore (v : OutView) (n : Nat) (legs : List Leg) : Nat :=
  let c (p : Nat) : Nat := ((legs.find? fun g => !g.up && g.plane == p && g.src == v.src && g.outs.contains n).map Leg.centre).getD 0
  encodeTake ⟨n, v.black, v.src, c 0, bit v.planes 0, false, c 1, bit v.planes 1, false, false, v.local_⟩

/-- The nodes that a body Spore of a take involves: source module, centres, destination module (R124). -/
def State.sporeNodes (s : State) (x : TakeSpore) : List Nat :=
  [(s.home x.dest).1] ++ (if x.black then [] else [(s.home x.src).1])
    ++ (if x.viaA then [centreNode 0 x.centreA] else []) ++ (if x.viaB then [centreNode 1 x.centreB] else [])

/-- The entries of R51 and R52 that an action makes. -/
def State.schedOf (s : State) (a : Action) : List Sched :=
  let at_ := fun d => (s.execFrame a.stamp d)
  match a.kind with
  | 1 | 2 => a.body.flatMap fun sp =>
      let x := decodeTake sp
      let (_, f, p) := at_ (s.outDom x.dest)
      let own : List Sched := if x.restore then [] else [⟨a.order, (s.home x.dest).1, objOut x.dest, f, p, (s.outView x.dest).spore x.dest s.vLegs⟩]
      own ++ (s.sporeNodes x).dedup.map fun n => ⟨a.order, n, 0, f, p, 0⟩
  | 3 => a.body.map fun sp =>
      let o := bits sp 0 12
      let (_, f, _) := at_ (s.outDom o)
      ⟨a.order, (s.home o).1, objOut o, f, f, (s.outView o).spore o s.vLegs⟩
  | 4 => a.body.map fun x =>
      let (_, f, _) := at_ a.stamp.dom
      -- an IMPORT has no object, and its module still holds the action (R51)
      ⟨a.order, bits x 64 6, if bits x 44 3 = 4 then 0 else objAudio (bits x 0 14), f, f, 0⟩
  | 5 => ((covered (decodeWrite a.body).1 (decodeWrite a.body).2).filter fun x => x.fld.desc.acc != .ro).map fun x =>
      let (_, f, _) := at_ (s.landDom a.node x.fld x.i a.stamp)
      ⟨a.order, a.node, fieldObj a.node x.fld x.i, f, f, 0⟩
  | 6 => let (_, f, _) := at_ a.stamp.dom; s.populated.map fun n => ⟨a.order, n, objRef, f, f, 0⟩
  | _ => []

/-- The entry stands for an action not yet executed. -/
def State.waits (s : State) (x : Sched) : Bool := decide (s.house < x.point)

/-- Ordering and capacity (R51, R52): the index of the first entry that breaks a rule, with its status. -/
def State.capacity (s : State) (new : List Sched) : Option (Status × Nat) :=
  let live := s.vSched.filter s.waits
  (List.range new.length).findSome? fun i => match new[i]? with
    | none => none
    | some x =>
      if x.obj ≠ 0 ∧ live.any (fun y => y.node == x.node && y.obj == x.obj && decide (x.at_ < y.at_)) then some (.STAMP_ORDER, i)
      else if 4096 ≤ ((live.filter fun y => y.node == x.node).map Sched.order).dedup.length then some (.SCHED_FULL, i)
      else none

/-- The point to which a leg that an action of this stamp ends or joins is tied (R106, R108): the destination's domain with the frame of its
switching line; for an immediate action 8 more than the domain, with its line boundary in ps. -/
def State.legPoint (s : State) (st : Stamp) (dy : Nat) : Nat × Nat :=
  if st.imm then (8 + dy, (s.execFrame st dy).2.2) else (dy, (s.execFrame st dy).1)

/-- The legs of the model with what has passed its release point gone (R108): the end of the switching line, or the line boundary. -/
def State.liveLegs (s : State) : List Leg :=
  s.vLegs.filter fun g => match g.until_ with
    | some (d, F) => !g.outs.isEmpty || (if 8 ≤ d then decide (s.house < F)
        else match s.domFormat d with | some fm => decide (s.house < fm.posTime F (fm.sw1 + 1) 0) | none => true)
    | none => true

/-- The present sources of the destinations end at their points (R106, R108), but where the destination keeps its source. -/
def State.endAll (s : State) (st : Stamp) (legs : List Leg) (xs : List TakeSpore) : List Leg :=
  xs.foldl (fun legs x =>
    let v := s.outView x.dest
    let dy := s.outDom x.dest
    if v.black ∨ (v.src = x.src ∧ !x.black) then legs else endUse legs v.src x.dest (s.legPoint st dy)) legs

/-- The path that a body Spore names, in the model (R107). -/
def State.learnPath (s : State) (st : Stamp) (legs : List Leg) (x : TakeSpore) : List Leg :=
  let dy := s.outDom x.dest
  let pt := s.legPoint st dy
  let e' := (s.home x.dest).1
  let add (legs : List Leg) (p : Nat) : List Leg :=
    let (c, via, hand) := x.plane p
    if via ∧ !x.black ∧ !x.local_ then s.addPath s.openAt legs (fun _ => true) (fun g => g.until_ == some pt) x.src x.dest e' p c hand (some pt) else legs
  add (add legs 0) 1

/-- The model learns the destinations of a take, salvo or RESTORE (R106 to R110). -/
def learnTakes (st : Stamp) (body : List Nat) : Act := look fun s =>
  let xs := body.map decodeTake
  all [one (.vLegs (xs.foldl (s.learnPath st) (s.endAll st s.liveLegs xs))),
    each xs fun x => look fun s =>
      let v := s.outView x.dest
      let planes := if x.black ∨ x.local_ then 0 else b2n x.viaA + 2 * b2n x.viaB
      let held := if x.restore then Nat.lor v.planes planes else planes
      all [one (.vOut x.dest ⟨if x.black then v.src else x.src, x.black, v.lock, v.holder, x.local_ && !x.black, held⟩),
        put .broken (if x.restore then (s.qn .broken x.dest - Nat.land (s.qn .broken x.dest) planes : Nat) else 0) x.dest]]

/-- The fields that an ordered WRITE sets at its node, as the model keeps them: WO fields leave nothing. -/
def learnWords (node a : Nat) (data : List Nat) : Act :=
  each ((covered a data).filter fun x => x.whole && x.fld.desc.acc != .ro && x.fld.desc.acc != .wo && x.fld.desc.acc != .w1c) fun x =>
    one (.vField (node * 2 ^ 64 + x.fld.key x.i x.j) x.v)

/-- The samples at which an audio action of this stamp starts (R223). -/
def State.audioStart (s : State) (st : Stamp) : Nat :=
  if st.imm then s.sampleFrom s.house else s.sampleFrom (s.execFrame st st.dom).2.1

/-- An export node goes Dfab samples after the ramp that frees it (R216). -/
def State.leaveTail (s : State) (dst : Nat) : Nat := match chanOfDest s.fast dst with | some (.bundle _ _) => s.dfab | _ => 0

/-- The nodes of the model after one entry of a node that starts at sample `i` (R220, R225): 0 SET, 1 ROUTE, 2 CLEAR, 3 CLEAR_ALL. `tail` is
what an export node waits beyond its ramp. -/
def learnEntry (tail : Nat) (node : Nat) (e : AEnt) (i : Nat) (ns : List VNode) : List VNode :=
  let here (n : VNode) : Bool := n.node == node && n.dst == e.dst
  let ends (n : VNode) (len : Nat) : VNode := { n with until_ := some (match n.until_ with | some u => min u (i + len) | none => i + len) }
  let clears (n : VNode) : VNode := ends n (if tail = 0 then (if n.transp then 0 else e.ramp) else e.ramp + tail)
  let rest := ns.filter fun n => !(here n && n.src == e.src)
  let new : VNode := ⟨node, e.dst, e.src, storedGain e.gain, e.inv, e.ramp, e.transp, i, none⟩
  match e.op with
  | 0 => (rest.map fun n => if here n ∧ n.transp then ends n 0 else n) ++ [new]
  | 1 => (rest.map fun n => if here n then ends n (if n.transp then 0 else n.ramp) else n) ++ [new]
  | 2 => ns.map fun n => if here n ∧ n.src = e.src then clears n else n
  | 3 => ns.map fun n => if here n then clears n else n
  | _ => ns

/-- The nodes of the model after node entries with their nodes in [69:64]. -/
def State.learnEntries (s : State) (i : Nat) (ns : List VNode) (es : List Nat) : List VNode :=
  es.foldl (fun ns x => let e := decodeEnt (x % 2 ^ 64); learnEntry (s.leaveTail e.dst) (bits x 64 6) e i ns) ns

/-- The import slots of the model after an IMPORT entry: at the importing module it assigns the slot, at the source module it keeps or ends it. -/
def State.learnImport (s : State) (i : Nat) (vs : List VImp) (x : Nat) : List VImp :=
  let bundle := bits x 0 13
  let n := bits x 64 6
  let cA := if bit x 30 then some (bits x 27 3) else none
  let cB := if bit x 34 then some (bits x 31 3) else none
  if bundle / 128 = n then
    vs.map fun v => if v.node = bits x 14 6 ∧ v.bundle = bundle then
      { v with until_ := if cA.isNone ∧ cB.isNone then some (i + bits x 47 12 + 1 + s.dfab) else none } else v
  else if 32 ≤ n ∧ n < 48 then vs
  else match chanOfSource s.fast (bits x 14 13) with
    | some (.bundle m _) => (vs.filter fun v => !(v.node == n && v.slot == m)) ++ [⟨n, m, bundle, cA, cB, none⟩]
    | _ => vs

/-- Nodes and import slots of the model that have not gone yet. -/
def State.liveNodes (s : State) : List VNode := s.vNodes.filter fun n => match n.until_ with | some u => decide (s.sampleAt s.house < u) | none => true
def State.liveImps (s : State) : List VImp := s.vImps.filter fun v => match v.until_ with | some u => decide (s.sampleAt s.house < u) | none => true

/-- The model learns the entries of an audio action (R214, R216, R221). -/
def learnAudio (st : Stamp) (es : List Nat) : Act := look fun s =>
  let i := s.audioStart st
  all [one (.vNodes (s.learnEntries i s.liveNodes (es.filter fun x => bits x 44 3 != 4))),
    one (.vImps ((es.filter fun x => bits x 44 3 == 4).foldl (s.learnImport i) s.liveImps))]

/-- The model learns a whole action: the manager when it orders it, the standby when it stores it (R29, R51, R135). -/
def learn (a : Action) : Act := look fun s => all [
  one (.vSched (s.vSched.filter s.waits ++ s.schedOf a)),
  match a.kind with
  | 1 | 2 => learnTakes a.stamp a.body
  | 3 => each a.body fun sp => look fun s =>
      let o := bits sp 0 12
      one (.vOut o { s.outView o with lock := bits sp 12 2, holder := if bits sp 12 2 = 0 then 0 else bits sp 14 16 })
  | 4 => learnAudio a.stamp a.body
  | 5 => let (ad, d) := decodeWrite a.body; learnWords a.node ad d
  | _ => skip]

-- Records (R25, R124, R508) ----------------------------------------------------------------------------------------

/-- The node under whose number the objects of node `n` are ordered: a standby partner's are those of its active partner (R371). -/
def State.ownerOf (s : State) (n : Nat) : Nat :=
  match s.cfg with
  | none => n
  | some g => match g.topo.find? fun x => decide (48 ≤ x.node) && x.node == n with
    | some x => x.partner
    | none => n

/-- Object address of RD_TAKEBACK (R374). -/
abbrev takebackAddr : Nat := 0x40E0001C

/-- Object address of RD_REARM (R374). -/
abbrev rearmAddr : Nat := 0x40E00020

/-- The WRITE sets RD_REARM at its node: which member of a pair counts declarations is no matter, so it clears them at both (R369, R373, log 38). -/
def rearms (body : List Nat) : Bool :=
  let (a, data) := decodeWrite body
  decide (a ≤ rearmAddr) && (data.getD ((rearmAddr - a) / 4) 0) % 2 == 1

/-- The body Spores of an action that node `n` gets; none makes the record a notice. A takeback executes at both members (R367). -/
def State.cut (s : State) (a : Action) (n : Nat) : List Nat :=
  let e := s.ownerOf n
  match a.kind with
  | 1 | 2 => a.body.filter fun sp => (s.sporeNodes (decodeTake sp)).contains e
  | 3 => a.body.filter fun sp => (s.home (bits sp 0 12)).1 == e
  | 4 => (a.body.filter fun x => bits x 64 6 == e).map fun x => x % 2 ^ 64
  | 5 => if a.node = e ∨ (n = s.node ∧ (decodeWrite a.body).1 = takebackAddr ∧ a.node = s.rd .RD_PARTNER) then a.body
    else if n = s.node ∧ s.rd .RD_ROLE = 1 ∧ a.node = s.rd .RD_PARTNER ∧ rearms a.body then encodeWrite rearmAddr [1] else []
  | _ => a.body

/-- The record of an action for node `n` (R124, R508). -/
def State.recordFor (s : State) (a : Action) (n : Nat) : Rec := ⟨a.kind, a.order, s.node, n, a.stamp, s.cut a n⟩

/-- The whole action for the standby (R362). -/
def State.wholeRecord (s : State) (a : Action) : Rec := ⟨a.kind, a.order, s.node, a.node, a.stamp, a.body⟩

/-- The record goes to the standby on both paths (R362). -/
def toStandby (r : Rec) : Act := look fun s => all [giveLichen r.stamp.imm r, giveRecord false (s.rd .RD_PARTNER) r]

/-- The module has a partner of its manager pair. -/
def State.hasPartner (s : State) : Bool := s.rd .RD_ROLE == 1

/-- The action is sent to every other node, and this module applies its own part (R25, R27). -/
def releaseAction (a : Action) : Act := look fun s =>
  let skipped (n : Nat) : Bool := n == s.node || (s.hasPartner && n == s.rd .RD_PARTNER)
  all [each (s.populated.filter fun n => !skipped n) fun n => giveRecord false n (s.recordFor a n),
    set .ORD_SEEN a.order, applyNext (s.recordFor a s.node)]

/-- A standby in STANDBY, as its last beat showed it, acknowledges before an action leaves (R27). -/
def State.awaitsAck (s : State) : Bool := s.hasPartner && s.q .partnerState == 4

/-- An answer leaves with the flag UNPROTECTED as it stands (R363). -/
def answerNow (a : Answer) : Act := look fun s => sendAnswer { a with flags := a.flags / 2 * 2 + s.rd .RD_UNPROT }

/-- A free moment in which a standby is failed or absent (R27): MANAGER_UNPROTECTED is raised on entry. -/
def unprotect : Act := look fun s =>
  iff (s.hasPartner && s.rd .SYS_MGR_ROLE == 1 && s.rd .RD_UNPROT == 0) (all [set .RD_UNPROT 1, raise .MANAGER_UNPROTECTED])

/-- An action is ordered (R25): the next number, the store of R29, the model, and the records, at once or after the standby's ACK. `ans` is the
answer that waits with it. -/
def order (kind : Nat) (st : Stamp) (node : Nat) (body : List Nat) (ans : Nat → Option Answer) : Act := look fun s =>
  let k := s.rd .ORD_NEXT
  let a : Action := ⟨k, kind, st, node, body⟩
  all [learn a, set .ORD_NEXT (succOrder k), one (.hist (s.hist ++ [a])),
    match ans k with | some x => one (.senders (s.senders ++ [(k, x.sess)])) | none => skip,
    iff s.hasPartner (toStandby (s.wholeRecord a)),
    if s.awaitsAck then all [one (.held (s.held ++ [⟨k, ans k⟩])), iff (s.timer .standbyResend).isNone (arm .standbyResend psMs)]
    else all [unprotect, releaseAction a, match ans k with | some x => answerNow x | none => skip]]

/-- Held actions up to order number `upTo` are released, oldest first (R27, R363). -/
def releaseHeld (upTo : Nat) : Act := look fun s =>
  let go := s.held.filter fun h => !later h.order upTo
  all [one (.held (s.held.filter fun h => later h.order upTo)),
    each go fun h => look fun s =>
      all [match s.hist.find? fun a => a.order == h.order with | some a => releaseAction a | none => skip,
        match h.ans with | some x => answerNow x | none => skip],
    look fun s => iff s.held.isEmpty (disarm .standbyResend)]

/-- Everything held is released: no standby acknowledges any more (R27). -/
def releaseAll : Act := look fun s => match s.held.getLast? with | some h => releaseHeld h.order | none => skip

/-- The answer ACCEPTED to an ordering message, with its order number and stamp (R122, R383). -/
def State.accepted (s : State) (m : Msg) (st : Stamp) (status : Status) (data : List Nat) (order : Nat) : Option Answer :=
  some { s.mkAnswer m status with order := order, stamp := encodeStamp st, data := data, flags := if data.isEmpty then 0 else 8 }

-- State images (R34) -----------------------------------------------------------------------------------------------

/-- The whole words that hold a field of a node, as the model has its neighbours too. -/
def State.viewWords (s : State) (n : Nat) (f : Fld) (i j : Nat) : Nat × List Nat :=
  let lo := f.bitAddr i j / 32 * 4
  let hi := (f.bitAddr i j + f.desc.width - 1) / 32 * 4
  let word (a : Nat) : Nat := (Fld.ofBlock (blockOf a)).foldl (fun w g => (g.copiesIn a).foldl (fun w (x, y) =>
    let b := g.bitAddr x y
    let v := if g.desc.acc == .wo || g.desc.acc == .w1c || g.desc.acc == .ro then 0 else s.view n g x y
    w + (if a * 8 ≤ b then v * 2 ^ (b - a * 8) else v / 2 ^ (a * 8 - b)) % 2 ^ 32) w) 0 % 2 ^ 32
  (lo, (List.range ((hi - lo) / 4 + 1)).map fun k => word (lo + 4 * k))

/-- An IMPORT entry (R221) for a node: `src` is the first AS of the slot at the importing module, the importing module's number elsewhere. -/
def importAt (node bundle src : Nat) (a b : Option Nat) : Nat :=
  bundle + src % 8192 * 2 ^ 14 + a.getD 0 * 2 ^ 27 + b2n a.isSome * 2 ^ 30 + b.getD 0 * 2 ^ 31 + b2n b.isSome * 2 ^ 34 + 4 * 2 ^ 44 + node * 2 ^ 64

/-- The legs of a bundle at its source module and at the centres (R214). -/
def farImports (bundle d : Nat) (a b : Option Nat) : List Nat :=
  [importAt (bundle / 128) bundle d a b] ++ (match a with | some c => [importAt (centreNode 0 c) bundle d a none] | none => [])
    ++ (match b with | some c => [importAt (centreNode 1 c) bundle d none b] | none => [])

/-- A stream of the model runs on a link of node `n`. -/
def State.legAt (s : State) (n : Nat) (g : Leg) : Bool :=
  if 32 ≤ n ∧ n < 48 then g.plane == (n - 32) / 8 && g.centre == (n - 32) % 8 else g.edge == s.ownerOf n || g.node == s.ownerOf n

/-- The objects of node `n` as they stand (R34, log 12): outputs before their waiting takes, audio nodes and imports, ordered fields, streams on
its links, and the actions ordered and not yet executed there. -/
def State.imageOf (s : State) (n : Nat) : List ImgObj :=
  let waiting := s.vSched.filter fun x => s.waits x && x.node == s.ownerOf n
  let e := s.ownerOf n
  let outs := s.vOuts.filterMap fun (o, v) => if (s.home o).1 = e then
      (let sp := match waiting.find? fun x => x.obj == objOut o with | some x => x.prev | none => v.spore o s.vLegs
       some (ImgObj.output sp v.lock v.holder)) else none
  let nodes := (s.vNodes.filter fun v => v.node == e && v.until_.isNone).map fun v =>
    ImgObj.node (encodeEnt ⟨v.dst, v.src, v.gain, v.inv, if v.transp then 1 else 0, max 1 v.ramp, v.transp⟩ + e * 2 ^ 64)
  let imps := (s.vImps.filter fun v => v.until_.isNone).flatMap fun v =>
    ((importAt v.node v.bundle (s.importNo v.slot 0) v.a v.b :: farImports v.bundle v.node v.a v.b).filter fun x => bits x 64 6 == e).map ImgObj.node
  let words := (s.vFields.filterMap fun (k, _) =>
    if k / 2 ^ 64 = e then
      (let r := k % 2 ^ 64
       (Fld.all.find? fun f => f.ctorIdx == r / 2 ^ 40).map fun f => s.viewWords e f (r / 2 ^ 20 % 2 ^ 20) (r % 2 ^ 20))
    else none).dedup.map fun (a, d) => ImgObj.words (a + e * 2 ^ 64) d
  let slots := (s.liveLegs.filter (s.legAt n)).map ImgObj.slot
  let acts := (waiting.map Sched.order).dedup.filterMap fun o =>
    (s.hist.find? fun a => a.order == o).map fun a => ImgObj.action (s.recordFor a n)
  outs ++ imps ++ nodes ++ words ++ slots ++ acts

/-- The newest order number that the manager has given. -/
def State.lastOrder (s : State) : Nat :=
  if s.rd .ORD_NEXT ≤ 1 then (match s.hist.getLast? with | some a => a.order | none => 0) else s.rd .ORD_NEXT - 1

/-- A state image leaves for a node, stamped three D0 frames ahead (R34, log 23). A pair partner gets the objects of every
node, and a copy of any other node's image before it (R362). -/
def sendImage (n : Nat) : Act := look fun s =>
  let st : Stamp := ⟨s.frameNow 0 + 3, 0, 0, false⟩
  let partner := s.hasPartner && n == s.rd .RD_PARTNER
  let objs := (if partner then s.populated.flatMap s.imageOf else s.imageOf n).dedup
  all [iff (s.hasPartner && !partner) (emit (.imageCopy n s.lastOrder st objs)), emit (.image n s.lastOrder st objs)]

end Sys2Proof.Machine
end

