-- ==== Sys2Proof/Machine/Trarad.lean ====
section
/-! DEFINITION. Trarad sessions (16_trarad_control.md, R375 to R382), reads and queries (R387, R388), events to sessions and to firmware (R391 to
R394), GPI and GPO lines (R397, R398). -/
set_option Elab.async false
namespace Sys2Proof.Machine
open Host

-- Sessions ---------------------------------------------------------------------------------------------------------

/-- A token of R378, and a full bucket, in picoseconds of refill. -/
abbrev token : Nat := 50000000
abbrev bucketFull : Nat := 200 * token

/-- The session's bucket now. -/
def Session.fill (x : Session) (now : Nat) : Nat := min bucketFull (x.bucket + (now - x.bucketAt))

/-- A sequence number that the module accepts (R380): above the highest, or within the 64 below it and not yet seen. -/
def Session.fresh (x : Session) (hi seq : Nat) : Bool :=
  decide (hi < seq) || (decide (1 ≤ seq) && decide (seq < hi) && decide (hi ≤ seq + 64) && !x.seen.contains seq)

/-- A datagram finds the bucket empty (R378): it is answered, not acted on, and not kept. -/
def rateRefuse (m : Msg) (x : Session) : Act := look fun s => all [
  emit (.answer (s.mkAnswer m .RATE_LIMIT)), count .TS_SEQ_TX 1 m.sess, count .TS_RATE_REFUSED 1 m.sess,
  iff (!x.rateRaised || decide (x.rateRaisedAt + psS ≤ s.now))
    (all [putSession { x with rateRaised := true, rateRaisedAt := s.now }, raise .SESSION_RATE_LIMIT m.sess])]

/-- A valid message keeps its session open, and the update lock of its holder (R375, R458). -/
def keepAlive (n : Nat) : Act := look fun s => all [
  arm .sessIdle (s.rd .TC_IDLE_S * psS) n,
  iff (s.holdsOpen n) (arm .updLock (60 * psS))]

/-- No part is missing of the message that `m` completes (R379): none waits, or all from the first to it are there. -/
def State.partsIn (s : State) (x : Session) (m : Msg) : Bool :=
  let first := s.qn .partSeq m.sess
  (s.timer .msgPart m.sess).isNone || decide (m.seq ≤ first) || (List.range (m.seq - first)).all fun k => x.seen.contains (first + k)

/-- A datagram of a session (R378 to R380): `act` comes about when its last part has been accepted. A message of which a part between its first and
its last is missing waits for the end of its 100 ms (R379, log 25). -/
def received (m : Msg) (act : Act) : Act := look fun s =>
  match s.session m.sess with
  | none => skip
  | some x =>
    let fill := x.fill s.now
    let hi := s.rd .TS_SEQ_RX m.sess
    if s.rd .TS_STATE m.sess ≠ 2 then skip
    else if !m.tagOk then count .TC_TAG_FAILS
    else if fill < token then rateRefuse m x
    else
      let x := { x with bucket := fill - token, bucketAt := s.now }
      match x.answers.find? fun a => a.seq == m.seq with
      | some a => all [putSession x, emit (.answer { a with flags := Nat.lor a.flags 2 }), count .TS_SEQ_TX 1 m.sess]
      | none =>
        if 0xFFFFFFFF ≤ m.seq then closeSession m.sess
        else if !x.fresh hi m.seq then all [putSession x, count .TS_DUPS 1 m.sess]
        else
          let top := max hi m.seq
          all [putSession { x with seen := (m.seq :: x.seen).filter fun q => decide (top ≤ q + 64) }, set .TS_SEQ_RX top m.sess, count .TS_MSGS 1 m.sess,
            keepAlive m.sess,
            if m.more then (if (s.timer .msgPart m.sess).isNone then all [arm .msgPart (100 * psMs) m.sess, put .partSeq m.seq m.sess]
              else iff (decide (m.seq < s.qn .partSeq m.sess)) (put .partSeq m.seq m.sess))
            else iff (s.partsIn x m) (all [disarm .msgPart m.sess, act])]

/-- The session is a claim session, or the module is unclaimed (R382, R421). -/
def State.claimOnly (s : State) (n : Nat) : Bool := s.owners.isEmpty || (match s.session n with | some x => x.claim | none => false)

/-- The session was opened on SVC. -/
def State.onSvc (s : State) (n : Nat) : Bool := s.rd .TS_PORT n == 2

/-- An ordering message (R381): taken by the active manager on C0 and C1. -/
def ordering (m : Msg) (priv : Nat) (act : Act) : Act := received m (look fun s =>
  if s.claimOnly m.sess then answer m .NOT_CLAIMED
  else if s.onSvc m.sess then answer m .NOT_SUPPORTED
  else if !s.isManager then answer m .NOT_MANAGER
  else if !m.lenOk then answer m .BAD_MESSAGE
  else if !bit (s.rd .TS_PRIV m.sess) priv then answer m .NO_PRIVILEGE
  else act)

/-- Alignment and length of a READ or WRITE (R385). -/
def badRange (addr bytes : Nat) : Option Status :=
  if addr % 4 ≠ 0 then some .BAD_ALIGN
  else if bytes % 4 ≠ 0 ∨ bytes = 0 ∨ 1024 < bytes ∨ addr / 0x100000 ≠ (addr + bytes - 1) / 0x100000 then some .TOO_LONG
  else none

-- Set-up -----------------------------------------------------------------------------------------------------------

/-- Why a controller certificate is refused (R423), if it is: its chain, its serial, its validity. -/
def State.certStatus (s : State) (c : Cert) : Option Status :=
  let now := s.activeTime / psS
  if !c.chainOk ∨ !c.controller ∨ s.owners.isEmpty then some .CERT_CHAIN
  else if (match s.cfg with | some g => g.revoked.contains c.serial | none => false) then some .CERT_REVOKED
  else if s.rd .PT_TOD_VALID = 1 ∧ (now < (c.notBefore : Int) ∨ (c.notAfter : Int) < now) then some .CERT_EXPIRED
  else none

/-- A slot that a port's next session takes (R375): 32 for C0 and C1 together, 2 for SVC. -/
def State.freeSlot (s : State) (port : Nat) : Option Nat :=
  (if port = 2 then [32, 33] else List.range 32).find? fun n => (s.session n).isNone

/-- A session opens in a slot (R376): its TS_ fields return to their reset values. -/
def openSession (n port ctrl priv : Nat) (claim : Bool) : Act := look fun s => all [
  each [Fld.TS_SEQ_RX, .TS_SEQ_TX, .TS_MSGS, .TS_RATE_REFUSED, .TS_DUPS, .TS_EVQ_FILL, .TS_EVQ_LOST] fun f => set f 0 n,
  set .TS_STATE 1 n, set .TS_PORT port n, set .TS_CTRL_ID ctrl n, set .TS_PRIV priv n,
  one (.sessions (s.sessions ++ [⟨n, port, claim, bucketFull, s.now, 0, false, [], [], 0, [], none, 0, 0⟩])),
  arm .sessConfirm (2 * psS) n, emit (.openAck n)]

/-- A failure of session set-up (R376). -/
def authFail (port : Nat) : Act := all [emit (.openRefused port Status.NOT_AUTHORISED.code), count .TC_AUTH_FAILS, raise .SESSION_AUTH_FAIL]

/-- An OPEN arrives on a port (R375, R376, R382, R421). -/
def openArrives (port : Nat) (c : Cert) : Act := look fun s =>
  if s.rd .SU_STATE < 3 ∨ 3 ≤ port ∨ (port ≠ 2 ∧ s.rd .SU_STATE = 4) then skip
  else match s.freeSlot port with
    | none => emit (.openRefused port Status.SESSIONS_FULL.code)
    | some n => match s.certStatus c with
      | none => openSession n port c.ctrlId (c.priv % 16) false
      | some st =>
        if port = 2 ∧ c.selfSigned then openSession n port 0 0 true
        else all [count .SEC_CERT_REJECTED, raise .SEC_CERT_REJECTED 0 st.code, authFail port]

-- Queries ----------------------------------------------------------------------------------------------------------

/-- The present nodes that the module knows as (node, destination, source): the router's at the active manager, else its own. -/
def State.knownNodes (s : State) : List (Nat × Nat × Nat) :=
  if s.isManager ∧ !s.standAlone then (s.vNodes.filter fun v => v.until_.isNone).map fun v => (v.node, v.dst, v.src)
  else (s.nodes.filter fun n => !n.leaving).map fun n => (s.node, n.dst, n.src)

/-- A field of a node as the module knows it. -/
def State.known (s : State) (n : Nat) (f : Fld) (i : Nat) : Nat := if n = s.node then s.rd f i else s.view n f i

/-- The core of node `n` that gives Fern output `o`, with its inputs and its latency FC_LATENCY (R255, R258). -/
def State.fernCore (s : State) (n o : Nat) : Option (List Nat × Nat) :=
  ((List.range 32).find? fun c => s.known n .FC_PROG c != 63 && (n != s.node || s.rd .FC_STATE c != 0)
      && decide (s.known n .FC_OUT_FIRST c ≤ o) && decide (o < s.known n .FC_OUT_FIRST c + s.known n .FC_OUT_COUNT c)).map fun c =>
    ((List.range (s.known n .FC_IN_COUNT c)).map fun k => s.known n .FC_IN_FIRST c + k, 2 * (8 * 2 ^ s.known n .FC_BLOCK c) + s.known n .FC_ALG_LAT c)

/-- The terms of R234 from a source to a destination of node `n` (code, samples), nodes, buses, imports and Fern cores between; a mix-minus term
leaves out the bus's node from `but` (R228). `fuel` bounds the path, which no loop repeats (R226). -/
def State.pathTerms (s : State) (srcNode as : Nat) : Nat → Nat → Nat → Option Nat → Option (List (Nat × Nat))
  | 0, _, _, _ => none
  | fuel + 1, n, d, but =>
    let viaNode (src : Nat) : Option (List (Nat × Nat)) :=
      if n = srcNode ∧ src = as then some [(6, 1)]
      else match chanOfSource s.fast src with
        | some (.bus b) => (State.pathTerms s srcNode as fuel n (busDst b) none).map fun l => l ++ [(7, 1), (6, 1)]
        | some (.fern o) => match s.fernCore n o with
          | some (ins, lat) => ins.findSome? fun i => (State.pathTerms s srcNode as fuel n (s.fernNo i) none).map fun l => l ++ [(9, lat), (6, 1)]
          | none => none
        | some (.bundle m ch) =>
          let bundle := if n = s.node then (if s.rd .AI_VALID m = 1 then some (s.rd .AI_BUNDLE m) else none)
            else (s.vImps.find? fun v => v.node == n && v.slot == m).map VImp.bundle
          match bundle with
          | some b => (State.pathTerms s srcNode as fuel (b / 128) (s.exportNo (b % 128) ch) none).map fun l => l ++ [(8, s.dfab), (6, 1)]
          | none => none
        | _ => none
    match (s.knownNodes.filter fun x => x.1 == n && x.2.1 == d && but != some x.2.2).findSome? fun x => viaNode x.2.2 with
    | some l => some l
    | none => if d < 8192 ∧ s.known n .AD_MM_EN d = 1 then (State.pathTerms s srcNode as fuel n (busDst (s.known n .AD_MM_BUS d)) (some (s.known n .AD_MM_AS d))).map fun l => l ++ [(7, 1)] else none

/-- The terms before the matrix, and whether a converter is among them (R74, R178, R234). -/
def State.inTerms (s : State) (n as : Nat) : List (Nat × Nat) × Bool :=
  match chanOfSource s.fast as with
  | some (.edge slot _) =>
    let port := if s.standAlone then (if s.known n .AM_DEEMB_EN slot = 1 then some (s.known n .AM_DEEMB_PORT slot) else none) else some slot
    let asrc := n = s.node && s.srcAsrc as
    let conv : List (Nat × Nat) := if asrc then [(3, 64)] else []
    let flow := (List.range 512).find? fun k => s.known n .IA_MODE k != 0 && decide (s.known n .IA_FIRST_AS k ≤ as) && decide (as < s.known n .IA_FIRST_AS k + s.known n .IA_CHANNELS k)
    match flow, port with
    | some k, _ => ((4, s.known n .IA_PLAYOUT k) :: conv, asrc)
    | none, some p =>
      if s.known n .VI_ALIGN p = 0 then
        let delay := match format (s.rd .RD_FORMAT (s.known n .VI_DOMAIN p)) with
          | some fm => (nearest (((s.known n .VI_FS_MIN p + 8) * s.rate * fm.den : Nat) : Int) (16 * fm.num)).toNat
          | none => 0
        ((2, delay + 2) :: conv, asrc)
      else ((1, 2) :: conv, asrc)
    | none, none => ([], false)
  | some (.tdm _ _) => ((5, 2) :: (if n = s.node && s.srcAsrc as then [(3, 64)] else []), n = s.node && s.srcAsrc as)
  | some (.gen _) => ([(13, 0)], false)
  | _ => ([], false)

/-- The term after the matrix (R156, R179, R234). -/
def State.outTerms (s : State) (n d : Nat) : List (Nat × Nat) :=
  match chanOfDest s.fast d with
  | some (.edge slot _) =>
    let port := if s.standAlone then (if s.known n .AM_EMB_EN slot = 1 then some (s.known n .AM_EMB_PORT slot) else none) else some slot
    let flow := (List.range 512).find? fun k => s.known n .OA_MODE k != 0 && decide (s.known n .OA_FIRST_AD k ≤ d) && decide (d < s.known n .OA_FIRST_AD k + s.known n .OA_CHANNELS k)
    match flow, port with
    | some k, _ => [(11, (if s.known n .OA_PTIME k = 0 then s.rate / 1000 else s.rate / 8000) + 3)]
    | none, some p =>
      let x := toSigned (s.known n .VO_OFFSET p) Fld.VO_OFFSET.desc.width
      match format (s.rd .RD_FORMAT (s.known n .VO_DOMAIN p)) with
      | some fm =>
        let added := if x < 0 then fm.samples - x.natAbs else x.natAbs
        [(10, 2 + (nearest ((added * s.rate * fm.den : Nat) : Int) (fm.num * fm.samples)).toNat)]
      | none => [(10, 2)]
    | none, none => []
  | some (.tdm _ _) => [(12, 2)]
  | _ => []

/-- The terms of R234 along a path, and whether a converter is among them; none where there is no path. -/
def State.latencyTerms (s : State) (srcNode as dstNode ad : Nat) : Option (List (Nat × Nat) × Bool) :=
  (s.pathTerms srcNode as 12 dstNode ad none).map fun mid =>
    let (pre, asrc) := s.inTerms srcNode as
    (pre ++ mid ++ s.outTerms dstNode ad, asrc)

/-- QUERY of kind LATENCY (R235, R388): the total, then each term as its code and its value. -/
def latencyQuery (m : Msg) (terms : Option (List (Nat × Nat) × Bool)) : Act := look fun s =>
  match terms with
  | none => answer m .NO_PATH
  | some (ts, asrc) =>
    sendAnswer { s.mkAnswer m .ACCEPTED with flags := if asrc then 4 else 0, data := (ts.map fun x => x.2).sum :: ts.flatMap fun x => [x.1, x.2] }

/-- The clamp report part `p` (R447): CR_COUNT in [15:0], the number of parts in [31:16] and PREVIOUS in bit 32 of the head, then entries 56p to
56p + 55, six values each. -/
def State.clampPart (s : State) (p : Nat) : List Nat :=
  let n := s.clampReport.length
  (n + (n + 55) / 56 * 2 ^ 16 + b2n (s.q .reportOwn == 0) * 2 ^ 32) ::
    ((s.clampReport.drop (56 * p)).take 56).flatMap fun e => [e.addr + e.lsb * 2 ^ 40 + e.width * 2 ^ 48 + e.kind * 2 ^ 56, e.status, e.image, e.stored, e.record]

/-- The fields of a node that a NODE query returns (R237). -/
def nodeFields : List Fld := [.AN_PRESENT, .AN_INV, .AN_TRANSP, .AN_RAMPING, .AN_GAIN, .AN_RAMP, .AN_COEF]

/-- The fields that the SDP text of a send flow speaks of (R176). -/
def sdpFields (kind : Nat) : List Fld :=
  if kind = 1 then [.OV_MODE, .OV_ANC, .OV_DUAL, .OV_IPV6, .OV_SHAPE, .OV_COLOR, .OV_MAC_A, .OV_MAC_B, .OV_UDP_A, .OV_UDP_B, .OV_ANC_UDP, .OV_DSCP,
    .OV_TTL, .OV_VLAN, .OV_PCP, .OV_PT_VID, .OV_PT_ANC, .OV_GRP_A, .OV_GRP_B, .VO_DOMAIN]
  else [.OA_MODE, .OA_DUAL, .OA_IPV6, .OA_L16, .OA_PTIME, .OA_CHANNELS, .OA_MAC_A, .OA_MAC_B, .OA_UDP_A, .OA_UDP_B, .OA_DSCP, .OA_TTL, .OA_PT,
    .OA_VLAN, .OA_PCP, .OA_GRP_A, .OA_GRP_B]

-- Events to sessions -----------------------------------------------------------------------------------------------

/-- An EVENT leaves when records wait and none sent is unacknowledged (R392). -/
def eventSend (n : Nat) : Act := look fun s =>
  match s.session n with
  | none => skip
  | some x =>
    if x.unacked.isSome ∨ x.queue.isEmpty ∨ s.rd .TS_STATE n ≠ 2 then skip
    else
      let k := min 16 x.queue.length
      let seq := s.rd .TS_SEQ_TX n + 1
      all [putSession { x with unacked := some (seq, k) }, set .TS_SEQ_TX seq n, emit (.event n seq (x.queue.take 16)),
        arm .eventResend (s.rd .TC_RESEND_MS * psMs) n]

/-- The records of an acknowledged EVENT leave the queue; a loss is entered ahead of any later record (R392). -/
def eventAcked (n ack : Nat) : Act := look fun s =>
  match s.session n with
  | none => skip
  | some x =>
    match x.unacked with
    | none => skip
    | some (seq, k) =>
      if seq ≠ ack then skip
      else
        let left := x.queue.drop k
        let entry : EvRec := ⟨Ev.EVENT_QUEUE_OVERFLOW.num, s.node, n, x.lostSerial, x.lost, s.houseS, s.houseNs⟩
        let left := if 0 < x.lost then left ++ [entry] else left
        all [putSession { x with queue := left, unacked := none, lost := 0 }, set .TS_EVQ_FILL left.length n, disarm .eventResend n]

-- GPI --------------------------------------------------------------------------------------------------------------

/-- The level of a GPI line has held for GP_DEBOUNCE_US (R397). -/
def gpiHeld (k : Nat) (level : Bool) : Act := look fun s => gpiLine k (level != bit (s.rd .GP_POL) k)

-- Commands ---------------------------------------------------------------------------------------------------------

/-- OPEN (R376). -/
def execOpen (t port : Nat) (cert : Cert) (s : State) : Outcome State Fault Refusal := run (all [at_ t, openArrives port cert]) s

/-- CONFIRM (R376): OPEN on success; on failure the session closes and is counted as a failed OPEN. -/
def execConfirm (t sess : Nat) (sigOk : Bool) (s : State) : Outcome State Fault Refusal :=
  run (all [at_ t, look fun s => iff ((s.session sess).isSome && s.rd .TS_STATE sess == 1)
    (if sigOk then all [set .TS_STATE 2 sess, disarm .sessConfirm sess, arm .sessIdle (s.rd .TC_IDLE_S * psS) sess, sessionsShow, raise .SESSION_OPEN sess]
     else all [authFail (s.rd .TS_PORT sess), closeSession sess])]) s

/-- SESSION_CONFIRM_TIMEOUT (R376): 2 s without CONFIRM. -/
def execSessionConfirmTimeout (t sess : Nat) (s : State) : Outcome State Fault Refusal :=
  run (all [at_ t, look fun s => iff (s.due .sessConfirm sess) (all [authFail (s.rd .TS_PORT sess), closeSession sess])]) s

/-- CLOSE (R381): answered, and the session closes. -/
def execClose (m : Msg) (s : State) : Outcome State Fault Refusal :=
  run (all [at_ m.t, received m (all [answer m .ACCEPTED, closeSession m.sess])]) s

/-- SESSION_IDLE_TIMEOUT (R375): TC_IDLE_S without a valid message. -/
def execSessionIdleTimeout (t sess : Nat) (s : State) : Outcome State Fault Refusal :=
  run (all [at_ t, look fun s => iff (s.due .sessIdle sess) (closeSession sess)]) s

/-- MESSAGE_PART_TIMEOUT (R379): the message is discarded; the answer names its first part (log 25). -/
def execMessagePartTimeout (t sess : Nat) (s : State) : Outcome State Fault Refusal :=
  run (all [at_ t, look fun s => iff (s.due .msgPart sess)
    (all [disarm .msgPart sess, answer ⟨s.now, sess, s.qn .partSeq sess, false, true, true⟩ .BAD_MESSAGE])]) s

/-- READ (R387). -/
def execRead (m : Msg) (addr bytes : Nat) (s : State) : Outcome State Fault Refusal :=
  run (all [at_ m.t, received m (look fun s =>
    if !m.lenOk then answer m .BAD_MESSAGE
    else match badRange addr bytes with
      | some st => answer m st
      | none => answerData m (s.readWords addr (bytes / 4)))]) s

/-- QUERY_LATENCY (R235). -/
def execQueryLatency (m : Msg) (srcNode as dstNode ad : Nat) (s : State) : Outcome State Fault Refusal :=
  run (all [at_ m.t, look fun s => received m (latencyQuery m (s.latencyTerms srcNode as dstNode ad))]) s

/-- QUERY_NODE (R237). -/
def execQueryNode (m : Msg) (dst dbus src : Nat) (s : State) : Outcome State Fault Refusal :=
  run (all [at_ m.t, look fun s => received m (answerData m (nodeFields.map (s.nodeField (s.lookNode dst dbus src))))]) s

/-- QUERY_SDP (R176): a video position's or an audio flow's send entry. -/
def execQuerySdp (m : Msg) (kind index : Nat) (s : State) : Outcome State Fault Refusal :=
  run (all [at_ m.t, received m (look fun s =>
    if (kind = 1 ∧ index < 256) ∨ (kind = 3 ∧ index < 512) then answerData m (Config.sdpText kind index (((sdpFields kind).map fun f => s.rd f index) ++
      [s.ssrc (if kind = 1 then 0 else 2) index, if kind = 1 then s.fmtOut index else s.rate]))
    else answer m .NO_SUCH_OBJECT)]) s

/-- QUERY_CLAMP_REPORT (R447). -/
def execQueryClampReport (m : Msg) (part : Nat) (s : State) : Outcome State Fault Refusal :=
  run (all [at_ m.t, look fun s => received m (answerData m (s.clampPart part))]) s

/-- SUBSCRIBE (R392): the mask replaces the session's. -/
def execSubscribe (m : Msg) (mask : Nat) (s : State) : Outcome State Fault Refusal :=
  run (all [at_ m.t, received m (look fun s =>
    if s.claimOnly m.sess then answer m .NOT_CLAIMED
    else if s.rd .SU_STATE = 4 then answer m .NOT_SUPPORTED
    else match s.session m.sess with
      | some x => all [putSession { x with mask := mask % 2 ^ 1024 }, answer m .ACCEPTED]
      | none => skip)]) s

/-- EVENT_ACK (R392): not answered. -/
def execEventAck (m : Msg) (ackSeq : Nat) (s : State) : Outcome State Fault Refusal :=
  run (all [at_ m.t, received m (eventAcked m.sess ackSeq)]) s

/-- HEARTBEAT (R381): house time in seconds and nanoseconds, ORD_APPLIED and RD_STATE. -/
def execHeartbeat (m : Msg) (s : State) : Outcome State Fault Refusal :=
  run (all [at_ m.t, received m (look fun s => answerData m [s.house / psS, s.houseNs, s.rd .ORD_APPLIED, s.rd .RD_STATE_PAIR])]) s

/-- EVENT_SEND (R392). -/
def execEventSend (t sess : Nat) (s : State) : Outcome State Fault Refusal := run (all [at_ t, eventSend sess]) s

/-- EVENT_RESEND_TIMEOUT (R392): TC_RESEND_MS after an unacknowledged EVENT it is sent again unchanged. -/
def execEventResendTimeout (t sess : Nat) (s : State) : Outcome State Fault Refusal :=
  run (all [at_ t, look fun s => iff (s.due .eventResend sess)
    (match s.session sess with
     | none => skip
     | some x => match x.unacked with
       | some (seq, k) => all [emit (.event sess seq (x.queue.take k)), arm .eventResend (s.rd .TC_RESEND_MS * psMs) sess]
       | none => disarm .eventResend sess)]) s

/-- EQ_ACK (R393): 1 pops the oldest record; EMPTY where there is none. -/
def execEqAck (value : Nat) (s : State) : Outcome State Fault Refusal :=
  run (look fun s => iff (value % 2 == 1) (if s.rd .EQ_COUNT = 0 then sayWritten .EQ_ACK 0 0 .EMPTY 0 else eqPop)) s

/-- EP_LATCH_CLEAR (R394): bits written as 1 clear, and the pins follow. -/
def execEpLatchClear (word mask : Nat) (s : State) : Outcome State Fault Refusal := run (w1cAct .EP_LATCH word 0 mask) s

/-- GPI_CHANGE (R397): a line's level has held for GP_DEBOUNCE_US. -/
def execGpiChange (t line : Nat) (level : Bool) (s : State) : Outcome State Fault Refusal :=
  run (all [at_ t, look fun s => iff (decide (line < 32) && s.q .powerGood == 1) (gpiHeld line level)]) s

/-- GPO_PULSE_START (R398): the ordered pulses whose line and sample have come. -/
def execGpoPulseStart (t : Nat) (s : State) : Outcome State Fault Refusal :=
  run (all [at_ t, look fun s =>
    let due := s.acts.filter fun p => decide (p.at_ ≤ s.house) && (match p.pt, p.item with | .line _ _, .words _ _ => true | _, _ => false)
    all [setActs (s.acts.filter fun p => !due.contains p),
      each due fun p => match p.item with | .words a d => writeWords a d p.stamp.dom p.order | _ => skip]]) s

/-- GPO_PULSE_END (R398): GP_PULSE_US after its start. -/
def execGpoPulseEnd (t line : Nat) (s : State) : Outcome State Fault Refusal :=
  run (all [at_ t, look fun s => iff (s.due .gpoEnd line) (pulseEnd line)]) s

end Sys2Proof.Machine
end

