-- ==== Sys2Proof/Machine/Orders.lean ====
section
/-! DEFINITION. The ordering messages TAKE, SALVO, LOCK, REALIGN and WRITE at the active manager (05_takes_and_clean_switching.md, R119 to R125,
R134 to R137; 12_reference_selection.md, R302; 16_trarad_control.md, R385, R386). -/
set_option Elab.async false
namespace Sys2Proof.Machine
open Host

/-- A destination after expansion: its position in the message, the output, the source, BLACK. -/
structure Want where
  pos : Nat
  dest : Nat
  src : Nat
  black : Bool
  deriving DecidableEq, Repr

/-- What refuses an action: a status and the position of the destination that it names. -/
abbrev Bar := Option (Status × Nat)

/-- The first destination for which `f` gives a status. -/
def barOf (ws : List Want) (f : Want → Option Status) : Bar := ws.findSome? fun w => (f w).map fun st => (st, w.pos)

-- Expansion (R119, R120) -------------------------------------------------------------------------------------------

/-- The members of an output group that the image declares. -/
def State.group (s : State) (g : Nat) : List Nat :=
  match s.cfg with
  | none => []
  | some c => ((c.groups.find? fun x => x.1 == g).map fun x => x.2).getD []

/-- The destinations of a message, groups replaced by their members. -/
def State.expand (s : State) (ds : List Dest) : List Want :=
  (List.range ds.length).flatMap fun i => match ds[i]? with
    | none => []
    | some d => if d.group then (s.group d.dest).map fun o => ⟨i, o, d.src, d.black⟩ else [⟨i, d.dest, d.src, d.black⟩]

/-- The position of a group that the image does not declare, or declares empty. -/
def State.noGroup (s : State) (ds : List Dest) : Option Nat :=
  (List.range ds.length).find? fun i => match ds[i]? with | some d => d.group && (s.group d.dest).isEmpty | none => false

-- Checks (R122) ----------------------------------------------------------------------------------------------------

/-- The number is an output or input of a populated edge module, or of the stand-alone module. -/
def State.hasPort (s : State) (n : Nat) : Bool := if s.standAlone then decide (n < 256) else decide (n < 4096) && s.isPopEdge (n / 128)

/-- VO_LINK_MODE of an output, VI_LINK_MODE of an input: 0 single, 1 base, 2 member of a quad-link group (R64, R121). -/
def State.outLink (s : State) (n : Nat) : Nat := s.view (s.home n).1 .VO_LINK_MODE (s.home n).2
def State.inLink (s : State) (n : Nat) : Nat := s.view (s.home n).1 .VI_LINK_MODE (s.home n).2

/-- The quad-link rules of R121. DESIGN CHOICE: a quad-link output with a member input as its source is QUAD_MEMBER (log 47). -/
def State.quadBar (s : State) (w : Want) : Option Status :=
  let o := s.outLink w.dest
  let i := if w.black then 0 else s.inLink w.src
  if o = 2 ∨ (o = 1 ∧ i = 2) then some .QUAD_MEMBER
  else if !w.black ∧ o ≠ i then some .QUAD_MISMATCH
  else none

/-- Locks and protects (R134). -/
def State.lockBar (s : State) (ctrl : Option Nat) (w : Want) : Option Status :=
  let v := s.outView w.dest
  if v.lock = 1 then some .LOCKED else if v.lock = 2 ∧ ctrl ≠ some v.holder then some .PROTECTED else none

/-- A source in frame or line alignment has the format of its domain, which must be the output's (R122 step 9). -/
def State.formatBar (s : State) (w : Want) : Option Status :=
  if w.black then none
  else
    let (e, p) := s.home w.src
    if s.view e .VI_ALIGN p ≠ 2 ∧ s.rd .RD_FORMAT (s.inDom w.src) ≠ s.rd .RD_FORMAT (s.outDom w.dest) then some .FORMAT_CONFLICT else none

/-- Destinations that a message names twice: the later position. -/
def dupBar : List Want → List Nat → Bar
  | [], _ => none
  | w :: r, seen => if seen.contains w.dest then some (.DUP_DEST, w.pos) else dupBar r (w.dest :: seen)

/-- Steps 1 to 4 of R122. -/
def State.namesBar (s : State) (ds : List Dest) (ws : List Want) : Bar :=
  if 4096 < ws.length then some (.SALVO_TOO_LARGE, 0)
  else
    let out := barOf ws fun w => if s.hasPort w.dest then none else some .NO_SUCH_OUTPUT
    match s.noGroup ds, out with
    | some i, some (_, j) => some (.NO_SUCH_OUTPUT, min i j)
    | some i, none => some (.NO_SUCH_OUTPUT, i)
    | none, some b => some b
    | none, none =>
      match barOf ws fun w => if w.black || s.hasPort w.src then none else some .NO_SUCH_INPUT with
      | some b => some b
      | none => barOf ws s.quadBar

/-- Steps 7 to 9 of R122. -/
def State.destBar (s : State) (ctrl : Option Nat) (ws : List Want) : Bar :=
  match dupBar ws [] with
  | some b => some b
  | none => match barOf ws (s.lockBar ctrl) with
    | some b => some b
    | none => barOf ws s.formatBar

-- Paths (R106, R121) -----------------------------------------------------------------------------------------------

/-- The destinations with each quad-link group as its four links (R121). -/
def State.links4 (s : State) (ws : List Want) : List Want :=
  ws.flatMap fun w => if s.outLink w.dest = 1 then (List.range 4).map fun n => { w with dest := w.dest + n, src := if w.black then 0 else w.src + n } else [w]

/-- The path of one destination (R106), none where both planes are blocked. -/
def State.pathFor (s : State) (st : Stamp) (legs : List Leg) (w : Want) (restore : Bool) (planes : Nat) : Option TakeSpore :=
  let e := (s.home w.src).1
  let e' := (s.home w.dest).1
  let dy := s.outDom w.dest
  let pt := s.legPoint st dy
  if w.black then some ⟨w.dest, true, 0, 0, false, false, 0, false, false, false, false⟩
  else if e = e' then some ⟨w.dest, false, w.src, 0, false, false, 0, false, false, false, true⟩
  else
    let a := if bit planes 0 then s.choosePlane legs w.src e' 0 pt else none
    let b := if bit planes 1 then s.choosePlane legs w.src e' 1 pt else none
    match a, b with
    | none, none => none
    | _, _ =>
      let (ca, ha) := a.getD (0, false)
      let (cb, hb) := b.getD (0, false)
      some ⟨w.dest, false, w.src, ca, a.isSome, ha, cb, b.isSome, hb, restore, false⟩

/-- The paths of the destinations in order, each beside those before it; or the first destination that is blocked. -/
def State.pathsFor (s : State) (st : Stamp) : List Leg → List Want → Except Want (List (Nat × Nat))
  | _, [] => .ok []
  | legs, w :: r => match s.pathFor st legs w false 3 with
    | none => .error w
    | some x => (State.pathsFor s st (s.learnPath st legs x) r).map fun l => (w.pos, encodeTake x) :: l

/-- What stands before any path is sought: the present sources of all destinations end (R106). -/
def State.legsBefore (s : State) (st : Stamp) (ws : List Want) : List Leg :=
  s.endAll st s.liveLegs (ws.map fun w => ⟨w.dest, w.black, w.src, 0, false, false, 0, false, false, false, false⟩)

/-- The body Spores without paths, for the check of ordering and capacity. -/
def bareSpore (w : Want) : Nat := encodeTake ⟨w.dest, w.black, w.src, 0, false, false, 0, false, false, false, false⟩

/-- Step 10 of R122 over body Spores with their positions. -/
def State.roomBar (s : State) (kind : Nat) (st : Stamp) (sps : List (Nat × Nat)) : Bar :=
  sps.findSome? fun (i, sp) => (s.capacity (s.schedOf ⟨s.rd .ORD_NEXT, kind, st, 64, [sp]⟩)).map fun x => (x.1, i)

/-- What becomes of a take or salvo (R122): refused, blocked at an output, or its stamp and body. -/
inductive TakeFate where
  | refused (st : Status) (at_ : Nat)
  | blocked (out at_ : Nat)
  | accepted (st : Stamp) (body : List Nat)
  deriving DecidableEq, Repr

/-- Steps 1 to 11 of R122. `ctrl` is the controller, none for the start-up salvo. -/
def State.judgeTakes (s : State) (kind : Nat) (req : Stamp) (ds : List Dest) (ctrl : Option Nat) : TakeFate :=
  let ws := s.expand ds
  match s.namesBar ds ws with
  | some (st, i) => .refused st i
  | none => match s.resolve req false with
    | .error st => .refused st 0
    | .ok stamp => match s.destBar ctrl ws with
      | some (st, i) => .refused st i
      | none =>
        let all4 := s.links4 ws
        match s.roomBar kind stamp (all4.map fun w => (w.pos, bareSpore w)) with
        | some (st, i) => .refused st i
        | none => match s.pathsFor stamp (s.legsBefore stamp all4) all4 with
          | .error w => .blocked w.dest w.pos
          | .ok sps => match s.roomBar kind stamp sps with
            | some (st, i) => .refused st i
            | none => .accepted stamp (sps.map Prod.snd)

/-- Both planes are blocked for an output (R106). -/
def pathBlocked (out : Nat) : Act := all [count .FAB_BLOCKED, raise .PATH_BLOCKED out]

/-- A take or salvo is validated, ordered and answered (R122, R123). -/
def takeMessage (m : Msg) (kind : Nat) (req : Stamp) (ds : List Dest) : Act := look fun s =>
  match s.judgeTakes kind req ds (some (s.rd .TS_CTRL_ID m.sess)) with
  | .refused st i => answerAt m st i
  | .blocked out i => all [pathBlocked out, answerAt m .BLOCKED i]
  | .accepted stamp body => order kind stamp 64 body (s.accepted m stamp .ACCEPTED [])

/-- The start-up salvo (R125): order number 1, "next" in D0; a refusal is reported. -/
def startSalvo : Act := look fun s =>
  match s.cfg.bind CfgImage.startSalvo with
  | none => skip
  | some ds =>
    let no (st : Status) (i : Nat) : Act := raise .START_SALVO_REFUSED 0 (st.code + i * 2 ^ 16)
    match s.judgeTakes kSalvo ⟨0, 0, 0, false⟩ ds none with
    | .refused st i => no st i
    | .blocked out i => all [pathBlocked out, no .BLOCKED i]
    | .accepted stamp body => order kSalvo stamp 64 body fun _ => none

/-- The start-up salvo is ordered as soon as the active manager's D0 is LOCKED (R125). DESIGN CHOICE: where D0 comes into EMBER first, other
messages are ordered meanwhile, and the salvo waits (log 47). -/
def salvoIfLocked : Act := look fun s =>
  iff (s.isManager && s.q .salvoWait == 1 && s.rd .RD_STATE_RASTER 0 == 2) (all [put .salvoWait 0, startSalvo])

-- RESTORE (R110) ---------------------------------------------------------------------------------------------------

/-- A RESTORE is ordered for an output of which planes have broken, stamped at the next D0 frame start, for the planes that find a path; where no
plane carries or finds one, PATH_BLOCKED says so. DESIGN CHOICE: each such try counts in FAB_BLOCKED (log 47). -/
def restoreOrder (out : Nat) : Act := look fun s =>
  let v := s.outView out
  let lost := s.qn .broken out
  if v.black ∨ lost = 0 then skip
  else
    let st : Stamp := ⟨s.frameNow 0 + 1, 0, 0, false⟩
    match s.pathFor st s.liveLegs ⟨0, out, v.src, false⟩ true lost with
    | some x =>
      -- an action over the limit of R51 waits for a later try
      let sp := encodeTake { x with restore := true, local_ := false }
      iff (s.capacity (s.schedOf ⟨s.rd .ORD_NEXT, kTake, st, 64, [sp]⟩)).isNone (order kTake st 64 [sp] fun _ => none)
    | none => iff (v.planes == 0) (pathBlocked out)

/-- Every output whose path has broken. -/
def State.brokenOuts (s : State) : List Nat := (List.range 4096).filter fun o => s.q .broken o != 0

-- LOCK (R134 to R137) ----------------------------------------------------------------------------------------------

/-- Who may set a mode (R135). -/
def State.holdBar (s : State) (ctrl : Nat) (force override : Bool) (w : Want) : Option Status :=
  let v := s.outView w.dest
  if force then (if override then none else some .NO_PRIVILEGE)
  else if v.lock = 0 ∨ v.holder = ctrl then none
  else if v.lock = 1 then some .LOCKED else some .PROTECTED

/-- A LOCK message (R381): steps 1, 2, 5 to 7 and 10 of R122, and R135. -/
def lockMessage (m : Msg) (req : Stamp) (mode : Nat) (force : Bool) (outs : List Nat) : Act := look fun s =>
  let ws : List Want := (List.range outs.length).map fun i => ⟨i, outs.getD i 0, 0, true⟩
  let ctrl := s.rd .TS_CTRL_ID m.sess
  if 4096 < outs.length then answer m .SALVO_TOO_LARGE
  else match barOf ws fun w => if s.hasPort w.dest then none else some .NO_SUCH_OUTPUT with
    | some (st, i) => answerAt m st i
    | none => match s.resolve req false with
      | .error st => answer m st
      | .ok stamp => match dupBar ws [] with
        | some (st, i) => answerAt m st i
        | none =>
          let sps := ws.map fun w => (w.pos, encodeLock w.dest mode (if mode = 0 then 0 else ctrl) force)
          match s.roomBar kLock stamp sps with
          | some (st, i) => answerAt m st i
          | none => match barOf ws (s.holdBar ctrl force (bit (s.rd .TS_PRIV m.sess) 2)) with
            | some (st, i) => answerAt m st i
            | none => order kLock stamp 64 (sps.map Prod.snd) (s.accepted m stamp .ACCEPTED [])

-- REALIGN (R302) ---------------------------------------------------------------------------------------------------

/-- The state with time brought to house time `t`. -/
def State.whenHouse (s : State) (t : Nat) : State := s.app (.advance (s.now + (t - s.house)))

/-- REF_OFFSET that will remain at house time `t`: after every REALIGN ordered to execute before, and with the profile then running. -/
def State.offsetAt (s : State) (t : Nat) : Int :=
  let before := s.acts.filter fun p => decide (p.at_ ≤ t) && (match p.item with | .realign _ _ => true | _ => false)
  let s' := before.foldl (fun s p => let s1 := s.whenHouse p.at_
    match p.item with | .realign mode d => s1.apply (realignAt mode d s1) | _ => s1) s
  let s2 := s'.whenHouse t
  (s2.apply (clockTick s2)).refOffset

/-- A REALIGN message. -/
def realignMessage (m : Msg) (req : Stamp) (mode : Nat) : Act := look fun s =>
  match s.resolve req false with
  | .error st => answer m st
  | .ok stamp =>
    if s.rd .REF_STATE ≠ 1 ∧ s.rd .REF_STATE ≠ 2 then answer m .NO_REFERENCE
    else
      let d := s.offsetAt (if stamp.imm then s.house else (s.execFrame stamp stamp.dom).2.1)
      let body := encodeRealign mode d
      if mode = 0 ∧ psS < d.natAbs then answer m .REALIGN_RANGE
      else match s.capacity (s.schedOf ⟨s.rd .ORD_NEXT, kRealign, stamp, 64, body⟩) with
        | some (st, _) => answer m st
        | none => order kRealign stamp 64 body (s.accepted m stamp .ACCEPTED body)

-- WRITE (R385, R386) -----------------------------------------------------------------------------------------------

/-- The role of a node (R37). -/
def State.roleOf (s : State) (n : Nat) : Nat :=
  if n = s.node then s.rd .SYS_ROLE
  else match s.cfg.bind fun g => g.topo.find? fun x => x.node == n with
    | some x => x.role
    | none => if 32 ≤ n ∧ n < 48 then 3 else 2

/-- A node's fields as they stand after every action ordered (R386). -/
def State.viewOf (s : State) (n dom : Nat) : View :=
  ⟨s.roleOf n, false, dom, false, fun f i j =>
    if f = .AD_TRANSP then b2n (s.vNodes.any fun v => v.node == n && v.dst == i && v.transp && v.until_.isNone) else s.view (s.ownerOf n) f i j⟩

/-- The words of a WRITE with the values that are stored. -/
def storedWords (addr : Nat) (data : List Nat) (fs : List FieldWrite) : List Nat :=
  let x := fs.foldl (fun x w => setBits x (w.at_ - addr * 8) w.fld.desc.width w.v) (joinWords data)
  (List.range data.length).map fun k => bits x (32 * k) 32

/-- The GPO pulse object (R398). -/
def pulseFields : List Fld := [.GP_PULSE_LINES, .GP_PULSE_US, .GP_PULSE_SAMPLE]

/-- The privilege that a WRITE needs (R377): CONTROL (0) for ST_TALLY, GP_OUT_LEVEL and the pulse object, else CONFIGURE (1). -/
def writePriv (addr : Nat) (data : List Nat) : Nat :=
  let fs := ((covered addr data).map FieldWrite.fld).filter fun f => f.desc.acc != .ro
  if !fs.isEmpty ∧ fs.all fun f => f == .ST_TALLY || f == .GP_OUT_LEVEL || pulseFields.contains f then 0 else 1

/-- What a WRITE for `node` needs beside the fields' own checks, by the manager's view of what has been ordered: frame buffers, and room on a MAC for
the old and the new legs of a flow (R148, R163). -/
def State.orderedBar (s : State) (node : Nat) (w : View) (x : FieldWrite) : Option Status :=
  let cur := [false, true].filterMap fun aud =>
    if (targetFields aud).contains x.fld then some (aud, x.i, (targetFields aud).map fun f => s.view node f x.i) else none
  if w.bufShort 64 (fun _ => false) x then some .NO_BUFFER else if w.changeBar cur x then some .BANDWIDTH else none

/-- A WRITE message but for AM_NODE_PORT. -/
def writeMessage (m : Msg) (req : Stamp) (node addr bytes : Nat) (data : List Nat) : Act := look fun s =>
  if !s.populated.contains node then answer m .NO_SUCH_OBJECT
  else match badRange addr bytes with
    | some st => answer m st
    | none =>
      let fs := covered addr data
      match s.resolve req (fs.any fun x => pulseFields.contains x.fld) with
      | .error st => answer m st
      | .ok stamp => match judgeWrite (s.viewOf node stamp.dom) (idleIn (s.roleOf node)) (s.orderedBar node) addr data with
        | .error st => answer m st
        | .ok (ws, clamped) =>
          if ws.any fun x => x.fld == .SYS_REMAP then answer m .READONLY
          else
            let body := encodeWrite addr data
            match s.capacity (s.schedOf ⟨s.rd .ORD_NEXT, kWrite, stamp, node, body⟩) with
            | some (st, _) => answer m st
            | none => order kWrite stamp node body
                (s.accepted m stamp (if clamped then .CLAMPED else .ACCEPTED) (if clamped then storedWords addr data ws else []))

-- Commands ---------------------------------------------------------------------------------------------------------

/-- TAKE (R122). A take on a group is ordered as a salvo (R120). -/
def execTake (m : Msg) (req : Stamp) (d : Dest) (s : State) : Outcome State Fault Refusal :=
  run (all [at_ m.t, ordering m 0 (takeMessage m (if d.group then kSalvo else kTake) req [d])]) s

/-- SALVO (R123, R385). -/
def execSalvo (m : Msg) (req : Stamp) (count_ : Nat) (ds : List Dest) (s : State) : Outcome State Fault Refusal :=
  run (all [at_ m.t, ordering { m with lenOk := m.lenOk && count_ != 0 && (decide (4096 < count_) || ds.length == count_) } 0
    (if 4096 < count_ then answer m .SALVO_TOO_LARGE else takeMessage m kSalvo req ds)]) s

/-- LOCK (R134, R385). -/
def execLock (m : Msg) (req : Stamp) (mode : Nat) (force : Bool) (count_ : Nat) (outs : List Nat) (s : State) : Outcome State Fault Refusal :=
  run (all [at_ m.t, ordering { m with lenOk := m.lenOk && count_ != 0 && decide (mode < 3) && (decide (4096 < count_) || outs.length == count_) } 0
    (if 4096 < count_ then answer m .SALVO_TOO_LARGE else lockMessage m req mode force outs)]) s

/-- REALIGN (R302): a MODE that is neither SLEW nor STEP is no message (log 26). -/
def execRealign (m : Msg) (req : Stamp) (mode : Nat) (s : State) : Outcome State Fault Refusal :=
  run (all [at_ m.t, ordering { m with lenOk := m.lenOk && decide (mode < 2) } 0 (realignMessage m req mode)]) s

end Sys2Proof.Machine
end

