-- ==== Sys2Proof/Machine/AudioOrders.lean ====
section
/-! DEFINITION. Audio actions at the active manager (09_audio_matrix.md, R213 to R222, R225, R226) and the WRITE message. The entries of an
action's body carry their node in [69:64]; a client's entry has the 16 bytes of R220. -/
set_option Elab.async false
namespace Sys2Proof.Machine
open Host

/-- Object address AM_NODE_PORT (R220). -/
abbrev amNodePort : Nat := 0x408E0000

-- Entries (R220) ---------------------------------------------------------------------------------------------------

/-- A client's entry, its fields apart; `ent` has the local part with gain and ramp as they are stored (R218, R220). -/
structure AWant where
  dnode : Nat
  snode : Nat
  ent : AEnt
  clamped : Bool
  deriving DecidableEq, Repr

/-- The 16 bytes of an entry. -/
def decodeWant (x : Nat) : AWant :=
  let gain := storedGain (bits x 64 16)
  let ramp := clampNat 32 4096 (bits x 96 13)
  ⟨bits x 0 6, bits x 32 6, ⟨bits x 16 13 + (if bit x 29 then 8192 else 0), bits x 48 13, gain, bit x 80, bits x 81 3, ramp, bit x 84⟩,
    gain != bits x 64 16 || ramp != bits x 96 13⟩

/-- The words of an entry as stored. -/
def storedEntry (x : Nat) : List Nat :=
  let w := decodeWant x
  let y := setBits (setBits x 64 16 w.ent.gain) 96 13 w.ent.ramp
  [bits y 0 32, bits y 32 32, bits y 64 32, bits y 96 32]

/-- Step 2 of R222. -/
def State.entryNames (s : State) (w : AWant) : Option Status :=
  let dst := if 8192 ≤ w.ent.dst then decide (w.ent.dst - 8192 < busCount s.fast) else (chanOfDest s.fast w.ent.dst).isSome
  if !s.isPopEdge w.dnode ∨ !dst then some .NO_SUCH_DEST
  else if !s.isPopEdge w.snode ∨ (chanOfSource s.fast w.ent.src).isNone then some .NO_SUCH_SOURCE
  else if 3 < w.ent.op then some .BAD_OP
  else none

/-- A bus output or a generator, which no transparent route takes (R213, R225). -/
def State.mixed (s : State) (src : Nat) : Bool :=
  match chanOfSource s.fast src with | some (.bus _) | some (.gen _) => true | _ => false

/-- Step 4 of R222: the transparent-route rules of R225. -/
def State.transpBar (s : State) (w : AWant) : Option Status :=
  let e := w.ent
  let dst : Bool := match chanOfDest s.fast e.dst with
    | some (.edge _ _) | some (.tdm _ _) | some (.bundle _ _) => decide (e.dst < 8192)
    | _ => false
  if !e.transp then none
  else if e.op = 1 ∧ e.gain = 0 ∧ !e.inv ∧ dst ∧ !s.mixed e.src ∧ s.view w.dnode .AD_MM_EN e.dst ≠ 1 then none
  else some .BAD_TRANSP

-- Routing (R214) ---------------------------------------------------------------------------------------------------

/-- An action as it is built up: the model's nodes and import slots, the body, by user entry (position, body entry), and the first failure. -/
structure ABuild where
  nodes : List VNode
  imps : List VImp
  body : List (Nat × Nat)
  fail : Bar
  deriving DecidableEq, Repr

/-- A body entry of a node. -/
def entryAt (node : Nat) (e : AEnt) : Nat := encodeEnt e + node * 2 ^ 64

/-- The end of an import at the source module or a centre (log 18). -/
def importEnds (node bundle dest ramp : Nat) : Nat := bundle + dest % 64 * 2 ^ 14 + 4 * 2 ^ 44 + (ramp - 1) % 4096 * 2 ^ 47 + node * 2 ^ 64

/-- The export channel of node `e` that carries a source: bundle and channel. -/
def State.exportOf (s : State) (ns : List VNode) (e src : Nat) : Option (Nat × Nat) :=
  ns.findSome? fun n => if n.node = e ∧ n.src = src then
    (match chanOfDest s.fast n.dst with | some (.bundle k c) => some (k, c) | _ => none) else none

/-- The lowest free channel of the lowest export bundle with one. -/
def State.freeExport (s : State) (ns : List VNode) (e : Nat) : Option (Nat × Nat) :=
  let used := (ns.filter fun n => n.node == e).map VNode.dst
  (List.range s.exportBundles).findSome? fun k =>
    ((List.range 16).find? fun c => !used.contains (s.exportNo k c)).map fun c => (k, c)

/-- Bundles that a pair of nodes can carry (R93): its links open to new paths, each with as many as a link takes. -/
def State.audRoom (s : State) (links : Nat) : Nat := links * (if s.fast then 64 else 128)

/-- The centre of plane `p` that carries a bundle from `e` to `e'`: the lowest with room on both sides (R214). -/
def State.audCentre (s : State) (vs : List VImp) (e e' bundle p : Nat) : Option Nat :=
  let via (v : VImp) : Option Nat := if p = 0 then v.a else v.b
  (List.range s.centres).find? fun c =>
    let up := ((vs.filter fun v => v.bundle / 128 == e && via v == some c).map VImp.bundle).dedup
    let down := ((vs.filter fun v => v.node == e' && via v == some c).map VImp.bundle).dedup
    (up.contains bundle || decide (up.length < s.audRoom (s.openUp s.openAt e p c).length)) && decide (down.length < s.audRoom (s.openDown s.openAt e' p c).length)

/-- One entry is placed (R214, R221): its local entry, with an export node, an import slot and legs where the source lies on another module. -/
def State.placeEntry (s : State) (i : Nat) (b : ABuild) (k : Nat) (w : AWant) : ABuild :=
  let put (b : ABuild) (xs : List Nat) : ABuild :=
    { b with nodes := s.learnEntries i b.nodes (xs.filter fun x => bits x 44 3 != 4),
             imps := (xs.filter fun x => bits x 44 3 == 4).foldl (s.learnImport i) b.imps, body := b.body ++ xs.map fun x => (k, x) }
  let no (st : Status) : ABuild := { b with fail := b.fail <|> some (st, k) }
  let e := w.snode
  let d := w.dnode
  if e = d ∨ w.ent.op = 3 then put b [entryAt d w.ent]
  else
    let held := s.exportOf b.nodes e w.ent.src
    let impOf (bundle : Nat) : Option VImp := b.imps.find? fun v => v.node == d && v.bundle == bundle
    if w.ent.op = 2 then
      match held with
      | some (q, c) => (match impOf (128 * e + q) with
        | some v => put b [entryAt d { w.ent with src := s.importNo v.slot c }]
        | none => b)
      | none => b
    else match held <|> s.freeExport b.nodes e with
      | none => no .AUDIO_NO_SLOT
      | some (q, c) =>
        let bundle := 128 * e + q
        let slot := match impOf bundle with
          | some v => some v.slot
          | none => (List.range s.importSlots).find? fun m => !(b.imps.any fun v => v.node == d && v.slot == m)
        match slot with
        | none => no .AUDIO_NO_SLOT
        | some m =>
          let old := impOf bundle
          let a := (old.bind VImp.a) <|> s.audCentre b.imps e d bundle 0
          let bb := (old.bind VImp.b) <|> s.audCentre b.imps e d bundle 1
          if a.isNone ∧ bb.isNone then no .AUDIO_FABRIC_FULL
          else
            let route : AEnt := ⟨s.exportNo q c, w.ent.src, 0, false, 1, 32, !s.mixed w.ent.src⟩
            let keep := held.isSome && (b.nodes.any fun n => n.node == e && n.dst == s.exportNo q c && n.src == w.ent.src && n.until_.isNone)
            let same := match old with | some v => v.a == a && v.b == bb && v.until_.isNone | none => false
            let fresh := match old with | some v => !(v.a == a && v.b == bb) | none => true
            let far := farImports bundle d a bb
            put b ((if keep then [] else [entryAt e route])
              ++ (if fresh then [importAt d bundle (s.importNo m 0) a bb] else [])
              ++ (if same then [] else far) ++ [entryAt d { w.ent with src := s.importNo m c }])

/-- What no node needs any longer (R216): export nodes, and the legs of import slots. `ramp` is the longest ramp of the nodes that the action
clears. -/
def State.audFreed (s : State) (b : ABuild) (ramp : Nat) : List Nat :=
  let stay := b.nodes.filter fun n => n.until_.isNone
  let uses (node m : Nat) (c : Option Nat) : Bool := stay.any fun n => n.node == node && (match chanOfSource s.fast n.src with
    | some (.bundle k ch) => k == m && (c.isNone || c == some ch) | _ => false)
  let imps := (b.imps.filter fun v => v.until_.isNone && !uses v.node v.slot none).flatMap fun v =>
    [importEnds (v.bundle / 128) v.bundle v.node ramp]
      ++ (match v.a with | some c => [importEnds (centreNode 0 c) v.bundle v.node ramp] | none => [])
      ++ (match v.b with | some c => [importEnds (centreNode 1 c) v.bundle v.node ramp] | none => [])
  let exps := stay.filterMap fun n => match chanOfDest s.fast n.dst with
    | some (.bundle k c) =>
      if b.imps.any fun v => v.bundle == 128 * n.node + k && uses v.node v.slot (some c) then none
      else some (entryAt n.node ⟨n.dst, n.src, 0, false, 2, ramp, false⟩)
    | _ => none
  imps ++ exps

-- Buses and limits (R217, R226) ------------------------------------------------------------------------------------

/-- Whether bus `b` depends on itself, over pairs (destination, source) of one node. -/
def busLoops (fast : Bool) (ns : List (Nat × Nat)) (b : Nat) : Bool :=
  let ins (x : Nat) : List Nat := (ns.filter fun n => n.1 == busDst x).filterMap fun n => match chanOfSource fast n.2 with | some (.bus y) => some y | _ => none
  let reach := (List.range ns.length).foldl (fun (r : List Nat) _ => (r ++ r.flatMap ins).dedup) (ins b)
  reach.contains b

/-- Steps 5 and 6 of R222, on the state that the whole action leaves. -/
def State.audLimits (s : State) (i : Nat) (b : ABuild) (ws : List AWant) : Bar :=
  let pos := List.range ws.length
  let onBus := pos.filterMap fun k => match ws[k]? with
    | some w => if 8192 ≤ w.ent.dst ∧ w.ent.op < 2 then some (k, w.dnode, w.ent.dst - 8192) else none
    | none => none
  let edges (n : Nat) : List (Nat × Nat) := (b.nodes.filter fun v => v.node == n && v.until_.isNone).map fun v => (v.dst, v.src)
  let full := onBus.find? fun (_, n, x) => decide (64 < ((edges n).filter fun p => p.1 == busDst x).length)
  let loop := onBus.find? fun (_, n, x) => busLoops s.fast (edges n) x
  let deep := onBus.find? fun (_, n, x) => decide (5 ≤ busDepth s.fast (edges n) 6 x)
  let above := onBus.find? fun (_, n, _) => (List.range (busCount s.fast)).any fun y => !((edges n).all fun p => p.1 != busDst y) && decide (5 ≤ busDepth s.fast (edges n) 6 y)
  let most := if s.fast then 131072 else 262144
  let held (n : Nat) : Nat := (b.nodes.filter fun v => v.node == n && (match v.until_ with | some u => decide (i < u) | none => true)).length
  let nodes := pos.find? fun k => match ws[k]? with
    | some w => decide (most < held w.dnode) || decide (most < held w.snode)
    | none => false
  match full, loop, deep <|> above, nodes with
  | some (k, _), _, _, _ => some (.BUS_FULL, k)
  | _, some (k, _), _, _ => some (.BUS_LOOP, k)
  | _, _, some (k, _), _ => some (.BUS_DEPTH, k)
  | _, _, _, some k => some (.NODES_FULL, k)
  | _, _, _, _ => none

/-- The first entry, by position, for which `f` gives a status. -/
def entryBar (ws : List AWant) (f : AWant → Option Status) : Bar :=
  (List.range ws.length).findSome? fun k => match ws[k]? with | some w => (f w).map fun st => (st, k) | none => none

/-- An audio action judged whole (R222): refused, or its stamp and body. -/
def State.judgeAudio (s : State) (req : Stamp) (ws : List AWant) : Except (Status × Nat) (Stamp × List Nat) :=
  if ws.length = 0 ∨ 4096 < ws.length then .error (.AUDIO_TOO_LARGE, 0)
  else match entryBar ws s.entryNames with
    | some b => .error b
    | none => match s.resolve req false with
      | .error st => .error (st, 0)
      | .ok stamp => match entryBar ws s.transpBar with
        | some b => .error b
        | none =>
          let i := s.audioStart stamp
          let built := (List.range ws.length).foldl (fun b k => match ws[k]? with | some w => s.placeEntry i b k w | none => b)
            ⟨s.liveNodes, s.liveImps, [], none⟩
          match s.audLimits i built ws with
          | some b => .error b
          | none =>
            let room := built.body.findSome? fun (k, x) => (s.capacity (s.schedOf ⟨s.rd .ORD_NEXT, kAudio, stamp, 64, [x]⟩)).map fun c => (c.1, k)
            match room <|> built.fail with
            | some b => .error b
            | none =>
              let gone := built.nodes.filter fun n => n.until_.isSome && s.liveNodes.any fun m => m.node == n.node && m.dst == n.dst && m.src == n.src && m.until_.isNone
              let ramp := gone.foldl (fun m n => max m n.ramp) 1
              .ok (stamp, built.body.map Prod.snd ++ s.audFreed built ramp)

/-- An audio action is validated, ordered and answered (R214, R222). -/
def audioMessage (m : Msg) (req : Stamp) (node : Nat) (es : List Nat) : Act := look fun s =>
  let ws := es.map decodeWant
  if !s.populated.contains node then answer m .NO_SUCH_OBJECT
  else match s.judgeAudio req ws with
    | .error (st, k) => all [iff (st == .NODES_FULL) (all [count .AM_NODE_REFUSALS, raise .AUDIO_NODES_FULL]), answerAt m st k]
    | .ok (stamp, body) =>
      let clamped := ws.any AWant.clamped
      order kAudio stamp 64 body (s.accepted m stamp (if clamped then .CLAMPED else .ACCEPTED) (if clamped then es.flatMap storedEntry else []))

/-- Words as entries of 16 bytes. -/
def entriesOf : List Nat → List Nat
  | a :: b :: c :: d :: r => joinWords [a, b, c, d] :: entriesOf r
  | _ => []

-- Commands ---------------------------------------------------------------------------------------------------------

/-- AUDIO_ACTION (R220, R222, R385): BYTES 0 stands for 65,536; a length that is no whole number of entries is TOO_LONG (log 26). -/
def execAudioAction (m : Msg) (req : Stamp) (node bytes : Nat) (entries : List AudEntry) (s : State) : Outcome State Fault Refusal :=
  let n := if bytes = 0 then 65536 else bytes
  run (all [at_ m.t, ordering { m with lenOk := m.lenOk && (n % 16 != 0 || entries.length == n / 16) } 0
    (if n % 16 ≠ 0 then answer m .TOO_LONG else audioMessage m req node entries)]) s

/-- WRITE (R385, R386); to AM_NODE_PORT it is an audio action. -/
def execWrite (m : Msg) (req : Stamp) (node addr bytes : Nat) (data : List Nat) (s : State) : Outcome State Fault Refusal :=
  if addr = amNodePort then
    let n := if bytes = 0 then 65536 else bytes
    run (all [at_ m.t, ordering { m with lenOk := m.lenOk && data.length * 4 == n } 0
      (if n % 16 ≠ 0 then answer m .TOO_LONG else audioMessage m req node (entriesOf data))]) s
  else
    run (all [at_ m.t, ordering { m with lenOk := m.lenOk && data.length * 4 == bytes } (writePriv addr data) (writeMessage m req node addr bytes data)]) s

end Sys2Proof.Machine
end

