-- ==== Sys2Proof/Machine/Bus.lean ====
section
/-! DEFINITION. The internal bus matrix (17_bus_matrix.md, R402 to R417) and the access rules of blocks 10h and 11h (R420): arbitration, bursts,
answers, timeouts, master reset, and the remap bit. A burst that its command does not end is held in `State.bursts` (log 21). -/
set_option Elab.async false
namespace Sys2Proof.Machine
open Host

/-- Responses (R407) and causes of an error (R416). -/
abbrev rDone : Nat := 0
abbrev rReject : Nat := 1
abbrev rUnmapped : Nat := 2

/-- A cycle of the fast matrix, ps. -/
abbrev busCycle : Nat := 1250

/-- How many IDs a master has (R402). -/
def busIds (m : Nat) : Nat := if m < 9 then 16 else if m = 9 then 4 else 0

-- Addresses --------------------------------------------------------------------------------------------------------

/-- The memory that an address names once SYS_REMAP is taken into account (R410): low working SRAM lies at 00_1000_0000h. -/
def State.busAddr (s : State) (a : Nat) : Nat := if a < 0x400000 ∧ s.rd .SYS_REMAP = 1 then a + 0x10000000 else a

/-- The target of an address as `busAddr` gives it: 0 ROM, 1 SRAM, 2 Fern, 3 Peat, 4 to 7 PB0 to PB3 (R403, R410). -/
def busTarget (a : Nat) : Option Nat :=
  if a < 0x40000 then some 0
  else if 0x10000000 ≤ a ∧ a < 0x10400000 then some 1
  else if 0x20000000 ≤ a ∧ a < 0x22000000 then
    (let o := a % 0x100000; if o < 0x10000 ∨ (0x80000 ≤ o ∧ o < 0xC0000) then some 2 else none)
  else if 0x22000000 ≤ a ∧ a < 0x22800000 then some 2
  else if 0x40000000 ≤ a ∧ a < 0x41400000 then some (4 + (a - 0x40000000) / 0x100000 / 5)
  else if 0x8000000000 ≤ a ∧ a < 0x8800000000 then some 3
  else none

/-- The address lies in the mailbox (R412). -/
def inMailbox (a : Nat) : Bool := decide (0x103F0000 ≤ a) && decide (a < 0x10400000)

/-- What R420 lets a master do at an address: 0 nothing (UNMAPPED), 1 read, 2 read and write the request fields, 3 read and write. -/
def State.busRight (s : State) (m a : Nat) : Nat :=
  let core : Nat → Nat := fun b => if b = 16 then 2 else if b = 17 then 1 else 3
  let at_ (b : Nat) : Nat :=
    if m = 4 then 3
    else if m < 4 then core b
    else if m = 8 then (if b = 18 then 0 else core b)
    else if m = 7 then (if b = 17 then 3 else 0)
    else if m = 9 then (if s.rd .SEC_DEBUG_OPEN = 1 then core b else 0)
    else 0
  if blockOf a = 16 then at_ 16 else if blockOf a = 17 then at_ 17 else if inMailbox a then at_ 18 else 3

/-- The burst keeps R404: 1 to 16 beats within one 512-byte block, at a bridge from a 4-byte boundary and within one 64-byte line. -/
def burstRule (a len tgt : Nat) : Bool :=
  decide (1 ≤ len) && decide (len ≤ 16) && decide (a % 512 + 32 * len ≤ 512) &&
    (decide (tgt < 4) || (a % 4 == 0 && decide (a % 64 + 32 * len ≤ 64)))

/-- The burst goes below 00_1000_0000h (R414). -/
def Burst.low (b : Burst) : Bool := decide (b.addr < 0x10000000)

-- Answers ----------------------------------------------------------------------------------------------------------

/-- BM_OUTSTANDING counts the IDs in use. -/
def outstandingShow (m : Nat) : Act := look fun s => set .BM_OUTSTANDING (((s.bursts.filter fun b => b.master == m).map Burst.id).dedup.length) m

/-- An answer other than DONE: counted, captured if it is the first, BUS_ERROR at most once a second and master (R416). -/
def busError (m a : Nat) (write : Bool) (code status cause : Nat) : Act := look fun s => all [
  count .BM_ERRORS 1 m,
  iff (s.rd .BM_ERR_VALID == 0) (all [set .BM_ERR_VALID 1, set .BM_ERR_RESP code, set .BM_ERR_CODE cause, set .BM_ERR_MASTER m,
    set .BM_ERR_WRITE (b2n write), set .BM_ERR_STATUS status, set .BM_ERR_ADDR_LO (a % 2 ^ 32), set .BM_ERR_ADDR_HI (a / 2 ^ 32)]),
  raisePerSecond .BUS_ERROR .bmErrAt m 0]

/-- A REJECT or UNMAPPED leaves for the master. -/
def busRefuse (m id a : Nat) (write : Bool) (code status cause : Nat) : Act :=
  all [emit (.bus m id code status []), busError m a write code status cause]

-- Reads and writes -------------------------------------------------------------------------------------------------

/-- A byte of memory on the bus. -/
def State.busByte (s : State) (a : Nat) : Nat := if a < 0x40000 then Config.romByte a % 256 else (s.peek a).toNat

/-- Beats of 32 bytes from address `a`. -/
def State.busBeats (s : State) (a tgt len : Nat) : List Nat :=
  (List.range len).map fun k =>
    if tgt < 4 then (List.range 32).foldl (fun v i => v + s.busByte (a + 32 * k + i) * 2 ^ (8 * i)) 0
    else joinWords (s.readWords (a + 32 * k) 8)

/-- The bytes of the beats that their enables let through, as (offset, byte). -/
def enabledBytes (beats : List (Nat × Nat)) : List (Nat × Nat) :=
  (List.range beats.length).flatMap fun k => match beats[k]? with
    | some (v, en) => (List.range 32).filterMap fun i => if bit en i then some (32 * k + i, bits v (8 * i) 8) else none
    | none => []

/-- The runs of words that a burst writes at a bridge: first address and words. Bytes of a word that are not enabled keep what the word
reads (log 21). -/
def State.bridgeRuns (s : State) (a : Nat) (beats : List (Nat × Nat)) : List (Nat × List Nat) :=
  let bs := enabledBytes beats
  let word (k : Nat) : Option Nat :=
    let mine := bs.filter fun x => x.1 / 4 == k
    if mine.isEmpty then none
    else some (mine.foldl (fun w x => setBits w (8 * (x.1 % 4)) 8 x.2) (s.readWord (a + 4 * k)))
  let runs := (List.range (8 * beats.length)).foldl (fun acc k => match word k, acc with
    | none, _ => acc
    | some w, (n, ws) :: rest => if n + ws.length = k then (n, ws ++ [w]) :: rest else (k, [w]) :: acc
    | some w, [] => [(k, [w])]) ([] : List (Nat × List Nat))
  runs.reverse.map fun (k, ws) => (a + 4 * k, ws)

/-- Runs judged together: the first refusal, or the fields to store and whether one was clamped (R404, R407, R507). -/
def State.judgeRuns (s : State) : List (Nat × List Nat) → Judged
  | [] => .ok ([], false)
  | (a, ws) :: r => match s.judgeHere 0 false a ws with
    | .error st => .error st
    | .ok (fs, c) => (State.judgeRuns s r).map fun (gs, d) => (fs ++ gs, c || d)

/-- SYS_REMAP is written by a control core (R414): no new low grant from now on, and the switch comes when the low range is free. -/
def remapAsk (v : Nat) : Act := put .remapNext (v % 2 + 1 : Nat)

/-- What a burst does at its target: the response, its status, the data it brings, and its effect. -/
def State.busServe (s : State) (b : Burst) (a tgt : Nat) : Nat × Nat × List Nat × Act :=
  let right := s.busRight b.master a
  if !b.write then (rDone, Status.ACCEPTED.code, s.busBeats a tgt b.len, skip)
  else if tgt = 0 then (rReject, Status.READONLY.code, [], skip)
  else if (enabledBytes b.beats).isEmpty then (rDone, Status.ACCEPTED.code, [], skip)
  else if right = 1 then (rReject, Status.READONLY.code, [], skip)
  else if tgt = 2 ∧ a < 0x22000000 ∧ s.rd .FC_STATE ((a - 0x20000000) / 0x100000) = 3 then (rReject, Status.CORE_RUNNING.code, [], skip)
  else if tgt < 4 then (rDone, Status.ACCEPTED.code, [], each (enabledBytes b.beats) fun x => one (.poke (a + x.1) (BitVec.ofNat 8 x.2)))
  else match s.judgeRuns (s.bridgeRuns a b.beats) with
    | .error st => (rReject, st.code, [], skip)
    | .ok (fs, c) =>
      let request := blockOf a = 16 ∧ right = 2 ∧ fs.any fun x => x.fld.desc.acc != .wo
      let remap := fs.find? fun x => x.fld == .SYS_REMAP
      if request ∨ (remap.isSome ∧ 4 ≤ b.master) then (rReject, Status.READONLY.code, [], skip)
      else (rDone, if c then Status.CLAMPED.code else Status.ACCEPTED.code, if c then fs.map FieldWrite.v else [],
        all [storeAll 0 0 0 fs, match remap with | some x => remapAsk x.v | none => skip])

-- Arbitration ------------------------------------------------------------------------------------------------------

/-- The effective QoS of a request that has waited since `since` (R405). -/
def State.busQos (s : State) (b : Burst) : Nat :=
  if b.master = 8 then 15
  else min 14 (min b.qos 14 + (s.now - b.since) / (busCycle * max 1 (s.rd .BM_AGE_CYC)))

/-- Two requests with the same master and ID, or two of one target. -/
def State.busPort (s : State) (b : Burst) : Option Nat := busTarget (s.busAddr b.addr)

/-- The request may be granted (R405, R406, R414): no granted burst still runs at its port, no earlier one of its ID is outstanding, the low
range is open, and no waiting request of its port comes first. `ahead` is what was issued before it. -/
def State.busGrants (s : State) (b : Burst) (ahead others : List Burst) : Bool :=
  let port := s.busPort b
  let rival (c : Burst) : Bool := s.busPort c == port
  let open_ (c : Burst) : Bool := !(c.low && s.q .remapNext != 0)
  let last := s.qn .bmRound (port.getD 0)
  let turn (c : Burst) : Nat := (c.master + 20 - last) % 10
  let before (c : Burst) : Bool := decide (s.busQos b < s.busQos c) || (s.busQos c == s.busQos b && decide (turn c < turn b))
  open_ b && !(ahead.any fun c => c.master == b.master && c.id == b.id) &&
    !(others.any fun c => c.granted && rival c && decide (c.done < c.len)) &&
    !(others.any fun c => !c.granted && rival c && open_ c && c.master != b.master && before c)

/-- The same transaction, named again. -/
def Burst.same (b c : Burst) : Bool := b.master == c.master && b.id == c.id && b.write == c.write && b.addr == c.addr && b.len == c.len

/-- A burst comes as far as its command says, if arbitration lets it (R404 to R407, R412). -/
def busBurst (b : Burst) (fate : BurstFate) : Act := look fun s =>
  let a := s.busAddr b.addr
  let no (status cause : Nat) : Act := busRefuse b.master b.id b.addr b.write rUnmapped status cause
  if busIds b.master ≤ b.id ∨ s.q .bmReset b.master = 1 then skip
  else if b.master = 4 ∧ !(blockOf b.addr == 16 || blockOf b.addr == 17 || inMailbox b.addr) then
    all [no 0 2, count .BM_FILTER_BLOCKS, raise .BUS_FILTER_BLOCK b.master]
  else match busTarget a with
    | none => no 0 1
    | some tgt =>
      if !burstRule b.addr b.len tgt then no 0 4
      else if s.busRight b.master a = 0 then no 0 1
      else
        let held := s.bursts.find? fun c => c.same b
        let ahead := s.bursts.takeWhile fun c => !c.same b
        let others := s.bursts.filter fun c => !c.same b
        let b := match held with | some c => { b with granted := c.granted, since := c.since, done := c.done } | none => { b with since := s.now }
        let ok := b.granted || s.busGrants b ahead others
        let keep (c : Burst) : Act := all [
          if held.isSome then one (.bursts (s.bursts.map fun d => if d.same b then c else d)) else one (.bursts (s.bursts ++ [c])),
          outstandingShow b.master]
        let turn : Act := iff (!b.granted) (put .bmRound (b.master + 1 : Nat) tgt)
        if !ok then keep b
        else match fate with
          | .waiting => keep b
          | .granted k => all [turn, keep { b with granted := true, since := s.now, done := min k b.len }]
          | .answered =>
            let (code, status, data, effect) := s.busServe b a tgt
            all [turn, one (.bursts others), outstandingShow b.master, effect, emit (.bus b.master b.id code status data),
              iff (code != rDone) (busError b.master b.addr b.write code status 0)]

-- Commands ---------------------------------------------------------------------------------------------------------

/-- BUS_READ (R404). -/
def execBusRead (t master id qos addr beats : Nat) (fate : BurstFate) (s : State) : Outcome State Fault Refusal :=
  run (all [at_ t, look fun s =>
    busBurst ⟨master, id, if master < 4 then qos else s.rd .BM_QOS master, false, addr, beats, [], false, 0, 0⟩ fate]) s

/-- BUS_WRITE (R404). -/
def execBusWrite (t master id qos addr : Nat) (beats : List (Nat × Nat)) (fate : BurstFate) (s : State) : Outcome State Fault Refusal :=
  run (all [at_ t, look fun s =>
    busBurst ⟨master, id, if master < 4 then qos else s.rd .BM_QOS master, true, addr, beats.length, beats, false, 0, 0⟩ fate]) s

/-- BUS_TIMEOUT (R408): the matrix itself answers REJECT for a granted burst, and releases its ID. -/
def execBusTimeout (t master id : Nat) (s : State) : Outcome State Fault Refusal :=
  run (all [at_ t, look fun s =>
    match s.bursts.find? fun b => b.master == master && b.id == id && b.granted with
    | none => skip
    | some b =>
      iff (decide (b.since + s.rd .BM_TIMEOUT_CYC * busCycle ≤ s.now))
        (all [one (.bursts (s.bursts.filter fun c => !c.same b)), outstandingShow master, count .BM_TIMEOUTS 1 master,
          emit (.bus master id rReject Status.REFUSED.code []), busError master b.addr b.write rReject Status.REFUSED.code 3,
          raise .BUS_TIMEOUT master])]) s

/-- MASTER_RESET (R409): waiting requests are withdrawn; a granted write runs out with the enables of what was delivered and none beyond; no
answer leaves. The port takes nothing new until it has drained. -/
def execMasterReset (t master : Nat) (s : State) : Outcome State Fault Refusal :=
  run (all [at_ t, look fun s =>
    let mine := s.bursts.filter fun b => b.master == master && b.granted
    iff (decide (master < 10)) (all [
      each mine (fun b =>
        let b' := { b with beats := b.beats.take b.done }
        iff b.write (look fun s => match busTarget (s.busAddr b.addr) with | some tgt => (s.busServe b' (s.busAddr b.addr) tgt).2.2.2 | none => skip)),
      one (.bursts ((s.bursts.filter fun b => b.master != master || b.granted).map fun b => if b.master = master then { b with beats := [] , done := b.len } else b)),
      outstandingShow master, put .bmReset 1 master, put .bmResetAt s.now master])]) s

/-- BUS_MASTER_DRAIN (R409): every ID of the reset master is released, and its port takes requests again. -/
def execBusMasterDrain (t master : Nat) (s : State) : Outcome State Fault Refusal :=
  run (all [at_ t, look fun s => iff (s.q .bmReset master == 1)
    (all [one (.bursts (s.bursts.filter fun b => b.master != master)), outstandingShow master, put .bmReset 0 master, count .BM_DRAINS 1 master,
      raise .BUS_MASTER_DRAIN master ((s.now - s.qn .bmResetAt master) / busCycle)])]) s

/-- SYS_REMAP_WRITE (R414): accepted from the control cores only. -/
def execSysRemapWrite (t master value : Nat) (s : State) : Outcome State Fault Refusal :=
  run (all [at_ t,
    if master < 4 then remapAsk value else busRefuse master 0 0x40000000 true rReject Status.READONLY.code 0]) s

/-- SYS_REMAP_SWITCH (R414): once no granted burst to the low range is outstanding, the mapping switches. -/
def execSysRemapSwitch (t : Nat) (s : State) : Outcome State Fault Refusal :=
  run (all [at_ t, look fun s => iff (s.q .remapNext != 0 && !(s.bursts.any fun b => b.granted && b.low))
    (all [set .SYS_REMAP (s.qn .remapNext - 1), put .remapNext 0])]) s

end Sys2Proof.Machine
end

