-- ==== Sys2Proof/Machine/Cells.lean ====
section
/-! DEFINITION. Cells on fabric links (04_rophor_fabric.md, R85 to R94, R98, R99, R102 to R109): the calendar, the cells of streams, bundles and
records, forwarding and handovers at a centre, what becomes of a received cell, delivery at the destination. -/
set_option Elab.async false
namespace Sys2Proof.Machine

/-- What a calendar position belongs to (R89): a video slot's position number, control or audio. -/
inductive CalPos where
  | video (slot i : Nat)
  | control
  | audio
  deriving DecidableEq, Repr

/-- The slot that owns position `p`, where one does. -/
def calSlot (p : Nat) : Option Nat := if p % 16 < 15 then some ((p % 16 + 3 * (p / 16)) % 4) else none

/-- Position `p` of 0 to 511 (R89). -/
def calPos (p : Nat) : CalPos :=
  match calSlot p with
  | some k => .video k (((List.range p).filter fun q => calSlot q == some k).length)
  | none => if p / 16 % 8 = 7 then .control else .audio

/-- The stream that owns a position (R89, R90): the leg in the slot whose group holds the position's sub-slot. A leg that waits for its handover
does not own it. -/
def State.owner (s : State) (l p : Nat) : Option Leg :=
  match calPos p with
  | .video k i => (inSlot s.legs s.ownNode (s.mirror l) k).find? fun g => !g.hand && decide (g.sub ≤ i % 8) && decide (i % 8 < g.sub + subSize g.fmt)
  | _ => none

-- Source streams (R88, R102) ---------------------------------------------------------------------------------------

/-- The raster of one link of input port `p`: a link of a quad-link 3G group carries a 1080p raster (R62). -/
def State.inFormat (s : State) (p : Nat) : Option Format :=
  let fmt := s.fmtOfInput (s.viBase p)
  format (if s.rd .VI_LINK_MODE p ≠ 0 ∧ s.rd .VI_RATE p = 3 ∧ 0x0F ≤ fmt then fmt - 7 else fmt)

/-- How many cells of a stream in frame alignment have filled since house time 0, each frame of domain format `fm` opening a new one. -/
def cellsFull (fm f : Format) (now : Nat) : Nat :=
  let F := fm.frameAt now
  F * f.cells + (now - fm.frameStart F) * fm.num * f.frameBits / (fm.den * psS) / cellBits

/-- The cell of this module's input that stands ready for link `l`: its number, whether it opens a frame, its payload; and the number the link goes on
from. A stream that a link takes up begins with the next cell to fill. -/
def State.sourceCell (s : State) (l src : Nat) (r : Option CellReady) : Option CellReady × Nat :=
  let p := (s.home src).2
  let b := s.viBase p
  if s.stdOfInput b = 0 then (none, 0)
  else if s.rd .VI_ALIGN b ≠ 0 then (r, 0)
  else match s.inFormat p, s.domFormat (s.rd .VI_DOMAIN b) with
    | some f, some fm =>
      let full := cellsFull fm f s.house
      let q := s.qn .seqTx src l
      let n := if q ≤ full ∧ full < q + 8 then q else full
      if n < full then (some ⟨n, n % f.cells == 0, videoPayload f (s.frameOf p (n / f.cells)) (n % f.cells)⟩, n) else (none, n)
    | _, _ => (none, 0)

-- Handovers (R109) -------------------------------------------------------------------------------------------------

/-- VO_STD code of the highest rate that a slot format carries (R90). -/
def stdOfSlot : Nat → Nat
  | 0 => 6 | 1 => 5 | 2 => 3 | _ => 2

/-- A stream whose frames open at moment `x` opens them with the domain's, as one in frame or line alignment does (R102; log 50). -/
def State.withDomain (s : State) (fm : Format) (slot x : Nat) : Bool := decide (x - fm.frameStart (fm.frameAt x) ≤ s.deliveryPs (stdOfSlot slot))

/-- The cells of a frame with the last word before the switching line, and with the first word of it. -/
def cutCells (f : Format) : Nat × Nat :=
  let b := (f.sw1 - 1) * (20 * f.spl)
  ((b - 1) / cellBits, b / cellBits)

/-- The place of a cell in its stream's frames, counted from house time 0 in domain format `fm`. -/
def cellPlace (fm : Format) (c : FwdCell) : Nat := fm.frameAt c.at_ * 2 ^ 16 + c.idx

/-- The video cells of stream `src` that wait for link `l`. -/
def State.waiting (s : State) (l src : Nat) : List FwdCell := s.fwds.filter fun c => c.link == l && c.cls == clVideo && c.stream == src

/-- The leg that waits for a handover in the slot of leg `g`, and the other way round. -/
def slotMate (legs : List Leg) (g : Leg) : Option Leg :=
  legs.find? fun h => h.hand != g.hand && h.node == g.node && h.link == g.link && h.slot == g.slot && (h.fmt != g.fmt || h.sub == g.sub)

/-- The domain format, the last place of the outgoing stream and the first of the new one at a handover between streams with the domain; none where
the new stream follows at the next cell boundary. -/
def State.cutAt (s : State) (g old : Leg) : Option (Format × Nat × Nat) :=
  match g.until_ with
  | none => none
  | some (d, F) => (s.domFormat d).bind fun fm =>
    let with_ (h : Leg) : Bool := s.withDomain fm h.fmt (s.qn .fwAt h.src)
    let (a, b) := cutCells fm
    if with_ g && with_ old then some (fm, F * 2 ^ 16 + a, F * 2 ^ 16 + b) else none

/-- The switching line of the frame that a handover names, and `allow` ps more, have passed; at once where it names none. -/
def State.handLine (s : State) (g : Leg) (allow : Nat) : Bool :=
  match g.until_ with
  | none => true
  | some (d, F) => match s.domFormat d with | some f => decide (f.posTime F f.sw1 0 + allow ≤ s.house) | none => true

/-- The point of the handover of leg `g` on link `l` has come: the outgoing stream has sent its last cell, or sends none past the allowance of R103; or,
without a cut, the switching line is reached, or at once where it names no frame. -/
def State.handDue (s : State) (l : Nat) (g : Leg) : Bool :=
  match slotMate s.legs g with
  | none => true
  | some old =>
    match s.cutAt g old with
    | none => s.handLine g 0
    | some (fm, last, _) => decide (last < s.qn .fwSent old.src l) || ((s.waiting l old.src).any fun c => decide (last < cellPlace fm c))
        || (s.handLine g (s.deliveryPs (stdOfSlot old.fmt)) && (s.waiting l old.src).isEmpty)

/-- CENTRE_HANDOVER (R109): a stream that waits for its handover takes the slot over from the stream before it, from the cell with the first word of
the switching line on. -/
def handover (g : Leg) : Act := look fun s =>
  let on := s.replicas g.link
  let old := slotMate s.legs g
  let kept := s.legs.filter fun h => some h != old
  let first := (old.bind fun o => s.cutAt g o).map fun x => (x.1, x.2.2)
  let stays (c : FwdCell) : Bool := !on.contains c.link || c.cls != clVideo ||
    (if c.stream == g.src then (match first with | some (fm, n) => decide (n ≤ cellPlace fm c) | none => true)
     else (old.map Leg.src) != some c.stream)
  all [setLegs (kept.map fun h => if h = g then { h with hand := false, until_ := none } else h), one (.fwds (s.fwds.filter stays)), count .FAB_HANDOVERS]

/-- The module carries control-class cells only: RESTRICTED or TOPOLOGY_MISMATCH (R35, R450). -/
def State.controlOnly (s : State) : Bool := s.rd .SU_STATE == 5 || s.rd .ORD_STATE == 5

/-- The module sends nothing in its pair's function (R361). -/
def State.fenced (s : State) : Bool := s.rd .RD_STATE_PAIR == 6

-- Spores out (R94) -------------------------------------------------------------------------------------------------

/-- The Spore that the next cell of link `l` carries: of the urgent chain, link-local, of the normal chain; with its class. -/
def State.nextSpore (s : State) (l : Nat) : Option (Nat × Nat) :=
  [0, 1, 2].findSome? fun c => (s.txRecs.find? fun x => x.link == l && x.cls == c).bind fun x => x.spores.head?.map fun v => (c, v)

/-- What waits after the first of link `l` and class `c` has given a Spore. -/
def sporeGone (l c : Nat) : List TxRec → List TxRec
  | [] => []
  | x :: r =>
    if x.link = l ∧ x.cls = c then
      if x.spores.length ≤ 1 ∧ x.left = 0 then r else { x with spores := x.spores.tail, begun := true } :: r
    else x :: sporeGone l c r

/-- A cell leaves on link `l`, with the Spore that is next. -/
def sendCell (l : Nat) (c : Cell) : Act := look fun s =>
  let full : Cell := { c with plane := s.planeOf l }
  match s.nextSpore l with
  | some (k, v) => all [one (.txRecs (sporeGone l k s.txRecs)), emit (.cell l (sealCell { full with sp := true, su := k == 0, sl := k == 1, spore := v }))]
  | none => emit (.cell l (sealCell full))

-- Control cells (R88, R92) -----------------------------------------------------------------------------------------

/-- The Spores that share a control cell with `x`: those composed here for the same target, or the cell that another link brought. -/
def TxRec.sharesWith (x y : TxRec) : Bool := y.link == x.link && y.cls == 3 && (if x.from_ = 0 then y.from_ == 0 && y.target == x.target else decide (y = x))

/-- What waits after `n` Spores have gone from those that `p` names. -/
def ctrlGone (p : TxRec → Bool) : Nat → List TxRec → List TxRec
  | _, [] => []
  | 0, xs => xs
  | n + 1, x :: r =>
    if p x then
      if x.spores.length ≤ n + 1 then ctrlGone p (n + 1 - x.spores.length) r else { x with spores := x.spores.drop (n + 1), begun := true } :: r
    else x :: ctrlGone p (n + 1) r

/-- A control cell leaves: 64 Spores, unused places PAD; it takes a credit, and frees the place of a cell that another link brought. -/
def sendCtrl (l : Nat) (x : TxRec) : Act := look fun s =>
  let mine := s.txRecs.filter x.sharesWith
  let sp := (mine.flatMap TxRec.spores).take 64
  all [set .FL_CREDITS_CTRL (s.rd .FL_CREDITS_CTRL l - 1) l, put .flTxCtrl ((s.qn .flTxCtrl l + 1) % 2 ^ 24 : Nat) l, addQ .flCtrlSeq 1 l,
    one (.txRecs (ctrlGone x.sharesWith 64 s.txRecs)), iff (x.from_ != 0) (freeCell true (x.from_ - 1)),
    sendCell l { emptyCell with cls := clControl, fs := !x.begun, stream := x.target % 64 + x.sender % 64 * 2 ^ 8, seq := s.qn .flCtrlSeq l % 2 ^ 16, payload := packWords 64 sp }]

-- Audio cells (R88, R102) ------------------------------------------------------------------------------------------

/-- The audio cell that stands ready for link `l`, the lowest bundle first: one of this module's own bundles, full and not yet sent there; at a centre
the first received for the link. Its bundle, sequence number and payload, and the index of its first sample. -/
def State.audioReady (s : State) (l : Nat) : Option (FwdCell × Nat) :=
  if s.isCentre then (s.fwds.find? fun c => c.link == l && c.cls == clAudio).map fun c => (c, 0)
  else (List.range 128).findSome? fun k =>
    let bundle := s.ownNode * 128 + k
    if s.q .auTxLink bundle 0 = ((l + 1 : Nat) : Int) ∨ s.q .auTxLink bundle 1 = ((l + 1 : Nat) : Int) then
      (s.exports.find? fun c => c.slot == k && c.smps.length == cellPeriods && decide (s.qn .audSent bundle l ≤ c.idx)).map fun c =>
        (⟨l, clAudio, bundle, c.idx / cellPeriods % 2 ^ 16, false, 0, 0, audioPayload s.fast c.idx c.smps⟩, c.idx)
    else none

/-- An audio cell leaves. The last copy of a cell that a centre forwards frees its place. -/
def sendAud (l : Nat) (c : FwdCell) (idx : Nat) : Act := look fun s =>
  let rest := s.fwds.erase c
  all [set .FL_CREDITS_AUD (s.rd .FL_CREDITS_AUD l - 1) l, put .flTxAud ((s.qn .flTxAud l + 1) % 2 ^ 24 : Nat) l,
    if s.isCentre then all [one (.fwds rest), iff (!(rest.any fun x => x.cls == clAudio && x.stream == c.stream && x.seq == c.seq)) (freeCell false (c.idx - 1))]
    else put .audSent (idx + 1 : Nat) c.stream l,
    sendCell l { emptyCell with cls := clAudio, stream := c.stream, seq := c.seq, payload := c.payload }]

-- The calendar (R91) -----------------------------------------------------------------------------------------------

/-- The video cell of leg `g` that stands ready for link `l`. At a centre the outgoing stream of a handover stops at its cut. -/
def State.videoReady (s : State) (l : Nat) (g : Leg) (r : Option CellReady) : Option FwdCell :=
  if s.isCentre then
    (s.waiting l g.src).head?.bind fun c =>
      match (slotMate s.legs g).bind fun h => s.cutAt h g with
      | some (fm, last, _) => if last < cellPlace fm c then none else some c
      | none => some c
  else (s.sourceCell l g.src r).1.map fun x => ⟨l, clVideo, g.src, x.n % 2 ^ 16, x.fs, 0, x.n, x.payload⟩

/-- The place up to which a link has sent a stream of a centre, in the domain of the handover that waits in its slot. -/
def fwdSent (l : Nat) (g : Leg) (c : FwdCell) : Act := look fun s =>
  match (slotMate s.legs g).bind fun h => s.cutAt h g with
  | some (fm, _, _) => put .fwSent (cellPlace fm c + 1 : Nat) g.src l
  | none => put .fwSent 0 g.src l

/-- The video cell of a slot's owner leaves. -/
def sendVideo (l : Nat) (g : Leg) (c : FwdCell) : Act := look fun s =>
  all [if s.isCentre then all [one (.fwds (s.fwds.erase c)), fwdSent l g c] else put .seqTx (c.idx + 1 : Nat) g.src l,
    sendCell l { emptyCell with cls := clVideo, fs := c.fs, slot := g.slot, sub := g.sub, fmt := g.fmt, stream := g.src, seq := c.seq, payload := c.payload }]

/-- The cell of the next calendar position (R91): the first of the position's claimants that is ready. `r` is the full cell of the owner where this
module's own frames do not tell. -/
def cellSend (l : Nat) (r : Option CellReady) : Act := look fun s =>
  let p := s.qn .flCalPos l % 512
  if !s.inService l && s.rd .FL_STATE l != flAdmitting then skip
  else
    let idle : Act := sendCell l emptyCell
    let svc := s.inService l
    let media := svc && !s.controlOnly && !(s.isEdge && s.fenced)
    let ctrl (next : Act) : Act := match s.txRecs.find? fun x => x.link == l && x.cls == 3 with
      | some x => if 0 < s.rd .FL_CREDITS_CTRL l ∧ svc then sendCtrl l x else next
      | none => next
    let aud (next : Act) : Act := match s.audioReady l with
      | some (c, i) => if 0 < s.rd .FL_CREDITS_AUD l ∧ media then sendAud l c i else next
      | none => next
    all [put .flCalPos ((p + 1) % 512 : Nat) l,
      match calPos p with
      | .video _ _ => (match s.owner l p with
        | some g => if media then (match s.videoReady l g r with
            | some c => sendVideo l g c
            | none => all [iff s.isEdge (put .seqTx (s.sourceCell l g.src r).2 g.src l), ctrl (aud idle)]) else ctrl (aud idle)
        | none => ctrl (aud idle))
      | .control => ctrl (aud idle)
      | .audio => aud (ctrl idle)]

/-- At a centre, the member of an edge's IP pair whose uplink cells are forwarded (R371): the one with the higher epoch heard. -/
def State.pairMember (s : State) (e : Nat) : Nat :=
  match s.standbyOf e with
  | some x => if s.q .pairEpoch e < s.q .pairEpoch x.node then x.node else e
  | none => e

/-- A video cell at a centre (R371): a stream changes over to the other member of the pair at its first cell that opens a frame at or after the
D0 frame start of the epoch change. -/
def forwardFrom (l stream : Nat) (fs : Bool) : Act := look fun s =>
  let n := s.rd .FL_FAR_NODE l
  let e := stream / 128
  let want := s.pairMember e
  let cur := if s.q .fwdFrom stream = 0 then e else s.qn .fwdFrom stream - 1
  iff (s.isCentre && n == want && cur != want && fs && decide (s.qn .pairSince e ≤ s.house)) (put .fwdFrom (want + 1 : Nat) stream)

/-- At a centre, the cells of a stream that link `l` brings are the ones to forward: they come from the member that the stream runs on. -/
def State.forwards (s : State) (l stream : Nat) : Bool :=
  s.rd .FL_FAR_NODE l == (if s.q .fwdFrom stream = 0 then stream / 128 else s.qn .fwdFrom stream - 1)

-- Spores in (R94, R98, R99) ----------------------------------------------------------------------------------------

/-- A record is complete at its target (R98). A chain does not name its sender: an ordered one is the active manager's, and otherwise any node's tag
serves (log 50). -/
def recordDone (l : Nat) (cls sender : Nat) (got : List Nat) : Act := look fun s =>
  let h := got.headD 0
  let among := if cls = 3 then [sender] else if ordered (bits h 48 4) then [s.activeNode] else s.populated
  recordTest among (if cls = 3 then sender else if ordered (bits h 48 4) then s.activeNode else s.rd .FL_FAR_NODE l) got

/-- A Spore of a chain on its way through this module goes on in the next cell toward its target. -/
def sporeOn (from_ v : Nat) : List TxRec → List TxRec
  | [] => []
  | x :: r => if x.from_ = from_ ∧ 0 < x.left then { x with spores := x.spores ++ [v], left := x.left - 1 } :: r else x :: sporeOn from_ v r

/-- A Spore of the chain of class `cls` (0 urgent, 2 normal) arrives on link `l` (R94, R98, R99). A PAD between records is none. -/
def chainTake (l cls v : Nat) : Act := look fun s =>
  let from_ := 2 * l + cls / 2 + 1
  let others := s.rxRecs.filter fun x => !(x.link == l && x.cls == cls)
  match s.rxRecs.find? fun x => x.link == l && x.cls == cls with
  | none =>
    if bits v 48 4 = 0 then skip
    else
      let target := bits v 52 6
      let on : Option Nat := if target = s.node then none else s.lowestTo target
      all [one (.rxRecs (others ++ [⟨l, cls, 0, target != s.node, [v]⟩])),
        match on with | some o => pushSpores ⟨o, cls, from_, sporesNeed [v] - 1, target, 0, false, [v]⟩ | none => skip]
  | some x =>
    let got := x.got ++ [v]
    all [iff x.hop (one (.txRecs (sporeOn from_ v s.txRecs))),
      one (.rxRecs (others ++ (if got.length < sporesNeed got then [{ x with got := got }] else []))),
      iff (!x.hop && decide (sporesNeed got ≤ got.length)) (recordDone l cls 0 got)]

/-- The Spores of a control cell for this module: those of the record in progress, then of the records that follow; PAD between records is skipped.
`got` is the record in progress, and the result the records complete, and what is in progress at the end. -/
def cutRecords : List Nat → List Nat → List (List Nat) × List Nat
  | got, [] => ([], got)
  | got, v :: vs =>
    if got.isEmpty ∧ bits v 48 4 = 0 then cutRecords [] vs
    else
      let now := got ++ [v]
      if sporesNeed now ≤ now.length then let (done, rest) := cutRecords [] vs; (now :: done, rest) else cutRecords now vs

/-- A control cell's payload (R88, R99): one for another node goes on; in one for this node, what comes before the first head is lost with the cell that
held it. -/
def ctrlTake (l : Nat) (c : Cell) : Act := look fun s =>
  let target := c.stream % 64
  let sender := c.stream / 2 ^ 8 % 64
  let sp := unpackWords 64 64 c.payload
  if target ≠ s.node then
    match s.lowestTo target with
    | some o => pushSpores ⟨o, 3, l + 1, 0, target, sender, !c.fs, sp⟩
    | none => freeCell true l
  else
    let mine (x : RxRec) : Bool := x.link == l && x.cls == 3 && x.sender == sender
    let got := if c.fs then [] else match s.rxRecs.find? mine with | some x => x.got | none => []
    let (done, rest) := if got.isEmpty && !c.fs then ([], []) else cutRecords got sp
    all [freeCell true l, one (.rxRecs ((s.rxRecs.filter fun x => !mine x) ++ (if rest.isEmpty then [] else [⟨l, 3, sender, false, rest⟩]))),
      each done (recordDone l 3 sender)]

/-- A link-local Spore (R92, R96): CREDIT brings the far receiver's count of freed cells, LINK_STATUS names the far end. -/
def localSpore (l x : Nat) : Act := look fun s =>
  let held (sent cap freed : Nat) : Nat := cap - min cap ((sent + 2 ^ 24 - freed) % 2 ^ 24)
  if bits x 48 4 = 14 then
    all [set .FL_CREDITS_CTRL (held (s.qn .flTxCtrl l) 8 (bits x 0 24)) l, set .FL_CREDITS_AUD (held (s.qn .flTxAud l) 32 (bits x 24 24)) l]
  else if bits x 48 4 = 15 then
    all [set .FL_FAR_NODE (bits x 0 6) l, set .FL_FAR_LINK (bits x 8 8) l, set .FL_FAR_VALID 1 l, put .flFarPR (bits x 16 3 : Nat) l]
  else skip

-- Cells in (R87, R92, R102, R103) ----------------------------------------------------------------------------------

/-- A cell arrived without a credit: it is discarded (R92). -/
def creditOverrun (l cls : Nat) : Act := all [count .FL_CREDIT_OVERRUNS 1 l, raise .CREDIT_OVERRUN l cls]

/-- The place of a cell in its frame, from its SEQ relative to the last FS cell (R102), for frames of `cells` cells. -/
def placeInFrame (cells seq fs : Nat) : Nat :=
  let d := (seq + 2 ^ 16 - fs % 2 ^ 16) % 2 ^ 16
  if cells = 0 then d else if d < 2 ^ 16 - 512 then d % cells else (d + cells - 2 ^ 16 % cells) % cells

/-- A centre keeps a media cell for the links that its stream or bundle leaves on (R102, R214); a bundle's notes the link whose place it holds. -/
def cellForward (l : Nat) (c : Cell) : Act := look fun s =>
  if c.cls = clVideo then
    let onto := (s.legs.filter fun g => !g.up && g.node == s.ownNode && g.src == c.stream).flatMap fun g => s.replicas g.link
    all [iff c.fs (all [put .fwFs (c.seq % 2 ^ 16 : Nat) c.stream, put .fwAt (s.house : Nat) c.stream]), look fun s =>
      one (.fwds (s.fwds ++ onto.map fun o => ⟨o, clVideo, c.stream, c.seq, c.fs, s.qn .fwAt c.stream, placeInFrame 0 c.seq (s.qn .fwFs c.stream), c.payload⟩))]
  else
    let onto := (List.range s.links).filter fun o => (List.range 64).any fun n => s.q .auTxLink c.stream (16 + n) == ((s.mirror o + 1 : Nat) : Int)
    if onto.isEmpty then freeCell false l
    else one (.fwds (s.fwds ++ onto.map fun o => ⟨o, clAudio, c.stream, c.seq, false, 0, l + 1, c.payload⟩))

/-- The local outputs that a stream's legs feed here, and its slot format. -/
def State.fedBy (s : State) (src : Nat) : List Nat × Nat :=
  let legs := s.legs.filter fun g => !g.up && g.node != s.ownNode && g.src == src
  (legs.flatMap fun g => g.outs.map fun o => (s.home o).2, (legs.map Leg.fmt).headD 3)

/-- The moment at which the first word of cell `idx` of the frame that opens at `x` is delivered, in ps: D(r) after it has entered the source's
fabric stage, where its stream keeps to the domain (R103). -/
def State.deliveryAt (s : State) (fm f : Format) (slot x idx : Nat) : Option Nat :=
  if s.withDomain fm slot x then
    some (fm.frameStart (fm.frameAt x) + idx * cellBits * fm.den * psS / (fm.num * f.frameBits) + s.deliveryPs (stdOfSlot slot))
  else none

/-- A video cell arrives at its destination edge module (R103): it is kept for its delivery moment, or discarded as late. Each plane's last 64 cells of
a stream are kept. -/
def copyTake (l : Nat) (c : Cell) (late : Bool) : Act := look fun s =>
  let (outs, slot) := s.fedBy c.stream
  match outs with
  | [] => skip
  | n :: _ =>
    all [iff (c.fs && !(s.q .rxAt c.stream != 0 && s.qn .rxFs c.stream == c.seq % 2 ^ 16))
        (all [put .rxFs (c.seq % 2 ^ 16 : Nat) c.stream, put .rxAt (s.house + 1 : Nat) c.stream]),
      look fun s => match s.linkFormat n, s.domFormat (s.rd .VO_DOMAIN (s.voBase n)) with
        | some f, some fm =>
          let idx := placeInFrame f.cells c.seq (s.qn .rxFs c.stream)
          let tooLate := match s.deliveryAt fm f slot (s.qn .rxAt c.stream - 1) idx with | some d => decide (d < s.house) | none => late
          let near (x : CellCopy) : Bool := !(x.src == c.stream && x.plane == s.planeOf l) || decide ((c.seq + 2 ^ 16 - x.seq % 2 ^ 16) % 2 ^ 16 < 64)
          if tooLate then count .FL_LATE_CELLS 1 l
          else one (.copies (s.copies.filter near ++ [⟨c.stream, s.planeOf l, c.seq % 2 ^ 16, idx, c.payload⟩]))
        | _, _ => skip]

/-- A good cell by class (R92, R96, R102, R103, R215); a link that is not in service takes link-local Spores only (R23, R428). DESIGN CHOICE: the
Spore of a cell that is then discarded for want of a credit still acts (log 47). -/
def cellTake (l : Nat) (c : Cell) (late : Bool) : Act := look fun s =>
  let heldOf (rx freed : Qty) : Nat := (s.qn rx l + 2 ^ 24 - s.qn freed l) % 2 ^ 24
  let svc := s.inService l
  all [
    if !c.sp then skip
    else if c.sl then localSpore l c.spore
    else iff svc (chainTake l (if c.su then 0 else 2) c.spore),
    match (if !svc || (s.controlOnly && c.cls != clControl) then clIdle else c.cls) with
    | 1 => look fun s =>
      if s.isCentre then all [forwardFrom l c.stream c.fs, look fun s => iff (s.forwards l c.stream) (cellForward l c)]
      else copyTake l c late
    | 2 =>
      if 32 ≤ heldOf .flRxAud .flFreedAud then creditOverrun l clAudio
      else all [put .flRxAud ((s.qn .flRxAud l + 1) % 2 ^ 24 : Nat) l,
        if s.isCentre then cellForward l c
        else all [freeCell false l, let (idx, smps) := audioOf c.payload; bundleArrive (c.stream % 8192) idx smps]]
    | 3 =>
      if 8 ≤ heldOf .flRxCtrl .flFreedCtrl then creditOverrun l clControl
      else all [put .flRxCtrl ((s.qn .flRxCtrl l + 1) % 2 ^ 24 : Nat) l,
        iff (c.seq % 2 ^ 16 != s.qn .flCtrlSeqRx l % 2 ^ 16) (count .FL_CTRL_GAPS 1 l),
        put .flCtrlSeqRx (c.seq + 1 : Nat) l, ctrlTake l c]
    | _ => skip]

/-- A cell that fails its CRC (R85, R87): discarded; the eighth in a row drops cell lock. -/
def cellBad (l : Nat) : Act := look fun s =>
  all [count .FL_CRC_ERRS 1 l, put .flGood 0 l, addQ .flBad 1 l, iff (s.q .flBad l == 7) (all [put .flBad 0 l, linkFails l])]

/-- A cell that passes its CRC: in TRAINING the eighth in a row gives cell lock (R85, R114). -/
def cellGood (l : Nat) : Act := look fun s =>
  all [put .flBad 0 l, iff (s.rd .FL_STATE l == flTraining) (all [addQ .flGood 1 l, iff (s.q .flGood l == 7) (all [put .flGood 0 l, cellLock l])])]

/-- A cell arrives (R87): one that overlaps an uncorrectable codeword or fails its CRC is discarded whole, and so is one with SU and SL. -/
def cellReceive (l : Nat) (c : CellIn) : Act := look fun s =>
  let st := s.rd .FL_STATE l
  if !s.inService l && st != flAdmitting && st != flMiswired && st != flTraining then skip
  else all [count .FL_CW_CORR c.corr l,
    if c.uncorr then iff c.newCw (all [count .FL_CW_UNCORR 1 l, addQ .flUncSince 1 l])
    else if c.cell.crc ≠ cellCrc c.cell then cellBad l
    else all [cellGood l, iff (st != flTraining && !(c.cell.su && c.cell.sl)) (cellTake l c.cell c.late)]]

-- Delivery (R103, R105, R127, R132, R133) --------------------------------------------------------------------------

/-- The bits of output `n`'s received picture `F` at a cell's place become `v`. -/
def putCell (n F idx v : Nat) : Act := look fun s => put .voBits (setBits (s.qn .voBits n (F % 2)) (idx * cellBits) cellBits v : Nat) n (F % 2)

/-- The words at the same positions of the line before (R105). -/
def State.lineBefore (s : State) (f : Format) (n F idx : Nat) : Nat :=
  bits (s.qn .voBits n ((F + 1) % 2) + s.qn .voBits n (F % 2) * 2 ^ f.frameBits) (f.frameBits + idx * cellBits - lineBits f) cellBits

/-- The charcoal words at a cell's place. -/
def charcoalCell (f : Format) (idx : Nat) : Nat :=
  let w := cellBits * idx / 10
  bits (packWords 10 ((List.range 411).map fun k => blankAt ((w + k) % (2 * f.spl)))) (cellBits * idx % 10) cellBits

/-- The lines of a new source that have passed without it, up to the line of cell `idx` of picture `F`, carry charcoal (R127). -/
def freshLines (f : Format) (n F idx : Nat) : Act := look fun s =>
  let a := F * f.lines + min (f.lines - 1) ((idx * cellBits + cellBits - 1) / lineBits f)
  all [putCell n F idx (charcoalCell f idx), iff (decide (s.qn .voFresh n ≤ a + 1)) (all [count .VO_CHARCOAL_LINES (a + 2 - s.qn .voFresh n) n, put .voFresh (a + 2 : Nat) n])]

/-- The copy of the other plane was taken (R133). -/
def tookOther (n : Nat) : Act :=
  all [count .XS_ALT_CELLS 1 n, addQ .xsAltSince 1 n, look fun s =>
    if s.q .xsAltAt n = 0 ∨ s.q .xsAltAt n + psS ≤ (s.now : Int) + 1 then
      all [put .xsAltAt (s.now + 1) n, raise .PLANE_ALTERNATE n (s.qn .xsAltSince n), put .xsAltSince 0 n]
    else skip]

/-- The delivery moment of the cell with SEQ `seq` of the remote stream that output `n` carries: the selector's copy, or what takes its place (R105,
R127, R132). DESIGN CHOICE: a cell of which the other plane's copy has come, which FORCE_A or FORCE_B does not take, is substituted and not counted as lost
on both (log 47). -/
def deliver (n seq : Nat) : Act := look fun s =>
  match s.feed n, s.linkFormat n, s.domFormat (s.rd .VO_DOMAIN (s.voBase n)) with
  | .remote, some f, some fm =>
    let src := s.rd .XS_CUR n
    let planes := s.rd .XS_PLANES n
    let pref := s.rd .XS_PLANE_PREF n
    let copyOf (p : Nat) : Option CellCopy := s.copies.find? fun c => c.src == src && c.plane == p && c.seq == seq % 2 ^ 16
    let a := (copyOf 0).isSome
    let b := (copyOf 1).isSome
    let idx := placeInFrame f.cells seq (s.qn .rxFs src)
    let F := fm.frameAt (s.house - idx * cellBits * fm.den * psS / (fm.num * f.frameBits))
    let sel := selectPlane (s.rd .XS_SEL_MODE n) pref planes a b
    match copyOf sel with
    | some c => all [putCell n F idx c.payload, put .voFresh 0 n, iff (s.rd .XS_SEL_MODE n == 0 && planes == 3 && sel != pref) (tookOther n)]
    | none =>
      if s.q .voFresh n ≠ 0 then freshLines f n F idx
      else all [putCell n F idx (s.lineBefore f n F idx),
        iff (!a && !b) (all [count .FAB_LOST_BOTH, raisePerSecond .CELLS_LOST_BOTH .lostBothAt src 1])]
  | _, _, _ => skip

-- Commands ---------------------------------------------------------------------------------------------------------

/-- FABRIC_CELL_SEND (R91): first a centre's handovers whose point has come (R109), then the cell of the position. -/
def execFabricCellSend (t link : Nat) (r : Option CellReady) (s : State) : Host.Outcome State Fault Refusal :=
  run (all [at_ t,
    look fun s => each (s.legs.filter fun g => g.hand && g.node == s.ownNode && g.link == s.mirror link && s.handDue link g) handover,
    cellSend link r]) s

/-- FABRIC_CELL_RECEIVE (R87). -/
def execFabricCellReceive (t link : Nat) (c : CellIn) (s : State) : Host.Outcome State Fault Refusal :=
  run (all [at_ t, cellReceive link c]) s

/-- A CREDIT Spore is due (R92): 16 cells freed since the last one, or 1 us since the first of them. Of the cells taken, `ctrl` and `aud` still stand
in the receiver's places (log 50). -/
def State.creditDue (s : State) (l ctrl aud : Nat) : Bool :=
  let n := s.qn .flNewCtrl l - ctrl + (s.qn .flNewAud l - aud)
  n != 0 && (decide (16 ≤ n) || decide (s.q .flFreeAt l - 1 + psUs ≤ (s.now : Int)))

/-- CREDIT_SEND (R92). -/
def execCreditSend (t link ctrl aud : Nat) (s : State) : Host.Outcome State Fault Refusal :=
  run (all [at_ t, look fun s =>
    if s.creditDue link ctrl aud then
      let fc : Nat := (s.qn .flFreedCtrl link + (s.qn .flNewCtrl link - ctrl)) % 2 ^ 24
      let fa : Nat := (s.qn .flFreedAud link + (s.qn .flNewAud link - aud)) % 2 ^ 24
      let keptC := min ctrl (s.qn .flNewCtrl link)
      let keptA := min aud (s.qn .flNewAud link)
      all [put .flFreedCtrl fc link, put .flFreedAud fa link, put .flNewCtrl keptC link, put .flNewAud keptA link,
        put .flFreeAt (if keptC + keptA = 0 then 0 else s.now + 1) link,
        emit (.credit link fc fa), sendLocal link (fc + fa * 2 ^ 24 + 14 * 2 ^ 48)]
    else skip]) s

/-- FABRIC_DELIVERY_MOMENT (R103, R105, R132): the moment of the cell with SEQ `seq` of stream `src` at output `out`, which takes it if that is the
stream it carries. -/
def execFabricDeliveryMoment (t out src seq : Nat) (s : State) : Host.Outcome State Fault Refusal :=
  run (all [at_ t, iff (s.rd .XS_CUR out == src) (deliver out seq)]) s

end Sys2Proof.Machine
end

