-- ==== Sys2Proof/Machine/Power.lean ====
section
/-! DEFINITION. Power, temperature and PMBus (22_module_electrical.md, R492 to R506), and the first step of a start (R435), which they begin.
Voltages are in 10 mV, currents in mA, powers in 0.1 W, temperatures in 0.1 degree. -/
set_option Elab.async false
namespace Sys2Proof.Machine
open Host

/-- The codes of PW_STATE (R506). -/
abbrev pwNormal : Nat := 0
abbrev pwWarm : Nat := 1
abbrev pwHot : Nat := 2
abbrev pwCold : Nat := 3

-- PMBus status (R504, log 22) --------------------------------------------------------------------------------------

/-- The conditions that hold now, as STATUS_INPUT in [7:0] and STATUS_TEMPERATURE in [15:8]. -/
def State.pmNow (s : State) : Nat :=
  let vin := s.q .vinOk
  b2n (s.rd .PW_PIN_WARN * 10 < s.rd .PW_PIN) + b2n (vin == 2) * 2 ^ 5 + b2n (vin == 3) * 2 ^ 6 + b2n (s.q .railsOk == 2) * 2 ^ 7
    + b2n (s.rd .PW_STATE == pwCold) * 2 ^ 13 + b2n (s.rd .PW_STATE == pwWarm || s.rd .PW_STATE == pwHot) * 2 ^ 14 + b2n (s.q .tripped == 1) * 2 ^ 15

/-- What holds now is latched. -/
def pmLatch : Act := look fun s => put .pwStatus (Nat.lor (s.qn .pwStatus) s.pmNow)

/-- STATUS_INPUT and STATUS_TEMPERATURE. -/
def State.pmInput (s : State) : Nat := s.qn .pwStatus % 256
def State.pmTemp (s : State) : Nat := s.qn .pwStatus / 256 % 256

/-- STATUS_WORD: INPUT in bit 13, temperature in bit 2, communication in bit 1, none of the above in bit 0. -/
def State.pmWord (s : State) : Nat :=
  b2n (s.pmInput != 0) * 2 ^ 13 + b2n (s.pmTemp != 0) * 2 ^ 2 + b2n (s.q .pwComm == 1) * 2 + b2n (s.pmInput != 0)

-- The first step of a start ----------------------------------------------------------------------------------------

/-- What the lands, the supply and the telemetry hold through a start. -/
def heldThrough : List Qty := [.pinNid, .vinUp, .vinOk, .railsOk, .tripped, .tripReport, .pwStatus, .pwComm, .vinLowAt, .vinHighAt, .pwPowerAt]

/-- The machine returns to reset (R437), but for what survives. The counter is 0 from now on (R310). -/
def restartAll : Act := look fun s =>
  all [one .restart, each heldThrough (fun x => put x (s.q x)), put .refAcc s.now, set .PW_VIN_OK (b2n (s.q .vinOk == 1))]

/-- Step 1 of a start (R435): power-good holds, the node straps are read, and POWER_UP stands until the start goes on. -/
def beginStart : Act := all [restartAll, put .powerGood 1, set .SU_STATE 0, look fun s => set .SYS_NODE (s.qn .pinNid)]

/-- Power-good falls (R494): PG, the GPO lands, EVT0, EVT1 and every lane are released, and nothing that was loaded survives (R437). -/
def powerLost : Act := all [restartAll, put .powerGood 0]

-- Voltage ----------------------------------------------------------------------------------------------------------

/-- The range of VIN with 0.5 V of hysteresis (R495): 1 in range, 2 low, 3 high. -/
def vinRange (before v : Nat) : Nat :=
  if v < 3600 ∨ (before = 2 ∧ v < 3650) then 2 else if 7500 < v ∨ (before = 3 ∧ 7450 < v) then 3 else 1

/-- VIN has come to `v` (R495). -/
def vinMoves (v : Nat) : Act := look fun s =>
  let old := s.qn .vinOk
  let new := vinRange old v
  all [put .vinOk new, set .PW_VIN_OK (b2n (new == 1)),
    iff (new != old && new == 2) (raisePerSecond .PWR_VIN_LOW .vinLowAt 0 0),
    iff (new != old && new == 3) (raisePerSecond .PWR_VIN_HIGH .vinHighAt 0 0), pmLatch]

/-- VIN is above the overvoltage shut-down (R493): it releases at 78.0 V falling. -/
def vinOver (was : Bool) (v : Nat) : Bool := decide (8000 ≤ v) || (was && decide (7800 < v))

/-- What R494 asks for power-good when VIN rises, `first` from below the lockout, or a rail returns; `shut` from the overvoltage shut-down. -/
def pinsGood (p : PowerPins) (first shut : Bool) : Bool :=
  decide ((if first then 3400 else 3200) ≤ p.vin) && !vinOver shut p.vin && p.railsOk && p.loOk && (!first || decide (-550 ≤ p.tcase))

-- Temperature ------------------------------------------------------------------------------------------------------

/-- PW_STATE after a sample of the case (R496). -/
def thermalNext (st warn : Nat) (tcase : Int) : Nat :=
  match st with
  | 0 => if 1250 < tcase then pwHot else if tcase < -550 then pwCold else if (warn : Int) ≤ tcase then pwWarm else pwNormal
  | 1 => if 1250 < tcase then pwHot else if tcase < -550 then pwCold else if tcase < (warn : Int) - 50 then pwNormal else pwWarm
  | 2 => if tcase ≤ 1220 then pwWarm else pwHot
  | _ => if -520 ≤ tcase then pwNormal else pwCold

/-- One sample of PW_STATE, its events, and the count of 100 ms above 135.0 degrees in HOT. -/
def thermalMoves (tcase : Int) : Act := look fun s =>
  let old := s.rd .PW_STATE
  let new := thermalNext old (s.rd .PW_TCASE_WARN) tcase
  all [set .PW_STATE new,
    iff (new != old && new == pwWarm && old == pwNormal) (raise .PWR_TEMP_WARN),
    iff (new != old && new == pwHot) (raise .PWR_TEMP_HIGH),
    iff (new != old && new == pwCold) (raise .PWR_TEMP_LOW),
    if new = pwHot ∧ 1350 < tcase then iff (s.timer .trip).isNone (arm .trip (100 * psMs)) else disarm .trip]

/-- One sample while in TRIP: the count of 10 s below 110.0 degrees. -/
def tripSample (tcase : Int) : Act := look fun s =>
  if tcase < 1100 then iff (s.timer .tripOut).isNone (arm .tripOut (10 * psS)) else disarm .tripOut

/-- The readings of one sample, shared by the PW_ fields and PMBus (R504). -/
def sampleStore (vin iin pin : Nat) (tcase tj : Int) : Act := look fun s =>
  let was := s.rd .PW_PIN
  let warn := 10 * s.rd .PW_PIN_WARN
  all [set .PW_VIN vin, set .PW_IIN iin, set .PW_PIN pin, setS .PW_TCASE tcase, setS .PW_TJ_MAX tj, set .PW_PIN_PEAK (max (s.rd .PW_PIN_PEAK) pin),
    iff (decide (was ≤ warn) && decide (warn < pin)) (raisePerSecond .PWR_POWER_HIGH .pwPowerAt 0 0)]

-- Linear11 ---------------------------------------------------------------------------------------------------------

/-- The mantissa of v / d at exponent e - 16. -/
def mantissa (v : Int) (d e : Nat) : Int := if e < 16 then roundQ (v * 2 ^ (16 - e)) d else roundQ v (d * 2 ^ (e - 16))

/-- v / d in Linear11 (R504): exponent in [15:11], mantissa in [10:0], the smallest exponent whose mantissa fits 11 bits. -/
def linear11 (v : Int) (d : Nat) : Nat :=
  let e := ((List.range 32).find? fun e => decide (-1024 ≤ mantissa v d e) && decide (mantissa v d e ≤ 1023)).getD 31
  ofSigned ((e : Int) - 16) 5 * 2 ^ 11 + ofSigned (mantissa v d e) 11

/-- The module answers PMBus whenever VIN lies above the lockout (R504). -/
def whenPowered (a : Act) : Act := look fun s => iff (s.q .vinUp == 1) a

/-- The octets of a word, low one first. -/
def octets2 (w : Nat) : List Nat := [w % 256, w / 256 % 256]

/-- A PMBus answer. -/
def pmAnswer (t cmd : Nat) (f : State → List Nat) (s : State) : Outcome State Fault Refusal :=
  run (all [at_ t, whenPowered (look fun s => emit (.pmbus cmd (f s)))]) s

-- Commands ---------------------------------------------------------------------------------------------------------

/-- POWER_GOOD_RISE (R494, R435, R506): with every condition of R494, power-good rises and a start begins; what clears when VIN rises above the
lockout clears; a newly fitted NVM device is there from now on. -/
def execPowerGoodRise (t : Nat) (pins : PowerPins) (s : State) : Outcome State Fault Refusal :=
  run (all [at_ t, look fun s =>
    let first := s.q .vinUp = 0
    let shut := s.q .railsOk == 2
    all [put .pinNid (pins.nid % 64 : Nat), match pins.nvm with | some x => one (.nvm x) | none => skip,
      iff (decide (3400 ≤ pins.vin)) (all [put .vinUp 1,
        iff first (all [set .PW_TRIPS 0, set .PW_PG_LOSSES 0, put .tripped 0, put .vinOk 0, put .pwStatus 0, put .pwComm 0])]),
      put .railsOk (if vinOver shut pins.vin then 2 else if !pins.railsOk then 3 else if !pins.loOk then 4 else 0 : Nat),
      look fun s => iff (s.q .powerGood == 0 && s.q .tripped != 1 && pinsGood pins first shut) (all [beginStart, vinMoves pins.vin])]]) s

/-- POWER_GOOD_FALL (R494, R506): a condition of power-good but the thermal one is lost; what holds already keeps power-good low. -/
def execPowerGoodFall (t : Nat) (why : PgLoss) (s : State) : Outcome State Fault Refusal :=
  run (all [at_ t, look fun s =>
    let good := s.q .powerGood == 1
    let falls (n : Nat) : Act := all [iff good (count .PW_PG_LOSSES), put .railsOk n, pmLatch, iff good powerLost]
    iff (s.q .vinUp == 1) (match why with
     | .lockout => all [put .vinUp 0, put .railsOk 1, iff good powerLost]
     | .overvoltage => falls 2
     | .rail => falls 3
     | .oscillator => falls 4)]) s

/-- RST_N_RELEASE (R435, R502): taken when RST_N was held low for 10 us or more. -/
def execRstNRelease (t lowPs : Nat) (s : State) : Outcome State Fault Refusal :=
  run (all [at_ t, look fun s => iff (s.q .powerGood == 1 && decide (10 * psUs ≤ lowPs)) beginStart]) s

/-- VIN_RANGE_CHANGE (R495). -/
def execVinRangeChange (t vin : Nat) (s : State) : Outcome State Fault Refusal :=
  run (all [at_ t, look fun s => iff (s.q .vinUp == 1) (vinMoves vin)]) s

/-- THERMAL_SAMPLE (R496, R504): every 1 ms while VIN lies above the lockout. -/
def execThermalSample (t vin iin pin : Nat) (tcase tj : Int) (s : State) : Outcome State Fault Refusal :=
  run (all [at_ t, whenPowered (look fun s => all [sampleStore vin iin pin tcase tj,
    if s.q .tripped = 1 then tripSample tcase else thermalMoves tcase, pmLatch])]) s

/-- THERMAL_TRIP (R496): after 100 ms above 135.0 degrees, or with a junction above 150.0, HOT becomes TRIP and power-good falls. -/
def execThermalTrip (t : Nat) (s : State) : Outcome State Fault Refusal :=
  run (all [at_ t, look fun s =>
    iff (s.rd .PW_STATE == pwHot && s.q .tripped != 1 && (s.due .trip || decide (1500 < s.rdS .PW_TJ_MAX)))
      (all [count .PW_TRIPS, put .tripped 1, powerLost, pmLatch])]) s

/-- TRIP_RECOVERY (R496): after 10 s below 110.0 degrees, TRIP becomes NORMAL, power-good returns and a start begins. -/
def execTripRecovery (t : Nat) (s : State) : Outcome State Fault Refusal :=
  run (all [at_ t, look fun s => iff (s.q .tripped == 1 && s.due .tripOut)
    (all [put .tripped 0, put .tripReport 1, disarm .tripOut, look fun s => iff (s.q .vinUp == 1 && s.q .railsOk == 0) beginStart])]) s

/-- CLEAR_FAULTS (R504): the status bits whose condition has ended. -/
def execClearFaults (t : Nat) (s : State) : Outcome State Fault Refusal :=
  run (all [at_ t, whenPowered (look fun s => all [put .pwStatus (Nat.land (s.qn .pwStatus) s.pmNow), put .pwComm 0])]) s

/-- STATUS_BYTE, STATUS_WORD, STATUS_INPUT, STATUS_TEMPERATURE (R504). -/
def execStatusByte (t : Nat) (s : State) : Outcome State Fault Refusal := pmAnswer t 0x78 (fun s => [s.pmWord % 256]) s
def execStatusWord (t : Nat) (s : State) : Outcome State Fault Refusal := pmAnswer t 0x79 (fun s => octets2 s.pmWord) s
def execStatusInput (t : Nat) (s : State) : Outcome State Fault Refusal := pmAnswer t 0x7C (fun s => [s.pmInput]) s
def execStatusTemperature (t : Nat) (s : State) : Outcome State Fault Refusal := pmAnswer t 0x7D (fun s => [s.pmTemp]) s

/-- READ_VIN, READ_IIN, READ_PIN: volts, amperes and watts in Linear11 (R504). -/
def execReadVin (t : Nat) (s : State) : Outcome State Fault Refusal := pmAnswer t 0x88 (fun s => octets2 (linear11 (s.rd .PW_VIN : Nat) 100)) s
def execReadIin (t : Nat) (s : State) : Outcome State Fault Refusal := pmAnswer t 0x89 (fun s => octets2 (linear11 (s.rd .PW_IIN : Nat) 1000)) s
def execReadPin (t : Nat) (s : State) : Outcome State Fault Refusal := pmAnswer t 0x97 (fun s => octets2 (linear11 (s.rd .PW_PIN : Nat) 10)) s

/-- READ_TEMPERATURE_1, the case; READ_TEMPERATURE_2, the hottest junction (R504). -/
def execReadTemperature1 (t : Nat) (s : State) : Outcome State Fault Refusal := pmAnswer t 0x8D (fun s => octets2 (linear11 (s.rdS .PW_TCASE) 10)) s
def execReadTemperature2 (t : Nat) (s : State) : Outcome State Fault Refusal := pmAnswer t 0x8E (fun s => octets2 (linear11 (s.rdS .PW_TJ_MAX) 10)) s

/-- PMBUS_REVISION, MFR_ID, MFR_MODEL (R504): 33h, "ZSS" and "PLX-256"; the strings as PMBus blocks, their length first. -/
def execPmbusRevision (t : Nat) (s : State) : Outcome State Fault Refusal := pmAnswer t 0x98 (fun _ => [0x33]) s
def execMfrId (t : Nat) (s : State) : Outcome State Fault Refusal := pmAnswer t 0x99 (fun _ => [3, 0x5A, 0x53, 0x53]) s
def execMfrModel (t : Nat) (s : State) : Outcome State Fault Refusal :=
  pmAnswer t 0x9A (fun _ => [7, 0x50, 0x4C, 0x58, 0x2D, 0x32, 0x35, 0x36]) s

/-- PMBUS_UNSUPPORTED (R504): not acknowledged, and the communication bit is set. -/
def execPmbusUnsupported (t cmd : Nat) (s : State) : Outcome State Fault Refusal :=
  run (all [at_ t, whenPowered (all [emit (.pmbusNack cmd), put .pwComm 1])]) s

/-- SMBUS_ALERT_RESPONSE (R504): while PMB_ALERT_N is low the module answers with its address, 40h. -/
def execSmbusAlertResponse (t : Nat) (s : State) : Outcome State Fault Refusal :=
  run (all [at_ t, whenPowered (look fun s => iff (s.pmWord != 0) (emit (.pmbus 0x0C [0x40])))]) s

end Sys2Proof.Machine
end

