-- ==== Sys2Proof/Machine/Claims.lean ====
section
/-! DEFINITION. Direct writes (16_trarad_control.md, R382; 18_xithaid_security.md, R420 to R422, R431; 19_start_up_and_configuration.md, R453): the
claim objects, the debug token, the commanded restart, and firmware's own writes to the object map (R6, R83, R507). -/
set_option Elab.async false
namespace Sys2Proof.Machine
open Host

-- Claim (R422) -----------------------------------------------------------------------------------------------------

/-- What R422 makes of a write of SEC_CLAIM_GO = 1: the status that refuses it, or none. -/
def State.claimVerdict (s : State) (v : ClaimVerdict) : Option Status :=
  if s.q .claimDone = 1 then some .ALREADY_CLAIMED
  else if s.rd .SEC_STATE = 2 then some .CLAIM_LOCKED
  else if !v.certOk then some .CERT_CHAIN
  else if s.owners.isEmpty ∧ !v.codeOk then some .CLAIM_CODE
  else if !s.owners.isEmpty ∧ !v.releaseOk then some .NO_RELEASE
  else if 4 ≤ s.owners.length then some .TRANSFER_EXHAUSTED
  else none

/-- A failure at step 3 of R422: counted, and the eighth since start locks claiming. -/
def claimFailed : Act := look fun s => all [
  count .SEC_CLAIM_FAILS,
  iff (s.rd .SEC_CLAIM_FAILS == 7) (all [set .SEC_STATE 2, raise .SEC_CLAIM_LOCKED])]

/-- The owner fields follow the fuses (R422, R434). -/
def ownerShow : Act := look fun s =>
  let n := s.owners.length
  all [set .SEC_OWNER_SLOT (n - 1), set .SEC_TRANSFERS_LEFT (if n = 0 then 3 else 4 - n), set .SEC_OWNER_DIGEST (s.owners.getLast?.getD 0)]

/-- A claim or transfer that has passed every check: `reply` leaves, the digest is burnt, every session closes, and the module restarts. -/
def claimDone (v : ClaimVerdict) (reply : Act) : Act := look fun s => all [
  one (.burnOwner v.ownerDigest), ownerShow, set .SEC_STATE 1, put .claimDone 1, raise .SEC_CLAIMED, reply,
  each (s.sessions.map Session.slot) closeSession, restartAsked]

/-- SEC_CLAIM_GO = 1 reaches Xithaid; `reply` sends the status. -/
def claimGo (v : ClaimVerdict) (reply : Status → Act) : Act := look fun s =>
  match s.claimVerdict v with
  | none => claimDone v (reply .ACCEPTED)
  | some st => all [iff (st == .CLAIM_CODE || st == .NO_RELEASE) claimFailed, reply st]

-- Debug (R431) -----------------------------------------------------------------------------------------------------

/-- A debug token is written; `reply` sends the status. -/
def debugToken (v : ClaimVerdict) (reply : Status → Act) : Act := look fun s =>
  if s.owners.isEmpty then reply .NOT_CLAIMED
  else if !v.tokenOk then reply .BAD_SIGNATURE
  else if !v.tokenHere then reply .NOT_FOR_MODULE
  else all [set .SEC_DEBUG_OPEN 1, raise .SEC_DEBUG_UNLOCKED, reply .ACCEPTED]

-- Direct writes on SVC (R382) --------------------------------------------------------------------------------------

/-- The claim objects. -/
def claimFields : List Fld := [.SEC_CLAIM_CODE, .SEC_CLAIM_LEN, .SEC_CLAIM_CERT, .SEC_RELEASE, .SEC_CLAIM_GO]

/-- A WRITE on SVC (R382, R385, R421). -/
def svcWrite (m : Msg) (addr bytes : Nat) (data : List Nat) (v : ClaimVerdict) : Act := look fun s =>
  let fs := (covered addr data).map FieldWrite.fld
  let claim := !fs.isEmpty && fs.all fun f => claimFields.contains f
  let token := !fs.isEmpty && fs.all fun f => f == .SEC_DEBUG_TOKEN
  let restart := !fs.isEmpty && (fs.all fun f => f == .SYS_RESTART) && (s.rd .SU_STATE == 4 || s.rd .SU_STATE == 5)
  if !m.lenOk then answer m .BAD_MESSAGE
  else match badRange addr bytes with
    | some st => answer m st
    | none =>
      if !claim ∧ s.claimOnly m.sess then answer m .NOT_CLAIMED
      else if !claim ∧ !token ∧ !restart then answer m .NOT_SUPPORTED
      else if !claim ∧ !bit (s.rd .TS_PRIV m.sess) 1 then answer m .NO_PRIVILEGE
      else match s.judgeHere 0 false addr data with
        | .error st => answer m st
        | .ok (ws, clamped) =>
          all [storeAll (s.house + 1) 0 0 ws,
            if ws.any fun x => x.fld == .SEC_CLAIM_GO && x.v == 1 then claimGo v (answer m)
            else if token then debugToken v (answer m)
            else answer m (if clamped then .CLAMPED else .ACCEPTED)]

-- Firmware (R6, R83, R507) -----------------------------------------------------------------------------------------

/-- A control core writes words of the object map directly (R6, R11, R420, R507); a refusal is a REJECT on the bus (R407, R416), and a clamp is
reported with the values stored (R11). A shadowed field waits for a frame start after this moment (R9). -/
def directWrite (addr : Nat) (data : List Nat) : Act := look fun s =>
  let no (st : Status) : Act := busError 0 addr true rReject st.code 0
  match s.judgeHere 0 false addr data with
  | .error st => no st
  | .ok (fs, clamped) =>
    let right := s.busRight 0 addr
    if right = 1 ∨ (right = 2 ∧ fs.any fun x => x.fld.desc.acc != .wo) then no .READONLY
    else all [storeAll (s.house + 1) 0 0 fs, iff clamped (emit (.written addr Status.CLAMPED.code (fs.map FieldWrite.v))),
      match fs.find? fun x => x.fld == .SYS_REMAP with | some x => remapAsk x.v | none => skip]

-- Commands ---------------------------------------------------------------------------------------------------------

/-- SVC_DIRECT_WRITE (R382). -/
def execSvcDirectWrite (m : Msg) (addr bytes : Nat) (data : List Nat) (v : ClaimVerdict) (s : State) : Outcome State Fault Refusal :=
  run (all [at_ m.t, look fun s => iff (s.onSvc m.sess) (received m (svcWrite m addr bytes data v))]) s

/-- SEC_CLAIM_GO (R422): a write of it arrives at block 10h, for a session. -/
def execSecClaimGo (t sess value : Nat) (v : ClaimVerdict) (s : State) : Outcome State Fault Refusal :=
  run (all [at_ t,
    if value % 2 = 1 then claimGo v fun st => emit (.claimAnswer sess st.code) else emit (.claimAnswer sess Status.ACCEPTED.code)]) s

/-- SEC_DEBUG_TOKEN (R431): a token is written, for a session. -/
def execSecDebugToken (t sess : Nat) (v : ClaimVerdict) (s : State) : Outcome State Fault Refusal :=
  run (all [at_ t, debugToken v fun st => emit (.claimAnswer sess st.code)]) s

/-- REGISTER_WRITE (R6, R11, R507). -/
def execRegisterWrite (t addr : Nat) (data : List Nat) (s : State) : Outcome State Fault Refusal := run (all [at_ t, directWrite addr data]) s

/-- COUNTER_CLEAR_WRITE (R83 and the CNT_CLR field of every block): a write of 1 clears the counters of its object. -/
def execCounterClearWrite (t addr value : Nat) (s : State) : Outcome State Fault Refusal := run (all [at_ t, directWrite addr [value]]) s

/-- SYS_RESTART_WRITE (R453): 5A5Ah begins a start at the next D0 frame start, or in 1 ms; any other value is refused. -/
def execSysRestartWrite (t value : Nat) (s : State) : Outcome State Fault Refusal :=
  run (all [at_ t, if value = 0x5A5A then restartAsked else busError 0 0x40000240 true rReject Status.REFUSED.code 0]) s

/-- COMMANDED_RESTART (R453, R464, R465): the restart that was scheduled begins. -/
def execCommandedRestart (t : Nat) (s : State) : Outcome State Fault Refusal :=
  run (all [at_ t, look fun s => iff (s.due .restart) beginStart]) s

end Sys2Proof.Machine
end

