-- ==== Sys2Proof/Machine/Images.lean ====
section
/-! DEFINITION. Images in the NVM (19_start_up_and_configuration.md, R438 to R444; 20_field_update.md, R464, R465): the directory, the checks that
a firmware set and a configuration image pass, the update record, the health check and the fall-back. -/
set_option Elab.async false
namespace Sys2Proof.Machine

-- The directory ----------------------------------------------------------------------------------------------------

/-- Slot states (R439). -/
abbrev slotEmpty : Nat := 0
abbrev slotValid : Nat := 1
abbrev slotUnconfirmed : Nat := 2

/-- The directory copy in force: a good CRC and the higher generation, copy 0 where they are equal (R439). -/
def nvmDirectory (x : Nvm) : Option Directory :=
  match x.dir0.crcOk, x.dir1.crcOk with
  | true, true => some (if x.dir0.gen < x.dir1.gen then x.dir1 else x.dir0)
  | true, false => some x.dir0
  | false, true => some x.dir1
  | false, false => none

/-- The state of a slot of pair `p` (`cfg` false: firmware) in a directory. -/
def slotState (d : Directory) (p : Nat) (cfg : Bool) : Nat := d.slots.getD (2 * p + b2n cfg) slotEmpty

/-- The directory with both slots of pair `p` in a state. -/
def withPair (d : Directory) (p st : Nat) : List Nat := (List.range 4).map fun k => if k / 2 = p then st else d.slots.getD k slotEmpty

/-- A new directory: one generation above the higher copy, written into the copy with the lower one (R464). A copy whose CRC is bad is the one
that is written. -/
def writeDirectory (x : Nvm) (active : Nat) (slots : List Nat) : Nvm :=
  let d : Directory := ⟨(max x.dir0.gen x.dir1.gen + 1) % 2 ^ 32, active, slots, true⟩
  let second := if x.dir0.crcOk = x.dir1.crcOk then decide (x.dir1.gen ≤ x.dir0.gen) else x.dir0.crcOk
  if second then { x with dir1 := d } else { x with dir0 := d }

/-- The update record of pair `p` (R464); the windows at their reset values where none was written (R461). -/
def updRecOf (x : Nvm) (p : Nat) : UpdRec := x.upd.getD p ⟨1800, 120, 0, 0, 0⟩

/-- The device with the update record of pair `p` replaced. -/
def putUpdRec (x : Nvm) (p : Nat) (r : UpdRec) : Nvm :=
  { x with upd := (List.range 2).map fun k => if k = p then r else updRecOf x k }

/-- The directory as the module knows it; both slots of both pairs empty where no copy is good. -/
def State.directory (s : State) : Directory := (nvmDirectory s.nvm).getD blankDirectory

/-- The pair that is not running (R439): with none running, the one that the directory does not call active. -/
def State.idlePair (s : State) : Nat := if s.rd .SU_PAIR = 0 then 1 - s.directory.active else 2 - s.rd .SU_PAIR

-- Checks (R442, R443) ----------------------------------------------------------------------------------------------

/-- Step 4: why a firmware set is refused, if it is; `listed` says that its slot is VALID or UNCONFIRMED. A slot that holds no set fails its
signature. -/
def State.fwStatus (s : State) (listed : Bool) (x : Option FwImage) : Option Status :=
  if !listed then some .NO_IMAGE
  else match x with
    | none => some .BAD_SIGNATURE
    | some f =>
      if !f.sigOk then some .BAD_SIGNATURE
      else if f.svn < s.rd .SEC_ROLLBACK_FW then some .ROLLBACK
      else if !f.setIds.all (fun i => i == f.setIds.headD 0) then some .SET_MISMATCH
      else if !f.revs.contains (s.rd .SU_SI_REV) then some .SET_UNTESTED
      else none

/-- Step 6: why a configuration image is refused, if it is; `formats` is what the manifest of its firmware set lists. -/
def State.cfgStatus (s : State) (listed : Bool) (formats : List Nat) (x : Option CfgImage) : Option Status :=
  if !listed then some .NO_IMAGE
  else match x with
    | none => some .BAD_SIGNATURE
    | some c =>
      if 2 ^ 24 < c.len then some .IMAGE_TOO_LARGE
      else if !c.named then some .NOT_FOR_MODULE
      else if !c.sigOk then some .BAD_SIGNATURE
      else if !c.signerOk then some .CERT_CHAIN
      else if c.svn < s.rd .SEC_ROLLBACK_CFG then some .ROLLBACK
      else if !formats.contains c.format ∨ !c.wellFormed then some .IMAGE_FORMAT
      else none

/-- What a refused image counts and raises (R424, R426). -/
def imageRefused (st : Option Status) : Act :=
  match st with
  | some .BAD_SIGNATURE => all [count .SEC_IMAGE_REJECTED, raise .SEC_IMAGE_REJECTED]
  | some .ROLLBACK => raise .SEC_ROLLBACK_REFUSED
  | _ => skip

-- Health check and fall-back (R465) --------------------------------------------------------------------------------

/-- The other pair becomes active, the fallen pair's slots EMPTY, and its record holds the result (R464). -/
def directoryFall (p result : Nat) : Act := look fun s =>
  one (.nvm (putUpdRec (writeDirectory s.nvm (1 - p) (withPair s.directory p slotEmpty)) p { updRecOf s.nvm p with result := result }))

/-- A restart at the first D0 frame start at least 1 s later, or after 1 s. -/
def restartLater : Act := look fun s =>
  arm .restart (if s.domReady 0 then s.nextFrameStart 0 (s.house + psS) - s.house else psS)

/-- The module falls back from the pair that is not yet confirmed: the running one, or the one that ACTIVATE has just made active. -/
def fallBack (result : Nat) : Act := look fun s =>
  iff ((s.rd .UP_STATE == 3 || s.q .upVerified == 1) && s.q .upFallback == 0) (all [
    directoryFall (if s.rd .UP_STATE = 3 then s.rd .SU_PAIR - 1 else s.idlePair) result,
    put .upFallback result, disarm .updHealth, disarm .updWindow, raise .UPDATE_FALLBACK, restartLater])

/-- The health check: it passes once, when its three bits are 1 together within HEALTH_S. -/
def healthJudge : Act := look fun s =>
  iff (s.rd .UP_STATE == 3) (all [set .UP_HEALTH s.healthBits,
    iff (s.healthBits == 7 && (s.timer .updHealth).isSome && !s.due .updHealth) (all [set .UP_HEALTH_OK 1, disarm .updHealth])])

end Sys2Proof.Machine
end

