-- ==== Sys2Proof/Machine/Redundancy.lean ====
section
/-! DEFINITION. Lichen pairs and fail-over (15_redundancy.md, R356 to R374), joining and replay (01_system_geometry.md, R32, R35, R36; R113, R389,
R427, R449 to R451), and the standby's copy of the manager's state (R29, R34, R362). -/
set_option Elab.async false
namespace Sys2Proof.Machine
open Host

/-- RD_STATE of a pair (R374). -/
abbrev rdAlone : Nat := 0
abbrev rdListen : Nat := 1
abbrev rdSyncing : Nat := 2
abbrev rdStandby : Nat := 3
abbrev rdTaking : Nat := 4
abbrev rdActive : Nat := 5
abbrev rdFenced : Nat := 6

/-- The module belongs to a Lichen pair (R356). -/
def State.inPair (s : State) : Bool := s.rd .RD_ROLE != 0

/-- The module belongs to the manager pair. -/
def State.mgrPair (s : State) : Bool := s.rd .RD_ROLE == 1

/-- RD_STATE moves (R361), and SYS_MGR_ROLE with it in a manager pair. -/
def pairState (new : Nat) : Act := look fun s =>
  all [moveState .RD_STATE_PAIR .REDUND_STATE_CHANGE 0 new,
    iff s.mgrPair (set .SYS_MGR_ROLE (if new = rdActive then 1 else if new = rdStandby ∨ new = rdTaking then 2 else 0)),
    countValid,
    iff (s.mgrPair && new != rdActive) (all [set .ORD_NEXT 0, set .RD_UNPROT 0])]

-- What a member holds ----------------------------------------------------------------------------------------------

/-- The highest order number held, and the highest up to which none is missing (R358). -/
def State.heldTop (s : State) : Nat :=
  if s.rd .SYS_MGR_ROLE = 1 then s.lastOrder else match s.hist.getLast? with | some a => a.order | none => s.rd .ORD_APPLIED
def State.heldRun (s : State) : Nat :=
  match s.hist with
  | [] => s.rd .ORD_APPLIED
  | a :: r => r.foldl (fun k b => if b.order = succOrder k then b.order else k) a.order

/-- An action takes its place among those held (R29). -/
def insertAction (a : Action) : List Action → List Action
  | [] => [a]
  | b :: r => if a.order = b.order then b :: r else if later b.order a.order then a :: b :: r else b :: insertAction a r

-- Heartbeats (R357, R358) ------------------------------------------------------------------------------------------

/-- The body of a HEARTBEAT. -/
def State.beatBody (s : State) : List Nat :=
  [s.rd .RD_EPOCH + s.rd .RD_ACTIVE_NODE * 2 ^ 16 + s.rd .RD_STATE_PAIR * 2 ^ 22 + s.rd .RD_HEALTH * 2 ^ 25, s.heldTop % 2 ^ 48]

/-- Manager beats to every other populated node (R357). -/
def managerBeats : Act := look fun s =>
  each (s.populated.filter fun n => n != s.node && !(s.mgrPair && n == s.rd .RD_PARTNER)) fun n => sendPlain kHeartbeat n s.beatBody

/-- A record to the partner on both paths; `urgent` is the ACK of an urgent record (R399). -/
def toPartner (urgent : Bool) (kind : Nat) (body : List Nat) : Act := look fun s =>
  all [iff (!s.counterSpent) (giveLichen urgent ⟨kind, s.msgOrder, s.node, s.rd .RD_PARTNER, ⟨0, 0, 0, false⟩, body⟩), sendPlain kind (s.rd .RD_PARTNER) body]

/-- An in-service link of this module leads to a node, or, where no link joins the two, any is in service (R99, log 28). -/
def State.reaches (s : State) (n : Nat) : Bool :=
  let mine := (List.range s.links).filter fun l => s.inService l
  n == s.node || (mine.any fun l => (s.farOf l).1 == n) || (!((List.range s.links).any fun l => (s.farOf l).1 == n) && !mine.isEmpty)

/-- RD_HEALTH (R368, log 28). -/
def State.health (s : State) : Nat :=
  let pair := s.inPair
  let planes : List Nat := if s.isCentre then [(s.node - 32) / 8] else [0, 1]
  let heard (p : Nat) : Bool := s.q .beatPlane p != 0 && decide (s.now ≤ s.qn .beatPlane p + 4 * psMs)
  let peer := s.qn .joinCount (s.rd .RD_PARTNER) 1
  b2n (s.domReady 0) + 2 * b2n (s.rd .ORD_STATE == osInOrder) + 4 * b2n (!pair || decide (s.rd .RD_MISS_LK < 3))
    + 8 * b2n (!pair || (decide (s.rd .RD_MISS_FAB < 3) && planes.all heard)) + 16 * b2n (s.standAlone || s.populated.all s.reaches)
    + 32 * b2n (s.rd .PW_VIN_OK == 1 && decide (s.rd .PW_STATE < 2))
    + 64 * b2n (!pair || (s.rd .SU_STATE != 5 && (peer == 0 || peer == s.rd .SU_SET_ID + 1)))
    + 128 * b2n (s.rd .RD_ROLE != 2 || ((List.range 128).all fun n => s.rd .IV_MODE n == 0 || s.rd .IV_STATE n == 2)
      && (List.range 512).all fun n => s.rd .IA_MODE n == 0 || s.rd .IA_STATE n == 2)

/-- RD_HEALTH and RD_HEALTH_S follow (R368). -/
def healthFollow : Act := look fun s =>
  let h := s.health
  let since := if h = 255 then (if s.q .healthSince = 0 then s.now + 1 else s.qn .healthSince) else 0
  all [set .RD_HEALTH h, put .healthSince since, set .RD_HEALTH_S (if since = 0 then 0 else min 0xFFF ((s.now + 1 - since) / psS))]

/-- What leaves at a whole millisecond (R357). A member that has heard no router start holds no key to send records under (R427). -/
def beatSend : Act := look fun s =>
  if s.rd .SU_STATE ≠ 3 ∧ s.rd .SU_STATE ≠ 5 then skip
  else all [healthFollow,
    look fun s => iff (s.inPair && s.rd .RD_STATE_PAIR != rdListen) (toPartner false kHeartbeat s.beatBody),
    look fun s => iff (s.mgrPair && s.rd .RD_STATE_PAIR == rdActive) managerBeats]

-- The active role --------------------------------------------------------------------------------------------------

/-- This module is the active manager from now on: workers, and it itself, take it so (R365). -/
def managerHere : Act := look fun s => iff s.mgrPair (all [put .managerNode s.node, put .managerEpoch (s.rd .RD_EPOCH), set .ORD_STATE osInOrder])

/-- The first entry into ACTIVE of a router start (R28, R361, R427). -/
def firstActive : Act := look fun s => all [
  disarm .listen, set .RD_EPOCH 1, set .RD_ACTIVE_NODE s.node, pairState rdActive,
  iff s.mgrPair (all [disarm .joinSend, set .ORD_NEXT 1, managerHere, withFree fun v => set .SEC_ROUTER_START v, put .salvoWait 1, unprotect, managerBeats, salvoIfLocked])]

/-- A takeover enters the failure history; the third within 3,600 s of a preferred member blocks its return (R369). -/
def failHistory : Act := look fun s =>
  let t : Int := s.now + 1
  let recent (x : Int) : Bool := x != 0 && decide (t - x < 3600 * psS)
  let a := s.q .failAt 0
  let b := s.q .failAt 1
  let n := 1 + b2n (recent a) + b2n (recent b)
  all [put .failAt t 0, put .failAt a 1, put .failAt b 2, set .RD_PARTNER_FAILS n,
    iff (n == 3 && s.rd .RD_PREFERRED == 0 && s.rd .RD_REVERT_BLOCKED == 0) (all [set .RD_REVERT_BLOCKED 1, raise .REDUND_REVERT_BLOCKED])]

/-- A worker has applied actions above what the new manager holds (R366). PARAM holds the highest held number in [47:0] and how many lie above it
in [63:48]. -/
def superseded (n applied : Nat) : Act := look fun s =>
  all [raise .ACTIONS_SUPERSEDED n (s.lastOrder % 2 ^ 48 + min 65535 (orderDiff applied s.lastOrder) * 2 ^ 48), sendImage n]

/-- Steps 1 to 3 of a takeover of the manager (R364, R366). -/
def takeOver : Act := look fun s => all [
  set .ORD_NEXT (succOrder s.heldTop), managerHere, managerBeats, unprotect,
  look fun s => each (s.populated.filter fun n => n != s.node && n != s.rd .RD_PARTNER) fun n =>
    let applied := s.vApplied.get 0 n
    if later applied s.lastOrder then superseded n applied
    else each (s.hist.filter fun a => later a.order applied) fun a => giveRecord false n (s.recordFor a n)]

/-- STANDBY_TAKEOVER (R361, R364): at a D0 frame start. -/
def standbyTakeover : Act := look fun s =>
  iff (s.rd .RD_STATE_PAIR == rdTaking) (all [
    set .RD_EPOCH (s.rd .RD_EPOCH + 1), set .RD_ACTIVE_NODE s.node, count .RD_TAKEOVERS, failHistory, pairState rdActive, put .partnerState 0,
    iff s.mgrPair takeOver])

/-- The member is fenced: it sends nothing in its pair's function (R361). -/
def fence (epoch : Nat) : Act := look fun s => all [
  count .RD_FENCES, raise .REDUND_FENCED, pairState rdFenced, set .RD_EPOCH epoch, set .RD_ACTIVE_NODE (s.rd .RD_PARTNER), arm .fence (10 * psMs),
  iff s.mgrPair (all [one (.held []), disarm .standbyResend, put .managerNode (s.rd .RD_PARTNER), put .managerEpoch epoch])]

/-- The other member becomes active: this one loads its image again (R361). -/
def beginSync : Act := all [
  disarm .listen, disarm .fence, pairState rdSyncing, one (.hist []), one (.img none), set .ORD_STATE osJoining, disarm .gap, disarm .replay, arm .joinSend 0]

/-- SYNCING has loaded the image, and holds what the active member holds (R361). -/
def syncCheck : Act := look fun s =>
  iff (s.rd .RD_STATE_PAIR == rdSyncing && s.rd .ORD_STATE == osInOrder && (!s.mgrPair || (s.heldRun == s.qn .partnerHeld)))
    (pairState rdStandby)

-- Takeback (R367) --------------------------------------------------------------------------------------------------

/-- A takeback executes at its frame start; `order` is its order number. -/
def takebackAt (order : Nat) : Act := look fun s =>
  let swap : Act := all [set .RD_EPOCH (s.rd .RD_EPOCH + 1), count .RD_TAKEBACKS]
  if s.rd .RD_STATE_PAIR = rdActive ∧ s.rd .RD_PREFERRED = 0 then
    if s.q .partnerState ≠ 4 then writeRefused order
    else all [releaseAll, swap, set .RD_ACTIVE_NODE (s.rd .RD_PARTNER), put .pendingTakeback 0, put .partnerState 6,
      iff s.mgrPair (look fun s => all [put .managerNode (s.rd .RD_PARTNER), put .managerEpoch (s.rd .RD_EPOCH)]), pairState rdStandby]
  else if s.rd .RD_STATE_PAIR = rdStandby ∧ s.rd .RD_PREFERRED = 1 then
    all [swap, set .RD_ACTIVE_NODE s.node, put .partnerState 4, pairState rdActive,
      iff s.mgrPair (all [look fun s => set .ORD_NEXT (succOrder s.heldTop), managerHere, managerBeats])]
  else writeRefused order

/-- TAKEBACK_ORDER: the active member orders RD_TAKEBACK = 1, "next" in D0, when R367 lets it. -/
def takebackOrder : Act := look fun s =>
  let hold := s.view (s.rd .RD_PARTNER) .RD_HOLD_S
  let healthy := s.q .healthRun != 0 && decide (s.qn .healthRun + hold * psS ≤ s.now + 1)
  if s.mgrPair && s.rd .RD_STATE_PAIR == rdActive && s.rd .RD_PREFERRED == 0 && s.q .partnerState == 4 && healthy && s.rd .RD_REVERT_BLOCKED == 0 &&
      s.q .pendingTakeback == 0 then
    match s.resolve ⟨0, 0, 0, false⟩ false with
    | .error _ => skip
    | .ok st => all [put .pendingTakeback 1, order kWrite st s.node (encodeWrite takebackAddr [1]) fun _ => none]
  else skip

-- Beats received (R360, R361, R365) --------------------------------------------------------------------------------

/-- A centre hears the epochs of IP edge pairs; an edge's streams change over from the next D0 frame start on (R371). -/
def pairHeard (sender epoch : Nat) : Act := look fun s =>
  let topo := match s.cfg with | some g => g.topo | none => []
  match topo.find? fun x => decide (48 ≤ x.node) && (x.node == sender || x.partner == sender) with
  | none => skip
  | some x =>
    let before := s.pairMember x.partner
    all [iff (decide (s.qn .pairEpoch sender < epoch)) (put .pairEpoch epoch sender),
      look fun s => iff (s.pairMember x.partner != before) (put .pairSince (s.nextFrameStart 0 s.house) x.partner)]

/-- A partner's beat (R358, R361). -/
def partnerBeat (b : Beat) : Act := look fun s =>
  let st := s.rd .RD_STATE_PAIR
  all [put .partnerState (1 + b.state : Nat), put .partnerHeld b.held,
    put .healthRun (if b.health % 256 = 255 then (if s.q .healthRun = 0 then s.now + 1 else s.qn .healthRun) else 0),
    if s.rd .RD_EPOCH < b.epoch ∧ (st = rdActive ∨ st = rdStandby ∨ st = rdTaking) then fence b.epoch
    else if st = rdListen ∧ b.state = rdActive then all [set .RD_EPOCH b.epoch, set .RD_ACTIVE_NODE (s.rd .RD_PARTNER),
      iff s.mgrPair (all [put .managerNode (s.rd .RD_PARTNER), put .managerEpoch b.epoch]), beginSync]
    else if st = rdTaking then pairState rdStandby
    else if st = rdSyncing then all [set .RD_EPOCH (max (s.rd .RD_EPOCH) b.epoch), syncCheck]
    else skip,
    look fun s => iff (s.mgrPair && s.rd .RD_STATE_PAIR == rdActive && s.q .partnerState != 4) (all [releaseAll, unprotect])]

/-- A manager beat (R357, R365): the highest epoch names the active manager. A new epoch makes a module that has joined join again (R451). -/
def managerBeat (sender : Nat) (b : Beat) : Act := look fun s =>
  if s.mgrPair ∨ b.epoch < s.qn .managerEpoch then skip
  else if s.qn .managerEpoch < b.epoch then
    let known := s.qn .managerEpoch != 0
    all [put .managerEpoch b.epoch, put .managerNode sender, iff (s.rd .RD_ROLE != 2) (all [set .RD_ACTIVE_NODE sender, set .RD_EPOCH b.epoch]),
      put .mgrBeatAt (s.now + 1), put .mgrLost 0,
      iff (known && s.rd .SU_STATE == 3 && s.rd .ORD_STATE != osMismatch) (arm .joinSend 0),
      iff (s.rd .ORD_STATE == osGap) askReplay]
  else iff (sender == s.qn .managerNode) (all [put .mgrBeatAt (s.now + 1), put .mgrLost 0])

/-- HEARTBEAT_RECEIVE. -/
def beatReceive (sender : Nat) (lichen : Bool) (plane : Nat) (b : Beat) (ok : Bool) : Act := look fun s =>
  if s.rd .SU_STATE ≠ 3 ∧ s.rd .SU_STATE ≠ 5 then skip
  else if !ok then tagFails sender 0
  else all [iff s.isCentre (pairHeard sender b.epoch),
    if s.inPair ∧ sender = s.rd .RD_PARTNER then
      all [put (if lichen then .beatLk else .beatFab) 1, iff (!lichen) (put .beatPlane (s.now + 1) plane), partnerBeat b]
    else managerBeat sender b]

/-- One path at a whole millisecond (R360). -/
def missFollow (got : Qty) (f : Fld) : Act := look fun s => all [set f (if s.q got = 1 then 0 else min 15 (s.rd f + 1)), put got 0]

/-- HEARTBEAT_CHECK (R360, R361). -/
def beatCheck : Act := look fun s =>
  if !s.inPair ∨ (s.rd .SU_STATE ≠ 3 ∧ s.rd .SU_STATE ≠ 5) then skip
  else
    let was := (decide (3 ≤ s.rd .RD_MISS_FAB), decide (3 ≤ s.rd .RD_MISS_LK))
    all [missFollow .beatFab .RD_MISS_FAB, missFollow .beatLk .RD_MISS_LK,
      look fun s =>
        let fab := decide (3 ≤ s.rd .RD_MISS_FAB)
        let lk := decide (3 ≤ s.rd .RD_MISS_LK)
        all [
          iff ((fab != lk) && !(was.1 != was.2)) (all [count .RD_PATH_WARNS, raise .REDUND_PATH_LOST 0 (b2n lk)]),
          iff (!fab && !lk && (was.1 != was.2)) (raise .REDUND_PATH_RESTORED),
          iff (fab && lk && s.rd .RD_STATE_PAIR == rdStandby) (pairState rdTaking),
          iff (fab && lk && !(was.1 && was.2)) (all [put .partnerState 0, put .healthRun 0,
            iff (s.mgrPair && s.rd .RD_STATE_PAIR == rdActive) (all [releaseAll, unprotect])])]]

-- The standby's copy -----------------------------------------------------------------------------------------------

/-- The manager's model as a state image for a pair partner gives it (R34, R36), and the actions held beyond it. -/
def learnImage (im : ImgBuf) : Act :=
  let entries : List Nat := im.objs.filterMap fun o => match o with | .node e => some (e % 2 ^ 64 + e / 2 ^ 64 % 64 * 2 ^ 64) | _ => none
  all [one .vOutsClear, one .vFieldsClear, one (.vSched []),
    one (.vLegs (im.objs.filterMap fun o => match o with | .slot g => some g | _ => none).dedup),
    look fun s => all [one (.vNodes (s.learnEntries 0 [] (entries.filter fun x => bits x 44 3 != 4))),
      one (.vImps ((entries.filter fun x => bits x 44 3 == 4).foldl (s.learnImport 0) []))],
    each im.objs fun o => match o with
      | .output sp lock holder =>
        let x := decodeTake sp
        one (.vOut x.dest ⟨x.src, x.black, lock, holder, x.local_, b2n x.viaA + 2 * b2n x.viaB⟩)
      | .words a d => learnWords (a / 2 ^ 64) (a % 2 ^ 64) d
      | _ => skip,
    look fun s => each (s.hist.filter fun a => later a.order im.k || (im.objs.any fun o => match o with | .action r => r.order == a.order | _ => false)) learn]

/-- STATE_IMAGE_LOAD (R34, R35, R361). -/
def imageStep : Act := look fun s =>
  if !s.imageReady then skip
  else all [match s.img with | some im => iff s.mgrPair (learnImage im) | none => skip, imageLoad, syncCheck]

/-- STANDBY_RECORD_STORE (R362): stored, acknowledged on both paths, applied as a worker applies it. -/
def standbyStore (r : Rec) : Act := look fun s =>
  let st := s.rd .RD_STATE_PAIR
  if !s.mgrPair ∨ !(st = rdSyncing ∨ st = rdStandby ∨ st = rdTaking) then skip
  else if r.sender ≠ s.rd .RD_PARTNER then count .RD_STALE_RECORDS
  else
    let a : Action := ⟨r.order, r.kind, r.stamp, r.target, r.body⟩
    let new := !s.hist.any fun b => b.order == a.order
    all [iff new (all [one (.hist (insertAction a s.hist)), iff (st != rdSyncing) (learn a)]),
      look fun s => toPartner r.stamp.imm kAck [s.heldRun % 2 ^ 48],
      look fun s => orderArrive { s.recordFor a s.node with sender := r.sender }]

/-- ACK (R27, R362, R363). -/
def ackReceive (sender upTo : Nat) : Act := look fun s =>
  if !(s.mgrPair && s.rd .RD_STATE_PAIR == rdActive && sender == s.rd .RD_PARTNER) then skip
  else all [releaseHeld upTo, iff (s.q .partnerState == 4) (set .RD_UNPROT 0)]

-- Joining (R35, R427, R449 to R451) --------------------------------------------------------------------------------

/-- Whom a JOIN goes to: the two managers, of which the active one answers (R449), and, from a pair member in LISTEN, its partner (R427). -/
def State.joinTargets (s : State) : List Nat :=
  ((if s.inPair && s.rd .RD_STATE_PAIR == rdListen then [s.rd .RD_PARTNER] else []) ++ [s.rd .SYS_MGR_A, s.rd .SYS_MGR_B]).dedup.filter fun n => n != s.node

/-- JOIN_SEND: to the partner of a member in LISTEN on the Lichen link too. -/
def joinSend : Act := look fun s =>
  if s.standAlone ∨ s.rd .SU_STATE ≠ 3 ∨ !s.due .joinSend then skip
  else
    let join (lichen : Bool) (n : Nat) : Act := emit (.join lichen n (s.rd .SU_SET_ID) (s.rd .SYS_TOPO_DIGEST))
    all [iff (s.inPair && s.rd .RD_STATE_PAIR == rdListen) (join true (s.rd .RD_PARTNER)), each s.joinTargets (join false), arm .joinSend (10 * psMs)]

/-- JOIN at the active manager, which checks the set first; an active pair member answers its partner in LISTEN too. -/
def joinArrives (node setId digest : Nat) (sigOk : Bool) : Act := look fun s =>
  let partner := s.inPair && node == s.rd .RD_PARTNER
  let welcome (inc : Nat) : Sent := .joinAnswer node (.admitted (s.rd .SEC_ROUTER_START) (s.rd .SEC_FABRIC_GEN) inc)
  if s.rd .SU_STATE ≠ 3 then skip
  else if !sigOk then tagFails node 0
  else if s.standAlone ∨ !s.isManager then iff (partner && s.rd .RD_STATE_PAIR == rdActive) (emit (welcome 0))
  else
    let peers := match s.fwRun with | some f => f.peers | none => []
    all [put .joinCount (setId + 1 : Nat) node 1,
      if !peers.contains setId then emit (.joinAnswer node (.peerUntested (s.rd .SU_SET_ID)))
      else if digest ≠ s.rd .SYS_TOPO_DIGEST then emit (.joinAnswer node .mismatch)
      else
        let inc : Nat := (s.qn .joinCount node 0 + 1) % 2 ^ 16
        all [put .joinCount (inc : Int) node 0, emit (welcome inc), sendImage node, iff partner (each s.hist fun a => toStandby (s.wholeRecord a))]]

/-- RESTRICTED is entered (R450): no action is applied, and outputs go to charcoal. -/
def enterRestricted (setId : Nat) : Act := all [
  set .SU_STATE 5, set .SU_PEER_SET setId, set .ORD_STATE osJoining, one (.buf []), one (.img none), setActs [], disarm .joinSend, disarm .gap, disarm .replay,
  look fun s => each (List.range s.ports) pendShow, raise .RESTRICTED_ENTERED, outputsFollow, fallBack 3]

/-- JOIN_ANSWER at a module that has joined or is joining. -/
def joinAnswered (sender : Nat) (a : JoinAns) (sigOk : Bool) : Act := look fun s =>
  if s.rd .SU_STATE ≠ 3 ∨ s.isManager then skip
  else if !sigOk then tagFails sender 0
  else all [
    iff (s.inPair && s.rd .RD_STATE_PAIR == rdListen && sender == s.rd .RD_PARTNER) (all [set .RD_ACTIVE_NODE sender, put .partnerState 6, beginSync]),
    iff (s.q .managerEpoch == 0 && !(s.rd .RD_ROLE == 2 && sender == s.rd .RD_PARTNER)) (all [put .managerNode sender, iff (s.rd .RD_ROLE != 2) (set .RD_ACTIVE_NODE sender)]),
    match a with
    | .peerUntested setId => enterRestricted setId
    | .mismatch => iff (s.rd .ORD_STATE == osJoining) (all [set .ORD_STATE osMismatch, one (.buf []), disarm .joinSend, raise .TOPOLOGY_MISMATCH, outputsFollow])
    | .admitted start _ inc => all [set .SEC_ROUTER_START start, set .SEC_INCARNATION inc, put .msgCounter 0, disarm .joinSend]]

-- Replay and occupancy (R32, R110, R113, R389) ---------------------------------------------------------------------

/-- REPLAY_REQ: the held records of the numbers asked for, then REPLAY_ANS; COUNT 0 asks for resynchronisation (log 27). -/
def replayAnswer (sender first count_ : Nat) : Act := look fun s =>
  if !s.isManager ∨ s.standAlone then skip
  else if count_ = 0 then sendImage sender
  else
    let asked := (List.range (min count_ 256)).map fun k => (first + k - 1) % (2 ^ 48 - 1) + 1
    let held := s.hist.filter fun a => asked.contains a.order && !(s.held.any fun h => h.order == a.order)
    let gone := asked.any fun o => !later o s.lastOrder && !(s.hist.any fun a => a.order == o)
    all [each held fun a => giveRecord true sender (s.recordFor a sender),
      sendPlain kReplayAns sender [first % 2 ^ 48 + count_ % 2 ^ 9 * 2 ^ 48 + b2n gone * 2 ^ 57]]

/-- Streams on links of a node that have closed are no longer live (R110): their outputs have lost the plane. -/
def linksFell (node fell : Nat) : Act := look fun s =>
  let on (g : Leg) : Bool :=
    if g.node = node then bit fell g.link
    else
      let k := s.linksPer
      let far : Nat × Nat := if g.up then (centreNode g.plane g.centre, k * g.edge + g.link % (max 1 k)) else (g.edge, 64 * g.plane + k * g.centre + g.link % (max 1 k))
      far.1 == node && bit fell far.2
  let dead := s.vLegs.filter on
  let hit := (dead.flatMap fun g => g.outs.map fun o => (o, g.plane, g.src)).dedup.filter fun (o, p, src) =>
    !(s.outView o).black && (s.outView o).src == src && bit (s.outView o).planes p
  all [one (.vLegs ((s.vLegs.filter fun g => !on g).map (fun g => { g with outs := g.outs.filter fun o => !hit.contains (o, g.plane, g.src) })
      |>.filter fun g => !g.outs.isEmpty || g.until_.isSome)),
    each hit fun (o, p, _) => look fun s =>
      let v := s.outView o
      all [one (.vOut o { v with planes := v.planes - Nat.land v.planes (2 ^ p) }), put .broken (Nat.lor (s.qn .broken o) (2 ^ p) : Nat) o],
    each (hit.map fun x => x.1).dedup restoreOrder]

/-- No action after the number that node `n` has applied touches its slots, and none of them waits or ends there: its digest is that of the model. -/
def State.quietAt (s : State) (n applied : Nat) : Bool :=
  let e := s.ownerOf n
  let touches (a : Action) : Bool := (a.kind == kTake || a.kind == kSalvo) && a.body.any fun sp => (s.sporeNodes (decodeTake sp)).contains e
  !(s.hist.any fun a => later a.order applied && touches a) && !(s.vSched.any fun x => s.waits x && x.node == e)
    && s.liveLegs.all fun g => g.until_.isNone || !s.legAt n g

/-- OCCUPANCY (R113, R366): the applied number and the open links of a node as it reports them; the digest is compared where
it is quiet there. -/
def occupancyHear (node applied digest openLinks : Nat) : Act := look fun s =>
  if s.standAlone ∨ s.rd .SYS_MGR_ROLE = 0 ∨ s.rd .SU_STATE ≠ 3 then skip
  else
    let old := s.vOpen.get 0 node
    let fell := old - Nat.land old openLinks
    all [one (.vApplied node applied), one (.vOpen node openLinks), iff (s.isManager && old != openLinks) guarantee,
      iff (s.isManager && fell != 0) (linksFell node fell),
      look fun s =>
        if !s.isManager then skip
        else if later applied s.lastOrder then superseded node applied
        else
          if s.quietAt node applied && digest != digestOf s.liveLegs (s.ownerOf node) then all [count .FAB_MODEL_DIVERGE, raise .FAB_MODEL_DIVERGE node, sendImage node] else skip]

/-- The module's OCCUPANCY record, to both members of the manager pair (R113, R364). -/
def occupancySend : Act := look fun s =>
  if s.standAlone ∨ s.rd .SU_STATE ≠ 3 then skip
  else
    let applied := s.rd .ORD_APPLIED
    let digest := digestOf s.legs s.ownNode
    all [each ([s.rd .SYS_MGR_A, s.rd .SYS_MGR_B].dedup.filter fun n => n != s.node) fun n => emit (.occupancy n applied digest s.ownOpen),
      iff (s.rd .SYS_MGR_ROLE != 0) (occupancyHear s.node applied digest s.ownOpen)]

-- Lichen (R359) ----------------------------------------------------------------------------------------------------

/-- A comma, or a good frame: the sixteenth in a row takes the receiver UP. Commas stand between frames, so they end no run of failing frames. -/
def lichenComma : Act := look fun s =>
  let n := s.qn .lkRun + 1
  all [arm .lkComma (10 * psUs), put .lkRun n, iff (decide (16 ≤ n)) (set .RD_LK_UP 1)]
def lichenGood : Act := all [put .lkBad 0, lichenComma]

/-- A frame that fails its CRC: the fourth in a row takes the receiver DOWN. -/
def lichenBad : Act := look fun s =>
  let n := s.qn .lkBad + 1
  all [count .RD_LK_CRC_ERRS, arm .lkComma (10 * psUs), put .lkRun 0, put .lkBad n, iff (decide (4 ≤ n)) (set .RD_LK_UP 0)]

-- Commands ---------------------------------------------------------------------------------------------------------

/-- HEARTBEAT_SEND (R357): at every whole millisecond of house time. -/
def execHeartbeatSend (t : Nat) (s : State) : Outcome State Fault Refusal := run (all [at_ t, beatSend]) s

/-- HEARTBEAT_CHECK (R360). -/
def execHeartbeatCheck (t : Nat) (s : State) : Outcome State Fault Refusal := run (all [at_ t, beatCheck]) s

/-- HEARTBEAT_RECEIVE (R361). -/
def execHeartbeatReceive (t sender : Nat) (lichen : Bool) (plane : Nat) (b : Beat) (ok : Bool) (s : State) : Outcome State Fault Refusal :=
  run (all [at_ t, beatReceive sender lichen plane b ok]) s

/-- ACK (R362). -/
def execAck (t sender upTo : Nat) (ok : Bool) (s : State) : Outcome State Fault Refusal :=
  run (all [at_ t, if ok then ackReceive sender upTo else tagFails sender 0]) s

/-- STANDBY_RECORD_STORE (R362). -/
def execStandbyRecordStore (t : Nat) (r : Rec) (ok : Bool) (s : State) : Outcome State Fault Refusal :=
  run (all [at_ t, if ok then standbyStore r else tagFails r.sender r.order]) s

/-- STANDBY_RESEND (R362): every 1 ms until the ACK arrives. -/
def execStandbyResend (t : Nat) (s : State) : Outcome State Fault Refusal :=
  run (all [at_ t, look fun s => iff (s.due .standbyResend && !s.held.isEmpty)
    (all [each s.held (fun h => match s.hist.find? fun a => a.order == h.order with | some a => toStandby (s.wholeRecord a) | none => skip),
      arm .standbyResend psMs])]) s

/-- A Lichen frame (R359, R399): one cut by K28.1 is discarded uncounted; a good one is judged by its CRC, its record by its tag (R98). -/
def lichenFrame (spores : List Nat) (crc : Nat) (cut : Bool) : Act := look fun s =>
  if cut then arm .lkComma (10 * psUs)
  else if spores.isEmpty ∨ 66 < spores.length ∨ lichenCrc spores ≠ crc then lichenBad
  else all [lichenGood, recordTest [s.rd .RD_PARTNER] (s.rd .RD_PARTNER) spores]

/-- LICHEN_FRAME_RECEIVE (R359). What waits for the link to come free goes on meanwhile. -/
def execLichenFrameReceive (t : Nat) (f : LichenIn) (s : State) : Outcome State Fault Refusal :=
  run (all [at_ t, look fun s => lichenRun (s.lkQ.length + 1), lichenFrame f.spores f.crc f.cut]) s

/-- LICHEN_COMMA_RECEIVE (R359). -/
def execLichenCommaReceive (t : Nat) (s : State) : Outcome State Fault Refusal :=
  run (all [at_ t, look fun s => lichenRun (s.lkQ.length + 1), lichenComma]) s

/-- LICHEN_COMMA_TIMEOUT (R359): 10 us without a comma. -/
def execLichenCommaTimeout (t : Nat) (s : State) : Outcome State Fault Refusal :=
  run (all [at_ t, look fun s => iff (s.due .lkComma) (all [disarm .lkComma, put .lkRun 0, set .RD_LK_UP 0])]) s

/-- LISTEN_TIMEOUT (R361). -/
def execListenTimeout (t : Nat) (s : State) : Outcome State Fault Refusal :=
  run (all [at_ t, look fun s => iff (s.due .listen && s.rd .RD_STATE_PAIR == rdListen) firstActive]) s

/-- FENCE_EXPIRY (R361). -/
def execFenceExpiry (t : Nat) (s : State) : Outcome State Fault Refusal :=
  run (all [at_ t, look fun s => iff (s.due .fence && s.rd .RD_STATE_PAIR == rdFenced) beginSync]) s

/-- TAKEBACK_ORDER (R367). -/
def execTakebackOrder (t : Nat) (s : State) : Outcome State Fault Refusal := run (all [at_ t, takebackOrder]) s

/-- RD_REARM (R369): 1 clears the revert block and the failure history. -/
def execRdRearm (t value : Nat) (s : State) : Outcome State Fault Refusal := run (all [at_ t, iff (value % 2 == 1) rearm]) s

/-- MANAGER_BEAT_LOSS (R372): no manager beat for 3 ms stops the IP send flows of an active partner. -/
def execManagerBeatLoss (t : Nat) (s : State) : Outcome State Fault Refusal :=
  run (all [at_ t, look fun s => iff (s.rd .RD_ROLE == 2 && s.rd .RD_STATE_PAIR == rdActive && decide (s.qn .mgrBeatAt + 3 * psMs ≤ s.now + 1)) (put .mgrLost 1)]) s

/-- REPLAY_REQ (R389). -/
def execReplayReq (t sender first count_ : Nat) (s : State) : Outcome State Fault Refusal := run (all [at_ t, replayAnswer sender first count_]) s

/-- JOIN_SEND (R449). -/
def execJoinSend (t : Nat) (s : State) : Outcome State Fault Refusal := run (all [at_ t, joinSend]) s

/-- JOIN (R449). -/
def execJoin (t node setId digest : Nat) (sigOk : Bool) (s : State) : Outcome State Fault Refusal :=
  run (all [at_ t, joinArrives node setId digest sigOk]) s

/-- JOIN_ANSWER (R35). -/
def execJoinAnswer (t sender : Nat) (a : JoinAns) (sigOk : Bool) (s : State) : Outcome State Fault Refusal :=
  run (all [at_ t, joinAnswered sender a sigOk]) s

/-- OCCUPANCY (R113). -/
def execOccupancy (t node applied digest openLinks : Nat) (s : State) : Outcome State Fault Refusal :=
  run (all [at_ t, occupancyHear node applied digest openLinks]) s

/-- STATE_IMAGE_LOAD (R34). -/
def execStateImageLoad (t : Nat) (s : State) : Outcome State Fault Refusal := run (all [at_ t, imageStep]) s

end Sys2Proof.Machine
end

