-- ==== Sys2Proof/Machine/Raster.lean ====
section
/-! DEFINITION. A frame start of a raster domain (02_raster_time.md, R46, R59): what executes there, what takes effect there, and what every
reader, output and head does there. -/
set_option Elab.async false
namespace Sys2Proof.Machine

/-- The pending actions that execute at a frame start which has come, in order; none while the order stream is lost (R33). -/
def State.frameDue (s : State) : List Pend :=
  if s.q .ordHeld = 1 then [] else s.acts.filter fun p => p.pt == .frameStart && decide (p.at_ ≤ s.house) && p.item != .image

/-- What the paths due at one point switch: each output with the input that it takes there (4,096: none from the fabric) (R106). -/
def switches (due : List Pend) (dom frame : Nat) : List (Nat × Nat) :=
  due.filterMap fun p => match p.item with
    | .path sp => let x := decodeTake sp
      if p.dom = dom ∧ p.frame = frame ∧ !x.restore then some (x.dest, if x.black ∨ x.local_ then 4096 else x.src) else none
    | _ => none

/-- One pending action executes at its frame start (R59). -/
def executeItem (due : List Pend) (p : Pend) : Act :=
  match p.item with
  | .take out _ _ true sp => restoreAt out sp
  | .take _ _ _ false _ => skip
  | .path sp =>
    let x := decodeTake sp
    if x.restore then establish x none [] else establish x (some (p.dom, p.frame)) (switches due p.dom p.frame)
  | .lock out mode holder => lockAt out mode holder
  | .words a d => if a = takebackAddr then takebackAt p.order else writeWords a d p.stamp.dom p.order
  | .audio es => audioApply es p.at_
  | .realign mode d => realignAt mode d
  | .image => skip

/-- The actions of a frame start execute in order; of several REALIGNs the last one counts (R56, R306). -/
def executeDue : Act := look fun s =>
  let due := s.frameDue
  let isRealign (p : Pend) : Bool := match p.item with | .realign _ _ => true | _ => false
  let lastRealign := (due.filter isRealign).getLast?
  all [setActs (s.acts.filter fun p => !due.contains p),
    each due fun p => iff (!isRealign p || some p == lastRealign) (executeItem due p)]

/-- Immediate actions other than takes whose line boundary has come, in order (R54). -/
def State.lineDue (s : State) : List Pend :=
  if s.q .ordHeld = 1 then [] else s.acts.filter fun p => p.pt == .lineBoundary && decide (p.at_ ≤ s.house) && !p.item.lands

/-- They execute (R54). -/
def executeLines : Act := look fun s =>
  let due := s.lineDue
  iff (!due.isEmpty) (all [setActs (s.acts.filter fun p => !due.contains p), each due (executeItem due)])

/-- A destination edge's legs whose handover has come: the new stream has the slot (R109). -/
def edgeHandovers : Act := look fun s =>
  each (s.legs.filter fun g => g.hand && g.node != s.ownNode && s.handLine g 0) fun g => look fun s =>
    setLegs ((s.legs.filter fun h => !(h.node == g.node && h.link == g.link && h.slot == g.slot && !h.hand && (h.fmt != g.fmt || h.sub == g.sub))).map
      fun h => if h = g then { h with hand := false, until_ := none } else h)

/-- The stream delivered to an output has changed without a take (R78, R146). -/
def streamChanged (x : StreamObs) : Act :=
  all [put .voStdStream x.std x.out, put .voFmtStream x.fmt x.out, put .voTimed (b2n x.timed) x.out,
    put .voVpidIn (x.vpid.elim 0 (· + 1) : Nat) x.out, put .voTransp (b2n x.transp) x.out]

/-- What happens at D0 frame starts only (R48, R82, R84, R110, R113, R125, R216, R364). -/
def d0FrameStart : Act := all [
  audioRelease, standbyTakeover,
  look fun s => iff (s.isManager && !s.standAlone) (all [
    iff (s.domReady 0) (emit (.frameCount (s.frameNow 0))), each s.brokenOuts restoreOrder]),
  salvoIfLocked,
  occupancySend, healthJudge]

/-- The frame in progress of a domain ends here: half a frame period or more has passed since it began (R305). -/
def State.frameEnds (s : State) (d : Nat) : Bool :=
  match s.domFormat d with
  | some f => s.q .rdFrameAt d == 0 || decide (f.den * psS ≤ 2 * f.num * (s.now + 1 - s.qn .rdFrameAt d))
  | none => false

/-- A frame start of domain `d`, with what the circuits report at it. -/
def domainFrameStart (d : Nat) (obs : FrameObs) : Act := look fun s => all [put .rdFrameAt (s.now + 1) d,
  executeLines, executeDue, shadowsLand d, edgeHandovers,
  each obs.peat (fun x => peatUncorrectable x.1 x.2.1), iff (s.ports != 0) (count .VI_PEAT_CORR obs.corrected),
  each (List.range s.ports) (fun n => sdiInput n (inputFrameStart d n (if s.rd .VI_PORT_MODE n = 2 then s.rtpBegun n else (obs.begun.find? fun b => b.1 == n).map Prod.snd) obs.peat)),
  each (obs.streams.filter fun x => s.rd .VO_DOMAIN (s.voBase x.out) == d) streamChanged,
  formatMatches d, mossFrameStart d obs.sigs,
  each (List.range s.ports) (outputFrameStart d),
  flowsFrameStart d,
  iff (d == 0) d0FrameStart]

-- Commands ---------------------------------------------------------------------------------------------------------

/-- REF_SELECT_EVAL (R294); a start-up salvo that waited for D0 to be LOCKED is ordered (R125). -/
def execRefSelectEval (t : Nat) (refs : List Int) (s : State) : Host.Outcome State Fault Refusal :=
  run (all [at_ t, evaluate refs, salvoIfLocked]) s

/-- CLEAN_SWITCH_POINT (R126). The last words of the frame before have left by now: the switching line lies at least 88.9 µs after the frame
start (R108), and D(r) + 0.40 µs are at most 77.1 µs (R103). -/
def execCleanSwitchPoint (t dom : Nat) (meas : List TakeMeas) (s : State) : Host.Outcome State Fault Refusal :=
  run (all [at_ t, outputsSend dom, executeLines, switchPoint dom meas]) s

/-- IMMEDIATE_TAKE_EXECUTE (R54): every immediate action whose line boundary has come, and the takes of the measured output. -/
def execImmediateTakeExecute (t : Nat) (meas : TakeMeas) (s : State) : Host.Outcome State Fault Refusal :=
  run (all [at_ t, executeLines, immediateAt meas]) s

/-- RASTER_FRAME_START (R46): of an enabled domain of a running module; a STEP may leave a frame start without effect (R305). -/
def execRasterFrameStart (t dom : Nat) (obs : FrameObs) (s : State) : Host.Outcome State Fault Refusal :=
  run (all [at_ t, look fun s =>
    iff (s.frameEnds dom && decide (dom < 8) && (s.rd .SU_STATE == 3 || s.rd .SU_STATE == 5)) (domainFrameStart dom obs)]) s

end Sys2Proof.Machine
end

