-- ==== Sys2Proof/Machine/Load.lean ====
section
/-! DEFINITION. Step 7 of a start: the configuration image is loaded and checked (19_start_up_and_configuration.md, R445 to R447, R507), with the
checks over whole sets of fields (R183, R198, R200, R256, R292, R341, R471, R473, R476). -/
set_option Elab.async false
namespace Sys2Proof.Machine

-- The clamp report (R447) ------------------------------------------------------------------------------------------

/-- Kinds of entries (R446). -/
abbrev crClamp : Nat := 0
abbrev crRefused : Nat := 1
abbrev crFatal : Nat := 2
abbrev crObject : Nat := 3

/-- RECORD of an entry of a section other than 4. -/
abbrev otherSection : Nat := 0xFFFFFFFF

/-- An entry joins the report, or is lost at a full one. -/
def clampNote (e : ClampEnt) : Act := look fun s =>
  if s.clampReport.length < 4096 then
    all [one (.clamps (s.clampReport ++ [e])), set .CR_COUNT (s.clampReport.length + 1), count (if e.kind = crClamp then .CR_CLAMPED else .CR_REFUSED)]
  else all [iff (s.rd .CR_LOST == 0) (raise .CLAMP_REPORT_FULL), count .CR_LOST]

/-- The entry of a field. -/
def fieldEntry (kind : Nat) (st : Status) (rec : Nat) (f : Fld) (i j image stored : Nat) : ClampEnt :=
  let b := f.bitAddr i j
  ⟨b / 32 * 4, b % 32, f.desc.width, kind, st.code, image % 2 ^ 32, stored % 2 ^ 32, rec⟩

/-- The entry of an object: the address of its first field's word, width 0 (log 31). -/
def objectNote (st : Status) (f : Fld) (i j image stored : Nat) : Act :=
  clampNote { fieldEntry crObject st otherSection f i j image stored with lsb := 0, width := 0 }

-- One field --------------------------------------------------------------------------------------------------------

/-- The fields whose refusal is fatal (R37, R40). -/
def fatalField (f : Fld) (i : Nat) : Bool :=
  [Fld.SYS_GEOM, .SYS_EDGE_COUNT, .SYS_MGR_A, .SYS_MGR_B, .SYS_ROLE, .SYS_PLANE, .RD_FAB_POS].contains f || (f == .RD_FORMAT && i == 0)

/-- The transmit taps of a use (R476): pre, main, post. -/
def tapsOf (use : Nat) : Nat × Nat × Nat :=
  match use with | 1 => (0, 63, 0) | 2 | 3 | 5 => (0, 54, 9) | 4 => (4, 47, 12) | _ => (0, 0, 0)

/-- The value that a field has before the image sets it: the table's, or the one that follows other fields (R265, R476). -/
def State.unset (s : State) (f : Fld) (i j : Nat) : Nat :=
  match f with
  | .LN_TX_PRE => (tapsOf (s.rd .LN_USE i)).1
  | .LN_TX_MAIN => (tapsOf (s.rd .LN_USE i)).2.1
  | .LN_TX_POST => (tapsOf (s.rd .LN_USE i)).2.2
  | .FC_RUN => s.rd .FC_RUN_INIT i
  | _ => f.resetAt i j

/-- The checks of a record (R445): every other field as loaded at that moment. -/
def State.loadView (s : State) (role : Nat) : View := ⟨role, true, 0, false, fun f i j => s.rd f i j⟩

/-- A value of the image lands (R445): shadowed fields take effect at once; an offset takes its frame buffer, a test starts. -/
def landImage (f : Fld) (i j v : Nat) : Act := look fun s =>
  match f with
  | .VO_OFFSET =>
    let need := match s.domFormat (s.rd .VO_DOMAIN i) with | some fm => offsetNeeds (toSigned v 25) fm | none => false
    all [set f v i, match need && s.rd .VO_BUF i == 0, s.freeBuffer with
      | true, some b => all [set .VO_BUF 1 i, set .VO_BUF_INDEX b i, set .VO_FB_FREE (s.rd .VO_FB_FREE - 1)]
      | _, _ => skip]
  | .LN_TX_PRE | .LN_TX_POST => all [set f v i, look fun s => set .LN_TX_MAIN (min (s.rd .LN_TX_MAIN i) (63 - s.rd .LN_TX_PRE i - s.rd .LN_TX_POST i)) i]
  | .LN_PRBS_TX => prbsTx i v
  | .LN_INJ_MODE => injectMode i v
  | .PD_INCR => scaleWrite i (some v) none
  | .PD_OFFSET => scaleWrite i none (some v)
  | .FC_RUN_INIT => all [set f v i, set .FC_RUN v i]
  | _ => set f v i j

/-- What the module's own state adds to a field's check at a start: no frame buffer, a lane that runs no test. -/
def State.loadBar (s : State) (x : FieldWrite) : Option Status :=
  match x.fld with
  | .VO_OFFSET => if s.noBuffer x.i x.v then some .NO_BUFFER else none
  | .LN_PRBS_TX => s.prbsRefused x.i x.v
  | _ => none

/-- A record may not set the field (R414, R446). -/
def barred (f : Fld) : Bool :=
  let b := blockOf f.desc.addr
  (f.desc.acc == .ro && !f.desc.inImage) || f.desc.acc == .wo || b == 0x10 || b == 0x11 || f == .SYS_REMAP

/-- One field of a record, judged in the view `w` (R446). DESIGN CHOICE: a W1C field that a record covers is skipped, with neither an effect nor an
entry of the report, since R446 names RO and WO fields only and nothing is latched yet that a 1 could clear (log 42). -/
def loadField (rec : Nat) (w : View) (x : FieldWrite) : Act := look fun s =>
  let f := x.fld
  let note (kind : Nat) (st : Status) (stored : Nat) : Act := clampNote (fieldEntry kind st rec f x.i x.j x.v stored)
  let refuse (st : Status) : Act :=
    let fatal := fatalField f x.i
    all [set f (s.unset f x.i x.j) x.i x.j, note (if fatal then crFatal else crRefused) st (s.unset f x.i x.j), iff fatal (put .fatal 1)]
  let judge : Verdict := match s.loadBar x with | some st => .refused st | none => fieldCheck w (idleIn w.role) f x.i x.j x.v
  if barred f && rec != otherSection then note crRefused .READONLY (s.rd f x.i x.j)
  else if f.desc.acc = .w1c then skip
  else if !x.whole then note crRefused .REFUSED (s.rd f x.i x.j)
  else match judge with
    | .ok v => landImage f x.i x.j v
    | .clamped v => all [landImage f x.i x.j v, note crClamp .CLAMPED v]
    | .refused st => refuse st

/-- Fields that are loaded together (R441: as one WRITE of them would be): each sees the others as they will stand. -/
def loadFields (rec : Nat) (role : Nat) (fs : List FieldWrite) : Act := look fun s =>
  let w := s.loadView role
  let ok := settled w (fs.filter fun x => x.whole && (rec == otherSection || !barred x.fld))
  each fs fun x => look fun s => loadField rec ((s.loadView role).over (ok.filter fun y => y.fld != x.fld || y.i != x.i || y.j != x.j)) x

/-- A field record in one of the passes (R445): the first takes what its range says is in the image. -/
def loadRecord (first : Bool) (rec : Nat) (r : Nat × List Nat) : Act := look fun s =>
  let fs := covered r.1 r.2
  if fs.isEmpty then iff (!first) (clampNote ⟨r.1, 0, 0, crRefused, Status.NO_SUCH_OBJECT.code, r.2.headD 0 % 2 ^ 32, 0, rec⟩)
  else loadFields rec (s.rd .SYS_ROLE) (fs.filter fun x => x.fld.desc.inImage == first)

/-- One pass over the records: blocks in order, and a block's records in order. -/
def loadPass (first : Bool) (rs : List (Nat × List Nat)) : Act :=
  each (List.range 33) fun b => each ((rs.zipIdx).filter fun r => blockOf r.1.1 == b) fun r => loadRecord first (min r.2 (otherSection - 1)) r.1

-- Section 1: topology (R37, R39, R40, R41, R356, R370) --------------------------------------------------------------

/-- A field of section 1. -/
def topoField (f : Fld) (i v : Nat) : FieldWrite := ⟨f, i, 0, v % 2 ^ f.desc.width, decide (v < 2 ^ f.desc.width), f.bitAddr i 0⟩

/-- Standbys of the topology. -/
def standbys (c : CfgImage) : List TopoEntry := c.topo.filter fun e => decide (48 ≤ e.node)

/-- A standby names as its active partner a manager, a centre, or what another standby names (R356). -/
def badPartner (c : CfgImage) : Bool :=
  let ps := (standbys c).map TopoEntry.partner
  (ps.any fun n => n == c.mgrA || n == c.mgrB || decide (32 ≤ n)) || decide (ps.dedup.length < ps.length)

/-- A router-wide refusal of the topology: it names the field, and the start ends in KINDLING (log 31). -/
def topoRefused (f : Fld) (v : Nat) : Act := all [clampNote (fieldEntry crFatal .REFUSED otherSection f 0 0 v 0), put .fatal 1]

/-- The Lichen pair of the module (R356): partner, its role, and whether this module is preferred. -/
def State.pairOf (s : State) (c : CfgImage) : Option (Nat × Nat × Bool) :=
  let n := s.node
  if s.rd .SYS_GEOM ≤ 1 then none
  else if n = c.mgrA then some (c.mgrB, 1, true)
  else if n = c.mgrB then some (c.mgrA, 1, false)
  else match (standbys c).find? fun e => e.node == n || e.partner == n with
    | some e => if e.node = n then some (e.partner, 2, false) else some (e.node, 2, true)
    | none => none

/-- Section 1 is loaded: the router-wide fields, the module's own entry, the formats, the pair. -/
def loadTopology (c : CfgImage) : Act := look fun s =>
  let own := c.topo.find? fun e => e.node == s.node
  let formats := (c.formats.take 8).zipIdx.filter fun (v, d) => v != 0 || d == 0
  let wide := [topoField .SYS_GEOM 0 c.geom, topoField .SYS_EDGE_COUNT 0 c.edgeCount, topoField .SYS_MGR_A 0 c.mgrA, topoField .SYS_MGR_B 0 c.mgrB]
  all [
    loadFields otherSection 0 wide,
    match own with
    | none => topoRefused .SYS_ROLE 0
    | some e => all [set .SYS_NODE_VALID 1,
        loadFields otherSection e.role ([topoField .SYS_ROLE 0 e.role, topoField .SYS_PLANE 0 e.plane]
          ++ (if 48 ≤ e.node then [topoField .RD_FAB_POS 0 e.fabPos] else [])),
        loadFields otherSection e.role (formats.map fun (v, d) => topoField .RD_FORMAT d v)],
    iff (badPartner c) (topoRefused .RD_PARTNER 0),
    iff (decide (maxEdges c.geom < c.edgeCount + (standbys c).length) && !(standbys c).isEmpty) (topoRefused .SYS_EDGE_COUNT c.edgeCount),
    set .SYS_TOPO_DIGEST c.topoDigest,
    look fun s => match s.pairOf c with
      | none => skip
      | some (p, role, pref) => all [set .RD_ROLE role, set .RD_PARTNER p, set .RD_PREFERRED (b2n pref)]]

-- The end of pass 1 ------------------------------------------------------------------------------------------------

/-- LN_USE of a lane, as the loaded fields make it (R471). -/
def State.laneUse (s : State) (l : Nat) : Nat :=
  let mac := s.rd .MC_MODE l
  if 256 ≤ l then (if mac = 1 then 2 else if mac = 3 ∨ mac = 4 then 5 else 0)
  else if l < s.ports then
    if s.rd .VI_PORT_MODE l = 1 ∨ s.rd .VO_PORT_MODE l = 1 then 1
    else if s.rd .VI_PORT_MODE l = 2 ∧ s.rd .VO_PORT_MODE l = 2 then (if mac = 1 then 2 else if mac = 2 then 3 else 0)
    else 0
  else if s.links = 0 then 0 else 4

/-- The clock family of a use (R473). -/
def familyOf (use : Nat) : Nat := match use with | 1 => 1 | 2 => 2 | 3 => 3 | 4 => 4 | _ => 0

/-- A lane is made dark. -/
def darken (l : Nat) : Act := all [set .VI_PORT_MODE 0 l, set .VO_PORT_MODE 0 l, set .MC_MODE 0 l, set .LN_USE 0 l]

/-- A quad takes the family of its lowest lane that is not dark; lanes of another family go dark (R473). -/
def quadFamily (q : Nat) : Act := look fun s =>
  let lanes := (List.range 4).map fun k => 4 * q + k
  match lanes.find? fun l => s.rd .LN_USE l != 0 with
  | none => skip
  | some l0 =>
    let fam := familyOf (s.rd .LN_USE l0)
    all [set .QD_FAMILY fam q, set .QD_CLK_LOCK 1 q,
      each (lanes.filter fun l => s.rd .LN_USE l != 0 && familyOf (s.rd .LN_USE l) != fam) fun l =>
        all [objectNote .IN_USE .LN_USE l 0 (s.rd .LN_USE l) 0, darken l]]

/-- The media MACs of the module, in port order. -/
def State.mediaMacs (s : State) : List Nat := (List.range 256).filter fun p => s.rd .MC_MODE p != 0

/-- The media MACs beyond the 128th are refused (R183). -/
def macLimit : Act := look fun s =>
  each (s.mediaMacs.drop 128) fun p => all [objectNote .REFUSED .MC_MODE p 0 (s.rd .MC_MODE p) 0, set .MC_MODE 0 p, set .LN_USE 0 p]

/-- The rings that no record names have their reset lengths (R200). -/
def ringDefaults (rs : List (Nat × List Nat)) : Act := look fun s =>
  let named := (rs.filter fun r => blockOf r.1 == 7).flatMap fun r => (covered r.1 r.2).filterMap fun x =>
    if x.fld = .MQ_RING_LEN then some (x.i, x.j) else none
  each ((List.range 259).filter fun p => s.rd .MC_MODE p != 0) fun p =>
    each ([0, 1, 4, 8, 15].filter fun q => !named.contains (p, q)) fun q => set .MQ_RING_LEN 32 p q

/-- The descriptors of all rings. -/
def State.poolUsed (s : State) : Nat :=
  (List.range 259).foldl (fun a p => (List.range 16).foldl (fun a q => a + s.rd .MQ_RING_LEN p q) a) 0

/-- While the pool does not suffice, rings clamp to 32 (R200): from the highest queue of the highest media port down, then at C0, C1 and SVC. -/
def ringLimit : Act := look fun s =>
  let order := ((List.range 256).reverse ++ [258, 257, 256]).flatMap fun p => (List.range 16).reverse.map fun q => (p, q)
  each (order.filter fun (p, q) => decide (32 < s.rd .MQ_RING_LEN p q)) fun (p, q) => look fun s =>
    iff (decide (32768 < s.poolUsed)) (all [clampNote { fieldEntry crObject .CLAMPED otherSection .MQ_RING_LEN p q (s.rd .MQ_RING_LEN p q) 32 with width := 16 },
      set .MQ_RING_LEN 32 p q])

/-- A reference input named by two entries is refused for the second (R292). -/
def refTwice : Act :=
  each (List.range 8) fun e => look fun s =>
    let v := s.rd .RE_INPUT e
    iff (v != 15 && (List.range e).any fun d => s.rd .RE_INPUT d == v) (all [objectNote .REFUSED .RE_INPUT e 0 v 15, set .RE_INPUT 15 e])

/-- What follows when every field of pass 1 has loaded. -/
def afterFirst (rs : List (Nat × List Nat)) : Act := all [
  look fun s => each (List.range 259) fun l => set .LN_USE (s.laneUse l) l,
  each (List.range 64) quadFamily, macLimit, ringDefaults rs, ringLimit, refTwice,
  look fun s => each ((List.range 259).filter fun l => s.rd .LN_USE l != 0) fun l => look fun s =>
    each [Fld.LN_TX_PRE, .LN_TX_MAIN, .LN_TX_POST] fun f => set f (s.unset f l 0) l,
  look fun s => iff s.isEdge (each (List.range 128) fun k =>
    all [set .AM_DEEMB_EN 1 k, set .AM_DEEMB_PORT k k, set .AM_EMB_EN 1 k, set .AM_EMB_PORT k k]),
  look fun s => each (List.range 8) fun d => match s.domFormat d with
    | some fm => all [set .RD_SWITCH_LINE1 fm.sw1 d, set .RD_SWITCH_LINE2 fm.sw2 d]
    | none => skip,
  look fun s => iff (s.rd .RD_FORMAT 0 == 0 && s.q .fatal == 0) (topoRefused .RD_FORMAT 0)]

-- Section 7: receive filters (R198) ---------------------------------------------------------------------------------

/-- The filters of a port for which the image holds none. -/
def filterDefaults (p : Nat) : Act :=
  each ([(0x88F7, 0xFF, 0), (0x0800, 0xC0, 1), (0x86DD, 0xC0, 1), (0x0800, 0xFF, 4), (0x86DD, 0xFF, 4), (0x0806, 0xFF, 8)].zipIdx) fun ((etype, pcp, q), f) =>
    all [set .MF_ETYPE etype p f, set .MF_PCP_MASK pcp p f, set .MF_QUEUE q p f, set .MF_EN 1 p f]

/-- The filter tables of the image, or the default. -/
def loadFilters (c : CfgImage) : Act := look fun s =>
  each ((List.range 259).filter fun p => s.rd .MC_MODE p != 0) fun p =>
    match c.filters.find? fun x => x.1 == p with
    | some x => loadFields otherSection (s.rd .SYS_ROLE) ((covered (Fld.MF_ETYPE.bitAddr p 0 / 32 * 4) x.2).filter fun y => y.fld.desc.m == 64)
    | none => all [filterDefaults p, set .MC_DEFAULT_Q 15 p]

-- Section 5: Fern programs (R254 to R258) ---------------------------------------------------------------------------

/-- Fern inputs and outputs at the matrix rate, and delay lines in the store (R209, R253). -/
def State.fernRange (s : State) : Nat := if s.fast then 512 else 1024
def State.fernLines (s : State) : Nat := if s.fast then 4096 else 8192

/-- Two ranges share a number. -/
def rangesMeet (a n b m : Nat) : Bool := n != 0 && m != 0 && decide (a < b + m) && decide (b < a + n)

/-- A range of core `c`, by its first and count fields, meets that of another core with a program. -/
def State.meetsOther (s : State) (c : Nat) (first n : Fld) : Bool :=
  (List.range 32).any fun d => d != c && s.rd .FC_PROG d != 0x3F && rangesMeet (s.rd first c) (s.rd n c) (s.rd first d) (s.rd n d)

/-- FC_LOAD_WHY: the first check of R256 that the core's program fails; 0 if none does. -/
def State.fernWhy (s : State) (c : Nat) : Nat :=
  let fb := s.fb c
  let ni := s.rd .FC_IN_COUNT c
  let no := s.rd .FC_OUT_COUNT c
  let dl := s.rd .FC_DL_COUNT c
  match s.fernProg c with
  | none => 1
  | some p =>
    let shared := (List.range c).any fun d => s.rd .FC_STATE d == fcStopped && rangesMeet p.shBase p.shLen (s.qn .fcShBase d) (s.qn .fcShLen d)
    if 4096 < ni * fb ∨ 4096 < no * fb ∨ s.meetsOther c .FC_IN_FIRST .FC_IN_COUNT ∨ s.meetsOther c .FC_OUT_FIRST .FC_OUT_COUNT ∨
        s.fernRange < s.rd .FC_IN_FIRST c + ni ∨ s.fernRange < s.rd .FC_OUT_FIRST c + no then 2
    else if 1024 < dl * fb ∨ 2048 < s.rd .FC_TAP_COUNT c * fb ∨ s.meetsOther c .FC_DL_FIRST .FC_DL_COUNT ∨ s.fernLines < s.rd .FC_DL_FIRST c + dl then 3
    else if shared ∨ (p.shLen ≠ 0 ∧ (p.shBase < 0x100000 ∨ 0x300000 < p.shBase + p.shLen)) then 4
    else if s.fernBudget c < p.wcet then 5
    else if p.ins ≠ ni ∨ p.outs ≠ no ∨ p.lines ≠ dl ∨ p.taps ≠ s.rd .FC_TAP_COUNT c then 6
    else if 32 ≤ p.prog ∧ !p.sigOk then 7
    else 0

/-- The parameter words begin as the data image has them (R265). -/
def paramDefaults (c : Nat) : Act := look fun s =>
  match s.fernProg c with
  | none => skip
  | some p => each (List.range (min 1024 (p.data.length - 0xD000))) fun w => set .FP_PARAM (p.data.getD (0xD000 + w) 0) c w

/-- A core with a program is loaded, or its program is refused (R256, R261). -/
def loadCore (c : Nat) : Act := look fun s =>
  iff (s.rd .FC_PROG c != 0x3F) (all [fernState c fcLoading, set .FC_BUDGET (s.fernBudget c) c,
    match s.fernWhy c, s.fernProg c with
    | 0, some p => all [
        each (p.code.zipIdx) (fun (w, k) => storeLE (fernCodeAt c + 4 * k) w 4), fernData c p,
        put .fcEntry p.entry c, put .fcSize (p.code.length / 4 : Nat) c, put .fcShBase p.shBase c, put .fcShLen p.shLen c,
        set .FC_ALG_LAT p.algLat c, set .FC_WCET p.wcet c, set .FC_LATENCY (2 * s.fb c + p.algLat) c, algLatFollow c, fernState c fcStopped]
    | why, _ => all [set .FC_LOAD_WHY why c, objectNote .REFUSED .FC_STATE c 0 (s.rd .FC_PROG c) 0, fernState c fcOff]])

/-- Section 5, and what block 09h shows of it (R266). -/
def loadFern : Act := all [
  each (List.range 32) loadCore,
  look fun s =>
    let used (f : Fld) : Nat := (((List.range 32).filter fun c => s.rd .FC_STATE c == fcStopped).map fun c => s.rd f c).sum
    all [set .FERN_DL_USED (used .FC_DL_COUNT), set .FERN_IN_USED (used .FC_IN_COUNT),
      set .FERN_LIB_SET (match s.fwRun with | some f => f.libSet | none => 0)]]

-- The end of pass 2 ------------------------------------------------------------------------------------------------

/-- The width of a generator's surface as the layout plans it: that of its source's domain. -/
def State.plannedWidth (s : State) (g : Nat) : Nat :=
  if s.rd .PX_KIND g = 0 then 0 else (activeSize (s.rd .RD_FORMAT (s.pxDomain g))).1 / (if s.rd .PX_SCALE g = 0 then 2 else 4)

/-- The report names each tile of the layout whose taps do not fit (R341). -/
def tapReport : Act := look fun s =>
  each ((List.range 4).filter fun h => s.rd .MV_EN h == 1) fun h =>
    let ha := (activeSize (s.rd .RD_FORMAT (s.headDomain h))).2
    each (((List.range 16).flatMap fun c => s.scalerTaps s.plannedWidth h c ha).filter fun (t, _, k) => decide (k < s.rd .TL_VTAPS h t)) fun (t, _, k) =>
      objectNote .CLAMPED .TL_VTAPS h t (s.rd .TL_VTAPS h t) k

/-- Section 6 (R120, R125): output groups, clamped to 1,024, and the start-up salvo. -/
def loadGroups (c : CfgImage) : Act :=
  let n := c.groups.length
  all [set .XP_GROUPS (min n 1024), iff (decide (1024 < n)) (clampNote (fieldEntry crClamp .CLAMPED otherSection .XP_GROUPS 0 0 n 1024)),
    set .XP_START_SALVO (b2n c.startSalvo.isSome)]

/-- Pass 2 with its sections. -/
def loadSecond (c : CfgImage) : Act := all [
  each (List.range 32) paramDefaults, loadFilters c, loadGroups c, loadPass false c.records, loadFern, tapReport]

/-- Step 7 (R445): the report begins anew; a fatal field ends the load, and CONFIG_CLAMPED tells of a load that was completed. -/
def loadConfig (c : CfgImage) : Act := all [
  one (.clamps []), put .fatal 0, loadTopology c,
  look fun s => iff (s.q .fatal == 0) (all [loadPass true c.records, afterFirst c.records]),
  look fun s => iff (s.q .fatal == 0) (loadSecond c),
  put .reportOwn 1,
  look fun s => iff (s.q .fatal == 0) (all [iff (s.rd .CR_COUNT != 0) (raise .CONFIG_CLAMPED 0 (s.rd .CR_COUNT)), one .snapshot])]

end Sys2Proof.Machine
end

