-- ==== Sys2Proof/Machine/Update.lean ====
section
/-! DEFINITION. Field update (20_field_update.md, R457 to R469): the update lock, offers, blocks, verification, activation, confirmation, and the
relay, at the manager and at its targets. A message of the relay is handled as one of a session numbered 64. -/
set_option Elab.async false
namespace Sys2Proof.Machine
open Host

/-- The source of a message that the relay brings (R457). -/
abbrev relaySess : Nat := 64

-- Answers ----------------------------------------------------------------------------------------------------------

/-- The answer to an update message: an ANSWER to a session, an ANSWER record to the relay (R467; `sub` is the subtype answered). -/
def updReply (m : Msg) (sub code : Nat) (data : List Nat) (index : Nat) : Act := look fun s =>
  if m.sess = relaySess then emit (.relay s.activeNode 0xF3 [code, sub, data.headD 0])
  else sendAnswer { s.mkAnswer m .ACCEPTED with status := code, data := data, index := index }

/-- The answer with a status alone. -/
def updSay (m : Msg) (sub : Nat) (st : Status) : Act := updReply m sub st.code [] 0

/-- The general refusals and those of block 11h (R384, R468). -/
def updRefusals : List Status :=
  [.REFUSED, .BUSY, .EMPTY, .NOT_SUPPORTED, .BAD_MESSAGE, .CONFLICT, .ALREADY_PRESENT, .BAD_BLOCK, .INCOMPLETE, .NOT_OPEN, .NOT_UNCONFIRMED,
   .HEALTH_PENDING, .WINDOW_EXPIRED, .RELAY_TARGET]

/-- A refusal for which the spec names no status: some one of the listed codes (log 4). -/
def freeRefusal (f : Nat → Act) : Act := withFree fun v => f (updRefusals.getD (v % updRefusals.length) .REFUSED).code

/-- An UPDATE message of a session (R457): on SVC, with the UPDATE privilege, on a claimed module. -/
def updating (m : Msg) (act : Act) : Act := received m (look fun s =>
  if s.claimOnly m.sess then answer m .NOT_CLAIMED
  else if !s.onSvc m.sess then answer m .NOT_SUPPORTED
  else if !m.lenOk then answer m .BAD_MESSAGE
  else if !bit (s.rd .TS_PRIV m.sess) 3 then answer m .NO_PRIVILEGE
  else act)

/-- A record of the relay (R457, R467): from the node taken to be the active manager, also in RESTRICTED. -/
def fromRelay (sender : Nat) (ok : Bool) (act : Act) : Act := look fun s =>
  if s.rd .SU_STATE ≠ 3 ∧ s.rd .SU_STATE ≠ 5 then skip
  else if !ok then tagFails sender 0
  else if sender ≠ s.activeNode then count .RD_STALE_RECORDS
  else all [iff (s.holdsOpen relaySess) (arm .updLock (60 * psS)), act]

-- Who writes, who holds --------------------------------------------------------------------------------------------

/-- Blocks of an image (R461, R462). -/
def blocksOf (len : Nat) : Nat := ceilDiv len 4096

/-- This module is to write the offer (R459 step 4): TARGETS is 0 or holds its own bit; away from the active manager nothing is relayed. -/
def State.takesSelf (s : State) (targets : Nat) : Bool := targets == 0 || bit targets s.node || !s.isManager

/-- The other modules that a TARGETS mask names to the active manager (R467). -/
def State.relayNodes (s : State) (targets : Nat) : List Nat :=
  if s.isManager ∧ !s.standAlone then s.populated.filter fun n => n != s.node && bit targets n else []

/-- The source holds the lock of an update that it may still act on (R461). -/
def State.isHolder (s : State) (n : Nat) : Bool :=
  match s.upd with | some u => u.holder == n && decide (s.rd .UP_STATE < 3) && s.q .upVerified != 1 | none => false

-- OPEN (R459, R460) ------------------------------------------------------------------------------------------------

/-- The offer carries a firmware set, a configuration image. -/
def hasFw (content : Nat) : Bool := bit content 0
def hasCfg (content : Nat) : Bool := bit content 1

/-- The offer has an image with the version of the holder's and another digest. -/
def clashes (u : Upd) (o : Offer) : Bool :=
  (hasFw o.content && hasFw u.content && o.setId == u.setId && o.fwDigest != u.fwDigest)
    || (hasCfg o.content && hasCfg u.content && o.cfgSvn == u.cfgSvn && o.cfgDigest != u.cfgDigest)

/-- Every digest of the offer equals the holder's. -/
def sameOffer (u : Upd) (o : Offer) : Bool :=
  (!hasFw o.content || (hasFw u.content && o.fwDigest == u.fwDigest)) && (!hasCfg o.content || (hasCfg u.content && o.cfgDigest == u.cfgDigest))

/-- An offered digest equals that of the running pair. -/
def State.runsAlready (s : State) (o : Offer) : Bool :=
  (hasFw o.content && (match s.fwRun with | some f => f.digest == o.fwDigest | none => false))
    || (hasCfg o.content && (match s.cfg with | some c => c.digest == o.cfgDigest | none => false))

/-- The first status of R459 that applies; while an update waits for its confirmation, every further one without a conflict is BUSY (R458). -/
def State.openStatus (s : State) (o : Offer) : Option Status :=
  let fw := hasFw o.content
  let cf := hasCfg o.content
  if !fw ∧ !cf ∨ fw ∧ o.fwLen = 0 ∨ cf ∧ o.cfgLen = 0 then some .BAD_MESSAGE
  else if fw ∧ 2 ^ 25 - 4096 < o.fwLen ∨ cf ∧ 2 ^ 24 < o.cfgLen then some .IMAGE_TOO_LARGE
  else match s.upd with
    | some u => some (if clashes u o then .CONFLICT else if sameOffer u o ∧ s.rd .UP_STATE < 3 then .ALREADY_PRESENT else .BUSY)
    | none =>
      if s.takesSelf o.targets ∧ s.runsAlready o then some .ALREADY_PRESENT
      else if fw ∧ o.fwSvn < s.rd .SEC_ROLLBACK_FW ∨ cf ∧ o.cfgSvn < s.rd .SEC_ROLLBACK_CFG then some .ROLLBACK
      else if s.isManager ∧ (List.range 64).any (fun n => bit o.targets n && !s.populated.contains n) then some .RELAY_TARGET
      else none

/-- R460: the holder's update ends; PARAM is free, since two digests of 8 bytes do not fit it (log 4). -/
def conflict : Act := look fun s => all [
  count .UP_CONFLICTS, withFree fun v => raise .UPDATE_CONFLICT 0 v,
  if s.rd .UP_STATE < 3 ∧ s.q .upVerified ≠ 1 then updRelease else all [put .upConflict 1, fallBack 5]]

/-- Both slots of the inactive pair become EMPTY, and its update record holds the offer's windows (R464). -/
def emptySlots (m : Msg) (o : Offer) (cs hs : Nat) : Act := look fun s =>
  let p := s.idlePair
  let x := writeDirectory s.nvm s.directory.active (withPair s.directory p slotEmpty)
  let clear {α : Type} (xs : List (Option α)) : List (Option α) := (List.range 2).map fun k => if k = p then none else xs.getD k none
  one (.nvm (putUpdRec { x with fw := clear x.fw, cfg := clear x.cfg } p ⟨cs, hs, if m.sess = relaySess then 2 else 1, o.setId, 0⟩))

/-- The offer takes the lock. -/
def takeLock (m : Msg) (o : Offer) : Act := look fun s =>
  let cs := clampNat 60 86400 o.confirmS
  let hs := clampNat 10 900 o.healthS
  let relay := m.sess = relaySess
  all [
    one (.upd (some ⟨o.content % 4, o.fwLen, o.cfgLen, o.setId, o.fwSvn, o.cfgSvn, o.format, o.targets, o.fwDigest, o.cfgDigest, cs, hs, 0, 0, m.sess, []⟩)),
    set .UP_STATE 1, set .UP_SOURCE (if relay then 2 else 1), set .UP_HOLDER (if relay then s.activeNode else m.sess), set .UP_CONTENT o.content,
    set .UP_SET_ID o.setId, set .UP_CONFIRM_S cs, set .UP_HEALTH_S hs,
    set .UP_FW_BLOCKS 0, set .UP_FW_TOTAL (if hasFw o.content then blocksOf o.fwLen else 0),
    set .UP_CFG_BLOCKS 0, set .UP_CFG_TOTAL (if hasCfg o.content then blocksOf o.cfgLen else 0),
    set .UP_RELAY_TARGETS ((s.relayNodes o.targets).map fun n => 2 ^ n).sum, each (List.range 64) (fun n => set .UP_RELAY_STATE 0 n),
    iff (s.takesSelf o.targets) (emptySlots m o cs hs),
    arm .updLock (60 * psS), raise .UPDATE_OPENED,
    updSay m 0xF0 (if cs = o.confirmS ∧ hs = o.healthS then .ACCEPTED else .CLAMPED)]

/-- An OPEN, or a relayed OFFER. -/
def updOpen (m : Msg) (o : Offer) : Act := look fun s =>
  match s.openStatus o with
  | none => takeLock m o
  | some st => all [updSay m 0xF0 st,
      iff (st == .BUSY) (count .UP_BUSY_REFUSED), iff (st == .ROLLBACK) (raise .SEC_ROLLBACK_REFUSED), iff (st == .CONFLICT) conflict]

-- BLOCK (R462) -----------------------------------------------------------------------------------------------------

/-- The block does not belong to the offer, or its CRC-32C fails. -/
def blockBad (u : Upd) (img index : Nat) (crcOk : Bool) : Bool :=
  !crcOk || (match img with
    | 0 => !hasFw u.content || decide (blocksOf u.fwLen ≤ index)
    | 1 => !hasCfg u.content || decide (blocksOf u.cfgLen ≤ index)
    | _ => true)

/-- A block is present from now on. -/
def haveBlock (img index : Nat) : Act := look fun s =>
  match s.upd with
  | none => skip
  | some u =>
    if img = 0 then iff (!bit u.fwHave index) (all [one (.upd (some { u with fwHave := u.fwHave + 2 ^ index })), count .UP_FW_BLOCKS])
    else iff (!bit u.cfgHave index) (all [one (.upd (some { u with cfgHave := u.cfgHave + 2 ^ index })), count .UP_CFG_BLOCKS])

/-- An accepted block: it goes to the NVM, or to the relay buffer of a relay-only offer (log 9). -/
def blockTaken (m : Msg) (img index : Nat) (toBuffer : Act) : Act := look fun s =>
  match s.upd with
  | none => skip
  | some u =>
    if s.takesSelf u.targets then one (.upd (some { u with writing := u.writing ++ [(img, index, m.sess, m.seq)] }))
    else all [haveBlock img index, toBuffer]

/-- A BLOCK of a session. -/
def updBlock (m : Msg) (img index : Nat) (crcOk : Bool) : Act := look fun s =>
  match s.upd with
  | none => updSay m 0xF1 .NOT_OPEN
  | some u =>
    if !s.isHolder m.sess then updSay m 0xF1 .NOT_OPEN
    else if blockBad u img index crcOk then all [count .UP_BAD_BLOCKS, updSay m 0xF1 .BAD_BLOCK]
    else blockTaken m img index (updSay m 0xF1 .ACCEPTED)

/-- The relay still waits for writes. -/
def relayWrites (u : Upd) : Bool := u.writing.any fun w => w.2.2.1 == relaySess

/-- The blocks of a BLOCKS record (R467): one ANSWER when the last of them is written; BAD_BLOCK where one was not taken. -/
def relayBlocks (m : Msg) (img first : Nat) (crcs : List Bool) : Act := look fun s =>
  match s.upd with
  | none => updSay m 0xF1 .NOT_OPEN
  | some u =>
    if !s.isHolder m.sess then updSay m 0xF1 .NOT_OPEN
    else
      let blocks : List (Nat × Bool) := crcs.mapIdx fun k ok => (first + k, blockBad u img (first + k) ok)
      let st : Status := if blocks.any Prod.snd then .BAD_BLOCK else .ACCEPTED
      all [put .relayStatus st.code relaySess,
        each blocks fun b => if b.2 then count .UP_BAD_BLOCKS else blockTaken m img b.1 skip,
        look fun s => iff (match s.upd with | some v => !relayWrites v | none => true) (updSay m 0xF1 st)]

/-- The NVM write of an accepted block completes. -/
def blockWritten (t img index : Nat) : Act := look fun s =>
  match s.upd with
  | none => skip
  | some u => match u.writing.find? fun w => w.1 == img && w.2.1 == index with
    | none => skip
    | some w =>
      let m : Msg := ⟨t, w.2.2.1, w.2.2.2, false, true, true⟩
      all [one (.upd (some { u with writing := u.writing.erase w })), haveBlock img index, look fun s =>
        match s.upd with
        | none => skip
        | some v =>
          if m.sess ≠ relaySess then updSay m 0xF1 .ACCEPTED
          else iff (!relayWrites v) (updReply m 0xF1 (s.qn .relayStatus relaySess) [] 0)]

-- VERIFY (R463) ----------------------------------------------------------------------------------------------------

/-- The first index of a block that is not present. -/
def missingBlock (u : Upd) : Option Nat :=
  let gap (n have_ : Nat) : Option Nat := (List.range n).find? fun k => !bit have_ k
  match (if hasFw u.content then gap (blocksOf u.fwLen) u.fwHave else none) with
  | some k => some k
  | none => if hasCfg u.content then gap (blocksOf u.cfgLen) u.cfgHave else none

/-- The pair as completed: what the offer does not carry is the running pair's. -/
def State.pairFw (s : State) (u : Upd) (fw : Option FwImage) : Option FwImage :=
  if hasFw u.content then fw else s.nvm.fw.getD (1 - s.idlePair) none
def State.pairCfg (s : State) (u : Upd) (cfg : Option CfgImage) : Option CfgImage :=
  if hasCfg u.content then cfg else s.nvm.cfg.getD (1 - s.idlePair) none

/-- The first failing status of the completed pair, by R442 and R443. -/
def State.pairStatus (s : State) (u : Upd) (fw : Option FwImage) (cfg : Option CfgImage) : Option Status :=
  match s.fwStatus true (s.pairFw u fw) with
  | some st => some st
  | none => s.cfgStatus true ((s.pairFw u fw).elim [] FwImage.formats) (s.pairCfg u cfg)

/-- The images' digests are those of the OPEN. -/
def digestsOk (u : Upd) (fw : Option FwImage) (cfg : Option CfgImage) : Bool :=
  (!hasFw u.content || (match fw with | some f => f.digest == u.fwDigest | none => false))
    && (!hasCfg u.content || (match cfg with | some c => c.digest == u.cfgDigest | none => false))

/-- The completed pair stands in the inactive slots. -/
def storePair (u : Upd) (fw : Option FwImage) (cfg : Option CfgImage) : Act := look fun s =>
  let x := s.nvm
  let p := s.idlePair
  let at2 {α : Type} (xs : List (Option α)) (v : Option α) : List (Option α) := (List.range 2).map fun k => if k = p then v else xs.getD k none
  one (.nvm { x with fw := at2 x.fw (s.pairFw u fw), cfg := at2 x.cfg (s.pairCfg u cfg) })

/-- VERIFY; `done` goes on when it has passed. -/
def updVerify (m : Msg) (fw : Option FwImage) (cfg : Option CfgImage) (done : Act) : Act := look fun s =>
  match s.upd with
  | none => updSay m 0xF2 .NOT_OPEN
  | some u =>
    if !s.isHolder m.sess then updSay m 0xF2 .NOT_OPEN
    else match missingBlock u with
      | some k => updReply m 0xF2 Status.INCOMPLETE.code [k] 0
      | none => match s.pairStatus u fw cfg with
        | some st => all [imageRefused (some st), updSay m 0xF2 st]
        | none =>
          if !digestsOk u fw cfg then updSay m 0xF2 .BAD_SIGNATURE
          else all [iff (s.takesSelf u.targets) (storePair u fw cfg), set .UP_STATE 2, raise .UPDATE_VERIFIED, done]

-- ACTIVATE, CONFIRM, ABORT (R458, R464, R466) ----------------------------------------------------------------------

/-- The inactive pair becomes active, unconfirmed, and the restart is scheduled (R464). -/
def activateHere (reply : Act) : Act := look fun s =>
  let p := s.idlePair
  all [one (.nvm (writeDirectory s.nvm p (withPair s.directory p slotUnconfirmed))), put .upVerified 1, raise .UPDATE_ACTIVATED, reply, restartAsked]

/-- The condition of R466 that refuses a CONFIRM, if one does. -/
def State.confirmStatus (s : State) : Option Status :=
  if s.rd .UP_STATE ≠ 3 then some .NOT_UNCONFIRMED
  else if s.rd .UP_HEALTH_OK = 0 then some .HEALTH_PENDING
  else if s.due .updWindow ∨ s.q .upFallback = 4 then some .WINDOW_EXPIRED
  else if s.q .upConflict = 1 then some .CONFLICT
  else if s.q .upFallback ≠ 0 then some .NOT_UNCONFIRMED
  else none

/-- A counter of R426 is burnt up to `v`; the event tells the new value. -/
def burn (cfg : Bool) (v : Nat) : Act := look fun s =>
  let f : Fld := if cfg then .SEC_ROLLBACK_CFG else .SEC_ROLLBACK_FW
  iff (decide (s.rd f < v)) (all [one (.burnRollback cfg v), look fun s => raise .SEC_FUSE_BURNED 0 (s.rd f)])

/-- CONFIRM is accepted: the running pair is VALID, the counters are burnt, the lock is released (R466). -/
def confirmHere : Act := look fun s =>
  let p := s.rd .SU_PAIR - 1
  all [one (.nvm (writeDirectory s.nvm s.directory.active (withPair s.directory p slotValid))),
    burn false (s.fwRun.elim 0 FwImage.svn), burn true (s.cfg.elim 0 CfgImage.svn), updRelease, raise .UPDATE_CONFIRMED]

-- The relay at the manager (R467) ----------------------------------------------------------------------------------

/-- The record that is due to a target goes out, and its answer is awaited for 200 ms. `relayCmd` is 1 in OFFER, 2 in BLOCKS, 16 + OP in COMMAND;
`relayNext` counts the blocks that the target has answered. -/
def sendRelay (n : Nat) : Act := look fun s => all [addQ .upSends 1 n, arm .relay (200 * psMs) n,
  match s.upd, s.qn .relayCmd n with
  | some u, 1 => emit (.relay n 0xF0 [u.content, u.fwLen, u.cfgLen, u.setId, u.fwSvn, u.cfgSvn, u.format, 0, u.fwDigest, u.cfgDigest, u.confirmS, u.healthS])
  | some u, 2 =>
    let k := s.qn .relayNext n
    let f := if hasFw u.content then blocksOf u.fwLen else 0
    let c := if hasCfg u.content then blocksOf u.cfgLen else 0
    emit (.relay n 0xF1 (if k < f then [0, k, min 64 (f - k)] else [1, k - f, min 64 (f + c - k)]))
  | _, op => emit (.relay n 0xF2 [op - 16])]

/-- How many blocks the record in flight to a target carries, and whether it is the last. -/
def blocksInFlight (u : Upd) (k : Nat) : Nat × Bool :=
  let f := if hasFw u.content then blocksOf u.fwLen else 0
  let c := if hasCfg u.content then blocksOf u.cfgLen else 0
  let n := if k < f then min 64 (f - k) else min 64 (f + c - k)
  (n, decide (f + c ≤ k + n))

/-- A stage of the relay to a target begins. -/
def relayStage (n cmd : Nat) : Act := all [put .relayCmd cmd n, put .relayNext 0 n, put .upSends 0 n, sendRelay n]

/-- A message that names targets reaches each of them; its answer waits for theirs. -/
def relayOut (m : Msg) (ns : List Nat) (cmd : Nat) : Act := all [
  put .relayReply (m.sess + 1 : Nat) 0, put .relayReply m.seq 1, put .relayReply cmd 2,
  each ns fun n => all [put .relayStatus 0 n, iff (cmd == 1) (set .UP_RELAY_STATE 1 n), relayStage n cmd]]

/-- Every target has answered or failed: the message is answered, with the lowest failing target in INDEX (a silent target gives no status,
log 4). -/
def relayDone : Act := look fun s =>
  if (List.range 64).any (fun n => (s.timer .relay n).isSome) ∨ s.q .relayReply 0 = 0 then skip
  else
    let m : Msg := ⟨s.now, s.qn .relayReply 0 - 1, s.qn .relayReply 1, false, true, true⟩
    let op := s.qn .relayReply 2
    all [put .relayReply 0 0,
      match (List.range 64).find? fun n => s.q .relayStatus n ≠ 0 with
      | none => all [updSay m 0xF2 .ACCEPTED, iff (op == 21 && (match s.upd with | some u => u.holder != 65 | none => false)) updRelease]
      | some n =>
        if s.qn .relayStatus n = 0x10000 then freeRefusal fun c => updReply m 0xF2 c [] n
        else updReply m 0xF2 (s.qn .relayStatus n) [] n]

/-- A target's part ends with a status (0x10000: it was silent). -/
def relayFailed (n status : Nat) (failed : Bool) : Act :=
  all [disarm .relay n, put .relayStatus status n, iff failed (set .UP_RELAY_STATE 3 n), relayDone]

/-- A target's ANSWER. -/
def relayAnswered (n status sub : Nat) : Act := look fun s =>
  let cmd := s.qn .relayCmd n
  let want := if cmd = 1 then 0xF0 else if cmd = 2 then 0xF1 else 0xF2
  if (s.timer .relay n).isNone ∨ sub ≠ want then skip
  else if status ≠ Status.ACCEPTED.code ∧ status ≠ Status.CLAMPED.code then
    relayFailed n status (decide (cmd ≤ 19) || status == Status.BUSY.code)
  else match s.upd, cmd with
    | some _, 1 => relayStage n 2
    | some u, 2 =>
      let (k, last) := blocksInFlight u (s.qn .relayNext n)
      if last then relayStage n 19 else all [addQ .relayNext k n, put .upSends 0 n, sendRelay n]
    | _, _ => all [disarm .relay n, iff (cmd == 19) (set .UP_RELAY_STATE 2 n), relayDone]

-- Commands of the user ---------------------------------------------------------------------------------------------

/-- VERIFY at a module: its own check, then the relay to the targets of the offer that it names. -/
def verifyAll (m : Msg) (targets : Nat) (fw : Option FwImage) (cfg : Option CfgImage) : Act :=
  updVerify m fw cfg (look fun s =>
    let ns := (s.relayNodes targets).filter fun n => bit (s.rd .UP_RELAY_TARGETS) n
    if ns.isEmpty then updSay m 0xF2 .ACCEPTED else relayOut m ns 1)

/-- ACTIVATE: here where the module itself is named, and at the targets. -/
def activateAll (m : Msg) (targets : Nat) : Act := look fun s =>
  let ns := s.relayNodes targets
  let reply : Act := if ns.isEmpty then updSay m 0xF2 .ACCEPTED else relayOut m ns 20
  if !s.isHolder m.sess then updSay m 0xF2 .NOT_OPEN
  else if s.takesSelf targets then
    (if s.rd .UP_STATE == 2 && s.upd.any fun u => s.takesSelf u.targets then activateHere reply
     else freeRefusal fun c => updReply m 0xF2 c [] 0)
  else all [put .upVerified 2, disarm .updLock, reply]

/-- CONFIRM: here where the module itself is named, and at the targets. -/
def confirmAll (m : Msg) (targets : Nat) : Act := look fun s =>
  let ns := s.relayNodes targets
  let reply : Act := if ns.isEmpty then updSay m 0xF2 .ACCEPTED else relayOut m ns 21
  if s.takesSelf targets then
    match s.confirmStatus with
    | some st => updSay m 0xF2 st
    | none => all [confirmHere, reply]
  else reply

/-- ABORT: the lock is released, and the targets hear it. -/
def abortAll (m : Msg) (targets : Nat) : Act := look fun s =>
  let ns := s.relayNodes targets
  if !s.isHolder m.sess then updSay m 0xF2 .NOT_OPEN
  else all [updRelease, if ns.isEmpty then updSay m 0xF2 .ACCEPTED else relayOut m ns 22]

/-- The message of a record of the relay. -/
def relayMsg (t : Nat) : Msg := ⟨t, relaySess, 0, false, true, true⟩

-- Commands ---------------------------------------------------------------------------------------------------------

/-- UPDATE_OPEN (R459). -/
def execUpdateOpen (m : Msg) (o : Offer) (s : State) : Outcome State Fault Refusal := run (all [at_ m.t, updating m (updOpen m o)]) s

/-- UPDATE_BLOCK (R462). -/
def execUpdateBlock (m : Msg) (img index : Nat) (crcOk : Bool) (s : State) : Outcome State Fault Refusal :=
  run (all [at_ m.t, updating m (updBlock m img index crcOk)]) s

/-- NVM_BLOCK_WRITTEN (R462). -/
def execNvmBlockWritten (t img index : Nat) (s : State) : Outcome State Fault Refusal := run (all [at_ t, blockWritten t img index]) s

/-- UPDATE_VERIFY (R463); `fw` and `cfg` are what the module reads of the offered images. -/
def execUpdateVerify (m : Msg) (targets : Nat) (fw : Option FwImage) (cfg : Option CfgImage) (s : State) : Outcome State Fault Refusal :=
  run (all [at_ m.t, updating m (verifyAll m targets fw cfg)]) s

/-- UPDATE_ACTIVATE (R464). -/
def execUpdateActivate (m : Msg) (targets : Nat) (s : State) : Outcome State Fault Refusal :=
  run (all [at_ m.t, updating m (activateAll m targets)]) s

/-- UPDATE_CONFIRM (R466). -/
def execUpdateConfirm (m : Msg) (targets : Nat) (s : State) : Outcome State Fault Refusal :=
  run (all [at_ m.t, updating m (all [healthJudge, confirmAll m targets])]) s

/-- UPDATE_ABORT (R458). -/
def execUpdateAbort (m : Msg) (targets : Nat) (s : State) : Outcome State Fault Refusal :=
  run (all [at_ m.t, updating m (abortAll m targets)]) s

/-- UPDATE_LOCK_IDLE_TIMEOUT (R458): 60 s without a message from the holder before ACTIVATE. -/
def execUpdateLockIdleTimeout (t : Nat) (s : State) : Outcome State Fault Refusal :=
  run (all [at_ t, look fun s => iff (s.due .updLock && (match s.upd with | some u => s.holdsOpen u.holder | none => false)) updRelease]) s

/-- UPDATE_HEALTH_TIMEOUT (R465): HEALTH_S ends before the check has passed. -/
def execUpdateHealthTimeout (t : Nat) (s : State) : Outcome State Fault Refusal :=
  run (all [at_ t, look fun s => iff (s.due .updHealth && s.rd .UP_HEALTH_OK == 0) (all [set .UP_HEALTH s.healthBits, fallBack 1])]) s

/-- UPDATE_WINDOW_EXPIRY (R465): CONFIRM_S ends without CONFIRM. -/
def execUpdateWindowExpiry (t : Nat) (s : State) : Outcome State Fault Refusal :=
  run (all [at_ t, look fun s => iff (s.due .updWindow) (fallBack 4)]) s

/-- RELAY_OFFER (R467). -/
def execRelayOffer (t sender : Nat) (o : Offer) (ok : Bool) (s : State) : Outcome State Fault Refusal :=
  run (all [at_ t, fromRelay sender ok (updOpen (relayMsg t) { o with targets := 0 })]) s

/-- RELAY_BLOCKS (R467). -/
def execRelayBlocks (t sender img first : Nat) (crcs : List Bool) (ok : Bool) (s : State) : Outcome State Fault Refusal :=
  run (all [at_ t, fromRelay sender ok (relayBlocks (relayMsg t) img first crcs)]) s

/-- RELAY_COMMAND (R467): OP 3 VERIFY, 4 ACTIVATE, 5 CONFIRM, 6 ABORT. -/
def execRelayCommand (t sender op : Nat) (fw : Option FwImage) (cfg : Option CfgImage) (ok : Bool) (s : State) : Outcome State Fault Refusal :=
  run (all [at_ t, fromRelay sender ok (match op with
    | 3 => verifyAll (relayMsg t) 0 fw cfg
    | 4 => activateAll (relayMsg t) 0
    | 5 => all [healthJudge, confirmAll (relayMsg t) 0]
    | 6 => abortAll (relayMsg t) 0
    | _ => skip)]) s

/-- RELAY_ANSWER (R467): a target's ANSWER reaches the active manager. -/
def execRelayAnswer (t sender status subtype _missing : Nat) (ok : Bool) (s : State) : Outcome State Fault Refusal :=
  run (all [at_ t, look fun s =>
    if !s.isManager then skip else if !ok then tagFails sender 0 else relayAnswered sender status subtype]) s

/-- RELAY_RESEND_TIMEOUT (R467): no ANSWER for 200 ms; after 10 sends the target is FAILED. -/
def execRelayResendTimeout (t node : Nat) (s : State) : Outcome State Fault Refusal :=
  run (all [at_ t, look fun s => iff (s.due .relay node)
    (if 10 ≤ s.q .upSends node then relayFailed node 0x10000 true else sendRelay node)]) s

end Sys2Proof.Machine
end

