-- ==== Sys2Proof/Machine/Start.lean ====
section
/-! DEFINITION. The start sequence (19_start_up_and_configuration.md, R435 to R453): what follows power-good once a start has begun (Power.lean), up
to RUNNING or KINDLING, with the states of R452, and the judging of an unconfirmed pair (20_field_update.md, R465). -/
set_option Elab.async false
namespace Sys2Proof.Machine
open Host

-- KINDLING (R448) --------------------------------------------------------------------------------------------------

/-- A field keeps in KINDLING what it holds: those of blocks 00h, 0Fh to 13h. -/
def staysInKindling (f : Fld) : Bool :=
  let b := blockOf f.desc.addr
  b == 0 || decide (15 ≤ b)

/-- What an abandoned load has set of the idle blocks returns to reset. -/
def idleReset : Act := look fun s =>
  let held := (s.regs.map fun e => e.1 / 2 ^ 40).dedup
  each (Fld.all.filter fun f => held.contains f.ctorIdx && !staysInKindling f) fun f =>
    each ((s.regs.filter fun e => e.1 / 2 ^ 40 == f.ctorIdx).map Prod.fst) fun k =>
      let i := k / 2 ^ 20 % 2 ^ 20
      let j := k % 2 ^ 20
      set f (f.resetAt i j) i j

/-- The pair that runs is UNCONFIRMED in the directory. -/
def State.runsUnconfirmed (s : State) : Bool := s.rd .SU_PAIR != 0 && slotState s.directory (s.rd .SU_PAIR - 1) false == slotUnconfirmed

/-- The running pair is not confirmed: its window and its health check run (R465). -/
def unconfirmedRuns : Act := look fun s =>
  let p := s.rd .SU_PAIR - 1
  let r := updRecOf s.nvm p
  all [
    one (.upd (some ⟨3, s.fwRun.elim 0 FwImage.len, s.cfg.elim 0 CfgImage.len, s.rd .SU_SET_ID, s.fwRun.elim 0 FwImage.svn, s.cfg.elim 0 CfgImage.svn,
      s.rd .SU_CFG_FORMAT, 0, s.fwRun.elim 0 FwImage.digest, s.cfg.elim 0 CfgImage.digest, r.confirmS, r.healthS, 0, 0, 65, []⟩)),
    set .UP_STATE 3, set .UP_SOURCE r.source, set .UP_CONFIRM_S r.confirmS, set .UP_HEALTH_S r.healthS]

/-- UP_LAST_RESULT shows the other pair's result (R465). -/
def resultShow : Act := look fun s => iff (s.rd .SU_PAIR != 0) (set .UP_LAST_RESULT (updRecOf s.nvm (2 - s.rd .SU_PAIR)).result)

/-- KINDLING is entered: 1 no pair passes, 2 unclaimed, 3 a fatal field, 4 the NVM. -/
def kindling (why : Nat) : Act := all [
  set .SYS_ROLE 0, idleReset, set .SU_STATE 4, set .SU_KINDLING_WHY why,
  look fun s => set .MC_MODE (s.rd .SU_KINDLING_SVC) 258,
  look fun s => each [0, 1, 4, 8, 15] fun q => set .MQ_RING_LEN (if s.rd .MC_MODE 258 = 0 then 0 else 32) 258 q,
  look fun s => all [set .MC_ADDR_LO (s.rd .MC_BASE_LO) 258, set .MC_ADDR_HI (s.rd .MC_BASE_HI + 258 / 256 + 258 % 256 * 256) 258],
  set .TC_UDP_PORT Fld.TC_UDP_PORT.desc.reset, set .LN_USE 5 258, set .LN_TX_PRE 0 258, set .LN_TX_MAIN 54 258, set .LN_TX_POST 9 258,
  laneStart 258, portMoves 258 mcDown, pins, raise .KINDLING_ENTERED 0 why,
  resultShow, look fun s => iff s.runsUnconfirmed (all [unconfirmedRuns, fallBack 2])]

-- The NVM (R438, R439) ---------------------------------------------------------------------------------------------

/-- The highest clock of a mode, MHz. -/
def nvmCap (mode : Nat) : Nat := match mode with | 5 => 200 | 4 | 3 | 2 => 133 | _ => 25

/-- The mode in use: the fastest that the tables declare; 1 where they are absent or fail. -/
def nvmMode (x : Nvm) : Nat := ([5, 4, 3, 2, 1].find? fun m => x.sfdp.contains m).getD 1

/-- The clock in use: the lower of the mode's figure and the part's. -/
def nvmClock (x : Nvm) : Nat := if x.sfdp.isEmpty then 25 else min (nvmCap (nvmMode x)) x.mhz

/-- Step 3: the device as found. -/
def nvmShow : Act := look fun s =>
  iff s.nvm.answers (all [set .SU_NVM_IF (nvmMode s.nvm), set .SU_NVM_MHZ (nvmClock s.nvm), set .SU_NVM_MIB s.nvm.mib])

/-- The device can be used: it answers, is large enough, and one copy of the directory is good. -/
def nvmGood (x : Nvm) : Bool := x.answers && decide (128 ≤ x.mib) && (nvmDirectory x).isSome

-- The pairs (R442 to R444) -----------------------------------------------------------------------------------------

/-- A pair that passes steps 4 and 6, with its images; or the status at which it failed. -/
def State.pairTry (s : State) (p : Nat) : Except Status (FwImage × CfgImage) :=
  let listed (cfg : Bool) : Bool := slotState s.directory p cfg != slotEmpty
  let fw := s.nvm.fw.getD p none
  let cfg := s.nvm.cfg.getD p none
  match s.fwStatus (listed false) fw, fw with
  | some st, _ => .error st
  | none, none => .error .BAD_SIGNATURE
  | none, some f => match s.cfgStatus (listed true) f.formats cfg, cfg with
    | some st, _ => .error st
    | none, none => .error .BAD_SIGNATURE
    | none, some c => .ok (f, c)

/-- A pair runs from now on. -/
def pairRuns (p : Nat) (f : FwImage) : Act :=
  all [set .SU_PAIR (p + 1), one (.fwRun (some f)), set .SU_SET_ID (f.setIds.headD 0), set .SEC_RUN_FW_SVN f.svn]

/-- The configuration image that step 7 loads. -/
def imageRuns (c : CfgImage) : Act :=
  all [one (.cfg (some c)), set .SU_CFG_FORMAT c.format, set .SEC_RUN_CFG_SVN c.svn, set .SEC_FABRIC_GEN c.fabricGen]

/-- The other pair runs (R444): told, and the fallen pair gives up its place (R465). -/
def fellBack (a : Nat) : Act := look fun s =>
  let st := slotState s.directory a false
  all [set .SU_FALLBACK 1, raise .FW_FALLBACK, iff (st == slotUnconfirmed || st == slotValid) (directoryFall a 6)]

/-- On an unclaimed module only the firmware sets are judged: the first that passes runs (R421, R444). -/
def firmwareOnly : Act := look fun s =>
  let a := s.directory.active % 2
  let fw (p : Nat) : Option FwImage := s.nvm.fw.getD p none
  let why (p : Nat) : Option Status := s.fwStatus (slotState s.directory p false != slotEmpty) (fw p)
  let code (p : Nat) : Nat := (why p).elim 0 Status.code
  match why a, fw a with
  | none, some f => pairRuns a f
  | _, _ => all [imageRefused (why a), match why (1 - a), fw (1 - a) with
    | none, some f => all [set .SU_FW_WHY (code a), pairRuns (1 - a) f, fellBack a]
    | _, _ => all [imageRefused (why (1 - a)), set .SU_FW_WHY (code a + code (1 - a) * 2 ^ 16)]]

-- Step 8 (R435, R452) ----------------------------------------------------------------------------------------------

/-- The fixed numbers of the module's blocks (R84, R117, R141, R180, R185, R206). -/
def shapeShow : Act := look fun s => all [
  set .SYS_REMAP 1,
  set .XP_OUTPUTS s.ports, iff (decide (0 < s.ports)) (set .XP_OUT_BASE (s.routerNo 0)),
  each (List.range s.links) fun l => set .FL_PLANE (if s.isEdge then l / 64 else s.rd .SYS_PLANE - 1) l,
  set .IP_POSITIONS (((List.range s.ports).filter fun p => s.rd .VI_PORT_MODE p == 2 && s.rd .VO_PORT_MODE p == 2).length),
  set .MC_MEDIA_MACS s.mediaMacs.length, set .MC_POOL_USED s.poolUsed,
  each ((List.range 259).filter fun p => s.rd .MC_MODE p != 0) fun p =>
    all [set .MC_ADDR_LO (s.rd .MC_BASE_LO) p, set .MC_ADDR_HI (s.rd .MC_BASE_HI + p / 256 + p % 256 * 256) p],
  iff (decide (0 < s.ports)) (set .VI_FS_TOP (if s.isEdge then 0x82D00000 else 0x85A00000))]

/-- A head's position was accepted: no entry of the report refuses it. -/
def State.headAccepted (s : State) (h : Nat) : Bool :=
  let b := Fld.MV_OUT_POS.bitAddr h 0
  !s.clampReport.any fun e => e.kind == crRefused && e.addr == b / 32 * 4 && e.lsb == b % 32

/-- Lanes, links, ports, inputs, outputs, heads and TDM ports enter the states of R452, each change reported by its event. -/
def blocksBegin : Act := look fun s => all [
  each ((List.range s.ports).filter fun n => s.rd .VO_PORT_MODE n != 0) fun n => moveState .VO_STATE .OUTPUT_STATE_CHANGE n 1,
  each ((List.range s.ports).filter fun n => s.rd .VI_PORT_MODE n != 0) fun n => inputState n viNoSignal,
  each ((List.range 259).filter fun l => s.rd .LN_USE l != 0) laneStart,
  each ((List.range s.links).filter fun l => s.linkUsed l && s.rd .FL_ENABLE l == 1) fun l => linkState l flTraining,
  each ((List.range 259).filter fun p => s.rd .MC_MODE p != 0) fun p => portMoves p mcDown,
  each ((List.range 4).filter fun h => !s.isCentre && s.rd .MV_EN h == 1 && s.headAccepted h) fun h => headState h 1,
  each ((List.range 256).filter fun g => s.rd .PX_KIND g != 0) pxWritten,
  each ((List.range 16).filter fun p => s.rd .TD_MODE p == 1) fun p => all [tdmBegin p, clkFollow p false],
  iff (decide (0 < s.ports)) (all [each (List.range 256) (flowFollow false), each (List.range 512) (flowFollow true)])]

/-- Reference, raster domains, PTP and pulses begin (R299, R293, R317, R303, R452). -/
def clocksBegin : Act := look fun s => all [
  put .routerStart s.now, arm .refStart (s.rd .REF_START_WAIT_S * psS), domainsFollow,
  each ((List.range 8).filter fun e => s.rd .RE_INPUT e != 15) fun e => refEntry e (if s.rd .RE_EN e = 1 then reAbsent else reDisabled),
  each (List.range 2) fun k => all [pdApply k, iff (s.rd .PD_EN k == 1) (all [servo k svListening, bmca k])],
  each (List.range 2) pulseWritten]

/-- The order stream and the pair begin (R24, R35, R361, R449). -/
def orderBegin : Act := look fun s =>
  if s.standAlone then all [set .SYS_MGR_ROLE 1, set .ORD_STATE osInOrder, set .ORD_NEXT 1, put .salvoWait 1]
  else all [set .ORD_STATE osJoining, arm .joinSend 0,
    iff s.inPair (all [pairState rdListen, arm .listen (100 * psMs + (if s.rd .RD_PREFERRED = 1 then 0 else s.rd .RD_START_WAIT_S * psS))])]

/-- An unconfirmed pair is watched from START_COMPLETE on, and the last result is shown (R465). -/
def updateBegin : Act := look fun s => all [
  resultShow,
  iff s.runsUnconfirmed (all [unconfirmedRuns,
    look fun s => all [arm .updWindow (s.rd .UP_CONFIRM_S * psS), arm .updHealth (s.rd .UP_HEALTH_S * psS), healthJudge]])]

/-- Step 8. -/
def roleStarts : Act := all [
  set .SU_STATE 3, setFree .SU_T_VERIFY_US, setFree .SU_T_LOAD_US, setFree .SU_T_RUN_US,
  shapeShow, blocksBegin, clocksBegin, orderBegin, guarantee, gpoFollow, pins,
  raise .START_COMPLETE,
  look fun s => iff (s.q .tripReport == 1) (all [put .tripReport 0, raise .PWR_TRIP_RECOVERED 0 (s.rd .PW_TRIPS)]),
  updateBegin]

-- The whole sequence -----------------------------------------------------------------------------------------------

/-- Steps 7 and 8. -/
def loadAndStart (c : CfgImage) : Act := all [
  set .SU_STATE 2, loadConfig c,
  look fun s => if s.q .fatal = 1 then kindling 3 else roleStarts]

/-- Steps 4 to 8 on a claimed module with a usable device. -/
def tryPairs : Act := look fun s =>
  let a := s.directory.active % 2
  match s.pairTry a with
  | .ok (f, c) => all [pairRuns a f, imageRuns c, loadAndStart c]
  | .error e => all [imageRefused (some e), match s.pairTry (1 - a) with
    | .ok (f, c) => all [set .SU_FW_WHY e.code, pairRuns (1 - a) f, imageRuns c, fellBack a, loadAndStart c]
    | .error e' => all [imageRefused (some e'), set .SU_FW_WHY (e.code + e'.code * 2 ^ 16), kindling 1]]

/-- Steps 2 to 8 (R435, R436). -/
def startGoesOn : Act := all [
  set .SU_STATE 1, look fun s => set .SEC_STATE (b2n !s.owners.isEmpty),
  look fun s => set .SEC_DEBUG_OPEN (b2n s.owners.isEmpty), ownerShow, nvmShow,
  look fun s =>
    if !nvmGood s.nvm then all [raise .NVM_FAULT, kindling 4]
    else if s.owners.isEmpty then all [firmwareOnly, kindling 2]
    else tryPairs]

/-- START (R435): a start that has begun goes through its steps. -/
def execStart (t : Nat) (s : State) : Outcome State Fault Refusal :=
  run (all [at_ t, look fun s => iff (s.q .powerGood == 1 && s.rd .SU_STATE == 0) startGoesOn]) s

end Sys2Proof.Machine
end

