-- ==== Sys2Proof/Machine/Dispatch.lean ====
section
/-! DEFINITION. exec: one arm per command, each one direct call of the command's meaning. -/
namespace Sys2Proof.Machine
open Host

def exec (i : Instr) (s : State) : Host.Outcome State Fault Refusal :=
  match i with
  | .powerGoodRise t pins => Sys2Proof.Machine.execPowerGoodRise t pins s
  | .powerGoodFall t why => Sys2Proof.Machine.execPowerGoodFall t why s
  | .rstNRelease t lowPs => Sys2Proof.Machine.execRstNRelease t lowPs s
  | .start t => Sys2Proof.Machine.execStart t s
  | .sysRestartWrite t value => Sys2Proof.Machine.execSysRestartWrite t value s
  | .commandedRestart t => Sys2Proof.Machine.execCommandedRestart t s
  | .registerWrite t addr data => Sys2Proof.Machine.execRegisterWrite t addr data s
  | .counterClearWrite t addr value => Sys2Proof.Machine.execCounterClearWrite t addr value s
  | .open_ t port cert => Sys2Proof.Machine.execOpen t port cert s
  | .confirm t sess sigOk => Sys2Proof.Machine.execConfirm t sess sigOk s
  | .sessionConfirmTimeout t sess => Sys2Proof.Machine.execSessionConfirmTimeout t sess s
  | .close m => Sys2Proof.Machine.execClose m s
  | .sessionIdleTimeout t sess => Sys2Proof.Machine.execSessionIdleTimeout t sess s
  | .messagePartTimeout t sess => Sys2Proof.Machine.execMessagePartTimeout t sess s
  | .take m req d => Sys2Proof.Machine.execTake m req d s
  | .salvo m req count ds => Sys2Proof.Machine.execSalvo m req count ds s
  | .lock m req mode force count outs => Sys2Proof.Machine.execLock m req mode force count outs s
  | .realign m req mode => Sys2Proof.Machine.execRealign m req mode s
  | .write m req node addr bytes data => Sys2Proof.Machine.execWrite m req node addr bytes data s
  | .audioAction m req node bytes entries => Sys2Proof.Machine.execAudioAction m req node bytes entries s
  | .svcDirectWrite m addr bytes data v => Sys2Proof.Machine.execSvcDirectWrite m addr bytes data v s
  | .read m addr bytes => Sys2Proof.Machine.execRead m addr bytes s
  | .queryLatency m srcNode as dstNode ad => Sys2Proof.Machine.execQueryLatency m srcNode as dstNode ad s
  | .queryNode m dst dbus src => Sys2Proof.Machine.execQueryNode m dst dbus src s
  | .querySdp m kind index => Sys2Proof.Machine.execQuerySdp m kind index s
  | .queryClampReport m part => Sys2Proof.Machine.execQueryClampReport m part s
  | .subscribe m mask => Sys2Proof.Machine.execSubscribe m mask s
  | .eventAck m ackSeq => Sys2Proof.Machine.execEventAck m ackSeq s
  | .heartbeat m => Sys2Proof.Machine.execHeartbeat m s
  | .eventSend t sess => Sys2Proof.Machine.execEventSend t sess s
  | .eventResendTimeout t sess => Sys2Proof.Machine.execEventResendTimeout t sess s
  | .eqAck value => Sys2Proof.Machine.execEqAck value s
  | .epLatchClear word mask => Sys2Proof.Machine.execEpLatchClear word mask s
  | .gpiChange t line level => Sys2Proof.Machine.execGpiChange t line level s
  | .gpoPulseStart t => Sys2Proof.Machine.execGpoPulseStart t s
  | .gpoPulseEnd t line => Sys2Proof.Machine.execGpoPulseEnd t line s
  | .orderedRecordArrival t r ok => Sys2Proof.Machine.execOrderedRecordArrival t r ok s
  | .replayRepeat t => Sys2Proof.Machine.execReplayRepeat t s
  | .gapTimeout t => Sys2Proof.Machine.execGapTimeout t s
  | .replayReq t sender first count => Sys2Proof.Machine.execReplayReq t sender first count s
  | .replayAns t sender first count gone => Sys2Proof.Machine.execReplayAns t sender first count gone s
  | .ordResyncReq value => Sys2Proof.Machine.execOrdResyncReq value s
  | .image t sender k stamp objs last => Sys2Proof.Machine.execImage t sender k stamp objs last s
  | .stateImageLoad t => Sys2Proof.Machine.execStateImageLoad t s
  | .joinSend t => Sys2Proof.Machine.execJoinSend t s
  | .join t node setId digest sigOk => Sys2Proof.Machine.execJoin t node setId digest sigOk s
  | .joinAnswer t sender a sigOk => Sys2Proof.Machine.execJoinAnswer t sender a sigOk s
  | .occupancy t node applied digest openLinks => Sys2Proof.Machine.execOccupancy t node applied digest openLinks s
  | .fabFrameCountReceive t count => Sys2Proof.Machine.execFabFrameCountReceive t count s
  | .frameCountSlip t => Sys2Proof.Machine.execFrameCountSlip t s
  | .rasterFrameStart t dom obs => Sys2Proof.Machine.execRasterFrameStart t dom obs s
  | .cleanSwitchPoint t dom meas => Sys2Proof.Machine.execCleanSwitchPoint t dom meas s
  | .pathRelease t src out => Sys2Proof.Machine.execPathRelease t src out s
  | .immediateTakeExecute t meas => Sys2Proof.Machine.execImmediateTakeExecute t meas s
  | .voOffsetWrite out value => Sys2Proof.Machine.execVoOffsetWrite out value s
  | .laneSignalDetect t lane => Sys2Proof.Machine.execLaneSignalDetect t lane s
  | .laneSignalLoss t lane => Sys2Proof.Machine.execLaneSignalLoss t lane s
  | .laneCdrLock t lane rate frac ppm => Sys2Proof.Machine.execLaneCdrLock t lane rate frac ppm s
  | .laneAcquireTimeout t lane => Sys2Proof.Machine.execLaneAcquireTimeout t lane s
  | .laneCdrLoss t lane => Sys2Proof.Machine.execLaneCdrLoss t lane s
  | .laneAligned t lane => Sys2Proof.Machine.execLaneAligned t lane s
  | .laneAlignLoss t lane errs => Sys2Proof.Machine.execLaneAlignLoss t lane errs s
  | .laneTxFault t lane => Sys2Proof.Machine.execLaneTxFault t lane s
  | .laneTxResume t lane cleared => Sys2Proof.Machine.execLaneTxResume t lane cleared s
  | .quadClockLoss t quad => Sys2Proof.Machine.execQuadClockLoss t quad s
  | .lnTxRetry t lane value => Sys2Proof.Machine.execLnTxRetry t lane value s
  | .lnPrbsTx t lane value => Sys2Proof.Machine.execLnPrbsTx t lane value s
  | .lnInjGo t lane value => Sys2Proof.Machine.execLnInjGo t lane value s
  | .lnEsGo t lane value => Sys2Proof.Machine.execLnEsGo t lane value s
  | .eyeScanDone t lane errs => Sys2Proof.Machine.execEyeScanDone t lane errs s
  | .sdiFrameReceived t input f => Sys2Proof.Machine.execSdiFrameReceived t input f s
  | .sdiRateMeasure t input ppm => Sys2Proof.Machine.execSdiRateMeasure t input ppm s
  | .fabricCellSend t link r => Sys2Proof.Machine.execFabricCellSend t link r s
  | .fabricCellReceive t link c => Sys2Proof.Machine.execFabricCellReceive t link c s
  | .creditSend t link ctrl aud => Sys2Proof.Machine.execCreditSend t link ctrl aud s
  | .fabricDeliveryMoment t out src seq => Sys2Proof.Machine.execFabricDeliveryMoment t out src seq s
  | .flEnableWrite t link value => Sys2Proof.Machine.execFlEnableWrite t link value s
  | .linkCellLock t link => Sys2Proof.Machine.execLinkCellLock t link s
  | .linkBerWindow t link secs errors total => Sys2Proof.Machine.execLinkBerWindow t link secs errors total s
  | .linkFailed t link => Sys2Proof.Machine.execLinkFailed t link s
  | .linkHolddownExpiry t link => Sys2Proof.Machine.execLinkHolddownExpiry t link s
  | .linkNewPathsOpen t link => Sys2Proof.Machine.execLinkNewPathsOpen t link s
  | .challenge t link node index known => Sys2Proof.Machine.execChallenge t link node index known s
  | .chain t link chainOk => Sys2Proof.Machine.execChain t link chainOk s
  | .proof t link sigOk ownerDigest => Sys2Proof.Machine.execProof t link sigOk ownerDigest s
  | .result t link reason => Sys2Proof.Machine.execResult t link reason s
  | .admissionTimeout t link => Sys2Proof.Machine.execAdmissionTimeout t link s
  | .heartbeatSend t => Sys2Proof.Machine.execHeartbeatSend t s
  | .heartbeatCheck t => Sys2Proof.Machine.execHeartbeatCheck t s
  | .heartbeatReceive t sender lichen plane b ok => Sys2Proof.Machine.execHeartbeatReceive t sender lichen plane b ok s
  | .ack t sender upTo ok => Sys2Proof.Machine.execAck t sender upTo ok s
  | .standbyRecordStore t r ok => Sys2Proof.Machine.execStandbyRecordStore t r ok s
  | .standbyResend t => Sys2Proof.Machine.execStandbyResend t s
  | .lichenFrameReceive t f => Sys2Proof.Machine.execLichenFrameReceive t f s
  | .lichenCommaTimeout t => Sys2Proof.Machine.execLichenCommaTimeout t s
  | .listenTimeout t => Sys2Proof.Machine.execListenTimeout t s
  | .fenceExpiry t => Sys2Proof.Machine.execFenceExpiry t s
  | .takebackOrder t => Sys2Proof.Machine.execTakebackOrder t s
  | .rdRearm t value => Sys2Proof.Machine.execRdRearm t value s
  | .managerBeatLoss t => Sys2Proof.Machine.execManagerBeatLoss t s
  | .refInputLost t input => Sys2Proof.Machine.execRefInputLost t input s
  | .refInputPresent t input => Sys2Proof.Machine.execRefInputPresent t input s
  | .refYMeasure t entry y freq => Sys2Proof.Machine.execRefYMeasure t entry y freq s
  | .refQualifyTimer t entry => Sys2Proof.Machine.execRefQualifyTimer t entry s
  | .refSelectEval t refs => Sys2Proof.Machine.execRefSelectEval t refs s
  | .refStartWaitExpiry t => Sys2Proof.Machine.execRefStartWaitExpiry t s
  | .refEmberHoldExpiry t => Sys2Proof.Machine.execRefEmberHoldExpiry t s
  | .ref10mLoss t n => Sys2Proof.Machine.execRef10mLoss t n s
  | .realignSlewDone t => Sys2Proof.Machine.execRealignSlewDone t s
  | .pulseOutput t out => Sys2Proof.Machine.execPulseOutput t out s
  | .ptpSyncReceive t port num seq fine twoStep origin => Sys2Proof.Machine.execPtpSyncReceive t port num seq fine twoStep origin s
  | .ptpFollowUpReceive t port num seq origin => Sys2Proof.Machine.execPtpFollowUpReceive t port num seq origin s
  | .ptpDelayReqReceive t port num seq fine => Sys2Proof.Machine.execPtpDelayReqReceive t port num seq fine s
  | .ptpDelayRespReceive t port num seq rx => Sys2Proof.Machine.execPtpDelayRespReceive t port num seq rx s
  | .ptpAnnounceReceive t port num sender prio1 cls acc var prio2 gm steps utc => Sys2Proof.Machine.execPtpAnnounceReceive t port num sender prio1 cls acc var prio2 gm steps utc s
  | .ptpAnnounceTimeout t port k => Sys2Proof.Machine.execPtpAnnounceTimeout t port k s
  | .ptpManagementGet t port num id get => Sys2Proof.Machine.execPtpManagementGet t port num id get s
  | .ptpSyncInterval t port k => Sys2Proof.Machine.execPtpSyncInterval t port k s
  | .ptpAnnounceInterval t port k => Sys2Proof.Machine.execPtpAnnounceInterval t port k s
  | .ptpDelayReqInterval t port k => Sys2Proof.Machine.execPtpDelayReqInterval t port k s
  | .ptpTxTimestamp t port k type seq fine ptp => Sys2Proof.Machine.execPtpTxTimestamp t port k type seq fine ptp s
  | .ptSnap t value => Sys2Proof.Machine.execPtSnap t value s
  | .pqAck port value => Sys2Proof.Machine.execPqAck port value s
  | .pqLostAck port value => Sys2Proof.Machine.execPqLostAck port value s
  | .pdScaleWrite t k incr off => Sys2Proof.Machine.execPdScaleWrite t k incr off s
  | .ptActAdjSettle t => Sys2Proof.Machine.execPtActAdjSettle t s
  | .ipPacketReceive t p => Sys2Proof.Machine.execIpPacketReceive t p s
  | .ipLegDown t aud flow leg => Sys2Proof.Machine.execIpLegDown t aud flow leg s
  | .ipLegUp t aud flow leg => Sys2Proof.Machine.execIpLegUp t aud flow leg s
  | .ipFlowQualify t aud flow => Sys2Proof.Machine.execIpFlowQualify t aud flow s
  | .ipJoinTimeout t aud flow => Sys2Proof.Machine.execIpJoinTimeout t aud flow s
  | .ipSendPacket t aud anc index => Sys2Proof.Machine.execIpSendPacket t aud anc index s
  | .macFrameReceive t port f => Sys2Proof.Machine.execMacFrameReceive t port f s
  | .macFrameTransmit t port arrived => Sys2Proof.Machine.execMacFrameTransmit t port arrived s
  | .macLinkUp t port speedOk => Sys2Proof.Machine.execMacLinkUp t port speedOk s
  | .macLinkDown t port why => Sys2Proof.Machine.execMacLinkDown t port why s
  | .mcSleepWrite t port value => Sys2Proof.Machine.execMcSleepWrite t port value s
  | .sleepDrainDone t port => Sys2Proof.Machine.execSleepDrainDone t port s
  | .wakingExpiry t port => Sys2Proof.Machine.execWakingExpiry t port s
  | .preemptVerifyTimer t port => Sys2Proof.Machine.execPreemptVerifyTimer t port s
  | .gateCycleStart t port => Sys2Proof.Machine.execGateCycleStart t port s
  | .lpiEnter t port quiet => Sys2Proof.Machine.execLpiEnter t port quiet s
  | .audioSampleTick t ins st337 => Sys2Proof.Machine.execAudioSampleTick t ins st337 s
  | .fernBlockStart t core lost => Sys2Proof.Machine.execFernBlockStart t core lost s
  | .fcRestart core value => Sys2Proof.Machine.execFcRestart core value s
  | .fpLenWrite core ptr value => Sys2Proof.Machine.execFpLenWrite core ptr value s
  | .nop t core => Sys2Proof.Machine.execNop t core s
  | .mpy4 t core => Sys2Proof.Machine.execMpy4 t core s
  | .mac4 t core => Sys2Proof.Machine.execMac4 t core s
  | .msu4 t core => Sys2Proof.Machine.execMsu4 t core s
  | .clr4 t core => Sys2Proof.Machine.execClr4 t core s
  | .ld4 t core => Sys2Proof.Machine.execLd4 t core s
  | .st4 t core => Sys2Proof.Machine.execSt4 t core s
  | .stx4 t core => Sys2Proof.Machine.execStx4 t core s
  | .ext4 t core => Sys2Proof.Machine.execExt4 t core s
  | .ld1 t core => Sys2Proof.Machine.execLd1 t core s
  | .st1 t core => Sys2Proof.Machine.execSt1 t core s
  | .fernSramAccessDone t core cycles => Sys2Proof.Machine.execFernSramAccessDone t core cycles s
  | .mov4 t core => Sys2Proof.Machine.execMov4 t core s
  | .add t core => Sys2Proof.Machine.execAdd t core s
  | .sub t core => Sys2Proof.Machine.execSub t core s
  | .and_ t core => Sys2Proof.Machine.execAnd t core s
  | .or_ t core => Sys2Proof.Machine.execOr t core s
  | .xor t core => Sys2Proof.Machine.execXor t core s
  | .shl t core => Sys2Proof.Machine.execShl t core s
  | .shr t core => Sys2Proof.Machine.execShr t core s
  | .ldi t core => Sys2Proof.Machine.execLdi t core s
  | .setp t core => Sys2Proof.Machine.execSetp t core s
  | .loop t core => Sys2Proof.Machine.execLoop t core s
  | .rloop t core => Sys2Proof.Machine.execRloop t core s
  | .br t core => Sys2Proof.Machine.execBr t core s
  | .setwb t core => Sys2Proof.Machine.execSetwb t core s
  | .stat t core => Sys2Proof.Machine.execStat t core s
  | .end_ t core => Sys2Proof.Machine.execEnd t core s
  | .tdmMasterFrameStart t port pins => Sys2Proof.Machine.execTdmMasterFrameStart t port pins s
  | .tdmSlaveFrameReceived t port f => Sys2Proof.Machine.execTdmSlaveFrameReceived t port f s
  | .tdmClockDetect t port => Sys2Proof.Machine.execTdmClockDetect t port s
  | .tdmClockStop t port => Sys2Proof.Machine.execTdmClockStop t port s
  | .tdmZcTimeout t port => Sys2Proof.Machine.execTdmZcTimeout t port s
  | .tdmTriggerWrite t order dom data => Sys2Proof.Machine.execTdmTriggerWrite t order dom data s
  | .tdmStart t port => Sys2Proof.Machine.execTdmStart t port s
  | .tdmStop t port => Sys2Proof.Machine.execTdmStop t port s
  | .proxySurfaceComplete t gen uncorr => Sys2Proof.Machine.execProxySurfaceComplete t gen uncorr s
  | .busRead t master id qos addr beats fate => Sys2Proof.Machine.execBusRead t master id qos addr beats fate s
  | .busWrite t master id qos addr beats fate => Sys2Proof.Machine.execBusWrite t master id qos addr beats fate s
  | .busTimeout t master id => Sys2Proof.Machine.execBusTimeout t master id s
  | .masterReset t master => Sys2Proof.Machine.execMasterReset t master s
  | .busMasterDrain t master => Sys2Proof.Machine.execBusMasterDrain t master s
  | .sysRemapWrite t master value => Sys2Proof.Machine.execSysRemapWrite t master value s
  | .sysRemapSwitch t => Sys2Proof.Machine.execSysRemapSwitch t s
  | .secClaimGo t sess value v => Sys2Proof.Machine.execSecClaimGo t sess value v s
  | .secDebugToken t sess v => Sys2Proof.Machine.execSecDebugToken t sess v s
  | .updateOpen m o => Sys2Proof.Machine.execUpdateOpen m o s
  | .updateBlock m img index crcOk => Sys2Proof.Machine.execUpdateBlock m img index crcOk s
  | .nvmBlockWritten t img index => Sys2Proof.Machine.execNvmBlockWritten t img index s
  | .updateVerify m targets fw cfg => Sys2Proof.Machine.execUpdateVerify m targets fw cfg s
  | .updateActivate m targets => Sys2Proof.Machine.execUpdateActivate m targets s
  | .updateConfirm m targets => Sys2Proof.Machine.execUpdateConfirm m targets s
  | .updateAbort m targets => Sys2Proof.Machine.execUpdateAbort m targets s
  | .updateLockIdleTimeout t => Sys2Proof.Machine.execUpdateLockIdleTimeout t s
  | .updateHealthTimeout t => Sys2Proof.Machine.execUpdateHealthTimeout t s
  | .updateWindowExpiry t => Sys2Proof.Machine.execUpdateWindowExpiry t s
  | .relayOffer t sender o ok => Sys2Proof.Machine.execRelayOffer t sender o ok s
  | .relayBlocks t sender img first crcs ok => Sys2Proof.Machine.execRelayBlocks t sender img first crcs ok s
  | .relayCommand t sender op fw cfg ok => Sys2Proof.Machine.execRelayCommand t sender op fw cfg ok s
  | .relayAnswer t sender status subtype missing ok => Sys2Proof.Machine.execRelayAnswer t sender status subtype missing ok s
  | .relayResendTimeout t node => Sys2Proof.Machine.execRelayResendTimeout t node s
  | .vinRangeChange t vin => Sys2Proof.Machine.execVinRangeChange t vin s
  | .thermalSample t vin iin pin tcase tj => Sys2Proof.Machine.execThermalSample t vin iin pin tcase tj s
  | .thermalTrip t => Sys2Proof.Machine.execThermalTrip t s
  | .tripRecovery t => Sys2Proof.Machine.execTripRecovery t s
  | .clearFaults t => Sys2Proof.Machine.execClearFaults t s
  | .statusByte t => Sys2Proof.Machine.execStatusByte t s
  | .statusWord t => Sys2Proof.Machine.execStatusWord t s
  | .statusInput t => Sys2Proof.Machine.execStatusInput t s
  | .statusTemperature t => Sys2Proof.Machine.execStatusTemperature t s
  | .readVin t => Sys2Proof.Machine.execReadVin t s
  | .readIin t => Sys2Proof.Machine.execReadIin t s
  | .readPin t => Sys2Proof.Machine.execReadPin t s
  | .readTemperature1 t => Sys2Proof.Machine.execReadTemperature1 t s
  | .readTemperature2 t => Sys2Proof.Machine.execReadTemperature2 t s
  | .pmbusRevision t => Sys2Proof.Machine.execPmbusRevision t s
  | .mfrId t => Sys2Proof.Machine.execMfrId t s
  | .mfrModel t => Sys2Proof.Machine.execMfrModel t s
  | .pmbusUnsupported t cmd => Sys2Proof.Machine.execPmbusUnsupported t cmd s
  | .smbusAlertResponse t => Sys2Proof.Machine.execSmbusAlertResponse t s
  | .refSlewDone t => Sys2Proof.Machine.execRefSlewDone t s
  | .ref10mPresent t n => Sys2Proof.Machine.execRef10mPresent t n s
  | .lichenCommaReceive t => Sys2Proof.Machine.execLichenCommaReceive t s
  | .prbsCheckerLock t lane locked compared errs => Sys2Proof.Machine.execPrbsCheckerLock t lane locked compared errs s
  | .partnerLowPowerIdle t port enters => Sys2Proof.Machine.execPartnerLowPowerIdle t port enters s

end Sys2Proof.Machine
end

