-- ==== Sys2Proof/WellFormed.lean ====
section
/-! DEFINITION. Well-formed commands: every index names an object that the spec gives a place, every number fits the field that carries it. A
meaning does not rest on this check: it is total on any operand (log 40). -/
set_option Elab.async false
namespace Sys2Proof

/-- Lanes L000 to L255, LC0, LC1, LSV (R490). -/
def laneOk (n : Nat) : Bool := decide (n < 259)
/-- Ports E000 to E255, C0, C1, SVC (R206). -/
def portOk (n : Nat) : Bool := decide (n < 259)
/-- Control ports that carry sessions: C0, C1, SVC (R375). -/
def ctlOk (n : Nat) : Bool := decide (n < 3)
/-- Fabric links (R3). -/
def linkOk (n : Nat) : Bool := decide (n < 256)
/-- Ports and positions of one module (R3). -/
def outOk (n : Nat) : Bool := decide (n < 256)
/-- Router inputs and outputs (R21). -/
def routerOk (n : Nat) : Bool := decide (n < 4096)
/-- Fern cores (R239). -/
def coreOk (n : Nat) : Bool := decide (n < 32)
/-- Pointer registers of a core (R239). -/
def ptrOk (n : Nat) : Bool := decide (n < 8)
/-- Quads of lanes (R473). -/
def quadOk (n : Nat) : Bool := decide (n < 64)
/-- Raster domains (R41). -/
def domOk (n : Nat) : Bool := decide (n < 8)
/-- Reference entries (R292). -/
def entryOk (n : Nat) : Bool := decide (n < 8)
/-- Reference inputs (R290). -/
def refOk (n : Nat) : Bool := decide (n < 11)
/-- TDM ports (R288). -/
def tdmOk (n : Nat) : Bool := decide (n < 16)
/-- Proxy generators (R337). -/
def genOk (n : Nat) : Bool := decide (n < 256)
/-- One of two: PTP domains, legs, pulse outputs, images. -/
def twoOk (n : Nat) : Bool := decide (n < 2)
/-- Receive flows: video positions, or audio flows (R180). -/
def flowOk (aud : Bool) (n : Nat) : Bool := if aud then decide (n < 512) else decide (n < 256)
/-- Session slots, and 64 for the relay (R376, R457). -/
def sessOk (n : Nat) : Bool := decide (n < 34) || n == 64
/-- Nodes (R19). -/
def nodeOk (n : Nat) : Bool := decide (n < 64)
/-- Order numbers (R95). -/
def orderOk (n : Nat) : Bool := decide (n < 2 ^ 48)
/-- A mask of nodes (R461). -/
def maskOk (n : Nat) : Bool := decide (n < 2 ^ 64)
/-- Bus masters (R402). -/
def masterOk (n : Nat) : Bool := decide (n < 10)
/-- Addresses of the 40-bit bus (R12). -/
def addrOk (n : Nat) : Bool := decide (n < 2 ^ 40)
/-- Lines of GPI and GPO (R397). -/
def gpioOk (n : Nat) : Bool := decide (n < 32)
/-- Words of the event latch (R394). -/
def wordOk (n : Nat) : Bool := decide (n < 32)

/-- A stamp fits its Spore (R45). -/
def Stamp.wf (x : Stamp) : Bool := decide (x.frame < 2 ^ 48) && decide (x.line < 2 ^ 12) && decide (x.dom < 8)
/-- A record fits its head Spore (R95). -/
def Rec.wf (r : Rec) : Bool := orderOk r.order && nodeOk r.sender && decide (r.target < 128) && decide (r.kind < 256) && r.stamp.wf
/-- A cell's fields fit its bytes (R86). -/
def Cell.wf (c : Cell) : Bool :=
  decide (c.cls < 4) && decide (c.plane < 2) && decide (c.ver < 2) && decide (c.slot < 4) && decide (c.sub < 8) && decide (c.fmt < 8) &&
    decide (c.stream < 2 ^ 16) && decide (c.seq < 2 ^ 16) && decide (c.crc < 2 ^ 16) && decide (c.spore < 2 ^ 64) && decide (c.payload < 2 ^ 4096)
/-- A full cell's payload is 512 bytes (R88). -/
def readyOk (r : Option CellReady) : Bool := match r with | some x => decide (x.payload < 2 ^ 4096) | none => true
/-- Spores are 64 bits (R95). -/
def sporesOk (xs : List Nat) : Bool := xs.all fun x => decide (x < 2 ^ 64)
/-- A message names a session slot, or the relay. -/
def Msg.wf (m : Msg) : Bool := sessOk m.sess && decide (m.seq < 2 ^ 32)
/-- A destination of a TAKE or SALVO (R385). -/
def Dest.wf (d : Dest) : Bool := routerOk d.dest && decide (d.src < 2 ^ 12)
/-- A SALVO's destinations (R122). -/
def destsOk (ds : List Dest) : Bool := ds.all Dest.wf
/-- Node straps are six bits (R20). -/
def PowerPins.wf (p : PowerPins) : Bool := decide (p.nid < 64)
/-- An offer's lengths and versions fit their fields (R461). -/
def Offer.wf (o : Offer) : Bool := decide (o.fwLen < 2 ^ 32) && decide (o.cfgLen < 2 ^ 32) && decide (o.fwSvn < 256) && decide (o.cfgSvn < 256)

/-- The command is well formed. -/
def Instr.wf : Instr → Bool
  | .powerGoodRise _ pins => pins.wf
  | .powerGoodFall _ _ => true
  | .rstNRelease _ _ => true
  | .start _ => true
  | .sysRestartWrite _ _ => true
  | .commandedRestart _ => true
  | .registerWrite _ addr _ => addrOk addr
  | .counterClearWrite _ addr _ => addrOk addr
  | .open_ _ port _ => ctlOk port
  | .confirm _ sess _ => sessOk sess
  | .sessionConfirmTimeout _ sess => sessOk sess
  | .close m => m.wf
  | .sessionIdleTimeout _ sess => sessOk sess
  | .messagePartTimeout _ sess => sessOk sess
  | .take m req d => m.wf && req.wf && d.wf
  | .salvo m req _ ds => m.wf && req.wf && destsOk ds
  | .lock m req _ _ _ _ => m.wf && req.wf
  | .realign m req _ => m.wf && req.wf
  | .write m req node addr _ _ => m.wf && req.wf && nodeOk node && addrOk addr
  | .audioAction m req node _ _ => m.wf && req.wf && nodeOk node
  | .svcDirectWrite m addr _ _ _ => m.wf && addrOk addr
  | .read m addr _ => m.wf && addrOk addr
  | .queryLatency m srcNode _ dstNode _ => m.wf && nodeOk srcNode && nodeOk dstNode
  | .queryNode m _ _ _ => m.wf
  | .querySdp m _ _ => m.wf
  | .queryClampReport m _ => m.wf
  | .subscribe m _ => m.wf
  | .eventAck m _ => m.wf
  | .heartbeat m => m.wf
  | .eventSend _ sess => sessOk sess
  | .eventResendTimeout _ sess => sessOk sess
  | .eqAck _ => true
  | .epLatchClear word _ => wordOk word
  | .gpiChange _ line _ => gpioOk line
  | .gpoPulseStart _ => true
  | .gpoPulseEnd _ line => gpioOk line
  | .orderedRecordArrival _ r _ => r.wf
  | .replayRepeat _ => true
  | .gapTimeout _ => true
  | .replayReq _ sender _ _ => nodeOk sender
  | .replayAns _ sender _ _ _ => nodeOk sender
  | .ordResyncReq _ => true
  | .image _ sender k stamp _ _ => nodeOk sender && orderOk k && stamp.wf
  | .stateImageLoad _ => true
  | .joinSend _ => true
  | .join _ node _ _ _ => nodeOk node
  | .joinAnswer _ sender _ _ => nodeOk sender
  | .occupancy _ node applied _ _ => nodeOk node && orderOk applied
  | .fabFrameCountReceive _ _ => true
  | .frameCountSlip _ => true
  | .rasterFrameStart _ dom _ => domOk dom
  | .cleanSwitchPoint _ dom _ => domOk dom
  | .pathRelease _ src out => routerOk src && routerOk out
  | .immediateTakeExecute _ _ => true
  | .voOffsetWrite out _ => outOk out
  | .laneSignalDetect _ lane => laneOk lane
  | .laneSignalLoss _ lane => laneOk lane
  | .laneCdrLock _ lane _ _ _ => laneOk lane
  | .laneAcquireTimeout _ lane => laneOk lane
  | .laneCdrLoss _ lane => laneOk lane
  | .laneAligned _ lane => laneOk lane
  | .laneAlignLoss _ lane _ => laneOk lane
  | .sdiFrameReceived _ input _ => outOk input
  | .sdiRateMeasure _ input _ => outOk input
  | .flEnableWrite _ link _ => linkOk link
  | .linkCellLock _ link => linkOk link
  | .linkBerWindow _ link _ _ _ => linkOk link
  | .linkFailed _ link => linkOk link
  | .linkHolddownExpiry _ link => linkOk link
  | .linkNewPathsOpen _ link => linkOk link
  | .challenge _ link node _ _ => linkOk link && nodeOk node
  | .chain _ link _ => linkOk link
  | .proof _ link _ _ => linkOk link
  | .result _ link _ => linkOk link
  | .admissionTimeout _ link => linkOk link
  | .refInputLost _ input => refOk input
  | .refInputPresent _ input => refOk input
  | .refYMeasure _ entry _ _ => entryOk entry
  | .refQualifyTimer _ entry => entryOk entry
  | .refSelectEval _ _ => true
  | .refStartWaitExpiry _ => true
  | .refEmberHoldExpiry _ => true
  | .refSlewDone _ => true
  | .ref10mLoss _ n => twoOk n
  | .ref10mPresent _ n => twoOk n
  | .realignSlewDone _ => true
  | .pulseOutput _ out => twoOk out
  | .ptpSyncReceive _ port _ _ _ _ _ => portOk port
  | .ptpFollowUpReceive _ port _ _ _ => portOk port
  | .ptpDelayReqReceive _ port _ _ _ => portOk port
  | .ptpDelayRespReceive _ port _ _ _ => portOk port
  | .ptpAnnounceReceive _ port _ _ _ _ _ _ _ _ _ _ => portOk port
  | .ptpAnnounceTimeout _ port k => portOk port && twoOk k
  | .ptpManagementGet _ port _ _ _ => portOk port
  | .ptpSyncInterval _ port k => portOk port && twoOk k
  | .ptpAnnounceInterval _ port k => portOk port && twoOk k
  | .ptpDelayReqInterval _ port k => portOk port && twoOk k
  | .ptpTxTimestamp _ port k _ _ _ _ => portOk port && twoOk k
  | .ptSnap _ _ => true
  | .pqAck port _ => portOk port
  | .pqLostAck port _ => portOk port
  | .pdScaleWrite _ k _ _ => twoOk k
  | .ptActAdjSettle _ => true
  | .macFrameReceive _ port _ => portOk port
  | .macFrameTransmit _ port _ => portOk port
  | .macLinkUp _ port _ => portOk port
  | .macLinkDown _ port _ => portOk port
  | .mcSleepWrite _ port _ => portOk port
  | .sleepDrainDone _ port => portOk port
  | .wakingExpiry _ port => portOk port
  | .preemptVerifyTimer _ port => portOk port
  | .gateCycleStart _ port => portOk port
  | .lpiEnter _ port _ => portOk port
  | .partnerLowPowerIdle _ port _ => portOk port
  | .laneTxFault _ lane => laneOk lane
  | .laneTxResume _ lane _ => laneOk lane
  | .quadClockLoss _ quad => quadOk quad
  | .lnTxRetry _ lane _ => laneOk lane
  | .lnPrbsTx _ lane _ => laneOk lane
  | .lnInjGo _ lane _ => laneOk lane
  | .lnEsGo _ lane _ => laneOk lane
  | .eyeScanDone _ lane _ => laneOk lane
  | .prbsCheckerLock _ lane _ _ _ => laneOk lane
  | .tdmMasterFrameStart _ port _ => tdmOk port
  | .tdmSlaveFrameReceived _ port _ => tdmOk port
  | .tdmClockDetect _ port => tdmOk port
  | .tdmClockStop _ port => tdmOk port
  | .tdmZcTimeout _ port => tdmOk port
  | .tdmTriggerWrite _ order dom _ => orderOk order && domOk dom
  | .tdmStart _ port => tdmOk port
  | .tdmStop _ port => tdmOk port
  | .fernBlockStart _ core _ => coreOk core
  | .fcRestart core _ => coreOk core
  | .fpLenWrite core ptr _ => coreOk core && ptrOk ptr
  | .nop _ core => coreOk core
  | .mpy4 _ core => coreOk core
  | .mac4 _ core => coreOk core
  | .msu4 _ core => coreOk core
  | .clr4 _ core => coreOk core
  | .ld4 _ core => coreOk core
  | .st4 _ core => coreOk core
  | .stx4 _ core => coreOk core
  | .ext4 _ core => coreOk core
  | .ld1 _ core => coreOk core
  | .st1 _ core => coreOk core
  | .fernSramAccessDone _ core _ => coreOk core
  | .mov4 _ core => coreOk core
  | .add _ core => coreOk core
  | .sub _ core => coreOk core
  | .and_ _ core => coreOk core
  | .or_ _ core => coreOk core
  | .xor _ core => coreOk core
  | .shl _ core => coreOk core
  | .shr _ core => coreOk core
  | .ldi _ core => coreOk core
  | .setp _ core => coreOk core
  | .loop _ core => coreOk core
  | .rloop _ core => coreOk core
  | .br _ core => coreOk core
  | .setwb _ core => coreOk core
  | .stat _ core => coreOk core
  | .end_ _ core => coreOk core
  | .audioSampleTick _ _ _ => true
  | .fabricCellSend _ link r => linkOk link && readyOk r
  | .fabricCellReceive _ link c => linkOk link && c.cell.wf
  | .creditSend _ link _ _ => linkOk link
  | .fabricDeliveryMoment _ out src seq => outOk out && decide (src < 4096) && decide (seq < 2 ^ 16)
  | .ipPacketReceive _ p => flowOk p.aud p.flow && twoOk p.leg
  | .ipLegDown _ aud flow leg => flowOk aud flow && twoOk leg
  | .ipLegUp _ aud flow leg => flowOk aud flow && twoOk leg
  | .ipFlowQualify _ aud flow => flowOk aud flow
  | .ipJoinTimeout _ aud flow => flowOk aud flow
  | .ipSendPacket _ _ _ _ => true
  | .proxySurfaceComplete _ gen _ => genOk gen
  | .heartbeatSend _ => true
  | .heartbeatCheck _ => true
  | .heartbeatReceive _ sender _ _ _ _ => nodeOk sender
  | .ack _ sender upTo _ => nodeOk sender && orderOk upTo
  | .standbyRecordStore _ r _ => r.wf
  | .standbyResend _ => true
  | .lichenFrameReceive _ f => sporesOk f.spores && decide (f.crc < 2 ^ 32)
  | .lichenCommaReceive _ => true
  | .lichenCommaTimeout _ => true
  | .listenTimeout _ => true
  | .fenceExpiry _ => true
  | .takebackOrder _ => true
  | .rdRearm _ _ => true
  | .managerBeatLoss _ => true
  | .busRead _ master _ _ addr _ _ => masterOk master && addrOk addr
  | .busWrite _ master _ _ addr _ _ => masterOk master && addrOk addr
  | .busTimeout _ master _ => masterOk master
  | .masterReset _ master => masterOk master
  | .busMasterDrain _ master => masterOk master
  | .sysRemapWrite _ master _ => masterOk master
  | .sysRemapSwitch _ => true
  | .secClaimGo _ sess _ _ => sessOk sess
  | .secDebugToken _ sess _ => sessOk sess
  | .updateOpen m o => m.wf && o.wf
  | .updateBlock m img _ _ => m.wf && twoOk img
  | .nvmBlockWritten _ img _ => twoOk img
  | .updateVerify m targets _ _ => m.wf && maskOk targets
  | .updateActivate m targets => m.wf && maskOk targets
  | .updateConfirm m targets => m.wf && maskOk targets
  | .updateAbort m targets => m.wf && maskOk targets
  | .updateLockIdleTimeout _ => true
  | .updateHealthTimeout _ => true
  | .updateWindowExpiry _ => true
  | .relayOffer _ sender o _ => nodeOk sender && o.wf
  | .relayBlocks _ sender img _ _ _ => nodeOk sender && twoOk img
  | .relayCommand _ sender _ _ _ _ => nodeOk sender
  | .relayAnswer _ sender _ _ _ _ => nodeOk sender
  | .relayResendTimeout _ node => nodeOk node
  | .vinRangeChange _ _ => true
  | .thermalSample _ _ _ _ _ _ => true
  | .thermalTrip _ => true
  | .tripRecovery _ => true
  | .clearFaults _ => true
  | .statusByte _ => true
  | .statusWord _ => true
  | .statusInput _ => true
  | .statusTemperature _ => true
  | .readVin _ => true
  | .readIin _ => true
  | .readPin _ => true
  | .readTemperature1 _ => true
  | .readTemperature2 _ => true
  | .pmbusRevision _ => true
  | .mfrId _ => true
  | .mfrModel _ => true
  | .pmbusUnsupported _ _ => true
  | .smbusAlertResponse _ => true

end Sys2Proof
end

