-- ==== Sys2Proof/Safety.lean ====
section
/-! DEFINITION. What counts as a sound state, in the terms the statements use: stores in their one canonical form, every register inside its
width and its object, every queue within the length that the spec gives it. -/
set_option Elab.async false
namespace Sys2Proof.Machine

/-- Memory is in canonical form: addresses rise strictly, and no byte equal to what an unlisted address reads as is listed (log 6). -/
def Memory.wf (m : List Host.Cell) : Bool := SMap.sorted m && SMap.lean (0 : Byte) m

/-- The stores of registers, quantities, timers and the manager's model have rising keys. -/
def State.stores (s : State) : Bool :=
  SMap.sorted s.regs && SMap.sorted s.qty && SMap.lean (0 : Int) s.qty && SMap.sorted s.timers
    && SMap.sorted s.vOuts && SMap.sorted s.vFields && SMap.sorted s.cfgRegs && SMap.sorted s.vApplied && SMap.sorted s.vOpen

/-- Every queue is within the length that the spec gives it: firmware's events (R393), the clamp report (R447), sessions (R375), buffered
records (R31, R35), the actions held for replay (R29), owner digests (R422). -/
def State.bounded (s : State) : Bool :=
  decide (s.evq.length ≤ 256) && decide (s.clampReport.length ≤ 4096) && decide (s.sessions.length ≤ 34) && decide (s.buf.length ≤ 256)
    && decide (s.hist.length ≤ 256) && decide (s.owners.length ≤ 4)

/-- Every register holds a number that its field can hold. -/
def State.fits (s : State) : Prop := ∀ f i j, s.rd f i j < 2 ^ f.desc.width

/-- A state that the statements speak of. -/
def State.wf (s : State) : Bool := s.stores && Memory.wf s.mem && s.bounded

/-- The fields in which an event shows (R391 to R394). -/
def eventFields : List Fld := [.EQ_COUNT, .EQ_HEAD, .EQ_LOST, .EP_LATCH, .EP_PINS, .TS_EVQ_FILL, .TS_EVQ_LOST]

/-- From `s` to `u`, no register but those of the listed fields, and those in which an event shows, has changed. -/
def State.only (fs : List Fld) (s u : State) : Prop := ∀ f i j, f ∉ fs → f ∉ eventFields → u.rd f i j = s.rd f i j

/-- From `s` to `u`, no register but the listed fields of object `k`, and those in which an event shows, has changed. -/
def State.onlyAt (k : Nat) (fs : List Fld) (s u : State) : Prop := ∀ f i j, f ∉ fs ∨ i ≠ k → f ∉ eventFields → u.rd f i j = s.rd f i j

/-- From `s` to `u`, no register outside the listed blocks of the object map has changed. -/
def State.outside (bs : List Nat) (s u : State) : Prop := ∀ f i j, blockOf f.desc.addr ∉ bs → u.rd f i j = s.rd f i j

/-- The state when time has reached `t`. -/
def State.since (s : State) (t : Nat) : State := { s with now := max s.now t }

/-- The latch bit of an event is set (R394). -/
def State.latched (s : State) (e : Ev) : Bool := bit (s.rd .EP_LATCH (e.num / 32)) (e.num % 32)

/-- A datagram with one whole message is taken (R378 to R380): its session is open, its tag verifies, the bucket holds a token, and its sequence
number is one that the session accepts and has not answered, with no part of it missing. -/
def State.takes (s : State) (m : Msg) : Bool :=
  match s.session m.sess with
  | none => false
  | some x => decide (m.sess < 34) && s.rd .TS_STATE m.sess == 2 && m.tagOk && decide (token ≤ x.fill (max s.now m.t)) &&
      (x.answers.all fun a => a.seq != m.seq) && decide (m.seq < 0xFFFFFFFF) && x.fresh (s.rd .TS_SEQ_RX m.sess) m.seq && !m.more && s.partsIn x m

/-- What a message that is taken leaves when nothing further comes of it: time, its session's sequence numbers and timers (R375, R378 to R380). -/
def State.met (s : State) (m : Msg) : State := s.apply ((all [at_ m.t, received m skip]) s)

/-- A taken ordering message of a session with privilege `priv` reaches the active manager, in order (R27, R381): a claimed module, on C0 or C1,
that is the manager and has no partner whose acknowledgement an action would wait for. -/
def State.orders (s : State) (m : Msg) (priv : Nat) : Bool :=
  s.takes m && !s.claimOnly m.sess && !s.onSvc m.sess && s.isManager && bit (s.rd .TS_PRIV m.sess) priv && s.rd .RD_ROLE != 1

/-- The ANSWERs that have left the module, oldest first (R383). -/
def State.answers (s : State) : List Answer := s.out.filterMap fun m => match m with | .answer a => some a | _ => none

/-- The records that have left the module, oldest first: on the Lichen link (true) or given to the fabric. -/
def State.records (s : State) : List (Bool × Rec) := s.out.filterMap fun m => match m with | .record l r => some (l, r) | _ => none

end Sys2Proof.Machine
end

