-- ==== Sys2Proof/Certificates/Slice0/Obligations.lean ====
section
/-! DEFINITION. What is claimed of the model: the statements that the provers settle. -/
open Sys2Proof Sys2Proof.Machine

/-- O1. For every command c, every list of waiting commands and every state, step with c at the front of the queue is exec of c on the state whose queue is the rest. With nothing waiting the step answers the state itself (the model's choice, log 1). -/
def Obligations.StepCarriesOutFrontCommand : Prop :=
  (∀ (c : Instr) (rest : List Instr) (s : State),
    Sys2Proof.Machine.step { s with pending := c :: rest } = Sys2Proof.Machine.exec c { s with pending := rest })
  ∧ ∀ s : State, s.pending = [] → Sys2Proof.Machine.step s = .next s

/-- O2. For every command c and every state s, exec c s answers a next state u; the queue of u is that of s, time has not gone back, and everything that had left the module is still the beginning of what has left it. (That no command stops is the model's reading: what the spec calls a fault of this hardware is a state it enters.) -/
def Obligations.CommandsGoOnAndKeepTheQueue : Prop :=
  ∀ (c : Instr) (s : State), ∃ u, Sys2Proof.Machine.exec c s = .next u ∧ u.pending = s.pending ∧ s.now ≤ u.now ∧ s.out <+: u.out

/-- O3. From every state that is sound (registers, quantities and timers under strictly rising keys; memory in its canonical form; at most 256 events in firmware's queue, 4,096 clamp report entries, 34 sessions, 256 buffered records, 256 actions held for replay, 4 owner digests), a step that answers a next state answers a sound one. -/
def Obligations.SoundStateIsKept : Prop :=
  ∀ s u : State, s.wf = true → Sys2Proof.Machine.step s = .next u → u.wf = true

/-- O4. State.reset is sound, every register in it holds a number that fits its field, no command waits, and no byte of memory is listed (what an unlisted byte reads as is the model's choice, log 6). -/
def Obligations.ResetStateIsSound : Prop :=
  State.reset.wf = true ∧ State.reset.fits ∧ State.reset.pending = [] ∧ State.reset.mem = []

/-- O5. From every sound state in which every copy of every object-map field holds a number below two to the power of the field's width, a step that answers a next state answers one in which this holds again: no command stores a value that its field cannot hold. -/
def Obligations.RegistersFitTheirFields : Prop :=
  ∀ s u : State, s.wf = true → s.fits → Sys2Proof.Machine.step s = .next u → u.fits

/-- O6. For every command and every sound state, the owner digests burnt before are the first of those burnt after it, and there are never more than four. -/
def Obligations.OwnersAreOnlyAdded : Prop :=
  ∀ (c : Instr) (s u : State), s.wf = true → Sys2Proof.Machine.exec c s = .next u → s.owners <+: u.owners ∧ u.owners.length ≤ 4

/-- O7. In a sound state, after a number is stored as n bytes from address a, the n bytes from a read back as the number modulo 256 to the n, every byte outside them reads as before, and memory is in canonical form again. -/
def Obligations.StoredByteReadsBack : Prop :=
  ∀ (s : State) (a v n : Nat), s.wf = true →
    (s.apply (storeLE a v n s)).loadLE a n = v % 256 ^ n
    ∧ (∀ b, b < a ∨ a + n ≤ b → (s.apply (storeLE a v n s)).peek b = s.peek b)
    ∧ Memory.wf (s.apply (storeLE a v n s)).mem = true

/-- O8. On a module that runs, a record whose tag fails is counted in FAB_TAG_FAILS, one of another sender than the active manager in RD_STALE_RECORDS, and neither moves the order stream. In IN_ORDER with nothing buffered: the next number sets ORD_APPLIED, at once where it does nothing here, and a LOCK of an output here on time becomes the one pending action at its frame start, or is refused as too late and counted; a number up to 255 further on is buffered, GAP is entered with 64 ms and 1 ms running, ORD_GAPS adds 1 and ORDER_GAP is latched, and ORD_APPLIED stays; one further still enters ORDER_LOST, or with ORD_RESYNC_AUTO asks for resynchronisation at once; an earlier number counts as a duplicate; the clauses about numbers ahead are about records other than a WRITE of ORD_RESYNC_AUTO or ORD_RESYNC_REQ. In ORDER_LOST the next record is discarded, unless it is a WRITE of those two fields: a WRITE of 1 to ORD_RESYNC_REQ requests resynchronisation. Memory is unchanged by each. -/
def Obligations.OrderedRecordsApplyInOrder : Prop :=
  ∀ (s : State) (t : Nat) (r : Rec), s.wf = true → s.fits → s.rd .SU_STATE = 3 → r.order < 2 ^ 48 → 1 ≤ r.order →
    let x := s.nextOrder
    let order (u : State) (st applied : Nat) (buf : List Rec) : Prop := u.rd .ORD_STATE = st ∧ u.rd .ORD_APPLIED = applied ∧ u.buf = buf ∧ u.mem = s.mem
    let seen := if later r.order (s.rd .ORD_SEEN) then r.order else s.rd .ORD_SEEN
    (∃ u, Sys2Proof.Machine.exec (.orderedRecordArrival t r false) s = .next u ∧ u.rd .FAB_TAG_FAILS = min (s.rd .FAB_TAG_FAILS + 1) 0xFFFFFFFF
        ∧ order u (s.rd .ORD_STATE) (s.rd .ORD_APPLIED) s.buf ∧ s.only [.FAB_TAG_FAILS] u ∧ u.out = s.out)
    ∧ (r.sender ≠ s.activeNode → ∃ u, Sys2Proof.Machine.exec (.orderedRecordArrival t r true) s = .next u
        ∧ u.rd .RD_STALE_RECORDS = min (s.rd .RD_STALE_RECORDS + 1) 0xFFFFFFFF
        ∧ order u (s.rd .ORD_STATE) (s.rd .ORD_APPLIED) s.buf ∧ s.only [.RD_STALE_RECORDS] u ∧ u.out = s.out)
    ∧ (r.sender = s.activeNode → s.rd .ORD_STATE = 1 → s.buf = [] →
      (r.order = x → s.itemsOf r = [] → ∃ u, Sys2Proof.Machine.exec (.orderedRecordArrival t r true) s = .next u ∧ order u 1 r.order []
          ∧ u.rd .ORD_SEEN = seen ∧ u.acts = s.acts ∧ s.only [.ORD_APPLIED, .ORD_SEEN] u ∧ u.out = s.out)
      ∧ (∀ (out mode holder : Nat) (fm : Format), r.order = x → r.kind = 3 → s.itemsOf r = [.lock out mode holder] → r.stamp.imm = false → r.stamp.line = 0 →
          s.domFormat r.stamp.dom = some fm → r.stamp.dom < 8 → s.acts = [] →
          ∃ u, Sys2Proof.Machine.exec (.orderedRecordArrival t r true) s = .next u ∧ order u 1 r.order []
            ∧ ((s.since t).house ≤ fm.frameStart r.stamp.frame →
                u.acts = [⟨r.order, r.kind, r.stamp, r.stamp.dom, r.stamp.frame, .frameStart, fm.frameStart r.stamp.frame, 0, 0, .lock out mode holder⟩]
                ∧ u.rd .SCHED_PENDING = 1 ∧ s.only [.ORD_APPLIED, .ORD_SEEN, .SCHED_PENDING, .SCHED_PENDING_PEAK] u)
            ∧ (fm.frameStart (r.stamp.frame + 2) < (s.since t).house → fm.frameStart (r.stamp.frame + 1) < (s.since t).house →
                fm.frameStart r.stamp.frame < (s.since t).house →
                u.acts = [] ∧ u.rd .ORD_REFUSED_LATE = min (s.rd .ORD_REFUSED_LATE + 1) 0xFFFFFFFF ∧ u.latched .ACTION_REFUSED_LATE = true
                ∧ s.only [.ORD_APPLIED, .ORD_SEEN, .ORD_REFUSED_LATE, .RD_REFUSED] u))
      ∧ (r.order ≠ x → later r.order x = true → orderDiff r.order x < 256 → orderWrite r = false →
          ∃ u, Sys2Proof.Machine.exec (.orderedRecordArrival t r true) s = .next u ∧ order u 2 (s.rd .ORD_APPLIED) [r]
            ∧ u.rd .ORD_GAPS = min (s.rd .ORD_GAPS + 1) 0xFFFFFFFF ∧ u.latched .ORDER_GAP = true ∧ u.timer .gap = some (max s.now t + 64 * psMs)
            ∧ u.timer .replay = some (max s.now t + psMs) ∧ s.only [.ORD_STATE, .ORD_SEEN, .ORD_GAPS] u)
      ∧ (r.order ≠ x → later r.order x = true → 256 ≤ orderDiff r.order x → orderWrite r = false →
          ∃ u, Sys2Proof.Machine.exec (.orderedRecordArrival t r true) s = .next u
            ∧ order u (if s.rd .ORD_RESYNC_AUTO = 1 then 4 else 3) (s.rd .ORD_APPLIED) [] ∧ u.rd .ORD_LOSSES = min (s.rd .ORD_LOSSES + 1) 0xFFFFFFFF
            ∧ u.latched .ORDER_LOST = true ∧ u.out = s.out ++ (if s.rd .ORD_RESYNC_AUTO = 1 then [.resyncReq s.activeNode] else [])
            ∧ s.only [.ORD_STATE, .ORD_SEEN, .ORD_LOSSES] u)
      ∧ (r.order ≠ x → later r.order x = false →
          ∃ u, Sys2Proof.Machine.exec (.orderedRecordArrival t r true) s = .next u ∧ order u 1 (s.rd .ORD_APPLIED) []
            ∧ u.rd .ORD_DUPLICATES = min (s.rd .ORD_DUPLICATES + 1) 0xFFFFFFFF ∧ s.only [.ORD_SEEN, .ORD_DUPLICATES] u ∧ u.out = s.out))
    ∧ (r.sender = s.activeNode → s.rd .ORD_STATE = 3 → r.order = x →
      (orderWrite r = false → ∃ u, Sys2Proof.Machine.exec (.orderedRecordArrival t r true) s = .next u
        ∧ order u 3 (s.rd .ORD_APPLIED) s.buf ∧ u.rd .ORD_SEEN = seen ∧ s.only [.ORD_SEEN] u ∧ u.out = s.out)
      ∧ (r.kind = 5 → r.body = [0x40000140 + 4 * 2 ^ 40, 1] → ∃ u, Sys2Proof.Machine.exec (.orderedRecordArrival t r true) s = .next u
        ∧ order u 4 (s.rd .ORD_APPLIED) s.buf ∧ u.rd .ORD_SEEN = seen ∧ s.only [.ORD_STATE, .ORD_SEEN] u ∧ u.out = s.out ++ [.resyncReq s.activeNode]))

/-- O9. In GAP, REPLAY_REPEAT at its time sends the requests again and changes no register; a module whose counter of R427 is spent sends none and asks for a new incarnation by a JOIN. GAP_TIMEOUT after 64 ms, and REPLAY_ANS of the active manager with GONE, enter ORDER_LOST (or ask for resynchronisation at once with ORD_RESYNC_AUTO), empty the buffer and count ORD_LOSSES; a REPLAY_ANS of another node counts as stale, one without GONE changes nothing. ORD_RESYNC_REQ = 1 in ORDER_LOST asks for resynchronisation; in any other state the write is refused and reported, and nothing else happens. A manager in a router answers REPLAY_REQ with the held records of the numbers asked for and then REPLAY_ANS, whose GONE says that one of them is held no longer; another module answers nothing. Memory is unchanged by each. -/
def Obligations.GapsAreReplayedOrLost : Prop :=
  ∀ (s : State) (t : Nat), s.wf = true → s.fits →
    let lost (u : State) : Prop := u.rd .ORD_STATE = (if s.rd .ORD_RESYNC_AUTO = 1 then 4 else 3) ∧ u.buf = [] ∧ u.rd .ORD_LOSSES = min (s.rd .ORD_LOSSES + 1) 0xFFFFFFFF
      ∧ u.latched .ORDER_LOST = true ∧ u.timer .gap = none ∧ u.timer .replay = none
      ∧ u.out = s.out ++ (if s.rd .ORD_RESYNC_AUTO = 1 then [.resyncReq s.activeNode] else []) ∧ s.only [.ORD_STATE, .ORD_LOSSES] u ∧ u.mem = s.mem
    (s.rd .ORD_STATE = 2 → (s.since t).due .replay = true →
      ∃ u sent, Sys2Proof.Machine.exec (.replayRepeat t) s = .next u ∧ u.out = s.out ++ sent ∧ u.regs = s.regs
        ∧ (s.counterSpent = false → s.q .msgCounter + s.missing.length ≤ 0x100000000 → sent.length = s.missing.length)
        ∧ (s.counterSpent = true → sent = [] ∧ (s.missing ≠ [] → (u.timer .joinSend).isSome = true))
        ∧ u.timer .replay = some (max s.now t + psMs) ∧ u.mem = s.mem)
    ∧ (s.rd .ORD_STATE = 2 → (s.since t).due .gap = true → ∃ u, Sys2Proof.Machine.exec (.gapTimeout t) s = .next u ∧ lost u)
    ∧ (∀ first count : Nat, s.rd .ORD_STATE = 2 → 0 < count → first < 2 ^ 48 →
        ∃ u, Sys2Proof.Machine.exec (.replayAns t s.activeNode first count true) s = .next u ∧ lost u)
    ∧ (∀ first count : Nat, Sys2Proof.Machine.exec (.replayAns t s.activeNode first count false) s = .next (s.since t))
    ∧ (∀ (sender first count : Nat) (gone : Bool), sender ≠ s.activeNode → ∃ u, Sys2Proof.Machine.exec (.replayAns t sender first count gone) s = .next u
        ∧ u.rd .RD_STALE_RECORDS = min (s.rd .RD_STALE_RECORDS + 1) 0xFFFFFFFF ∧ s.only [.RD_STALE_RECORDS] u ∧ u.mem = s.mem)
    ∧ (∀ value : Nat, ∃ u, Sys2Proof.Machine.exec (.ordResyncReq value) s = .next u
        ∧ (if value % 2 = 1 ∧ s.rd .ORD_STATE = 3 then u.rd .ORD_STATE = 4 ∧ u.img = none ∧ u.out = s.out ++ [.resyncReq s.activeNode] ∧ s.only [.ORD_STATE] u ∧ u.mem = s.mem
           else u = if s.rd .ORD_STATE = 3 then s else { s with out := s.out ++ [.written 0x40000140 Status.REFUSED.code [0]] }))
    ∧ (∀ sender first count : Nat,
        if s.isManager = true ∧ s.standAlone = false ∧ 0 < count then
          let asked := (List.range (min count 256)).map fun k => (first + k - 1) % (2 ^ 48 - 1) + 1
          let held := s.hist.filter fun a => asked.contains a.order && !(s.held.any fun h => h.order == a.order)
          let gone := asked.any fun o => !later o s.lastOrder && !(s.hist.any fun a => a.order == o)
          ∃ u r, Sys2Proof.Machine.exec (.replayReq t sender first count) s = .next u ∧ u.regs = s.regs ∧ u.mem = s.mem
            ∧ u.out = s.out ++ (held.map fun a => Sent.record false (s.recordFor a sender)) ++ [.record false r]
            ∧ r.kind = 9 ∧ r.target = sender ∧ r.sender = s.node ∧ r.body = [first % 2 ^ 48 + count % 2 ^ 9 * 2 ^ 48 + b2n gone * 2 ^ 57]
        else s.isManager = false → Sys2Proof.Machine.exec (.replayReq t sender first count) s = .next (s.since t))

/-- O10. A part of a state image from the active manager opens RESYNC outside JOINING and is held, unless a record buffered before lies outside the window of its number, when resynchronisation is asked for again; at a centre, a complete image of streams alone whose stamp has come is loaded: its streams on the module's links are its legs, ORD_APPLIED is its number and the stream is IN_ORDER. A joining module sends JOIN to the two managers, and from LISTEN to its partner on both paths, every 10 ms. The active manager answers a good JOIN by the set it names: PEER_UNTESTED, a mismatch of the topology digest, or admission with the next incarnation and an image; a bad signature is counted. The answer sets SEC_ROUTER_START and SEC_INCARNATION, or gives TOPOLOGY_MISMATCH, or RESTRICTED with the peer's set in SU_PEER_SET. OCCUPANCY leaves the node's applied number and open links in the manager's model, and where nothing is under way at the node a digest that differs counts FAB_MODEL_DIVERGE. -/
def Obligations.ImagesJoiningAndOccupancy : Prop :=
  ∀ (s : State) (t : Nat), s.wf = true → s.fits → s.rd .SU_STATE = 3 →
    (∀ (k : Nat) (stamp : Stamp) (objs : List ImgObj) (last : Bool), s.rd .ORD_STATE ≠ 5 →
      ∃ u, Sys2Proof.Machine.exec (.image t s.activeNode k stamp objs last) s = .next u
        ∧ u.rd .ORD_STATE = (if s.rd .ORD_STATE = 0 then 0 else 4)
        ∧ (if s.rd .ORD_STATE ≠ 0 ∧ (s.buf.any fun r => later r.order k && decide (256 ≤ orderDiff r.order (succOrder k))) = true then
            u.img = none ∧ u.buf = [] ∧ u.out = s.out ++ [.resyncReq s.activeNode]
          else (s.img = none → u.img = some ⟨k, stamp, objs, last⟩)
            ∧ (∀ im, s.img = some im → im.k = k → u.img = some { im with objs := im.objs ++ objs, complete := last }) ∧ u.buf = s.buf ∧ u.out = s.out)
        ∧ s.only [.ORD_STATE] u ∧ u.mem = s.mem)
    ∧ (∀ im : ImgBuf, s.img = some im → (s.since t).imageReady = true → s.rd .SYS_ROLE = 3 → s.rd .RD_ROLE = 0 → s.rd .RD_STATE_PAIR = 0 → s.buf = [] →
        s.nodes = [] → (∀ o ∈ im.objs, ∃ g, o = .slot g) → im.k < 2 ^ 48 →
      ∃ u, Sys2Proof.Machine.exec (.stateImageLoad t) s = .next u ∧ u.rd .ORD_APPLIED = im.k ∧ u.rd .ORD_STATE = 1 ∧ u.img = none ∧ u.acts = []
        ∧ u.legs = (im.objs.filterMap fun o => match o with | .slot g => if s.myLeg g then some g else none | _ => none)
        ∧ u.timer .joinSend = none ∧ u.mem = s.mem ∧ u.out = s.out)
    ∧ (s.standAlone = false → (s.since t).due .joinSend = true →
      ∃ u, Sys2Proof.Machine.exec (.joinSend t) s = .next u ∧ u.out = s.out
          ++ (if s.rd .RD_ROLE ≠ 0 ∧ s.rd .RD_STATE_PAIR = 1 then [.join true (s.rd .RD_PARTNER) (s.rd .SU_SET_ID) (s.rd .SYS_TOPO_DIGEST)] else [])
          ++ s.joinTargets.map (fun n => .join false n (s.rd .SU_SET_ID) (s.rd .SYS_TOPO_DIGEST))
        ∧ u.timer .joinSend = some (max s.now t + 10 * psMs) ∧ u.regs = s.regs ∧ u.mem = s.mem)
    ∧ (∀ node setId digest : Nat, s.standAlone = false → s.isManager = true → node < 64 →
      (∃ u, Sys2Proof.Machine.exec (.join t node setId digest false) s = .next u ∧ u.rd .FAB_TAG_FAILS = min (s.rd .FAB_TAG_FAILS + 1) 0xFFFFFFFF
        ∧ u.out = s.out ∧ s.only [.FAB_TAG_FAILS] u ∧ u.mem = s.mem)
      ∧ (∃ u rest, Sys2Proof.Machine.exec (.join t node setId digest true) s = .next u ∧ u.regs = s.regs ∧ u.mem = s.mem
        ∧ (let inc := (s.qn .joinCount node 0 + 1) % 2 ^ 16
           let peers := match s.fwRun with | some f => f.peers | none => []
           if peers.contains setId = false then u.out = s.out ++ [.joinAnswer node (.peerUntested (s.rd .SU_SET_ID))]
           else if digest ≠ s.rd .SYS_TOPO_DIGEST then u.out = s.out ++ [.joinAnswer node .mismatch]
           else u.out = s.out ++ .joinAnswer node (.admitted (s.rd .SEC_ROUTER_START) (s.rd .SEC_FABRIC_GEN) inc) :: rest
             ∧ rest ≠ [] ∧ u.qn .joinCount node 0 = inc)))
    ∧ (∀ sender : Nat, s.isManager = false → s.rd .RD_STATE_PAIR ≠ 1 → s.q .managerEpoch ≠ 0 →
      (∀ start gen inc : Nat, ∃ u, Sys2Proof.Machine.exec (.joinAnswer t sender (.admitted start gen inc) true) s = .next u
        ∧ u.rd .SEC_ROUTER_START = start % 2 ^ 64 ∧ u.rd .SEC_INCARNATION = inc % 2 ^ 16 ∧ u.q .msgCounter = 0 ∧ u.timer .joinSend = none
        ∧ s.only [.SEC_ROUTER_START, .SEC_INCARNATION] u ∧ u.mem = s.mem ∧ u.out = s.out)
      ∧ (s.rd .ORD_STATE = 0 → ∃ u, Sys2Proof.Machine.exec (.joinAnswer t sender .mismatch true) s = .next u ∧ u.rd .ORD_STATE = 5 ∧ u.buf = []
        ∧ u.latched .TOPOLOGY_MISMATCH = true ∧ u.timer .joinSend = none ∧ s.outside [0x00, 0x05, 0x0F] u ∧ u.mem = s.mem ∧ u.out = s.out)
      ∧ (∀ setId : Nat, ∃ u, Sys2Proof.Machine.exec (.joinAnswer t sender (.peerUntested setId) true) s = .next u ∧ u.rd .SU_STATE = 5
        ∧ u.rd .SU_PEER_SET = setId % 2 ^ 32 ∧ u.rd .ORD_STATE = 0 ∧ u.acts = [] ∧ u.buf = [] ∧ u.latched .RESTRICTED_ENTERED = true ∧ u.mem = s.mem))
    ∧ (∀ node applied digest openLinks : Nat, s.standAlone = false → s.rd .SYS_MGR_ROLE ≠ 0 → Nat.land (s.vOpen.get 0 node) openLinks = s.vOpen.get 0 node →
      ∃ u, Sys2Proof.Machine.exec (.occupancy t node applied digest openLinks) s = .next u ∧ u.vApplied.get 0 node = applied ∧ u.vOpen.get 0 node = openLinks
        ∧ (s.isManager = true → later applied s.lastOrder = false →
            let s' := s.since t
            u.rd .FAB_MODEL_DIVERGE = (if s'.quietAt node applied = true
                ∧ digest ≠ digestOf s'.liveLegs (s'.ownerOf node) then min (s.rd .FAB_MODEL_DIVERGE + 1) 0xFFFFFFFF else s.rd .FAB_MODEL_DIVERGE)
            ∧ s.outside [0x03, 0x04, 0x0F] u)
        ∧ u.mem = s.mem)

/-- O11. On a module that is not the manager and whose D0 is ready, a received frame count is compared with its own: where it agrees RD_COUNT_VALID is set in every domain that is ready, where it does not a slip waits and the counts are invalid. FRAME_COUNT_SLIP with a waiting slip adds the difference in whole D0 frames to house time, counts RT_COUNT_SLIPS and clears the wait; with none it does nothing. Memory is unchanged. -/
def Obligations.FrameCountsAreCompared : Prop :=
  ∀ (s : State) (t : Nat), s.wf = true → s.fits →
    (∀ count : Nat, s.isManager = false → s.domReady 0 = true →
      ∃ u, Sys2Proof.Machine.exec (.fabFrameCountReceive t count) s = .next u ∧ u.q .fabCountSeen = 1
        ∧ u.q .slipPending = (if (s.since t).frameNow 0 = count then 0 else 1) ∧ u.q .slipCount = (count : Int) - (s.since t).frameNow 0
        ∧ (∀ d, d < 8 → u.rd .RD_COUNT_VALID d = (if s.domReady d = true ∧ (s.since t).frameNow 0 = count then 1 else 0))
        ∧ s.only [.RD_COUNT_VALID] u ∧ u.mem = s.mem ∧ u.out = s.out)
    ∧ (s.q .slipPending = 0 → Sys2Proof.Machine.exec (.frameCountSlip t) s = .next (s.since t))
    ∧ (∀ fm : Format, s.q .slipPending = 1 → s.domFormat 0 = some fm →
      ∃ u, Sys2Proof.Machine.exec (.frameCountSlip t) s = .next u ∧ u.q .slipPending = 0 ∧ u.rd .RT_COUNT_SLIPS = min (s.rd .RT_COUNT_SLIPS + 1) 0xFFFFFFFF
        ∧ u.q .houseOff = s.q .houseOff + s.q .slipCount * (fm.den * psS : Nat) / (fm.num : Nat)
        ∧ (s.rd .SYS_ROLE ≠ 0 → s.rd .SYS_ROLE < 4 → u.latched .FRAME_COUNT_SLIP = true) ∧ s.outside [0x00, 0x03, 0x04, 0x0B, 0x0F] u ∧ u.mem = s.mem
        ∧ (s.senders = [] → u.out = s.out))

/-- O12. Whatever the numbers: a is later than b exactly when (a - b) mod 2^48 lies between 1 and 2^47 - 1. After FFFF_FFFF_FFFFh the next order number is 1, after any other the number above it, and never 0. The first order number after a router start is 1: ORD_NEXT is 1 when a member of the manager pair that has heard no active manager becomes the first active one, unless the start-up salvo has taken it there at once, and when the order stream of a stand-alone module begins. Order number 0 means none: with ORD_NEXT at 1 and no action ordered yet, the last order number assigned is 0. -/
def Obligations.OrderNumbersAreSerial : Prop :=
  (∀ a b : Nat, a < 2 ^ 48 → b < 2 ^ 48 →
      (later a b = true ↔ 1 ≤ ((a : Int) - b) % 2 ^ 48 ∧ ((a : Int) - b) % 2 ^ 48 ≤ 2 ^ 47 - 1))
  ∧ (∀ o : Nat, succOrder o ≠ 0 ∧ succOrder o < 2 ^ 48 ∧ (o + 1 < 2 ^ 48 → succOrder o = o + 1))
  ∧ succOrder 0xFFFFFFFFFFFF = 1
  ∧ (∀ (s : State) (t : Nat), s.wf = true → (s.since t).due .listen = true → s.rd .RD_STATE_PAIR = 1 → s.mgrPair = true →
      ∃ u, Sys2Proof.Machine.exec (.listenTimeout t) s = .next u ∧ u.rd .ORD_STATE = 1
        ∧ ((u.rd .ORD_NEXT = 1 ∧ u.hist = s.hist) ∨ (u.rd .ORD_NEXT = 2 ∧ ∃ a, u.hist.getLast? = some a ∧ a.order = 1)))
  ∧ (∀ s : State, s.standAlone = true → (s.apply (orderBegin s)).rd .ORD_NEXT = 1)
  ∧ (∀ s : State, s.rd .ORD_NEXT = 1 → s.hist = [] → s.lastOrder = 0)

/-- O13. At an SDI input that is TRS_LOCKED or beyond and no part of a quad link, each received frame adds its CRC lines (at 1.485 Gb/s and above), checksum and audio packet errors, shows whether it carries an identifier, and counts as a bad frame when incomplete or, in READY, of another structure. The second complete frame of one structure in TRS_LOCKED makes the input READY with its format and rate, or MISMATCH with reason 1 when a frame- or line-aligned input's format is not its domain's; in READY a frame of its structure keeps it, and the second complete frame of others takes it to TRS_LOCKED; in MISMATCH the second accepted one makes it READY; an incomplete frame moves nothing. The frame's lines stand in the frame-store slot that it takes, 10 bits a word, and every byte outside them, as other inputs' registers, is unchanged; outputs that the input feeds and reference entries that take their edges from it follow it. -/
def Obligations.SdiFramesQualifyInputs : Prop :=
  ∀ (s : State) (t n : Nat) (f : SdiFrame), s.wf = true → s.fits → n < 256 → s.rd .VI_PORT_MODE n = 1 → 3 ≤ s.rd .VI_STATE n → s.rd .VI_LINK_MODE n = 0 →
      f.rate < 8 →
    let sig := sdiSig f
    let st := s.rd .VI_STATE n
    let known := f.unsupported = false ∧ sdiFmt f ≠ 0
    let fits := s.rd .VI_ALIGN n = 2 ∨ sdiFmt f = s.rd .RD_FORMAT (s.rd .VI_DOMAIN n)
    let inRange := -50000 ≤ s.q .viPpm n ∧ s.q .viPpm n ≤ 50000
    let at_ := s.storeAt n (s.slotFor n)
    let len := lineBytes f.samples
    ∃ u, Sys2Proof.Machine.exec (.sdiFrameReceived t n f) s = .next u ∧ s.outside [0x02, 0x05, 0x0B, 0x0F] u
      ∧ (∀ g k j, k ≠ n → g ∉ eventFields → blockOf g.desc.addr ≠ 5 → blockOf g.desc.addr ≠ 0x0B → u.rd g k j = s.rd g k j) ∧ u.out = s.out
      ∧ (∀ L, L < f.lines.length → u.loadLE (at_ + L * len) len = packWords 10 (f.lines.getD L []) % 256 ^ len)
      ∧ (∀ a, a < at_ ∨ at_ + f.lines.length * len ≤ a → u.peek a = s.peek a)
      ∧ u.rd .VI_CRC_LINES n = (if 2 ≤ f.rate then min (s.rd .VI_CRC_LINES n + f.crcLines) 0xFFFFFFFF else s.rd .VI_CRC_LINES n)
      ∧ u.rd .VI_ANC_CS_ERRS n = min (s.rd .VI_ANC_CS_ERRS n + f.ancErrs) 0xFFFFFFFF
      ∧ u.rd .VI_AUD_PKT_ERRS n = min (s.rd .VI_AUD_PKT_ERRS n + f.audErrs) 0xFFFFFFFF
      ∧ u.rd .VI_VPID_PRESENT n = b2n f.vpid.isSome
      ∧ u.rd .VI_BAD_FRAMES n = (if f.complete = false ∨ (st = 4 ∧ sig ≠ s.qn .viLastOk n) then min (s.rd .VI_BAD_FRAMES n + 1) 0xFFFFFFFF
          else s.rd .VI_BAD_FRAMES n)
      ∧ (st = 3 → f.complete = true → s.qn .viLastFmt n = sig → 1 ≤ s.qn .viSame n → known → inRange →
          (fits → u.rd .VI_STATE n = 4 ∧ u.rd .VI_FMT n = sdiFmt f ∧ u.rd .VI_RATE n = f.rate)
          ∧ (¬fits → u.rd .VI_STATE n = 5 ∧ u.rd .VI_MISMATCH_WHY n = 1 ∧ (s.idleBlock 2 = false → u.latched .FORMAT_MISMATCH = true)))
      ∧ (st = 4 → f.complete = true → sig = s.qn .viLastOk n → u.rd .VI_STATE n = 4)
      ∧ (st = 4 → f.complete = true → sig ≠ s.qn .viLastOk n → 1 ≤ s.qn .viOther n → u.rd .VI_STATE n = 3 ∧ u.rd .VI_FMT n = s.rd .VI_FMT n)
      ∧ (st = 5 → f.complete = true → known → fits → inRange → 1 ≤ s.qn .viOther n → u.rd .VI_STATE n = 4)
      ∧ (f.complete = false → u.rd .VI_STATE n = st)

/-- O14. At an input that is TRS_LOCKED or beyond, SDI_RATE_MEASURE puts the measured offset into VI_OFFSET_PPM and sets VI_SYNC_SRC once 64 frames in a row of its domain's nominal rate lay within 1 ppm, clears it beyond 2 ppm or at another rate, and VI_ASRC says the opposite. LN_RX_PPM of a locked SDI lane follows. A READY input of a single link whose offset lies beyond 500 ppm is in MISMATCH with reason 2. Only LN_RX_PPM of the lane and registers of blocks 02h and 0Fh, of the outputs in 05h that it feeds and of the reference entries in 0Bh that take their edges from it change. -/
def Obligations.SourceRateIsMeasured : Prop :=
  ∀ (s : State) (t n : Nat) (ppm : Int), s.wf = true → s.fits → n < 256 → (s.rd .VI_PORT_MODE n = 1 ∨ s.rd .VI_PORT_MODE n = 2) → 3 ≤ s.rd .VI_STATE n →
      -2 ^ 19 ≤ ppm → ppm < 2 ^ 19 →
    let near : Prop := s.rateOfDomain n = true ∧ -100 ≤ ppm ∧ ppm ≤ 100
    ∃ u, Sys2Proof.Machine.exec (.sdiRateMeasure t n ppm) s = .next u ∧ s.outside [0x01, 0x02, 0x05, 0x0B, 0x0F] u
      ∧ (∀ g k j, g ≠ .LN_RX_PPM ∨ k ≠ n → blockOf g.desc.addr = 1 → u.rd g k j = s.rd g k j)
      ∧ (s.rd .VI_PORT_MODE n = 1 → 3 ≤ s.rd .LN_RX_STATE n → -327670 ≤ ppm → ppm < 327670 → u.rdS .LN_RX_PPM n = roundQ ppm 10)
      ∧ u.mem = s.mem ∧ u.out = s.out
      ∧ u.rdS .VI_OFFSET_PPM n = ppm ∧ u.rd .VI_ASRC n = 1 - u.rd .VI_SYNC_SRC n
      ∧ (s.rd .VI_SYNC_SRC n = 1 → u.rd .VI_SYNC_SRC n = (if s.rateOfDomain n = true ∧ -200 ≤ ppm ∧ ppm ≤ 200 then 1 else 0))
      ∧ (s.rd .VI_SYNC_SRC n = 0 → (u.rd .VI_SYNC_SRC n = 1 ↔ near ∧ 48 ≤ s.q .viSyncCnt n))
      ∧ (s.rd .VI_STATE n = 4 → s.rd .VI_LINK_MODE n = 0 → s.rd .VI_FMT n ≠ 0 → s.rd .VI_FMT n ≠ 255 → s.q .viUnsup n = 0 →
          (s.rd .VI_ALIGN n = 2 ∨ s.rd .VI_FMT n = s.rd .RD_FORMAT (s.rd .VI_DOMAIN n)) → (ppm < -50000 ∨ 50000 < ppm) →
          u.rd .VI_STATE n = 5 ∧ u.rd .VI_MISMATCH_WHY n = 2)

/-- O15. Where block 03h is not idle: FL_ENABLE = 1 on a used link that is DOWN starts TRAINING, and 0 puts a link without a path DOWN and is refused with LINK_BUSY on one with a path, which is reported and changes nothing. A 1 s window sets FL_BER and fails a link in service that met more than 1 uncorrectable codeword in 10^6; a 10 s window above 1e-5 degrades a link in service, and a 60 s window below 1e-6 restores it. A link in service that loses lock counts FL_FAILS, latches LINK_FAILED and closes to new paths, no leg runs on it any more, and it is TRAINING, or HELD_DOWN for FAB_HOLDDOWN_S as the third failure within 60 s; a MISWIRED one trains. When the hold-down ends the link trains, and 1 s after it entered service it opens to new paths. Other links keep their state, and memory is unchanged. -/
def Obligations.FabricLinksChangeState : Prop :=
  ∀ (s : State) (t link : Nat), s.wf = true → s.fits → link < 256 → s.idleBlock 3 = false →
    let near (u : State) : Prop := s.outside [0x00, 0x03, 0x04, 0x0E, 0x0F] u ∧ (∀ k, k ≠ link → u.rd .FL_STATE k = s.rd .FL_STATE k) ∧ u.mem = s.mem ∧ u.out = s.out
    let third : Bool := decide (s.q .flFailAt link 0 ≠ 0) && decide (((max s.now t : Nat) : Int) + 1 - s.q .flFailAt link 0 ≤ 60 * psS)
    (s.rd .FL_STATE link = 0 → s.linkUsed link = true →
      ∃ u, Sys2Proof.Machine.exec (.flEnableWrite t link 1) s = .next u ∧ u.rd .FL_ENABLE link = 1 ∧ u.rd .FL_STATE link = 1
        ∧ u.latched .LINK_STATE_CHANGE = true ∧ near u)
    ∧ (∃ u, Sys2Proof.Machine.exec (.flEnableWrite t link 0) s = .next u
        ∧ (if s.linkBusy link = true then
            u = { s.since t with out := s.out ++ [.written (Fld.FL_ENABLE.bitAddr link 0 / 32 * 4) Status.LINK_BUSY.code [s.rd .FL_ENABLE link]] }
          else near u ∧ u.rd .FL_ENABLE link = 0 ∧ u.rd .FL_STATE link = 0))
    ∧ (∀ errors total : Nat, ∃ u, Sys2Proof.Machine.exec (.linkBerWindow t link 1 errors total) s = .next u
        ∧ u.rd .FL_BER link = min 2047 (Nat.log 10 (total ^ 100 / (max errors 1) ^ 100)) ∧ near u
        ∧ (if s.inService link = true ∧ total < s.qn .flUncSince link * 1000000 * codewordBits then
            u.rd .FL_FAILS link = min (s.rd .FL_FAILS link + 1) 0xFFFFFFFF ∧ u.rd .FL_STATE link = (if third then 7 else 1)
          else s.onlyAt link [.FL_BER] u))
    ∧ (∀ errors total : Nat, s.rd .FL_STATE link = 4 → total < errors * 100000 →
      ∃ u, Sys2Proof.Machine.exec (.linkBerWindow t link 10 errors total) s = .next u ∧ u.rd .FL_STATE link = 5 ∧ u.latched .LINK_DEGRADED = true ∧ near u)
    ∧ (∀ errors total : Nat, s.rd .FL_STATE link = 5 → errors * 1000000 < total →
      ∃ u, Sys2Proof.Machine.exec (.linkBerWindow t link 60 errors total) s = .next u ∧ u.rd .FL_STATE link = 4 ∧ near u)
    ∧ (s.inService link = true →
      ∃ u, Sys2Proof.Machine.exec (.linkFailed t link) s = .next u ∧ u.rd .FL_FAILS link = min (s.rd .FL_FAILS link + 1) 0xFFFFFFFF
        ∧ u.latched .LINK_FAILED = true ∧ u.rd .FL_NEW_PATHS link = 0 ∧ (∀ g ∈ u.legs, s.ownEnd g.node g.link ≠ link)
        ∧ (if third then u.rd .FL_STATE link = 7 ∧ u.timer .flHold link = some (max s.now t + s.rd .FAB_HOLDDOWN_S * psS) else u.rd .FL_STATE link = 1) ∧ near u)
    ∧ (s.rd .FL_STATE link = 3 → ∃ u, Sys2Proof.Machine.exec (.linkFailed t link) s = .next u ∧ u.rd .FL_STATE link = 1 ∧ near u)
    ∧ (s.rd .FL_STATE link = 7 → (s.since t).due .flHold link = true →
      ∃ u, Sys2Proof.Machine.exec (.linkHolddownExpiry t link) s = .next u ∧ u.rd .FL_STATE link = 1 ∧ u.timer .flHold link = none ∧ near u)
    ∧ (s.inService link = true → (s.since t).due .flNew link = true →
      ∃ u, Sys2Proof.Machine.exec (.linkNewPathsOpen t link) s = .next u ∧ u.rd .FL_NEW_PATHS link = 1 ∧ u.timer .flNew link = none
        ∧ s.onlyAt link [.FL_NEW_PATHS] u ∧ near u)

/-- O16. Cell lock on a training link whose lane is aligned and sends gives ADMITTING with full credits, LINK_STATUS as a link-local Spore, the own CHALLENGE and 50 ms for the far RESULT. While ADMITTING: the far CHALLENGE, kept beside what LINK_STATUS says, names the far node and link, and is answered with the own proof, or the chain where the far side does not know it; a good chain is answered with the proof; a good proof of the same owner with RESULT 0. When both results are 0, SEC_ADMIT_OK adds 1 and the link is in service if the far end is the one that the wiring expects, and MISWIRED otherwise. A bad chain (1), a bad proof (2), another owner (3) and no RESULT in time (4) are refused with that reason: RESULT leaves with it, SEC_ADMIT_REFUSED adds 1 and is latched, and the link is held down, as it is on a far RESULT with a reason. Memory is unchanged by each. -/
def Obligations.LinkAdmission : Prop :=
  ∀ (s : State) (t link : Nat), s.wf = true → s.fits → link < 256 →
    let near (u : State) : Prop := s.outside [0x00, 0x03, 0x04, 0x0E, 0x0F, 0x10] u ∧ u.mem = s.mem
    let refused (u : State) (why : Nat) : Prop := u.rd .FL_STATE link = 7 ∧ u.rd .SEC_ADMIT_REFUSED = min (s.rd .SEC_ADMIT_REFUSED + 1) 0xFFFFFFFF
      ∧ u.latched .SEC_ADMIT_REFUSED = true ∧ u.out = s.out ++ [.admission link 4 why] ∧ near u
    let into (u : State) : Prop := u.rd .SEC_ADMIT_OK = min (s.rd .SEC_ADMIT_OK + 1) 0xFFFFFFFF
      ∧ u.rd .FL_STATE link = (if s.farEnd link = s.farOf link then 4 else 3)
    (s.rd .FL_STATE link = 1 → s.rd .LN_RX_STATE (s.linkLane link) = 4 → s.rd .LN_TX_STATE (s.linkLane link) < 2 →
      ∃ u, Sys2Proof.Machine.exec (.linkCellLock t link) s = .next u ∧ u.rd .FL_STATE link = 2 ∧ u.rd .FL_CREDITS_CTRL link = 8 ∧ u.rd .FL_CREDITS_AUD link = 32
        ∧ u.out = s.out ++ [.linkStatus link s.node link (s.planeOf link) (s.rd .SYS_ROLE), .admission link 1 0]
        ∧ (∃ v, u.txRecs = s.txRecs ++ [⟨link, 1, 0, 0, 0, 0, false, [v]⟩] ∧ bits v 48 4 = 15 ∧ bits v 0 6 = s.node % 64 ∧ bits v 8 8 = link)
        ∧ u.timer .flAdmit link = some (max s.now t + 50 * psMs) ∧ near u)
    ∧ (s.rd .FL_STATE link = 2 →
      (∀ (node index : Nat) (known : Bool), ∃ u, Sys2Proof.Machine.exec (.challenge t link node index known) s = .next u
        ∧ u.qn .flChFar link = node % 64 + index % 256 * 64 ∧ u.out = s.out ++ [.admission link (if known then 3 else 2) 0] ∧ u.regs = s.regs ∧ u.mem = s.mem)
      ∧ (∃ u, Sys2Proof.Machine.exec (.chain t link true) s = .next u ∧ u.out = s.out ++ [.admission link 3 0] ∧ u.regs = s.regs ∧ u.mem = s.mem)
      ∧ (∃ u, Sys2Proof.Machine.exec (.chain t link false) s = .next u ∧ refused u 1)
      ∧ (∀ ownerDigest : Nat, ∃ u, Sys2Proof.Machine.exec (.proof t link false ownerDigest) s = .next u ∧ refused u 2)
      ∧ (∀ ownerDigest : Nat, s.rd .SEC_STATE = 0 ∨ ownerDigest ≠ s.rd .SEC_OWNER_DIGEST →
          ∃ u, Sys2Proof.Machine.exec (.proof t link true ownerDigest) s = .next u ∧ refused u 3)
      ∧ (s.rd .SEC_STATE ≠ 0 → ∃ u, Sys2Proof.Machine.exec (.proof t link true (s.rd .SEC_OWNER_DIGEST)) s = .next u
          ∧ u.out = s.out ++ [.admission link 4 0] ∧ u.q .admitMine link = 1 ∧ near u ∧ (if s.q .admitFar link = 1 then into u else u.rd .FL_STATE link = 2))
      ∧ (∃ u, Sys2Proof.Machine.exec (.result t link 0) s = .next u ∧ u.q .admitFar link = 1 ∧ u.timer .flAdmit link = none ∧ u.out = s.out ∧ near u
          ∧ (if s.q .admitMine link = 1 then into u else u.rd .FL_STATE link = 2))
      ∧ (∀ reason : Nat, reason ≠ 0 → ∃ u, Sys2Proof.Machine.exec (.result t link reason) s = .next u ∧ u.rd .FL_STATE link = 7
          ∧ u.timer .flHold link = some (max s.now t + s.rd .FAB_HOLDDOWN_S * psS) ∧ u.out = s.out ∧ near u)
      ∧ ((s.since t).due .flAdmit link = true → ∃ u, Sys2Proof.Machine.exec (.admissionTimeout t link) s = .next u ∧ refused u 4))

/-- O17. On a link in service with no handover waiting, outside RESTRICTED, TOPOLOGY_MISMATCH and an edge's fence: at a video position the owner's ready cell leaves; else a control cell with a credit leaves and takes the credit, with the Spores that wait for its target; at an audio position an audio cell with a credit does; with nothing ready an idle cell leaves. Each carries its plane, the next Spore that waits, urgent before link-local before normal, and its CRC. The position moves on. A received cell with an uncorrectable codeword, or a bad CRC, is discarded and counted, and the eighth bad CRC in a row fails the link; a good video cell of a stream that is fed here is kept for its delivery moment, or counts in FL_LATE_CELLS when that has passed; a control cell beyond the 8 that the receiver holds is discarded, FL_CREDIT_OVERRUNS adds 1 and CREDIT_OVERRUN is latched; a gap in control sequence numbers counts. A record at its target whose tag fails, or an unordered one far below its sender's last, counts in FAB_TAG_FAILS. CREDIT leaves at 16 freed cells or 1 us after the first and names the cells freed since the start (those taken that still stand in the receiver's places are an operand, log 50). Memory is unchanged by each. -/
def Obligations.CellsAreSentAndReceived : Prop :=
  ∀ (s : State) (t link : Nat), s.wf = true → s.fits → link < 256 → s.inService link = true → s.controlOnly = false →
    let p := s.qn .flCalPos link % 512
    let moved (u : State) : Prop := u.q .flCalPos link = ((p + 1) % 512 : Nat) ∧ u.mem = s.mem
    let goes (u : State) (c : Cell) : Prop := u.out = s.out ++ [.cell link (sealCell (match s.nextSpore link with
      | some (k, v) => { c with plane := s.planeOf link, sp := true, su := k == 0, sl := k == 1, spore := v }
      | none => { c with plane := s.planeOf link }))]
    let spores (x : TxRec) : Nat := packWords 64 (((s.txRecs.filter x.sharesWith).flatMap TxRec.spores).take 64)
    let noVideo (r : Option CellReady) : Prop := ∀ g, s.owner link p = some g → (s.since t).videoReady link g r = none
    ((s.isEdge && s.fenced) = false → (s.legs.any fun g => g.hand && g.node == s.ownNode && g.link == s.mirror link) = false →
      (∀ (r : Option CellReady) (slot i : Nat) (g : Leg) (c : FwdCell), calPos p = .video slot i → s.owner link p = some g →
          (s.since t).videoReady link g r = some c →
        ∃ u, Sys2Proof.Machine.exec (.fabricCellSend t link r) s = .next u ∧ moved u ∧ u.regs = s.regs
          ∧ goes u { emptyCell with cls := clVideo, fs := c.fs, slot := g.slot, sub := g.sub, fmt := g.fmt, stream := g.src, seq := c.seq, payload := c.payload })
      ∧ (∀ (r : Option CellReady) (x : TxRec), calPos p ≠ .audio → noVideo r → (s.txRecs.find? fun x => x.link == link && x.cls == 3) = some x →
          0 < s.rd .FL_CREDITS_CTRL link →
        ∃ u, Sys2Proof.Machine.exec (.fabricCellSend t link r) s = .next u ∧ moved u ∧ u.rd .FL_CREDITS_CTRL link = s.rd .FL_CREDITS_CTRL link - 1
          ∧ goes u { emptyCell with cls := clControl, fs := !x.begun, stream := x.target % 64 + x.sender % 64 * 2 ^ 8, seq := s.qn .flCtrlSeq link % 2 ^ 16, payload := spores x }
          ∧ s.onlyAt link [.FL_CREDITS_CTRL] u)
      ∧ (∀ (r : Option CellReady) (c : FwdCell) (idx : Nat), calPos p = .audio → s.audioReady link = some (c, idx) → 0 < s.rd .FL_CREDITS_AUD link →
        ∃ u, Sys2Proof.Machine.exec (.fabricCellSend t link r) s = .next u ∧ moved u ∧ u.rd .FL_CREDITS_AUD link = s.rd .FL_CREDITS_AUD link - 1
          ∧ goes u { emptyCell with cls := clAudio, stream := c.stream, seq := c.seq, payload := c.payload } ∧ s.onlyAt link [.FL_CREDITS_AUD] u)
      ∧ (∀ r : Option CellReady, noVideo r → (s.txRecs.find? fun x => x.link == link && x.cls == 3) = none → s.audioReady link = none →
        ∃ u, Sys2Proof.Machine.exec (.fabricCellSend t link r) s = .next u ∧ moved u ∧ u.regs = s.regs ∧ goes u emptyCell))
    ∧ (∀ c : CellIn, c.uncorr = true → ∃ u, Sys2Proof.Machine.exec (.fabricCellReceive t link c) s = .next u
        ∧ u.rd .FL_CW_CORR link = min (s.rd .FL_CW_CORR link + c.corr) 0xFFFFFFFF
        ∧ u.rd .FL_CW_UNCORR link = min (s.rd .FL_CW_UNCORR link + b2n c.newCw) 0xFFFFFFFF ∧ s.onlyAt link [.FL_CW_CORR, .FL_CW_UNCORR] u ∧ u.mem = s.mem ∧ u.out = s.out)
    ∧ (∀ c : CellIn, c.uncorr = false → c.cell.crc ≠ cellCrc c.cell → ∃ u, Sys2Proof.Machine.exec (.fabricCellReceive t link c) s = .next u
        ∧ u.rd .FL_CRC_ERRS link = min (s.rd .FL_CRC_ERRS link + 1) 0xFFFFFFFF ∧ u.mem = s.mem ∧ u.out = s.out
        ∧ (if s.q .flBad link = 7 then u.rd .FL_FAILS link = min (s.rd .FL_FAILS link + 1) 0xFFFFFFFF ∧ u.inService link = false
           else u.q .flBad link = s.q .flBad link + 1 ∧ s.onlyAt link [.FL_CW_CORR, .FL_CRC_ERRS] u))
    ∧ (∀ c : CellIn, c.uncorr = false → c.cell.crc = cellCrc c.cell → c.cell.sp = false →
      let held := (s.qn .flRxCtrl link + 2 ^ 24 - s.qn .flFreedCtrl link) % 2 ^ 24
      ∃ u, Sys2Proof.Machine.exec (.fabricCellReceive t link c) s = .next u ∧ u.mem = s.mem ∧ u.out = s.out ∧ u.q .flBad link = 0
        ∧ ((c.cell.su && c.cell.sl) = true → s.onlyAt link [.FL_CW_CORR] u)
        ∧ ((c.cell.su && c.cell.sl) = false →
          (∀ (n slot : Nat) (outs : List Nat) (f fm : Format), c.cell.cls = 1 → c.cell.fs = false → s.isCentre = false → s.fedBy c.cell.stream = (n :: outs, slot) →
            s.linkFormat n = some f → s.domFormat (s.rd .VO_DOMAIN (s.voBase n)) = some fm →
            let idx := placeInFrame f.cells c.cell.seq (s.qn .rxFs c.cell.stream)
            let late := (s.deliveryAt fm f slot (s.qn .rxAt c.cell.stream - 1) idx).elim c.late fun d => decide (d < (s.since t).house)
            u.rd .FL_LATE_CELLS link = min (s.rd .FL_LATE_CELLS link + b2n late) 0xFFFFFFFF ∧ s.onlyAt link [.FL_CW_CORR, .FL_LATE_CELLS] u
            ∧ (if late then u.copies = s.copies
               else u.copies.getLast? = some ⟨c.cell.stream, s.planeOf link, c.cell.seq % 2 ^ 16, idx, c.cell.payload⟩))
          ∧ (c.cell.cls = 3 → if 8 ≤ held then u.rd .FL_CREDIT_OVERRUNS link = min (s.rd .FL_CREDIT_OVERRUNS link + 1) 0xFFFFFFFF
              ∧ (s.idleBlock 3 = false → u.latched .CREDIT_OVERRUN = true) ∧ s.onlyAt link [.FL_CW_CORR, .FL_CREDIT_OVERRUNS] u
            else u.rd .FL_CTRL_GAPS link = min (s.rd .FL_CTRL_GAPS link + (if c.cell.seq % 2 ^ 16 = s.qn .flCtrlSeqRx link % 2 ^ 16 then 0 else 1)) 0xFFFFFFFF
              ∧ u.qn .flRxCtrl link = (s.qn .flRxCtrl link + 1) % 2 ^ 24 ∧ s.only [.FL_CW_CORR, .FL_CTRL_GAPS, .FAB_TAG_FAILS] u
              ∧ ∀ k, k ≠ link → u.rd .FL_CW_CORR k = s.rd .FL_CW_CORR k ∧ u.rd .FL_CTRL_GAPS k = s.rd .FL_CTRL_GAPS k)))
    ∧ (∀ (among got : List Nat) (named : Nat), bits (got.headD 0) 48 4 ≠ 12 →
        let v := s.apply (recordTest among named got s)
        match s.senderOf got among with
        | none => v.rd .FAB_TAG_FAILS = min (s.rd .FAB_TAG_FAILS + 1) 0xFFFFFFFF ∧ s.only [.FAB_TAG_FAILS] v
        | some n => v.rd .FAB_TAG_FAILS = (if ordered (bits (got.headD 0) 48 4) = false ∧ bits (got.headD 0) 0 48 + 65 < s.qn .msgRx n
            then min (s.rd .FAB_TAG_FAILS + 1) 0xFFFFFFFF else s.rd .FAB_TAG_FAILS) ∧ s.only [.FAB_TAG_FAILS] v)
    ∧ (∀ ctrl aud : Nat,
       let fc := (s.qn .flFreedCtrl link + (s.qn .flNewCtrl link - ctrl)) % 2 ^ 24
       let fa := (s.qn .flFreedAud link + (s.qn .flNewAud link - aud)) % 2 ^ 24
       ∃ u, Sys2Proof.Machine.exec (.creditSend t link ctrl aud) s = .next u ∧ u.regs = s.regs ∧ u.mem = s.mem
        ∧ (if (s.since t).creditDue link ctrl aud = true then u.out = s.out ++ [.credit link fc fa] ∧ u.qn .flFreedCtrl link = fc ∧ u.qn .flFreedAud link = fa
              ∧ u.qn .flNewCtrl link = min ctrl (s.qn .flNewCtrl link) ∧ u.qn .flNewAud link = min aud (s.qn .flNewAud link) ∧ u.txRecs = s.txRecs ++ [⟨link, 1, 0, 0, 0, 0, false, [fc + fa * 2 ^ 24 + 14 * 2 ^ 48]⟩]
           else u = s.since t))

/-- O18. At an output that carries a remote stream, FABRIC_DELIVERY_MOMENT takes one copy of the cell by XS_SEL_MODE and XS_PLANE_PREF among those that arrived, and its words stand in the output's picture. When AUTO takes the other plane's copy of a path on two planes, XS_ALT_CELLS adds 1. When none is taken, lines of a new source that have not arrived count in VO_CHARCOAL_LINES; otherwise the line before is repeated, and when no plane's copy has come, FAB_LOST_BOTH adds 1 and CELLS_LOST_BOTH is latched unless it was raised for the stream within the last second (what a copy that FORCE_A or FORCE_B does not take means for that count is the model's choice, log 47). Otherwise no register changes. Memory is unchanged and nothing leaves. An output without a remote stream, or one that carries another stream than the cell's, is not touched. -/
def Obligations.SelectorTakesOnePlaneCopy : Prop :=
  ∀ (s : State) (t out seq : Nat), s.wf = true → s.fits → out < 256 →
    (∀ src : Nat, s.feed out ≠ .remote ∨ src ≠ s.rd .XS_CUR out → Sys2Proof.Machine.exec (.fabricDeliveryMoment t out src seq) s = .next (s.since t))
    ∧ (∀ f fm : Format, s.feed out = .remote → s.linkFormat out = some f → s.domFormat (s.rd .VO_DOMAIN (s.voBase out)) = some fm →
      let planes := s.rd .XS_PLANES out
      let pref := s.rd .XS_PLANE_PREF out
      let mode := s.rd .XS_SEL_MODE out
      let copyOf (p : Nat) := s.copies.find? fun c => c.src == s.rd .XS_CUR out && c.plane == p && c.seq == seq % 2 ^ 16
      let a := (copyOf 0).isSome
      let b := (copyOf 1).isSome
      let sel := selectPlane mode pref planes a b
      let idx := placeInFrame f.cells seq (s.qn .rxFs (s.rd .XS_CUR out))
      let F := fm.frameAt ((s.since t).house - idx * cellBits * fm.den * psS / (fm.num * f.frameBits))
      (∃ u, Sys2Proof.Machine.exec (.fabricDeliveryMoment t out (s.rd .XS_CUR out) seq) s = .next u ∧ u.mem = s.mem ∧ u.out = s.out
        ∧ (match copyOf sel with
          | some c => bits (u.qn .voBits out (F % 2)) (idx * cellBits) cellBits = c.payload % 2 ^ cellBits ∧ u.q .voFresh out = 0
              ∧ (if mode = 0 ∧ planes = 3 ∧ sel ≠ pref then u.rd .XS_ALT_CELLS out = min (s.rd .XS_ALT_CELLS out + 1) 0xFFFFFFFF ∧ s.onlyAt out [.XS_ALT_CELLS] u
                 else u.regs = s.regs)
          | none => if s.q .voFresh out ≠ 0 then s.onlyAt out [.VO_CHARCOAL_LINES] u
              else bits (u.qn .voBits out (F % 2)) (idx * cellBits) cellBits = s.lineBefore f out F idx
                ∧ (if a = false ∧ b = false then u.rd .FAB_LOST_BOTH = min (s.rd .FAB_LOST_BOTH + 1) 0xFFFFFFFF ∧ s.only [.FAB_LOST_BOTH] u
                    ∧ (s.idleBlock 3 = false → s.q .lostBothAt (s.rd .XS_CUR out) = 0 → u.latched .CELLS_LOST_BOTH = true)
                   else u.regs = s.regs)))
      ∧ ((a = true ∧ b = true) → planes = 3 → mode = 0 → sel = pref)
      ∧ (a = true → mode = 1 → sel = 0) ∧ (b = true → mode = 2 → sel = 1) ∧ (a = false → b = false → sel = 2))

/-- O19. CLEAN_SWITCH_POINT of a domain at which no immediate action waits for its line: an output of the domain with due takes has the source or BLACK of the last of them in order in XS_CUR and XS_CUR_BLACK, its order number in XS_LAST_ORDER and its planes in XS_PLANES, XS_GEN goes on modulo 16 and XS_TAKES adds 1; an output with none keeps its source and its generation. The due takes of those outputs are pending no longer. Registers outside blocks 03h, 04h, 05h, 0Bh and 0Fh and all of memory are unchanged; only pictures of outputs of the domain leave. -/
def Obligations.TakesExecuteAtTheSwitchPoint : Prop :=
  ∀ (s : State) (t dom : Nat) (meas : List TakeMeas), s.wf = true → s.fits → (s.since t).lineDue = [] →
    ∃ u, Sys2Proof.Machine.exec (.cleanSwitchPoint t dom meas) s = .next u ∧ s.outside [0x03, 0x04, 0x05, 0x0B, 0x0F] u ∧ u.mem = s.mem
      ∧ (∃ new, u.out = s.out ++ new ∧ ∀ x ∈ new, ∃ n frame std five lines, x = .video n frame std five lines ∧ n < s.ports ∧ s.rd .VO_DOMAIN (s.voBase n) = dom)
      ∧ ∀ n, n < s.ports →
        match if s.rd .VO_DOMAIN (s.voBase n) = dom then ((s.since t).takesDue n false).getLast? else none with
        | none => u.rd .XS_CUR n = s.rd .XS_CUR n ∧ u.rd .XS_CUR_BLACK n = s.rd .XS_CUR_BLACK n ∧ u.rd .XS_GEN n = s.rd .XS_GEN n ∧ u.rd .XS_TAKES n = s.rd .XS_TAKES n
        | some p => u.rd .XS_CUR n = p.takeSrc.1 % 4096 ∧ u.rd .XS_CUR_BLACK n = b2n p.takeSrc.2.1 ∧ u.rd .XS_GEN n = (s.rd .XS_GEN n + 1) % 16
            ∧ u.rd .XS_TAKES n = min (s.rd .XS_TAKES n + 1) 0xFFFFFFFF ∧ u.rd .XS_LAST_ORDER n = p.order % 2 ^ 32
            ∧ (∀ q ∈ (s.since t).takesDue n false, q ∉ u.acts)

/-- O20. IMMEDIATE_TAKE_EXECUTE at an output with due immediate takes, no other immediate action being due, gives it the source of the last of them, marks it untimed and counts XS_IMMEDIATE_CNT, and its last kind is immediate or, with another format, a conflict. PATH_RELEASE takes the output out of every leg of its input, and legs that nothing uses go, unless this module's own output still carries the stream; the registers of the fabric and crosspoint blocks alone follow. A write of VO_OFFSET that needs a frame buffer reserves the lowest free one at once, and with none free changes nothing and is reported NO_BUFFER; at a position that an IP flow feeds an offset other than 0 changes nothing and is reported IP_OUTPUT; otherwise the offset, clamped and then reported, waits for the first frame start after it. Memory is unchanged by each. -/
def Obligations.ImmediateTakesAndReleases : Prop :=
  ∀ (s : State) (t : Nat), s.wf = true → s.fits →
    (∀ (m : TakeMeas) (p : Pend), m.out < 256 → (s.since t).lineDue = [] → ((s.since t).takesDue m.out true).getLast? = some p → p.stamp.imm = true →
      ∃ u, Sys2Proof.Machine.exec (.immediateTakeExecute t m) s = .next u ∧ u.rd .XS_CUR m.out = p.takeSrc.1 % 4096
        ∧ u.rd .XS_CUR_BLACK m.out = b2n p.takeSrc.2.1 ∧ u.rd .XS_UNTIMED m.out = 1
        ∧ u.rd .XS_IMMEDIATE_CNT m.out = min (s.rd .XS_IMMEDIATE_CNT m.out + 1) 0xFFFFFFFF
        ∧ (u.rd .XS_LAST_KIND m.out = 3 ∨ u.rd .XS_LAST_KIND m.out = 6) ∧ (∀ q ∈ (s.since t).takesDue m.out true, q ∉ u.acts)
        ∧ s.outside [0x03, 0x04, 0x05, 0x0B, 0x0F] u ∧ u.mem = s.mem ∧ u.out = s.out)
    ∧ (∀ src out : Nat, ∃ u, Sys2Proof.Machine.exec (.pathRelease t src out) s = .next u
        ∧ (let (edge, p) := s.home out
           let carries := edge == s.ownNode && decide (p < s.ports) && s.rd .XS_CUR_BLACK p == 0 && s.rd .XS_LOCAL p == 0 && s.rd .XS_CUR p == src
           u.legs = if carries then s.legs else dropUse s.legs src out)
        ∧ s.outside [0x03, 0x04, 0x0F] u ∧ u.mem = s.mem ∧ u.out = s.out)
    ∧ (∀ out value : Nat, out < 256 → s.idleBlock 5 = false → s.rd .VO_LINK_MODE out < 2 →
      let x := ofSigned (s.clampOffset out value) 25
      let say (st : Status) : Sent := .written (Fld.VO_OFFSET.bitAddr out 0 / 32 * 4) st.code [x]
      ∃ u, Sys2Proof.Machine.exec (.voOffsetWrite out value) s = .next u
        ∧ (if s.ipOffset out value = true then u = { s with out := s.out ++ [say .IP_OUTPUT] }
           else if s.noBuffer out value = true then u = { s with out := s.out ++ [say .NO_BUFFER] }
           else u.shadows.getLast? = some ⟨.VO_OFFSET, out, 0, x, s.rd .VO_DOMAIN out, s.house + 1⟩
             ∧ u.out = s.out ++ (if s.clampOffset out value = toSigned value 25 then [] else [say .CLAMPED])
             ∧ (∀ (fm : Format) (b : Nat), s.domFormat (s.rd .VO_DOMAIN out) = some fm → offsetNeeds (s.clampOffset out value) fm = true →
                 s.rd .VO_BUF out = 0 → s.freeBuffer = some b →
                 u.rd .VO_BUF out = 1 ∧ u.rd .VO_BUF_INDEX out = b ∧ u.rd .VO_FB_FREE = s.rd .VO_FB_FREE - 1))
        ∧ s.only [.VO_BUF, .VO_BUF_INDEX, .VO_FB_FREE] u ∧ u.mem = s.mem)

/-- O21. RASTER_FRAME_START of an enabled domain from 1 to 7 whose frame in progress has run at least half its period, on a module that runs, with one due action, a LOCK, pending, no shadowed write waiting and the order stream not lost: the lock's mode and holder stand in XS_LOCK_MODE and XS_HOLDER, the action is pending no longer, every output of the domain that sends counts one more frame in VO_FRAMES, and every output of another domain counts none. A shadowed write of VO_EMB_MAP that waits in the domain is in its field. (D0, at whose frame starts the manager, audio and the health check act as well, is left to the model.) -/
def Obligations.FrameStartsExecuteWhatIsDue : Prop :=
  ∀ (s : State) (t dom : Nat) (obs : FrameObs), s.wf = true → s.fits → 1 ≤ dom → dom < 8 → (s.since t).frameEnds dom = true →
      s.rd .SU_STATE = 3 ∨ s.rd .SU_STATE = 5 → s.rd .SYS_ROLE = 1 ∨ s.rd .SYS_ROLE = 2 →
    let frames (u : State) : Prop := ∀ n, n < s.ports → s.rd .VO_STATE n = 2 → s.rd .VO_PORT_MODE n = 1 →
      u.rd .VO_FRAMES n = (if s.rd .VO_DOMAIN (s.voBase n) = dom then min (s.rd .VO_FRAMES n + 1) 0xFFFFFFFF else s.rd .VO_FRAMES n)
    (∀ (p : Pend) (out mode holder : Nat), s.shadows = [] → s.acts = [p] → p.item = .lock out mode holder → p.pt = .frameStart → p.at_ ≤ (s.since t).house → s.q .ordHeld ≠ 1 →
        out < 256 → mode < 4 → holder < 2 ^ 16 →
      ∃ u, Sys2Proof.Machine.exec (.rasterFrameStart t dom obs) s = .next u ∧ u.acts = [] ∧ u.rd .XS_LOCK_MODE out = mode
        ∧ (s.rd .XS_LOCK_MODE out ≠ mode → u.rd .XS_HOLDER out = (if mode = 0 then 0 else holder) ∧ u.latched .LOCK_CHANGE = true) ∧ frames u)
    ∧ (∀ w : Shadow, s.acts = [] → s.shadows = [w] → w.fld = .VO_EMB_MAP → w.dom = dom → w.from_ ≤ (s.since t).startOf dom → w.i < 256 → w.j = 0 →
      ∃ u, Sys2Proof.Machine.exec (.rasterFrameStart t dom obs) s = .next u ∧ u.shadows = [] ∧ u.rd .VO_EMB_MAP w.i = w.v % 2 ^ 32 ∧ frames u)

/-- O22. A message that is taken from a session with the privilege, on C0 or C1 of a manager that waits for no standby, is judged as the rules lay down. Accepted, it takes ORD_NEXT, which goes on to the next number; the action with its stamp and body is the newest held for replay; ORD_APPLIED is its number; and the last thing to leave is the answer with that number and stamp. Refused, it is answered with the first status that applies and its position, nothing is ordered, and only what an answer counts changes; where both planes are blocked FAB_BLOCKED adds 1 as well. The answer to a WRITE is the last thing to leave where no action is held for a later frame. (Bodies are in the model's numbers, log 5; the line at which an immediate action executes is log 13.) -/
def Obligations.OrderingMessagesAreJudgedAndOrdered : Prop :=
  ∀ (s : State) (m : Msg) (req : Stamp), s.wf = true → s.fits → m.lenOk = true →
    let s' := s.met m
    let yes (u : State) (kind node : Nat) (st : Stamp) (body : List Nat) (status : Nat) : Prop :=
      u.rd .ORD_NEXT = succOrder (s.rd .ORD_NEXT) ∧ u.rd .ORD_APPLIED = s.rd .ORD_NEXT ∧ u.hist.getLast? = some ⟨s.rd .ORD_NEXT, kind, st, node, body⟩
      ∧ ∃ a, u.out.getLast? = some (.answer a) ∧ a.sess = m.sess ∧ a.seq = m.seq ∧ a.status = status ∧ a.order = s.rd .ORD_NEXT ∧ a.stamp = encodeStamp st
    let no (u : State) (st : Status) (index : Nat) (fs : List Fld) : Prop :=
      u.out = s'.out ++ [.answer { s'.mkAnswer m st with index := index }] ∧ s'.only (.TS_SEQ_TX :: fs) u ∧ u.hist = s.hist ∧ u.vOuts = s.vOuts ∧ u.mem = s.mem
    let judged (u : State) (kind : Nat) (ds : List Dest) : Prop :=
      match s'.judgeTakes kind req ds (some (s.rd .TS_CTRL_ID m.sess)) with
      | .accepted st body => yes u kind 64 st body 0
      | .refused st i => no u st i []
      | .blocked _ i => no u .BLOCKED i [.FAB_BLOCKED] ∧ u.rd .FAB_BLOCKED = min (s.rd .FAB_BLOCKED + 1) 0xFFFFFFFF
    (s.orders m 0 = true →
      (∀ d : Dest, ∃ u, Sys2Proof.Machine.exec (.take m req d) s = .next u ∧ judged u (if d.group then 2 else 1) [d])
      ∧ (∀ ds : List Dest, 0 < ds.length → ds.length ≤ 4096 → ∃ u, Sys2Proof.Machine.exec (.salvo m req ds.length ds) s = .next u ∧ judged u 2 ds)
      ∧ (∀ (mode : Nat) (force : Bool) (outs : List Nat) (st : Stamp), mode < 3 → 0 < outs.length → outs.length ≤ 4096 →
          (∀ o ∈ outs, s'.hasPort o = true) → s'.resolve req false = .ok st → outs.Nodup →
          let ctrl := s.rd .TS_CTRL_ID m.sess
          let sps := outs.map fun o => encodeLock o mode (if mode = 0 then 0 else ctrl) force
          s'.roomBar kLock st ((List.range outs.length).zip sps) = none →
          (∀ o ∈ outs, s'.holdBar ctrl force (bit (s.rd .TS_PRIV m.sess) 2) ⟨0, o, 0, true⟩ = none) →
          ∃ u, Sys2Proof.Machine.exec (.lock m req mode force outs.length outs) s = .next u ∧ yes u 3 64 st sps 0)
      ∧ (∀ (mode : Nat) (st : Stamp), mode < 2 → s'.resolve req false = .ok st → s.rd .REF_STATE = 1 ∨ s.rd .REF_STATE = 2 →
          let d := s'.offsetAt (if st.imm then s'.house else (s'.execFrame st st.dom).2.1)
          ∃ u, Sys2Proof.Machine.exec (.realign m req mode) s = .next u
            ∧ (if mode = 0 ∧ psS < d.natAbs then no u .REALIGN_RANGE 0 []
               else s'.capacity (s'.schedOf ⟨s.rd .ORD_NEXT, kRealign, st, 64, encodeRealign mode d⟩) = none → yes u 6 64 st (encodeRealign mode d) 0))
      ∧ (∀ (node : Nat) (es : List AudEntry), 0 < es.length → es.length ≤ 4095 → s'.populated.contains node = true →
          ∃ u, Sys2Proof.Machine.exec (.audioAction m req node (16 * es.length) es) s = .next u
            ∧ (match s'.judgeAudio req (es.map decodeWant) with
               | .ok (st, body) => yes u 4 64 st body (if (es.map decodeWant).any AWant.clamped then 1 else 0)
               | .error (st, k) => st ≠ .NODES_FULL → no u st k [])))
    ∧ (∀ (node addr : Nat) (data : List Nat) (st : Stamp) (ws : List FieldWrite) (clamped : Bool), addr ≠ amNodePort → s.orders m (writePriv addr data) = true → s.held = [] →
        s'.populated.contains node = true → badRange addr (4 * data.length) = none →
        s'.resolve req ((covered addr data).any fun x => pulseFields.contains x.fld) = .ok st →
        judgeWrite (s'.viewOf node st.dom) (idleIn (s'.roleOf node)) (s'.orderedBar node) addr data = .ok (ws, clamped) →
        (ws.any fun x => x.fld == .SYS_REMAP) = false →
        s'.capacity (s'.schedOf ⟨s.rd .ORD_NEXT, kWrite, st, node, encodeWrite addr data⟩) = none →
        ∃ u, Sys2Proof.Machine.exec (.write m req node addr (4 * data.length) data) s = .next u
          ∧ yes u 5 node st (encodeWrite addr data) (if clamped then 1 else 0))

/-- O23. A packet of a flow with no such target has no effect. On the delivered target a packet of a frame in hand counts and is kept when it is the first copy; a second copy counts nothing; a copy whose words have been read counts as late. An audio packet's window sets IA_SYNC and IA_ASRC. 10 ms without a packet take a leg down; 100 ms without a gap take it up. Two complete frames qualify a waiting target; the join time-out is raised once. A send flow that is on, on a module that sends, gives its next packet on leg A, and on leg B with two legs, with the flow's heads, timestamp and payload, counts it and goes on to the next sequence number: a -20 packet is the next of the frame's, none when all have left; a -40 packet leaves once a field; an audio packet leaves (samples per packet + 3) samples after its first sample. A module that does not send emits nothing. Memory is unchanged by each. (How a line is divided into packets and a frame into fields is log 49.) -/
def Obligations.IpFlowsReceiveAndSend : Prop :=
  ∀ (s : State) (t k : Nat), s.wf = true → s.fits → k < 256 →
    let s' := s.since t
    (∀ p : IpPacket, (s.flow p.aud p.flow).targetOf p.target = [] → Sys2Proof.Machine.exec (.ipPacketReceive t p) s = .next s')
    ∧ (∀ (p : IpPacket) (g : RtpFrame), p.aud = false → p.flow = k → p.leg < 2 → p.target = 0 → p.companion = false → p.marker = false → (s.flow false k).cur ≠ [] →
        let goal := (s.flow false k).cur
        let mode := goal.headD 0
        let line := if mode = 2 then p.row else Config.activeLine (goal.getD 4 0) p.row
        let late := (s.q .ivDone k ≠ 0 ∧ serialBefore (keyRange mode) (s.qn .ivDone k - 1) (rtpKey p mode) = false) ∨ s'.rtpRead g line = true
        let second := g.pkts.any fun x => x.seq == p.seq % 2 ^ 16
        (s.rtpOf k).find? (fun x => x.key == rtpKey p mode) = some g → g.idx = 0 → (s.flow false k).since = 0 ∨ (s.flow false k).since ≤ g.start →
        ∃ u, Sys2Proof.Machine.exec (.ipPacketReceive t p) s = .next u ∧ u.mem = s.mem ∧ u.out = s.out
          ∧ u.timer .ivLeg (2 * k + p.leg) = some (max s.now t + 10 * psMs)
          ∧ (if late then u.rd .IV_LATE_PKTS k = min (s.rd .IV_LATE_PKTS k + 1) 0xFFFFFFFF ∧ u.rtp = s.rtp ∧ s.onlyAt k [.IV_LATE_PKTS] u
             else if second then u.regs = s.regs ∧ u.rtp = s.rtp
             else u.rd .IV_PKTS k = min (s.rd .IV_PKTS k + 1) 0xFFFFFFFF
              ∧ u.rd .IV_ALT_PKTS k = (if p.leg = 1 then min (s.rd .IV_ALT_PKTS k + 1) 0xFFFFFFFF else s.rd .IV_ALT_PKTS k)
              ∧ s.onlyAt k [.IV_PKTS, .IV_ALT_PKTS] u
              ∧ ∃ h, u.rtp.getLast? = some h ∧ h.pos = g.pos ∧ h.key = g.key ∧ h.pkts.map RtpPkt.seq = g.pkts.map RtpPkt.seq ++ [p.seq % 2 ^ 16]
                ∧ h.pkts.getLast?.map RtpPkt.words = some p.words))
    ∧ (∀ p : IpPacket, p.aud = true → p.flow = k → p.leg < 2 → p.target = 0 → (s.flow true k).cur ≠ [] →
        let goal := (s.flow true k).cur
        let late := s'.audRead (goal.getD 7 0) p.ts
        let second := ((s.rtpOf (1000 + k)).find? fun x => x.key == (s.flow true k).gen % 3).any fun g => g.pkts.any fun x => x.seq == p.seq % 2 ^ 16
        ∃ u, Sys2Proof.Machine.exec (.ipPacketReceive t p) s = .next u ∧ u.mem = s.mem ∧ u.out = s.out
          ∧ u.timer .ivLeg (2 * (1000 + k) + p.leg) = some (max s.now t + 10 * psMs)
          ∧ u.rd .IA_LATE_PKTS k = (if late then min (s.rd .IA_LATE_PKTS k + 1) 0xFFFFFFFF else s.rd .IA_LATE_PKTS k)
          ∧ u.rd .IA_PKTS k = (if late ∨ second then s.rd .IA_PKTS k else min (s.rd .IA_PKTS k + 1) 0xFFFFFFFF)
          ∧ s.rd .IA_LOST_BOTH k ≤ u.rd .IA_LOST_BOTH k
          ∧ (match p.win with
             | some w => u.rd .IA_SYNC k = (if w.natAbs ≤ 100 then 1 else if w.natAbs ≤ 200 then s.rd .IA_SYNC k else 0) ∧ u.rd .IA_ASRC k = 1 - u.rd .IA_SYNC k
             | none => u.rd .IA_SYNC k = s.rd .IA_SYNC k ∧ u.rd .IA_ASRC k = s.rd .IA_ASRC k)
          ∧ s.onlyAt k [.IA_PKTS, .IA_LATE_PKTS, .IA_LOST_BOTH, .IA_SYNC, .IA_ASRC] u)
    ∧ (∀ (aud : Bool) (leg : Nat), leg < 2 →
        let i := 2 * flowKey aud k + leg
        let f := legField aud leg
        let alone (u : State) : Prop := aud = true ∨ s.rd .VI_PORT_MODE k ≠ 2 → s.only [f] u ∧ u.out = s.out
        (∃ u, Sys2Proof.Machine.exec (.ipLegDown t aud k leg) s = .next u ∧
          (if s'.due .ivLeg i = true then u.rd f k = 0 ∧ u.timer .ivLeg i = none ∧ u.q .ivLegSince i = 0 ∧ alone u ∧ u.mem = s.mem
              ∧ (s.rd f k = 1 → s.idleBlock 6 = false → u.latched .IP_LEG_DOWN = true)
           else u = s'))
        ∧ (let up := s.qn .ivLegSince i ≠ 0 ∧ s.qn .ivLegSince i - 1 + 100 * psMs ≤ max s.now t ∧ ((max s.now t : Nat) : Int) ≤ s.q .ivLegLast i + psMs ∧ s.rd f k = 0
          ∃ u, Sys2Proof.Machine.exec (.ipLegUp t aud k leg) s = .next u ∧
          (if up then u.rd f k = 1 ∧ alone u ∧ u.mem = s.mem ∧ (s.idleBlock 6 = false → u.latched .IP_LEG_UP = true) else u = s')))
    ∧ (∀ aud : Bool,
        ((s.flow aud k).want ≠ [] → ∃ u, Sys2Proof.Machine.exec (.ipFlowQualify t aud k) s = .next u ∧ (u.flow aud k).qualified = true
            ∧ (u.flow aud k).want = (s.flow aud k).want ∧ (u.flow aud k).cur = (s.flow aud k).cur
            ∧ u.timer .ivJoin (flowKey aud k) = none ∧ u.regs = s.regs ∧ u.mem = s.mem ∧ u.out = s.out)
        ∧ ((s.flow aud k).want = [] → Sys2Proof.Machine.exec (.ipFlowQualify t aud k) s = .next s')
        ∧ (∃ u, Sys2Proof.Machine.exec (.ipJoinTimeout t aud k) s = .next u ∧
            (if s'.due .ivJoin (flowKey aud k) = true then u.timer .ivJoin (flowKey aud k) = none ∧ (s.idleBlock 6 = false → u.latched .IP_JOIN_TIMEOUT = true)
              ∧ s.only [] u ∧ u.mem = s.mem ∧ u.out = s.out else u = s')))
    ∧ (s.ipSends = false → ∀ aud anc : Bool, Sys2Proof.Machine.exec (.ipSendPacket t aud anc k) s = .next s')
    ∧ (s.ipSends = true →
        let legs (dual : Fld) : List Nat := if s.rd dual k = 1 then [0, 1] else [0]
        (∀ f : Format, s.rd .OV_MODE k ≠ 0 → s.rd .VO_STATE k = 2 → s.domFormat (s.rd .VO_DOMAIN (s.voBase k)) = some f →
          let fmt := s.rd .RD_FORMAT (s.rd .VO_DOMAIN (s.voBase k))
          let F := f.frameAt s'.house
          let two := f.sw2 != 0
          let j := if s.qn .ovFrame k = F + 1 then s.qn .ovPkt k else 0
          let total := (activeSize fmt).2 * ceilDiv ((activeSize fmt).1 * 5 / 2) 1200
          let (row, at_, n) := packetPlace fmt two j
          let line := Config.activeLine fmt row
          let ts := f.mediaTs F (two && decide (total ≤ 2 * j))
          (total ≤ j → Sys2Proof.Machine.exec (.ipSendPacket t false false k) s = .next s')
          ∧ (j < total → ∃ u, Sys2Proof.Machine.exec (.ipSendPacket t false false k) s = .next u
            ∧ u.out = s.out ++ (legs .OV_DUAL).map (fun l => .packet { s.mediaHead 0 k l (s.qn .ovSeq k 0) ts with
                marker := j + 1 == total || (two && 2 * (j + 1) == total), shape := if j = 0 then s.rd .OV_SHAPE k else s.qn .ovShape k, line := line, off := 4 * at_
                words := ((s'.pictureLine f k F line).drop (2 * (f.spl - (activeSize fmt).1) + 4 * at_)).take (4 * n) })
            ∧ u.q .ovSeq k 0 = s.q .ovSeq k 0 + 1 ∧ u.rd .OV_PKTS k = min (s.rd .OV_PKTS k + 1) 0xFFFFFFFF ∧ u.rd .OV_LAST_TS k = ts
            ∧ s.onlyAt k [.OV_PKTS, .OV_LAST_TS] u ∧ u.mem = s.mem))
        ∧ (∀ f : Format, s.rd .OV_MODE k ≠ 0 → s.rd .VO_STATE k = 2 → s.rd .OV_ANC k ≠ 0 → s.domFormat (s.rd .VO_DOMAIN (s.voBase k)) = some f →
          let G := f.frameAt s'.house
          let half := (f.sw2 != 0) && decide (f.posTime G ((f.lines + 1) / 2 + 1) 0 ≤ s'.house)
          let F := if half then G else G - 1
          let second := (f.sw2 != 0) && !half
          if s.qn .ovAnc k = 2 * F + b2n second + 1 then Sys2Proof.Machine.exec (.ipSendPacket t false true k) s = .next s'
          else ∃ (u : State) (anc : List (Nat × List Nat)), Sys2Proof.Machine.exec (.ipSendPacket t false true k) s = .next u
            ∧ u.out = s.out ++ (legs .OV_DUAL).map (fun l => .packet { s.mediaHead 1 k l (s.qn .ovSeq k 1) (f.mediaTs F second) with marker := true, anc := anc })
            ∧ u.q .ovSeq k 1 = s.q .ovSeq k 1 + 1 ∧ u.regs = s.regs ∧ u.mem = s.mem)
        ∧ (∀ anc : Bool, s.rd .OA_MODE k ≠ 0 →
          let n := s.oaSamples k
          let now := s'.sampleAt s'.house
          let i0 := if s.q .oaNext k = 0 then now - (n + 3) else s.qn .oaNext k - 1
          if now < i0 + n + 3 then Sys2Proof.Machine.exec (.ipSendPacket t true anc k) s = .next s'
          else ∃ (u : State) (smps : List (List (Int × Nat))), Sys2Proof.Machine.exec (.ipSendPacket t true anc k) s = .next u ∧ smps.length = n
            ∧ u.out = s.out ++ (legs .OA_DUAL).map (fun l => .packet { s.mediaHead 2 k l (s.qn .oaSeq k) (i0 % 2 ^ 32) with smps := smps })
            ∧ u.q .oaSeq k = s.q .oaSeq k + 1 ∧ u.rd .OA_PKTS k = min (s.rd .OA_PKTS k + 1) 0xFFFFFFFF ∧ s.onlyAt k [.OA_PKTS] u ∧ u.mem = s.mem))

/-- O24. At a port that is UP, a good frame of a length in range that its filters steer to a queue with enough free descriptors takes them: MQ_FILL grows by one descriptor for each 2,048 bytes begun, MQ_FRAMES and MC_RX_FRAMES add 1, and that many descriptors leave with SOF on the first, EOF and FCS_OK on the last and the filter's index (their stamp is not stated here); bytes outside the buffer pool of R200 keep their values. With no free descriptor the frame is dropped whole and MQ_NOBUF adds 1; a frame that the filters discard adds to MC_RX_FILTER_DROPS, one with a bad FCS to MC_RX_FCS_ERRS; a media frame takes no ring; one of a length out of range adds to MC_RX_LEN_ERRS. In SLEEP a wake frame alone moves the port to WAKING for 100 us with MC_SLEEP reading 0, and in WAKING frames are dropped and counted. -/
def Obligations.FramesAreFilteredIntoRings : Prop :=
  ∀ (s : State) (t port : Nat) (x : EthFrame), s.wf = true → s.fits → port < 259 → x.freed = 0 → x.broken = false → x.verify = 0 →
    let need := max 1 (ceilDiv x.len 2048)
    let kept (u : State) : Prop := s.onlyAt port [.MC_RX_FRAMES, .MC_RX_LEN_ERRS, .MC_RX_FCS_ERRS, .MC_RX_FILTER_DROPS, .MC_RX_WAKE_DROPS, .MQ_FILL, .MQ_FILL_PEAK, .MQ_FRAMES, .MQ_NOBUF] u
    (∀ fl q : Nat, s.rd .MC_STATE port = 2 → 64 ≤ x.len → x.len ≤ s.rd .MC_MAX_FRAME port → x.media = false → x.fcsOk = true → s.steer port x = some (fl, q) →
        s.rd .MQ_FILL port q + need ≤ s.rd .MQ_RING_LEN port q →
      ∃ u stamp comp, Sys2Proof.Machine.exec (.macFrameReceive t port x) s = .next u ∧ u.rd .MQ_FILL port q = s.rd .MQ_FILL port q + need
        ∧ u.rd .MQ_FRAMES port q = min (s.rd .MQ_FRAMES port q + 1) 0xFFFFFFFF ∧ u.rd .MC_RX_FRAMES port = min (s.rd .MC_RX_FRAMES port + 1) 0xFFFFFFFF
        ∧ u.out = s.out ++ (List.range need).map (fun d =>
            Sent.desc port q (min 2048 (x.len - 2048 * d)) (d == 0) (d + 1 == need) false (d + 1 == need) fl stamp comp)
        ∧ (∀ b, b < 0x8784000000 ∨ 0x8788000000 ≤ b → u.peek b = s.peek b) ∧ kept u)
    ∧ (∀ fl q : Nat, s.rd .MC_STATE port = 2 → 64 ≤ x.len → x.len ≤ s.rd .MC_MAX_FRAME port → x.media = false → x.fcsOk = true → s.steer port x = some (fl, q) →
        s.rd .MQ_FILL port q = s.rd .MQ_RING_LEN port q →
      ∃ u, Sys2Proof.Machine.exec (.macFrameReceive t port x) s = .next u ∧ u.rd .MQ_NOBUF port q = min (s.rd .MQ_NOBUF port q + 1) 0xFFFF
        ∧ u.rd .MQ_FILL port q = s.rd .MQ_FILL port q ∧ u.out = s.out ∧ u.mem = s.mem ∧ kept u)
    ∧ (s.rd .MC_STATE port = 2 → 64 ≤ x.len → x.len ≤ s.rd .MC_MAX_FRAME port → x.media = false → x.fcsOk = true → s.steer port x = none →
      ∃ u, Sys2Proof.Machine.exec (.macFrameReceive t port x) s = .next u ∧ u.rd .MC_RX_FILTER_DROPS port = min (s.rd .MC_RX_FILTER_DROPS port + 1) 0xFFFFFFFF
        ∧ u.out = s.out ∧ u.mem = s.mem ∧ kept u)
    ∧ (s.rd .MC_STATE port = 2 → 64 ≤ x.len → x.len ≤ s.rd .MC_MAX_FRAME port → x.media = true ∨ (x.fcsOk = false ∧ s.steer port x = none) →
      ∃ u, Sys2Proof.Machine.exec (.macFrameReceive t port x) s = .next u
        ∧ (if x.fcsOk = true then u.rd .MC_RX_FRAMES port = min (s.rd .MC_RX_FRAMES port + 1) 0xFFFFFFFF
           else u.rd .MC_RX_FCS_ERRS port = min (s.rd .MC_RX_FCS_ERRS port + 1) 0xFFFFFFFF)
        ∧ u.out = s.out ∧ u.mem = s.mem ∧ kept u)
    ∧ (s.rd .MC_STATE port = 2 → x.len < 64 ∨ s.rd .MC_MAX_FRAME port < x.len →
      ∃ u, Sys2Proof.Machine.exec (.macFrameReceive t port x) s = .next u ∧ u.rd .MC_RX_LEN_ERRS port = min (s.rd .MC_RX_LEN_ERRS port + 1) 0xFFFFFFFF
        ∧ u.out = s.out ∧ u.mem = s.mem ∧ kept u)
    ∧ (s.rd .MC_STATE port = 3 →
      ∃ u, Sys2Proof.Machine.exec (.macFrameReceive t port x) s = .next u
        ∧ (if s.isWake port x = true then u.rd .MC_STATE port = 4 ∧ u.rd .MC_SLEEP port = 0 ∧ u.timer .mcWake port = some (max s.now t + 100 * psUs)
           else u = s.since t) ∧ u.mem = s.mem)
    ∧ (s.rd .MC_STATE port = 4 →
      ∃ u, Sys2Proof.Machine.exec (.macFrameReceive t port x) s = .next u ∧ u.rd .MC_RX_WAKE_DROPS port = min (s.rd .MC_RX_WAKE_DROPS port + 1) 0xFFFFFFFF
        ∧ u.out = s.out ∧ u.mem = s.mem ∧ kept u)

/-- O25. At a port that is UP, does not drain and runs no gates, a frame that becomes ready joins the class of its kind. When the transmitter is free it sends the first frame of the highest class that waits, MC_TX_FRAMES adds 1, the frame leaves the queue, and the transmitter is busy for its octets, the gap and the preamble, after low-power idle for the wake time before them. While a preemptable frame is on the wire and preemption is verified, an express frame of the highest class cuts it and MC_TX_PREEMPTS adds 1. In mode 2 a gate cycle takes MC_GATE_ENTRIES entries of the list with their intervals and gates. -/
def Obligations.TheHighestOpenClassIsSent : Prop :=
  ∀ (s : State) (t port : Nat) (arrived : List (TxKind × Nat)), s.wf = true → s.fits → port < 259 →
    let q := s.txq ++ arrived.map fun x => ⟨port, s.classOf x.1, x.2, false⟩
    let sent (u : State) (c : Nat) (f : TxFrame) (express : Bool) : Prop := u.txq = popTx port c q ∧ u.out = s.out ++ [.frame port c f.octets express]
      ∧ u.rd .MC_TX_FRAMES port = min (s.rd .MC_TX_FRAMES port + 1) 0xFFFFFFFF ∧ u.rd .MC_LPI_TX port = 0
      ∧ s.onlyAt port [.MC_TX_FRAMES, .MC_TX_PREEMPTS, .MC_LPI_TX] u ∧ u.mem = s.mem
    (∀ (c : Nat) (f : TxFrame), s.rd .MC_STATE port = 2 → s.q .mcDraining port ≠ 1 → s.rd .MC_URGENT_MODE port ≠ 2 → c < 8 → headOf q port c = some f →
        (∀ d, c < d → d < 8 → headOf q port d = none) → s.qn .mcTxEnd port ≤ max s.now t →
      ∃ u, Sys2Proof.Machine.exec (.macFrameTransmit t port arrived) s = .next u ∧ sent u c f (s.preempts port && bit (s.rd .MC_EXPRESS port) c)
        ∧ u.qn .mcTxEnd port = max s.now t + (f.octets + 20) * s.octetPs port + (if s.rd .MC_LPI_TX port = 1 then Config.lpiWake (s.rd .MC_MODE port) else 0))
    ∧ (∀ (c : Nat) (f : TxFrame), s.rd .MC_STATE port = 2 → s.q .mcDraining port ≠ 1 → s.preempts port = true → c < 8 → headOf q port c = some f →
        (∀ d, c < d → d < 8 → headOf q port d = none) → bit (s.rd .MC_EXPRESS port) c = true → max s.now t < s.qn .mcTxEnd port →
        s.q .mcTxExpress port = 0 → s.q .mcTxCut port = 0 → s.qn .mcExprEnd port ≤ max s.now t →
      ∃ u, Sys2Proof.Machine.exec (.macFrameTransmit t port arrived) s = .next u ∧ sent u c f true
        ∧ u.rd .MC_TX_PREEMPTS port = min (s.rd .MC_TX_PREEMPTS port + 1) 0xFFFFFFFF)
    ∧ (s.rd .MC_URGENT_MODE port = 2 →
      ∃ u, Sys2Proof.Machine.exec (.gateCycleStart t port) s = .next u ∧ u.q .glStart port = ((s.since t).gateStart port + 1 : Int)
        ∧ u.gateList port = (List.range (s.rd .MC_GATE_ENTRIES port)).map (fun e => (s.rd .GL_INTERVAL_NS port e * psNs, s.rd .GL_GATES port e))
        ∧ u.regs = s.regs ∧ u.mem = s.mem ∧ u.out = s.out)

/-- O26. A port that is DOWN goes UP on its link's condition, and one that is UP goes DOWN with the reason and MC_LINK_DOWNS adding 1. MC_SLEEP = 1 on C0, C1 or SVC without an open session or house time on the port starts a drain of at most 1 ms (refused with its status while a session is open there or house time follows it), at whose end what remains is dropped and counted and the port is in SLEEP; 100 us after it began to wake, a port is UP, MC_WAKES adds 1 and MAC_WAKE is latched. A verify message goes out every MC_VERIFY_MS; after three without a response MC_VERIFY_STATE is FAILED and MAC_PREEMPT_FAIL is latched. A port with MC_EEE and nothing to send enters low-power idle, and shows its partner's. Memory is unchanged by each. -/
def Obligations.PortStatesFollowTheLink : Prop :=
  ∀ (s : State) (t port : Nat), s.wf = true → s.fits → port < 259 → s.idleBlock 7 = false →
    let near (u : State) : Prop := s.outside [0x07, 0x0B, 0x0C, 0x0F, 0x11] u ∧ u.mem = s.mem
    (s.rd .MC_STATE port = 1 → ((s.rd .MC_MODE port = 1 ∨ s.rd .MC_MODE port = 2) → s.rd .LN_RX_STATE port = 4) → s.rd .LN_TX_STATE port < 2 →
      ∃ u, Sys2Proof.Machine.exec (.macLinkUp t port true) s = .next u ∧ u.rd .MC_STATE port = 2 ∧ u.latched .MAC_LINK_CHANGE = true ∧ near u)
    ∧ (∀ why : Nat, why < 4 → s.rd .MC_STATE port = 2 →
      ∃ u, Sys2Proof.Machine.exec (.macLinkDown t port why) s = .next u ∧ u.rd .MC_STATE port = 1 ∧ u.rd .MC_DOWN_WHY port = why
        ∧ u.rd .MC_LINK_DOWNS port = min (s.rd .MC_LINK_DOWNS port + 1) 0xFFFFFFFF ∧ u.latched .MAC_LINK_CHANGE = true
        ∧ u.txq = s.txq.filter (fun f => f.port != port) ∧ near u)
    ∧ (256 ≤ port → s.rd .MC_MODE port ≠ 0 → s.rd .MC_STATE port = 2 → s.sessionOn (port - 256) = false → s.houseOnPort port = false →
      ∃ u, Sys2Proof.Machine.exec (.mcSleepWrite t port 1) s = .next u ∧ u.rd .MC_SLEEP port = 1 ∧ u.q .mcDraining port = 1
        ∧ u.timer .mcDrain port = some (max s.now t + psMs) ∧ s.onlyAt port [.MC_SLEEP] u ∧ u.mem = s.mem)
    ∧ (∀ (value : Nat) (st : Status), s.sleepRefused port value = some st →
      ∃ u, Sys2Proof.Machine.exec (.mcSleepWrite t port value) s = .next u ∧ u.regs = s.regs ∧ u.mem = s.mem
        ∧ u.out = s.out ++ [.written (Fld.MC_SLEEP.bitAddr port 0 / 32 * 4) st.code [s.rd .MC_SLEEP port]])
    ∧ (s.q .mcDraining port = 1 → s.rd .MC_STATE port = 2 → (s.since t).due .mcDrain port = true →
      ∃ u, Sys2Proof.Machine.exec (.sleepDrainDone t port) s = .next u ∧ u.rd .MC_STATE port = 3 ∧ u.txq = s.txq.filter (fun f => f.port != port)
        ∧ u.rd .MC_TX_SLEEP_DROPS port = min (s.rd .MC_TX_SLEEP_DROPS port + (s.txq.filter fun f => f.port == port).length) 0xFFFFFFFF ∧ near u)
    ∧ (s.rd .MC_STATE port = 4 → (s.since t).due .mcWake port = true →
      ∃ u, Sys2Proof.Machine.exec (.wakingExpiry t port) s = .next u ∧ u.rd .MC_STATE port = 2 ∧ u.rd .MC_WAKES port = min (s.rd .MC_WAKES port + 1) 0xFFFFFFFF
        ∧ u.latched .MAC_WAKE = true ∧ near u)
    ∧ ((s.since t).due .mcVerify port = true → s.rd .MC_VERIFY_STATE port = 1 →
      ∃ u, Sys2Proof.Machine.exec (.preemptVerifyTimer t port) s = .next u
        ∧ (if s.q .mcVerifyN port < 3 then u.q .mcVerifyN port = s.q .mcVerifyN port + 1 ∧ u.out = s.out ++ [.verify port false] ∧ u.regs = s.regs
             ∧ u.timer .mcVerify port = some (max s.now t + s.rd .MC_VERIFY_MS port * psMs)
           else u.rd .MC_VERIFY_STATE port = 3 ∧ u.latched .MAC_PREEMPT_FAIL = true ∧ u.timer .mcVerify port = none ∧ u.out = s.out)
        ∧ s.onlyAt port [.MC_VERIFY_STATE] u ∧ u.mem = s.mem)
    ∧ (s.rd .MC_EEE port = 1 → s.rd .MC_STATE port = 2 → s.rd .MC_LPI_TX port = 0 → (∀ f ∈ s.txq, f.port ≠ port) → s.qn .mcTxEnd port ≤ max s.now t →
      (s.since t).gateOpens port (Config.lpiWake (s.rd .MC_MODE port)) = false →
      ∃ u, Sys2Proof.Machine.exec (.lpiEnter t port true) s = .next u ∧ u.rd .MC_LPI_TX port = 1
        ∧ u.rd .MC_LPI_ENTRIES port = min (s.rd .MC_LPI_ENTRIES port + 1) 0xFFFFFFFF ∧ u.out = s.out ++ [.lpi port]
        ∧ s.onlyAt port [.MC_LPI_TX, .MC_LPI_ENTRIES] u ∧ u.mem = s.mem)
    ∧ Sys2Proof.Machine.exec (.lpiEnter t port false) s = .next (s.since t)
    ∧ (∀ enters : Bool, s.rd .MC_EEE port = 1 → s.rd .MC_STATE port = 2 →
      ∃ u, Sys2Proof.Machine.exec (.partnerLowPowerIdle t port enters) s = .next u ∧ u.rd .MC_LPI_RX port = b2n enters
        ∧ s.onlyAt port [.MC_LPI_RX] u ∧ u.mem = s.mem ∧ u.out = s.out)

/-- O27. At a sample at which no change falls due and no node leaves, outside RESTRICTED: a destination with nodes and no transparent route takes the sum of its sources' samples of the period before times the nodes' coefficients, each 0 for a non-audio source, with the mix-minus term, saturated to 56 bits, rounded convergently by 2^20 and saturated to 24 bits, and AD_SAT counts a saturation; a destination whose one node is a transparent route in effect takes its source's sample as it is; a source that is a mix bus of class 0 takes what the bus put out in the period before, and the bus puts out its sum. An ingress sample of a channel that is extracted, and that no audio flow feeds, is its source's value afterwards, or, in frame alignment, the one extracted the delay before is. Changes that have come due are started and no others. Memory is unchanged. -/
def Obligations.AudioSampleTickMixes : Prop :=
  ∀ (s : State) (t : Nat) (ins : List AudioIn) (st337 : List Nat), s.wf = true → s.fits →
    let s' := s.since t
    let i := s'.sampleAt s'.house
    let sum (d : Nat) : Int := ((s.nodes.filter fun n => n.dst == d && !n.transp).map fun n =>
      if s.rd .AS_NONAUDIO n.src = 0 then s.q .auSrc n.src * n.coef i else 0).foldl (fun a x => sat56 (a + x)) 0
    ∃ u, Sys2Proof.Machine.exec (.audioSampleTick t ins st337) s = .next u
      ∧ u.changes = (s.changes.filter fun c => decide (i < c.at_))
      ∧ ((∀ c ∈ s.changes, i < c.at_) → (∀ n ∈ s.nodes, n.gone i = false) → s.rd .SU_STATE ≠ 5 →
          (∀ d, d < 8192 → (∃ n ∈ s.nodes, n.dst = d) → (∀ n ∈ s.nodes, n.dst = d → n.transp = false) →
            let v := convergent (sat56 (sum d + s.q .auMm d)) 20
            u.q .auDst d = sat24 v ∧ u.rd .AD_SAT d = (if sat24 v ≠ v then min (s.rd .AD_SAT d + 1) 0xFFFF else s.rd .AD_SAT d))
          ∧ (∀ n, (s.nodes.filter fun x => x.dst == n.dst) = [n] → n.dst < 8192 → n.transp = true → n.leaving = false → n.st ≤ i → s.rd .AS_ASRC n.src = 0 →
              u.q .auDst n.dst = s.q .auSrc n.src)
          ∧ (∀ n ∈ s.nodes, ∀ b, chanOfSource s.fast n.src = some (.bus b) → (∃ m ∈ s.nodes, m.dst = busDst b) → (∀ m ∈ s.nodes, m.dst = busDst b → m.transp = false) →
              s.rd .BUS_CLASS b = 0 → u.q .auSrc n.src = s.q .auBus b ∧ u.q .auBus b = sat24 (convergent (sum (busDst b)) 20)))
      ∧ (∀ (a : AudioIn) (slot ch : Nat), ins = [a] → chanOfSource s.fast a.src = some (.edge slot ch) → s.srcFed slot ch = true → s.iaFeeds a.src = none → -8388608 ≤ a.v → a.v < 8388608 →
          (s.audDelay slot = none → u.q .auSrc a.src = a.v)
          ∧ ∀ (k : Nat) (x : Int × Option Nat × Bool), s.audDelay slot = some k → 0 < k → k ≤ i → k < 8192 → s.srcAt 0 a.src (i - k) = some x → u.q .auSrc a.src = x.1)
      ∧ s.outside [0x08, 0x0A, 0x0F] u ∧ u.mem = s.mem ∧ u.out = s.out

/-- O28. At a block start a running core whose block has ended gives its outputs, one whose block has not counts FC_OVERRUNS; FC_CYCLES_PEAK keeps the highest count; the core begins again at its entry with window base, slot and cycles 0. At a control-cycle start a requested restart, or FC_RUN = 1 of a stopped core whose domain and D0 are ready, makes it run, and FC_RUN = 0 stops it. Only its data memory and its delay lines change. A bundle with a fault is not executed: the core is FAULTED with the reason and its bundle number. A core that does not run executes nothing. FC_RESTART = 1 asks a core with a program to restart. A length write, 2,097,152 coded 0 and clamped to it with a report, refused with a report where it is no power of two in bit-reversed mode, takes effect at once in linear mode and waits otherwise. An access to the shared SRAM ends after 9 to 12 cycles. -/
def Obligations.FernCoresBlocksAndFaults : Prop :=
  ∀ (s : State) (t k : Nat), s.wf = true → s.fits → k < 32 →
    let s' := s.since t
    let i := s'.sampleAt s'.house
    let fb := s.fb k
    let ctl := i / fb % s.rd .FC_CTRL_DIV k = 0
    let slots : List Instr := [.nop t k, .mpy4 t k, .mac4 t k, .msu4 t k, .clr4 t k, .ld4 t k, .st4 t k, .stx4 t k, .ext4 t k, .ld1 t k, .st1 t k, .mov4 t k,
      .add t k, .sub t k, .and_ t k, .or_ t k, .xor t k, .shl t k, .shr t k, .ldi t k, .setp t k, .loop t k, .rloop t k, .br t k, .setwb t k, .stat t k, .end_ t k]
    (∀ c ∈ slots, s.rd .FC_STATE k ≠ 3 ∨ s.q .fcIdle k = 1 ∨ (s.qn .fcSlot k = 0 ∧ s.q .fcHalt k = 1) → Sys2Proof.Machine.exec c s = .next s')
    ∧ (∀ c ∈ slots, s.rd .FC_STATE k = 3 → s.q .fcIdle k ≠ 1 → s.q .fcHalt k ≠ 1 → s.qn .fcSlot k = 0 → s.bundleFault k ≠ 0 →
      ∃ u, Sys2Proof.Machine.exec c s = .next u ∧ u.rd .FC_STATE k = 4 ∧ u.rd .FC_FAULT k = s.bundleFault k ∧ u.rd .FC_FAULT_PC k = s.qn .fcPc k % 2 ^ 12
        ∧ bit (u.rd .FERN_RUNNING) k = false ∧ u.q .fcPc k = s.q .fcPc k ∧ (s.idleBlock 9 = false → u.latched .FERN_FAULT = true)
        ∧ s.only [.FC_STATE, .FC_FAULT, .FC_FAULT_PC, .FERN_RUNNING] u ∧ u.mem = s.mem ∧ u.out = s.out)
    ∧ (∀ lost : List (Nat × Nat), i % fb ≠ 0 ∨ s.rd .FC_STATE k < 2 → Sys2Proof.Machine.exec (.fernBlockStart t k lost) s = .next s')
    ∧ (∀ lost : List (Nat × Nat), i % fb = 0 → 2 ≤ s.rd .FC_STATE k →
      let run := s.rd .FC_STATE k = 3
      let asked := ctl ∧ s.q .fcRestartReq k = 1
      let ready := s.domReady (s.rd .FC_DOMAIN k) = true ∧ s.domReady 0 = true
      let new := if asked then 3 else if ctl ∧ s.rd .FC_STATE k = 2 ∧ s.rd .FC_RUN k = 1 ∧ ready then 3
        else if ctl ∧ run ∧ s.rd .FC_RUN k = 0 then 2 else s.rd .FC_STATE k
      ∃ u, Sys2Proof.Machine.exec (.fernBlockStart t k lost) s = .next u ∧ u.rd .FC_STATE k = new
        ∧ u.rd .FC_OVERRUNS k = (if run ∧ s.q .fcIdle k ≠ 1 then min (s.rd .FC_OVERRUNS k + 1) 0xFFFFFFFF else s.rd .FC_OVERRUNS k)
        ∧ (run → s.qn .fcCycles k < 2 ^ 22 → u.rd .FC_CYCLES_PEAK k = max (s.rd .FC_CYCLES_PEAK k) (s.qn .fcCycles k))
        ∧ (run → s.q .fcIdle k = 1 → ¬ asked → ∀ j, j < fb * s.rd .FC_OUT_COUNT k → u.q .fcOut k j = toSigned (s.loadLE (fernDataAt k + 4 * (0xF000 + j)) 4) 24)
        ∧ (new = 3 → u.q .fcPc k = s.q .fcEntry k ∧ u.q .fcSlot k = 0 ∧ u.q .fcIdle k = 0 ∧ u.q .fcWb k = 0 ∧ u.q .fcCycles k = 0 ∧ u.loopsOf k = [])
        ∧ (asked → u.q .fcRestartReq k = 0)
        ∧ (fb * s.rd .FC_IN_COUNT k ≤ 0x2000 → fb * s.rd .FC_TAP_COUNT k ≤ 0x2800 → ∀ a, (a < fernDataAt k ∨ fernDataAt k + 0x40000 ≤ a) →
            (a < s.lineAt (s.rd .FC_DL_FIRST k) ∨ s.lineAt (s.rd .FC_DL_FIRST k + s.rd .FC_DL_COUNT k) ≤ a) → u.peek a = s.peek a)
        ∧ s.outside [0x09, 0x0F] u ∧ u.out = s.out)
    ∧ (∀ value : Nat, ∃ u, Sys2Proof.Machine.exec (.fcRestart k value) s = .next u ∧
        (if value % 2 = 1 ∧ 2 ≤ s.rd .FC_STATE k then u.q .fcRestartReq k = 1 ∧ u.regs = s.regs ∧ u.mem = s.mem ∧ u.out = s.out else u = s))
    ∧ (∀ p value : Nat, p < 8 →
        let v := if value = 0 then 2097152 else min value 2097152
        let say (st : Status) (x : Nat) : Sent := .written (Fld.FP_LEN.bitAddr k p / 32 * 4) st.code [x]
        ∃ u, Sys2Proof.Machine.exec (.fpLenWrite k p value) s = .next u ∧
        (if s.rd .FP_MODE k p = 2 ∧ 2 ^ Nat.log2 v ≠ v then u = { s with out := s.out ++ [say .BAD_LENGTH (s.rd .FP_LEN k p)] }
         else u.rd .FP_LEN_PEND k p = v % 2097152
          ∧ (if s.rd .FP_MODE k p = 0 ∨ s.rd .FP_MODE k p = 3 then u.rd .FP_LEN k p = v % 2097152 ∧ u.rd .FP_PEND k p = 0 else u.rd .FP_LEN k p = s.rd .FP_LEN k p ∧ u.rd .FP_PEND k p = 1)
          ∧ u.out = s.out ++ (if 2097152 < value then [say .CLAMPED (v % 2097152)] else [])
          ∧ s.onlyAt k [.FP_LEN, .FP_LEN_PEND, .FP_PEND] u ∧ u.mem = s.mem))
    ∧ (∀ cycles : Nat, ∃ u, Sys2Proof.Machine.exec (.fernSramAccessDone t k cycles) s = .next u ∧
        (if s.q .fcHalt k = 1 then u.q .fcHalt k = 0 ∧ u.q .fcCycles k = s.q .fcCycles k + (max 9 (min 12 cycles) : Nat) ∧ u.regs = s.regs ∧ u.mem = s.mem ∧ u.out = s.out
         else u = s'))

/-- O29. For a running core whose next slot holds an operation: disabled by its stage predicate it only goes on to the next slot. A multiply stages its four results for the end of the bundle. A load lands four words, or one, three bundles later, an extraction likewise its four values; a store writes its registers through the pointer and no other byte; the pointer steps once, linearly by the modifier. A C operation writes its register, window base, address register or the loop and branch state, and ends the bundle, whose staged results reach their accumulators; the next bundle follows but for a loop of count 0 and a taken branch of 3 cycles. NOP has no effect but these. -/
def Obligations.FernSlotsExecute : Prop :=
  ∀ (s : State) (t k : Nat), s.wf = true → s.fits → k < 32 →
    let pc := s.qn .fcPc k
    let i := s.qn .fcSlot k
    let w := s.slotAt k pc i
    let held (slot op : Nat) : Prop := s.rd .FC_STATE k = 3 ∧ s.q .fcIdle k ≠ 1 ∧ s.q .fcSlot k = slot ∧ (slot = 0 → s.q .fcHalt k ≠ 1 ∧ s.bundleFault k = 0) ∧ wOp w = op
    let on : Prop := s.enabled k w = true
    let same (u : State) : Prop := u.mem = s.mem ∧ u.out = s.out
    let p := s.preg k (wP w)
    let rows : List (Instr × List Nat × Nat) := [(.nop t k, [0, 1, 2, 3], 0), (.mpy4 t k, [0, 1], 1), (.mac4 t k, [0, 1], 2), (.msu4 t k, [0, 1], 3), (.clr4 t k, [0, 1], 4),
      (.ld4 t k, [2], 1), (.st4 t k, [2], 2), (.stx4 t k, [2], 3), (.ext4 t k, [2], 4), (.ld1 t k, [2], 5), (.st1 t k, [2], 6), (.mov4 t k, [3], 1), (.add t k, [3], 2),
      (.sub t k, [3], 3), (.and_ t k, [3], 4), (.or_ t k, [3], 5), (.xor t k, [3], 6), (.shl t k, [3], 7), (.shr t k, [3], 8), (.ldi t k, [3], 9), (.setp t k, [3], 10),
      (.loop t k, [3], 11), (.rloop t k, [3], 12), (.br t k, [3], 13), (.setwb t k, [3], 14), (.stat t k, [3], 15), (.end_ t k, [3], 16)]
    (∀ r ∈ rows, ∀ n, n < 3 → n ∈ r.2.1 → held n r.2.2 → ¬ on ∨ r.2.2 = 0 →
      ∃ u, Sys2Proof.Machine.exec r.1 s = .next u ∧ u.q .fcSlot k = n + 1 ∧ u.regs = s.regs ∧ u.landings = s.landings ∧ u.staged = s.staged ∧ same u)
    ∧ (∀ n, n < 2 → on →
      let quad (c : Instr) (op : Nat) (f : Int → Int → Int) : Prop := held n op → ∃ u, Sys2Proof.Machine.exec c s = .next u ∧ u.q .fcSlot k = n + 1
        ∧ u.staged = s.staged ++ ((List.range 4).map fun j => ⟨k, 4 * (wD w % 4) + j,
            toSigned (ofSigned (f (s.q .fcAcc k (4 * (wD w % 4) + j)) (s.srcA k w j * s.srcB k w j)) 56) 56⟩) ∧ s.only [.FC_AOV] u ∧ u.landings = s.landings ∧ same u
      quad (.mpy4 t k) 1 (fun _ x => x) ∧ quad (.mac4 t k) 2 (fun a x => a + x) ∧ quad (.msu4 t k) 3 (fun a x => a - x) ∧ quad (.clr4 t k) 4 (fun _ _ => 0))
    ∧ (on → p.mode = 0 →
      let after (u : State) : Prop := u.q .fcSlot k = 3 ∧ u.rd .FP_PTR k (wP w) = (((p.ptr : Int) + s.rdS .FP_MOD k (wP w)) % (2 ^ 22 : Nat)).toNat
      let load (c : Instr) (op n : Nat) : Prop := held 2 op → (∀ a ∈ p.words n, a < 0x10000) → ∃ u, Sys2Proof.Machine.exec c s = .next u ∧ after u
        ∧ u.landings = s.landings ++ ((List.range n).zip (p.words n)).map (fun x =>
            ⟨k, s.qn .fcBundle k + 3, s.regIx k (bit (wF w) 3) (wD w + x.1), ofSigned (s.fernLoad k x.2) 24⟩)
        ∧ s.only [.FP_PTR] u ∧ same u
      let store (c : Instr) (op n : Nat) (v : Nat → Int) : Prop := held 2 op → (∀ a ∈ p.words n, s.fernReach k a = true) → ∃ u, Sys2Proof.Machine.exec c s = .next u ∧ after u
        ∧ (∀ b, (∀ a ∈ p.words n, b < fernAddr k a ∨ fernAddr k a + 4 ≤ b) → u.peek b = s.peek b)
        ∧ (p.ptr + n ≤ 2 ^ 22 → ∀ j, j < n → p.ptr + j < 0xD000 ∨ 0xD400 ≤ p.ptr + j → u.loadLE (fernAddr k (p.ptr + j)) 4 = ofSigned (v j) 32)
        ∧ s.only [.FP_PTR, .FC_SAT] u ∧ u.out = s.out
      load (.ld4 t k) 1 4 ∧ load (.ld1 t k) 5 1 ∧ store (.st4 t k) 2 4 (fun j => s.srcA k w j) ∧ store (.st1 t k) 6 1 (fun _ => s.srcA k w 0)
      ∧ store (.stx4 t k) 3 4 (fun j => sat24 (convergent (s.q .fcAcc k (4 * (wA w % 4) + j)) (wK w))))
    ∧ (on → held 2 4 → ∃ u, Sys2Proof.Machine.exec (.ext4 t k) s = .next u ∧ u.q .fcSlot k = 3 ∧ s.only [.FC_SAT] u ∧ same u
        ∧ u.landings = s.landings ++ ((List.range 4).map fun j => ⟨k, s.qn .fcBundle k + 3, s.regIx k (bit (wF w) 3) (wD w + j),
            ofSigned (sat24 (convergent (s.q .fcAcc k (4 * (wA w % 4) + j)) (wK w))) 24⟩))
    ∧ (s.loopsOf k = [] → s.q .fcJump k = 0 → (∀ l ∈ s.landings, l.core ≠ k) → pc < 4096 →
      let ends (u : State) (nxt cycles : Nat) : Prop := u.q .fcPc k = nxt ∧ u.q .fcSlot k = 0 ∧ u.q .fcBundle k = s.q .fcBundle k + 1
        ∧ u.q .fcCycles k = s.q .fcCycles k + cycles ∧ (∀ x, s.staged.filter (fun y => y.core == k) = [x] → x.acc < 16 → u.q .fcAcc k x.acc = x.v) ∧ same u
      let a := ofSigned (s.q .fcX k (wA w)) 24
      let b := ofSigned (s.q .fcX k (wB w)) 24
      let gives (c : Instr) (op : Nat) (v : Int) : Prop := held 3 op → on → ∃ u, Sys2Proof.Machine.exec c s = .next u ∧ ends u (pc + 1) 1
        ∧ u.q .fcX k (wD w) = toSigned (ofSigned v 24) 24 ∧ u.regs = s.regs
      (held 3 0 → ∃ u, Sys2Proof.Machine.exec (.nop t k) s = .next u ∧ ends u (pc + 1) 1 ∧ u.regs = s.regs)
      ∧ (held 3 1 → on → ∃ u, Sys2Proof.Machine.exec (.mov4 t k) s = .next u ∧ ends u (pc + 1) 1 ∧ u.regs = s.regs
          ∧ (∀ j, j < 4 → u.q .fcX k ((wD w + j) % 32) = toSigned (ofSigned (s.q .fcX k ((wA w + j) % 32)) 24) 24))
      ∧ gives (.add t k) 2 (a + b) ∧ gives (.sub t k) 3 ((a : Int) - b) ∧ gives (.and_ t k) 4 (Nat.land a b : Nat) ∧ gives (.or_ t k) 5 (Nat.lor a b : Nat)
      ∧ gives (.xor t k) 6 (Nat.xor a b : Nat) ∧ (b < 24 → gives (.shl t k) 7 (a * 2 ^ b : Nat)) ∧ (b < 24 → a < 2 ^ 23 → gives (.shr t k) 8 (a / 2 ^ b : Nat))
      ∧ gives (.ldi t k) 9 (toSigned (wF w) 9) ∧ gives (.stat t k) 15 (s.fernStat k : Nat)
      ∧ (held 3 10 → on → bit (wF w) 4 = false → ∃ u, Sys2Proof.Machine.exec (.setp t k) s = .next u ∧ ends u (pc + 1) 1
          ∧ (let v := ofSigned (s.q .fcX k (wA w)) 22
             let n := wD w % 8
             (bits (wF w) 0 2 = 0 → u.rd .FP_BASE k n = v) ∧ (bits (wF w) 0 2 = 1 → u.rd .FP_MOD k n = v) ∧ (bits (wF w) 0 2 = 3 → u.rd .FP_PTR k n = v))
          ∧ s.onlyAt k [.FP_BASE, .FP_MOD, .FP_PTR, .FP_LEN, .FP_LEN_PEND, .FP_PEND, .FC_LEN_CLAMP] u)
      ∧ (let count := ofSigned (s.q .fcX k (wA w)) 16
         let stop := pc + 1 + wF w
         let enters (c : Instr) (op : Nat) (l : FLoop) : Prop := held 3 op → on → ∃ u, Sys2Proof.Machine.exec c s = .next u ∧ u.regs = s.regs
          ∧ (if count = 0 then ends u (stop + 1) 1 ∧ u.loops = s.loops else ends u (pc + 1) 1 ∧ u.loops = l :: s.loops)
         enters (.loop t k) 11 ⟨k, pc + 1, stop, count, false, 0, 0, 0, 0⟩
         ∧ enters (.rloop t k) 12 ⟨k, pc + 1, stop, 0, true, count, wD w % 8 + 1, if bit (wD w) 3 then 4 else 1, 0⟩)
      ∧ (held 3 13 → on → let taken := bit (wF w) 0 = false ∨ s.q .fcX k (wB w) ≠ 0
          ∃ u, Sys2Proof.Machine.exec (.br t k) s = .next u ∧ u.regs = s.regs ∧ (if taken then ends u (ofSigned (s.q .fcX k (wA w)) 12) 3 else ends u (pc + 1) 1))
      ∧ (held 3 14 → on → ∃ u, Sys2Proof.Machine.exec (.setwb t k) s = .next u ∧ ends u (pc + 1) 1 ∧ u.q .fcWb k = (wF w % 32 : Nat) ∧ u.regs = s.regs)
      ∧ (held 3 16 → on → ∃ u, Sys2Proof.Machine.exec (.end_ t k) s = .next u ∧ ends u (pc + 1) 1 ∧ u.q .fcIdle k = 1 ∧ u.regs = s.regs))

/-- O30. At a frame start of a running master port one frame leaves on the lands, most significant bit first from TD_OFFSET on, with its frame sync and TD_SLOTS slots. Where the port is synchronous PCM with unchanged masks, an active slot that carries signal holds its sample of the frame two samples earlier, in 24 or 32 bits, and a received slot enters as the sample of its word for two samples later; after 128 frames of the lead-in STARTING becomes RUNNING. A slave frame in QUALIFYING that fits adds 1 to TD_QUAL_COUNT and the 256th makes the clock QUALIFIED at its rate, any other frame sets the count to 0; in QUALIFIED a frame outside 500 ppm makes it QUALIFYING, adds 1 to TD_RATE_CHANGES and mutes an active port. Clock edges lead from ABSENT to QUALIFYING, a clock stop from QUALIFIED to ABSENT with TD_CLK_STOPS and MUTED. A zero-crossing wait that runs out ramps. A valid trigger write of kind RASTER arms its trigger; one with an operation or a time out of range, or at a time of a PTP domain that is neither LOCKED nor GRANDMASTER, is refused and counted; of the triggers due at a port the one latest in order fires: a START starts an idle or muted port with a qualified clock and is counted missed at a running one, a STOP stops a running port; with no such trigger due nothing happens. Registers outside blocks 0Ah and 0Fh and all of memory are unchanged. (What a frame holds is taken at its start, log 3.) -/
def Obligations.TdmPortsCarryFrames : Prop :=
  ∀ (s : State) (t p : Nat), s.wf = true → s.fits → p < 16 →
    let s' := s.since t
    let chosen := match s'.trigsDue p with | [] => none | a :: r => some (r.foldl (fun x y => if later y.order x.order then y else x) a)
    let kept (u : State) : Prop := s.outside [0x0A, 0x0F] u ∧ u.mem = s.mem ∧ u.pending = s.pending
    (∀ pins : List TdmClk,
      let words := s.slotWords p pins
      (s.rd .TD_MASTER p ≠ 1 ∨ s.tdActive p = false → Sys2Proof.Machine.exec (.tdmMasterFrameStart t p pins) s = .next s')
      ∧ (s.rd .TD_MASTER p = 1 → s.tdActive p = true → ∃ (u : State) (ws : List (Option Nat)), Sys2Proof.Machine.exec (.tdmMasterFrameStart t p pins) s = .next u ∧ kept u
          ∧ u.out = s.out ++ [.tdm p (s.syncOut p) (s.rd .TD_BCLK_INV p == 1) ((s.dataOut p ws).take (s.rd .TD_FRAME_BCLK p))]
          ∧ ws.length = s.rd .TD_SLOTS p ∧ u.qn .tdFrame p = s.qn .tdFrame p + 1
          ∧ (s.rd .TD_STATE p = 3 → u.rd .TD_STATE p = 3)
          ∧ (s.rd .TD_STATE p = 2 → s.rd .TD_SILENT_MODE p = 1 → u.rd .TD_STATE p = (if 128 ≤ s.qn .tdFrame p + 1 then 3 else 2))
          ∧ (s.rd .TD_ASRC p = 0 → s.rd .TD_FMT p = 0 → s.rd .TD_TX_MASK p = s.qn .tdMask p 0 → s.rd .TD_RX_MASK p = s.qn .tdMask p 1 →
              let h := s'.sampleFrom s'.house
              (∀ k < 32, s.slotOn p k = true → s.qn .tdCh p k = 2 →
                let x := ((s'.tdNext p false (h - 2)).getD k (0, 0)).1
                (s.rd .TD_WIDTH p = 24 → ws.getD k none = some (ofSigned x 24)) ∧ (s.rd .TD_WIDTH p = 32 → ws.getD k none = some (ofSigned x 24 * 256)))
              ∧ (s.rd .TD_STATE p ≠ 4 → ∃ f, u.tdBuf.getLast? = some f ∧ f.port = p ∧ f.rx = true ∧ f.at_ = h + 2
                  ∧ ∀ k < 32, s.slotOn p (32 + k) = true → s.qn .tdCh p (32 + k) = 2 →
                    (s.rd .TD_WIDTH p = 24 → (f.slots.getD k (0, 0)).1 = toSigned (words.getD k 0 % 2 ^ 24) 24)
                    ∧ (s.rd .TD_WIDTH p = 32 → (f.slots.getD k (0, 0)).1 = toSigned (bits (words.getD k 0) 8 24) 24)))))
    ∧ (∀ f : TdmFrame, ∃ u, Sys2Proof.Machine.exec (.tdmSlaveFrameReceived t p f) s = .next u ∧ kept u
        ∧ (s.rd .TD_MASTER p = 1 ∨ s.rd .TD_STATE p = 0 → u = s') ∧ (s.rd .TD_CLK p = 0 → u.regs = s.regs ∧ u.out = s.out)
        ∧ (s.rd .TD_MASTER p = 0 → s.rd .TD_STATE p ≠ 0 → s.rd .TD_CLK p = 1 → u.rd .TD_BCLK_KHZ p = f.kHz % 2 ^ 16 ∧
            (match s.tdQualRate p f.mHz with
             | some c =>
               if f.pins.length = s.rd .TD_FRAME_BCLK p ∧ s.syncHere p f.pins = true ∧ f.kHz ≤ 50000 then
                 (if s.rd .TD_QUAL_COUNT p + 1 < 256 then u.rd .TD_QUAL_COUNT p = s.rd .TD_QUAL_COUNT p + 1 ∧ u.rd .TD_CLK p = 1
                  else u.rd .TD_QUAL_COUNT p = 256 ∧ u.rd .TD_CLK p = 2 ∧ u.rd .TD_RATE_NOW p = c)
               else u.rd .TD_QUAL_COUNT p = 0 ∧ u.rd .TD_CLK p = 1
             | none => u.rd .TD_QUAL_COUNT p = 0 ∧ u.rd .TD_CLK p = 1))
        ∧ (s.rd .TD_MASTER p = 0 → s.rd .TD_STATE p ≠ 0 → s.rd .TD_CLK p = 2 → within500 f.mHz (tdRateMHz (s.rd .TD_RATE_NOW p)) = false →
            u.rd .TD_CLK p = 1 ∧ u.rd .TD_QUAL_COUNT p = 0 ∧ u.rd .TD_RATE_CHANGES p = min (s.rd .TD_RATE_CHANGES p + 1) 0xFFFFFFFF
            ∧ u.rd .TD_STATE p = (if s.tdActive p then 5 else s.rd .TD_STATE p) ∧ u.out = s.out)
        ∧ (s.rd .TD_MASTER p = 0 → s.rd .TD_CLK p = 2 → s.tdActive p = true → within500 f.mHz (tdRateMHz (s.rd .TD_RATE_NOW p)) = true →
            ∃ ws : List (Option Nat), u.out = s.out ++ [.tdm p none (s.rd .TD_BCLK_INV p == 1) ((s.dataOut p ws).take f.pins.length)] ∧ ws.length = s.rd .TD_SLOTS p ∧ u.qn .tdFrame p = s.qn .tdFrame p + 1
              ∧ u.rd .TD_GLITCHES p = (if s.syncHere p f.pins = true ∧ s.rd .TD_FRAME_BCLK p ≤ f.pins.length then s.rd .TD_GLITCHES p else min (s.rd .TD_GLITCHES p + 1) 0xFFFFFFFF)))
    ∧ (∃ u, Sys2Proof.Machine.exec (.tdmClockDetect t p) s = .next u ∧ kept u
        ∧ (s.rd .TD_MASTER p = 0 → s.rd .TD_STATE p ≠ 0 → s.rd .TD_CLK p = 0 → u.rd .TD_CLK p = 1 ∧ u.rd .TD_QUAL_COUNT p = 0)
        ∧ (s.rd .TD_MASTER p = 1 ∨ s.rd .TD_STATE p = 0 ∨ s.rd .TD_CLK p ≠ 0 → u = s'))
    ∧ (∃ u, Sys2Proof.Machine.exec (.tdmClockStop t p) s = .next u ∧ kept u
        ∧ (s.rd .TD_MASTER p = 0 → s.rd .TD_CLK p = 2 → u.rd .TD_CLK p = 0 ∧ u.rd .TD_QUAL_COUNT p = 0
            ∧ u.rd .TD_CLK_STOPS p = min (s.rd .TD_CLK_STOPS p + 1) 0xFFFFFFFF ∧ u.rd .TD_STATE p = (if s.tdActive p then 5 else s.rd .TD_STATE p))
        ∧ (s.rd .TD_MASTER p = 1 ∨ s.rd .TD_CLK p ≠ 2 → u = s'))
    ∧ (∃ u, Sys2Proof.Machine.exec (.tdmZcTimeout t p) s = .next u ∧ kept u
        ∧ (∀ ix < 64, s'.due .tdZc (p * 64 + ix) = true →
            u.timer .tdZc (p * 64 + ix) = none ∧ u.qn .tdCh p ix = (if s.qn .tdCh p ix = 3 then 5 else 4))
        ∧ (∀ ix < 64, s'.due .tdZc (p * 64 + ix) = false → u.qn .tdCh p ix = s.qn .tdCh p ix))
    ∧ (∀ (order d w0 w1 w2 w3 : Nat), ∃ u, Sys2Proof.Machine.exec (.tdmTriggerWrite t order d [w0, w1, w2, w3]) s = .next u ∧ kept u
        ∧ (bits w0 16 2 = 1 ∨ bits w0 16 2 = 2 → bits w0 18 1 = 0 → bits w3 0 30 ≤ 999999999 →
            u.trigs = s.trigs ++ [⟨order, bits w0 0 16, bits w0 16 2, 0, s'.house⟩] ∧ u.rd .TT_PORTS = bits w0 0 16 ∧ u.rd .TT_OP = bits w0 16 2
            ∧ u.rd .TT_LAST_ORDER = order % 2 ^ 32)
        ∧ (bits w0 16 2 = 0 ∨ bits w0 16 2 = 3 ∨ 999999999 < bits w3 0 30
          ∨ (bits w0 18 1 = 1 ∧ s.rd .PD_SERVO (bits w0 19 1) ≠ 4 ∧ s.rd .PD_SERVO (bits w0 19 1) ≠ 5) →
            u.trigs = s.trigs ∧ u.rd .TT_LAST_ORDER = s.rd .TT_LAST_ORDER ∧ u.rd .TC_WRITE_REFUSED = min (s.rd .TC_WRITE_REFUSED + 1) 0xFFFFFFFF
            ∧ u.latched .WRITE_REFUSED = true))
    ∧ (∃ u, Sys2Proof.Machine.exec (.tdmStart t p) s = .next u ∧ kept u
        ∧ (∀ g, chosen = some g → g.op = 1 → u.trigsDue p = []
            ∧ (s.rd .TD_STATE p = 1 ∨ s.rd .TD_STATE p = 5 → s.rd .TD_CLK p = 2 → u.rd .TD_STATE p = 2 ∧ u.qn .tdFrame p = 0
                ∧ u.rd .TD_SLIP_NET p = 0 ∧ u.rd .TD_FIRE_LO p = s'.sampleFrom g.at_ % 2 ^ 32)
            ∧ (((s.rd .TD_STATE p = 1 ∨ s.rd .TD_STATE p = 5) ∧ s.rd .TD_CLK p ≠ 2) ∨ s.rd .TD_STATE p = 2 ∨ s.rd .TD_STATE p = 3 →
                u.rd .TD_STATE p = s.rd .TD_STATE p ∧ u.rd .TD_TRIG_MISSED p = min (s.rd .TD_TRIG_MISSED p + 1) 0xFFFFFFFF))
        ∧ ((∀ g, chosen = some g → g.op ≠ 1) → u = s'))
    ∧ (∃ u, Sys2Proof.Machine.exec (.tdmStop t p) s = .next u ∧ kept u
        ∧ (∀ g, chosen = some g → g.op = 2 → u.trigsDue p = []
            ∧ u.rd .TD_STATE p = (match s.rd .TD_STATE p with | 2 => 4 | 3 => 4 | 5 => 1 | st => st))
        ∧ ((∀ g, chosen = some g → g.op ≠ 2) → u = s'))

/-- O31. A lost input makes each of its entries that was QUALIFYING to DISQUALIFIED ABSENT and counts it; a present input makes its ABSENT entries QUALIFYING, with the timer running while y is within half the tolerance. A measured y is held; beyond the tolerance it takes QUALIFIED to DRIFTING and starts the timer, within it DRIFTING back to QUALIFIED, within half of it DISQUALIFIED to QUALIFYING. The timer's end takes QUALIFYING to QUALIFIED where y is near and the lock condition is met, and DRIFTING to DISQUALIFIED, counted. The 10 MHz inputs show in RI_10M_OK, and the loss of the selected one is reported. Memory is unchanged by each. -/
def Obligations.ReferenceEntriesQualify : Prop :=
  ∀ (s : State) (t : Nat), s.wf = true → s.fits →
    let s' := s.since t
    (∀ input : Nat, input < 16 → ∃ u, Sys2Proof.Machine.exec (.refInputLost t input) s = .next u
        ∧ (∀ e, e < 8 → let hit := s.rd .RE_INPUT e = input ∧ 2 ≤ s.rd .RE_STATE e ∧ s.rd .RE_STATE e ≤ 5
            u.rd .RE_STATE e = (if hit then 1 else s.rd .RE_STATE e) ∧ (hit → u.timer .reQual e = none)
            ∧ u.rd .RE_LOSSES e = (if hit then min (s.rd .RE_LOSSES e + 1) 0xFFFFFFFF else s.rd .RE_LOSSES e))
        ∧ (input < 2 → bit (u.rd .RI_SYN_OK) input = false) ∧ u.q .rePresent input = 0
        ∧ s.only [.RE_STATE, .RE_LOSSES, .RI_SYN_OK] u ∧ u.mem = s.mem ∧ u.out = s.out)
    ∧ (∀ input : Nat, input < 16 → ∃ u, Sys2Proof.Machine.exec (.refInputPresent t input) s = .next u ∧
        (if s.mayBePresent input = true then
          (∀ e, e < 8 → let hit := s.rd .RE_INPUT e = input ∧ s.rd .RE_STATE e = 1
            u.rd .RE_STATE e = (if hit then 2 else s.rd .RE_STATE e)
            ∧ (hit → u.timer .reQual e = if s.near e = true then some (max s.now t + s.reQual e * psS) else none))
          ∧ (input < 2 → bit (u.rd .RI_SYN_OK) input = true) ∧ u.q .rePresent input = 1 ∧ s.only [.RE_STATE, .RI_SYN_OK] u ∧ u.mem = s.mem ∧ u.out = s.out
         else u = s'))
    ∧ (∀ (e : Nat) (y freq : Int), e < 8 → -2147483648 ≤ y → y < 2147483648 →
        let st := s.rd .RE_STATE e
        let near := 2 * y.natAbs ≤ s.reTol e
        let far := s.reTol e < y.natAbs
        let run := some (max s.now t + s.reQual e * psS)
        ∃ u, Sys2Proof.Machine.exec (.refYMeasure t e y freq) s = .next u ∧ u.rdS .RE_Y e = y ∧ u.mem = s.mem ∧ u.out = s.out
          ∧ u.rd .RE_STATE e = (if (st = 3 ∨ st = 4) ∧ far then 4 else if st = 4 then 3 else if st = 5 ∧ near then 2 else st)
          ∧ (st = 2 → u.timer .reQual e = if near then (match s.timer .reQual e with | some x => some x | none => run) else none)
          ∧ (st = 3 → far → u.timer .reQual e = run) ∧ (st = 4 → ¬ far → u.timer .reQual e = none) ∧ (st = 5 → near → u.timer .reQual e = run)
          ∧ (s.rd .REF_SEL = e → s.rd .REF_STATE = 1 → st = 3 → far → u.rd .REF_STATE = 2)
          ∧ (s.rd .REF_SEL = e → s.rd .REF_STATE = 2 → st = 4 → ¬ far → u.rd .REF_STATE = 1)
          ∧ (s.rd .REF_SEL ≠ e → s.rd .REF_STATE ≠ 1 → s.rd .REF_STATE ≠ 2 → s.only [.RE_Y, .RE_STATE, .RE_DISQUALS] u))
    ∧ (∀ e : Nat, e < 8 → ∃ u, Sys2Proof.Machine.exec (.refQualifyTimer t e) s = .next u ∧
        (if s'.due .reQual e = true ∧ s.rd .RE_STATE e = 2 ∧ s.near e = true ∧ s.lockMet (s.rd .RE_INPUT e) = true then
          u.rd .RE_STATE e = 3 ∧ u.q .refJust e = 1 ∧ u.timer .reQual e = none ∧ (s.rd .REF_SEL ≠ e → s.only [.RE_STATE] u) ∧ u.mem = s.mem ∧ u.out = s.out
         else if s'.due .reQual e = true ∧ s.rd .RE_STATE e = 4 then
          u.rd .RE_STATE e = 5 ∧ u.rd .RE_DISQUALS e = min (s.rd .RE_DISQUALS e + 1) 0xFFFFFFFF ∧ u.timer .reQual e = none
            ∧ s.only [.RE_STATE, .RE_DISQUALS] u ∧ u.mem = s.mem ∧ u.out = s.out
         else u = s'))
    ∧ (∀ n : Nat, n < 2 →
        (∃ u, Sys2Proof.Machine.exec (.ref10mLoss t n) s = .next u ∧ bit (u.rd .RI_10M_OK) n = false ∧ bit (u.rd .RI_10M_OK) (1 - n) = bit (s.rd .RI_10M_OK) (1 - n)
          ∧ (bit (s.rd .RI_10M_OK) n = true → s.selInput = 2 + n → s.idleBlock 11 = false → u.latched .REF_10M_LOSS = true)
          ∧ s.only [.RI_10M_OK] u ∧ u.mem = s.mem ∧ u.out = s.out)
        ∧ (∃ u, Sys2Proof.Machine.exec (.ref10mPresent t n) s = .next u ∧ bit (u.rd .RI_10M_OK) n = true ∧ bit (u.rd .RI_10M_OK) (1 - n) = bit (s.rd .RI_10M_OK) (1 - n)
          ∧ s.only [.RI_10M_OK] u ∧ u.mem = s.mem ∧ u.out = s.out))

/-- O32. When no enable or tolerance changes, no entry at a manager is on FAB and no start-up salvo waits, an evaluation with candidates and a group to choose from selects what TIE gives, shows the votes where members disagree and REF_NOMAJ where none wins, and starts to track the new entry; with no group it clears both; with no candidate a tracking module enters HOLDOVER, or FREE_RUN with a hold time of 0. The start wait without a candidate and the end of the Ember hold enter FREE_RUN, which no entry holds; enabled domains go to EMBER. A slew at its target ends REF_SLEWING; a REALIGN at its end clears what is left, counts and is reported. A pulse in 1PPS mode leaves with its width, but not within half a second of the last. Memory is unchanged by each. -/
def Obligations.ReferenceIsSelectedAndSlewed : Prop :=
  ∀ (s : State) (t : Nat), s.wf = true → s.fits →
    let s' := s.since t
    let q := (List.range 8).filter s.candidate
    let c := s.rd .REF_SEL
    let settled := s.q .salvoWait ≠ 1 ∧ ∀ e, e < 8 → s.reTol e = 100 * s.rd .RE_TOL e ∧ (s.rd .RE_STATE e = 0 ∨ ((s.rd .RE_EN e = 0 ↔ s.rd .RE_STATE e = 6)
      ∧ (s.isManager = true → s.rd .RE_INPUT e = 10 → s.rd .RE_STATE e = 1 ∨ s.rd .RE_STATE e = 6)))
    let ember (u : State) (st : Nat) : Prop := u.rd .REF_STATE = st ∧ u.rd .REF_SEL = 15 ∧ u.rd .RT_HOUSE_SRC = 5
      ∧ (∀ d, d < 8 → u.rd .RD_STATE_RASTER d = if s.rd .RD_FORMAT d ≠ 0 then 3 else s.rd .RD_STATE_RASTER d)
      ∧ s.outside [0x0B, 0x0C, 0x0F] u ∧ u.mem = s.mem ∧ u.out = s.out
    (∀ (refs : List Int) (g : List Nat), settled → q ≠ [] → s.tieGroup q c = some g →
      let r := s.tie q g c
      ∃ u, Sys2Proof.Machine.exec (.refSelectEval t refs) s = .next u ∧ u.rd .REF_SEL = r.1 ∧ u.rd .REF_NOMAJ = b2n r.2.2
        ∧ (∀ m, m < 8 → u.rd .RE_VOTES m = if r.2.1 = true ∧ m ∈ g then s.votesFor q g m else 0)
        ∧ u.rd .REF_NOMAJ_CNT = (if r.2.2 = true ∧ s.rd .REF_NOMAJ = 0 then min (s.rd .REF_NOMAJ_CNT + 1) 0xFFFFFFFF else s.rd .REF_NOMAJ_CNT)
        ∧ (r.1 ≠ c → u.rd .RT_HOUSE_SRC = houseSrc (s.rd .RE_INPUT r.1) ∧ u.q .refC = r.1 + 1 ∧ u.q .refTarget = s.reY r.1 ∧ (s.rd .RE_STATE r.1 = 3 → u.rd .REF_STATE = 1)
            ∧ u.rd .REF_SWITCHES = (if s.qn .refC ≠ 0 ∧ s.qn .refC ≠ r.1 + 1 then min (s.rd .REF_SWITCHES + 1) 0xFFFFFFFF else s.rd .REF_SWITCHES))
        ∧ (r.1 = c → s.only [.RE_VOTES, .REF_NOMAJ, .REF_NOMAJ_CNT] u) ∧ u.mem = s.mem ∧ u.out = s.out)
    ∧ (∀ refs : List Int, settled → q ≠ [] → s.tieGroup q c = none →
      ∃ u, Sys2Proof.Machine.exec (.refSelectEval t refs) s = .next u ∧ u.rd .REF_NOMAJ = 0 ∧ (∀ m, m < 8 → u.rd .RE_VOTES m = 0)
        ∧ s.only [.RE_VOTES, .REF_NOMAJ] u ∧ u.mem = s.mem ∧ u.out = s.out)
    ∧ (∀ refs : List Int, settled → q = [] → s.rd .REF_STATE = 1 → s.qn .refAcc < max s.now t →
      ∃ u, Sys2Proof.Machine.exec (.refSelectEval t refs) s = .next u
        ∧ (if s.rd .REF_EMBER_HOLD_S = 0 then ember u 4
           else ember u 3 ∧ u.rd .REF_EMBER_ENTRIES = min (s.rd .REF_EMBER_ENTRIES + 1) 0xFFFFFFFF
             ∧ u.timer .refHold = some (max s.now t + s.rd .REF_EMBER_HOLD_S * psS)))
    ∧ (s'.due .refStart = true → s.rd .REF_STATE = 0 → q = [] →
      ∃ u, Sys2Proof.Machine.exec (.refStartWaitExpiry t) s = .next u ∧ ember u 4
        ∧ u.q .houseOff = (if s.rd .PT_TOD_VALID = 1 then s.q .todLast else -((max s.now t : Nat) : Int)))
    ∧ (s'.due .refStart = false ∨ s.rd .REF_STATE ≠ 0 ∨ q ≠ [] → Sys2Proof.Machine.exec (.refStartWaitExpiry t) s = .next s')
    ∧ (s'.due .refHold = true → s.rd .REF_STATE = 3 → ∃ u, Sys2Proof.Machine.exec (.refEmberHoldExpiry t) s = .next u ∧ ember u 4)
    ∧ (s'.due .refHold = false ∨ s.rd .REF_STATE ≠ 3 → Sys2Proof.Machine.exec (.refEmberHoldExpiry t) s = .next s')
    ∧ (∃ u, Sys2Proof.Machine.exec (.refSlewDone t) s = .next u ∧
        (if s.rd .REF_SLEWING = 1 ∧ s'.freqNow = s.q .refTarget then u.rd .REF_SLEWING = 0 ∧ (-2147483648 ≤ s.q .refTarget → s.q .refTarget < 2147483648 → u.rdS .REF_FREQ = s.q .refTarget)
          ∧ s.outside [0x0B, 0x0C] u ∧ u.mem = s.mem ∧ u.out = s.out else u = s'))
    ∧ (∃ u, Sys2Proof.Machine.exec (.realignSlewDone t) s = .next u ∧
        (if s.rd .REF_REALIGNING = 1 ∧ s.profileEnd ≤ max s.now t then u.rd .REF_REALIGNING = 0 ∧ u.rd .REF_REALIGN_LEFT_LO = 0 ∧ u.rd .REF_REALIGN_LEFT_HI = 0
          ∧ u.rd .REF_REALIGNS = min (s.rd .REF_REALIGNS + 1) 0xFFFFFFFF ∧ (s.idleBlock 11 = false → u.latched .REALIGN_DONE = true)
          ∧ s.outside [0x0B, 0x0C, 0x0F] u ∧ u.mem = s.mem ∧ u.out = s.out else u = s'))
    ∧ (∀ k : Nat, k < 2 → s.q .poAt k = 0 →
      ∃ u, Sys2Proof.Machine.exec (.pulseOutput t k) s = .next u ∧ u.regs = s.regs ∧ u.mem = s.mem
        ∧ u.out = s.out ++ (if (s.rd .PO_MODE k = 2 ∧ (s.q .poLast k = 0 ∨ psS ≤ 2 * (max s.now t + 1 - s.qn .poLast k))) ∨ (s.rd .PO_MODE k = 1 ∧ s.domReady (s.rd .PO_DOMAIN k) = true) then [.pulse k (s.rd .PO_WIDTH_US k)] else []))

/-- O33. A message of a domain that the port does not serve has no effect but that an event message counts in PP_RX_EVENTS of a port with PP_DOM_EN. A two-step Sync on the slave port is stamped and waits; its Follow_Up, and a one-step Sync, give theta once a path delay is known: in LOCKING an offset beyond PD_STEP_NS goes to ACQUIRING and the sixteenth in a row within PD_LOCK_NS to LOCKED; in LOCKED the fourth in a row beyond four times PD_LOCK_NS goes to LOCKING; in ACQUIRING a large offset steps the scale where the servo owns it. The answer to the last Delay_Req adds an exchange to the path delay. A master port answers Delay_Req. An Announce is held and restarts the receipt time, whose end forgets what the port heard. Management is answered. Memory is unchanged by each. -/
def Obligations.PtpMessagesDriveTheServo : Prop :=
  ∀ (s : State) (t port num k : Nat), s.wf = true → s.fits → port < 259 → k < 2 →
    let s' := s.since t
    (s.domOf port num = none → ∀ (seq fine id sender prio1 cls acc var prio2 gm steps utc : Nat) (two get : Bool) (x : Int),
      let heard (u : State) : Prop := u.rd .PP_RX_EVENTS port = (if s.rd .PP_DOM_EN port = 0 then s.rd .PP_RX_EVENTS port else min (s.rd .PP_RX_EVENTS port + 1) 0xFFFFFFFF)
        ∧ s.onlyAt port [.PP_RX_EVENTS] u ∧ u.mem = s.mem ∧ u.out = s.out
      (∃ u, Sys2Proof.Machine.exec (.ptpSyncReceive t port num seq fine two x) s = .next u ∧ heard u)
      ∧ (∃ u, Sys2Proof.Machine.exec (.ptpDelayReqReceive t port num seq fine) s = .next u ∧ heard u)
      ∧ Sys2Proof.Machine.exec (.ptpFollowUpReceive t port num seq x) s = .next s' ∧ Sys2Proof.Machine.exec (.ptpDelayRespReceive t port num seq x) s = .next s'
      ∧ Sys2Proof.Machine.exec (.ptpAnnounceReceive t port num sender prio1 cls acc var prio2 gm steps utc) s = .next s'
      ∧ Sys2Proof.Machine.exec (.ptpManagementGet t port num id get) s = .next s')
    ∧ (s.domOf port num = some k →
      let slave := s.rd .PD_SLAVE_PORT k = port + 1
      let rx (u : State) : Prop := u.rd .PP_RX_EVENTS port = min (s.rd .PP_RX_EVENTS port + 1) 0xFFFFFFFF ∧ u.mem = s.mem
      let judged (u : State) (th : Int) : Prop :=
        let big := s.rd .PD_STEP_NS k * 65536 < th.natAbs
        let lock := s.rd .PD_LOCK_NS k * 65536
        (s.rd .PD_SERVO k = 3 → u.rd .PD_SERVO k = if big then 2 else if th.natAbs ≤ lock ∧ 16 ≤ s.q .pdGood k + 1 then 4 else 3)
        ∧ (s.rd .PD_SERVO k = 4 → u.rd .PD_SERVO k = if big then 2 else if 4 * lock < th.natAbs ∧ 4 ≤ s.q .pdBad k + 1 then 3 else 4)
        ∧ (s.rd .PD_SERVO k = 2 → big → s.rd .PD_SERVO_EN k = 1 → u.rd .PD_STEPS k = min (s.rd .PD_STEPS k + 1) 0xFFFFFFFF)
        ∧ (s.rd .PD_SERVO k ≠ 2 → u.rd .PD_STEPS k = s.rd .PD_STEPS k) ∧ s.outside [0x0B, 0x0C, 0x0F] u ∧ u.mem = s.mem ∧ u.out = s.out
      (∀ (seq fine : Nat) (origin : Int), ∃ u, Sys2Proof.Machine.exec (.ptpSyncReceive t port num seq fine true origin) s = .next u ∧ rx u
          ∧ (slave → u.q .pdSyncT2 k = s'.stamp port fine true ∧ u.q .pdSyncSeq k = seq + 1) ∧ s.only [.PP_RX_EVENTS] u ∧ u.out = s.out)
      ∧ (∀ (seq fine : Nat) (origin d : Int), slave → s.mpd k = some d →
          ∃ u, Sys2Proof.Machine.exec (.ptpSyncReceive t port num seq fine false origin) s = .next u ∧ rx u
            ∧ judged u (s'.onScale k (s'.stamp port fine true) - origin - d))
      ∧ (∀ (seq : Nat) (origin : Int),
          (slave → s.q .pdSyncSeq k = seq + 1 →
            (∀ d : Int, s.mpd k = some d → ∃ u, Sys2Proof.Machine.exec (.ptpFollowUpReceive t port num seq origin) s = .next u
              ∧ judged u (s.onScale k (s.q .pdSyncT2 k) - origin - d) ∧ u.q .pdSyncT1 k = origin)
            ∧ (s.mpd k = none → ∃ u, Sys2Proof.Machine.exec (.ptpFollowUpReceive t port num seq origin) s = .next u ∧ u.q .pdSyncT1 k = origin ∧ u.q .pdFirst k = 1
              ∧ u.regs = s.regs ∧ u.mem = s.mem ∧ u.out = s.out))
          ∧ (¬ slave ∨ s.q .pdSyncSeq k ≠ seq + 1 → Sys2Proof.Machine.exec (.ptpFollowUpReceive t port num seq origin) s = .next s'))
      ∧ (∀ seq fine : Nat, ∃ u, Sys2Proof.Machine.exec (.ptpDelayReqReceive t port num seq fine) s = .next u ∧ rx u ∧ s.only [.PP_RX_EVENTS] u
          ∧ u.out = s.out ++ (if s.rd (ppState k) port = 6 then [.ptp port k 9 seq (s'.onScale k (s'.stamp port fine true)) none] else []))
      ∧ (∀ (seq : Nat) (x : Int),
          (slave → s.q .pdReqSeq k = seq + 1 → s.q .pdFirst k = 1 →
            let d := ((s.onScale k (s.q .pdSyncT2 k) - s.q .pdSyncT1 k) + (x - s.onScale k (s.q .pdReqT3 k))) / 2
            ∃ u, Sys2Proof.Machine.exec (.ptpDelayRespReceive t port num seq x) s = .next u ∧ u.q .pdMpdSum k (s.qn .pdMpdN k % 16) = d ∧ u.q .pdMpdN k = s.q .pdMpdN k + 1
              ∧ u.q .pdReqSeq k = 0 ∧ u.rd .PD_MPD k = ((u.mpd k).getD 0 * 10 / 65536).toNat % 2 ^ 32 ∧ s.only [.PD_MPD] u ∧ u.mem = s.mem ∧ u.out = s.out)
          ∧ (¬ slave ∨ s.q .pdReqSeq k ≠ seq + 1 ∨ s.q .pdFirst k ≠ 1 → Sys2Proof.Machine.exec (.ptpDelayRespReceive t port num seq x) s = .next s'))
      ∧ (∀ sender prio1 cls acc var prio2 gm steps utc : Nat,
          ∃ u prev, Sys2Proof.Machine.exec (.ptpAnnounceReceive t port num sender prio1 cls acc var prio2 gm steps utc) s = .next u
            ∧ u.foreign = (s.foreign.filter fun g => !(g.dom == k && g.port == port && g.sender == sender))
                ++ [⟨k, port, sender, prio1, cls, acc, var, prio2, gm, steps, utc, max s.now t + 1, prev⟩]
            ∧ u.timer .ptAnnounce (annIdx port k) = some (max s.now t + s.pdUse k 4 * logPs (s.pdUse k 2))
            ∧ (slave → u.rd .PD_UTC_OFFSET k = utc % 2 ^ 16) ∧ s.outside [0x0B, 0x0C, 0x0F] u ∧ u.mem = s.mem ∧ u.out = s.out)
      ∧ (∀ (id : Nat) (get : Bool), ∃ u data, Sys2Proof.Machine.exec (.ptpManagementGet t port num id get) s = .next u ∧ u.out = s.out ++ [.ptpMgmt port k id data]
          ∧ (get = false ∨ 5 ≤ id → data = none) ∧ (get = true → id = 0 → data = some [s.clockId, 259, s.rd .PD_PRIO1 k, s.ownClass k, s.rd .PD_PRIO2 k, s.pdUse k 0])
          ∧ (get = true → id < 5 → data.isSome = true) ∧ u.regs = s.regs ∧ u.mem = s.mem))
    ∧ (s'.due .ptAnnounce (annIdx port k) = true →
      ∃ u, Sys2Proof.Machine.exec (.ptpAnnounceTimeout t port k) s = .next u ∧ u.foreign = (s.foreign.filter fun f => !(f.port == port && f.dom == k))
        ∧ u.timer .ptAnnounce (annIdx port k) = none ∧ s.outside [0x0B, 0x0C, 0x0F] u ∧ u.mem = s.mem ∧ u.out = s.out)
    ∧ (s'.due .ptAnnounce (annIdx port k) = false → Sys2Proof.Machine.exec (.ptpAnnounceTimeout t port k) s = .next s')

/-- O34. A sent event message of a one-step port leaves with its time; of a two-step port its stamp joins the queue of 64 entries, a Sync's Follow_Up leaves, and at a full queue the stamp is lost, counted in PP_TS_LOST, while the held entries stay. PQ_ACK and PQ_LOST_ACK = 1 pop the oldest entry and PQ_COUNT or PQ_LOST_COUNT follows; EMPTY is reported where there is none. PT_SNAP = 1 takes the counter at the next tick. A scale that the servo owns, or an offset that is no fraction of a second, is not written and is reported; otherwise the increment clamps to 1,000 ppm and the offset is held. A master port sends Sync and Announce, the slave port Delay_Req, at its interval on a live link, a two-step port the event message itself, a one-step port with its time at PTP_TX_TIMESTAMP; an Announce interval also brings written intervals into use and judges the ports again. PT_ACT_ADJ settles at 0. Memory is unchanged by each. -/
def Obligations.TimestampsScalesAndPtpIntervals : Prop :=
  ∀ (s : State) (t port k : Nat), s.wf = true → s.fits → port < 259 → k < 2 →
    let s' := s.since t
    let x := s'.apply (clockTick s')
    let mine := s.tsq.filter fun e => e.port == port
    let lost := s.tsLost.filter fun e => e.port == port
    let still (u : State) : Prop := s.outside [0x0B, 0x0C, 0x0F] u ∧ u.mem = s.mem
    (∀ (type seq fine : Nat) (ptp : Bool),
      let c := x.stamp port fine false
      ∃ u, Sys2Proof.Machine.exec (.ptpTxTimestamp t port k type seq fine ptp) s = .next u ∧ still u
        ∧ u.rd .PP_TX_EVENTS port = (if ptp then min (s.rd .PP_TX_EVENTS port + 1) 0xFFFFFFFF else s.rd .PP_TX_EVENTS port)
        ∧ (ptp = true → s.rd .PP_TWO_STEP port = 0 → u.out = s.out ++ [.ptp port k type seq (x.onScale k c) (s.ptpTo k type)] ∧ u.tsq = s.tsq ∧ u.tsLost = s.tsLost)
        ∧ (ptp = false ∨ s.rd .PP_TWO_STEP port ≠ 0 → mine.length < 64 → u.tsq = s.tsq ++ [⟨port, type, seq, k, layout96 c.toNat, s.atPort port, ptp⟩]
            ∧ u.rd .PQ_COUNT port = mine.length + 1 ∧ u.out = s.out ++ (if ptp = true ∧ type = 0 then [.ptp port k 8 seq (x.onScale k c) none] else []))
        ∧ (ptp = false ∨ s.rd .PP_TWO_STEP port ≠ 0 → 64 ≤ mine.length → u.tsq = s.tsq ∧ u.out = s.out
            ∧ u.rd .PP_TS_LOST port = min (s.rd .PP_TS_LOST port + 1) 0xFFFFFFFF
            ∧ u.rd .PP_LOST_OVF port = (if 16 ≤ lost.length then min (s.rd .PP_LOST_OVF port + 1) 0xFFFFFFFF else s.rd .PP_LOST_OVF port)
            ∧ (lost.length < 16 → u.rd .PQ_LOST_COUNT port = lost.length + 1)))
    ∧ (∀ value : Nat, ∃ u, Sys2Proof.Machine.exec (.pqAck port value) s = .next u ∧ (if value % 2 = 1 ∧ s.rd .PQ_COUNT port ≠ 0 then
        u.tsq = popPort port s.tsq ∧ u.rd .PQ_COUNT port = (mine.length - 1) % 2 ^ 7 ∧ u.tsLost = s.tsLost ∧ still u ∧ u.out = s.out else u = { s with out := s.out ++ (if value % 2 = 1 then [.written (Fld.PQ_ACK.bitAddr port 0 / 32 * 4) Status.EMPTY.code [0]] else []) }))
    ∧ (∀ value : Nat, ∃ u, Sys2Proof.Machine.exec (.pqLostAck port value) s = .next u ∧ (if value % 2 = 1 ∧ s.rd .PQ_LOST_COUNT port ≠ 0 then
        u.tsLost = popPort port s.tsLost ∧ u.rd .PQ_LOST_COUNT port = (lost.length - 1) % 2 ^ 5 ∧ u.tsq = s.tsq ∧ still u ∧ u.out = s.out else u = { s with out := s.out ++ (if value % 2 = 1 then [.written (Fld.PQ_LOST_ACK.bitAddr port 0 / 32 * 4) Status.EMPTY.code [0]] else []) }))
    ∧ (∀ value : Nat, ∃ u, Sys2Proof.Machine.exec (.ptSnap t value) s = .next u ∧ still u ∧ u.out = s.out
        ∧ (value % 2 = 1 → u.rd .PT_SNAP_DONE = 1 ∧ u.rd .PT_SNAP_CNT = layout96 (x.counter + 40960) % 2 ^ 96
            ∧ u.rd .PT_SNAP_T0 = layout96 (x.onScale 0 (x.counter + 40960 : Nat)).toNat % 2 ^ 96)
        ∧ (value % 2 = 0 → u.rd .PT_SNAP_DONE = s.rd .PT_SNAP_DONE ∧ u.rd .PT_SNAP_CNT = s.rd .PT_SNAP_CNT))
    ∧ (∀ (incr off : Option Nat), ∃ u, Sys2Proof.Machine.exec (.pdScaleWrite t k incr off) s = .next u ∧ still u
        ∧ (s.rd .PD_SERVO_EN k = 1 → u.out = s.out ++ [.written (Fld.PD_INCR.bitAddr k 0 / 32 * 4) Status.SERVO_OWNED.code [x.rd .PD_INCR k]])
        ∧ (s.rd .PD_SERVO k ≠ 5 → s.rd .PD_SERVO_EN k = 1 ∨ (∃ o, off = some o ∧ 1000000000 ≤ bits o 64 32) →
            u.rd .PD_INCR k = s.rd .PD_INCR k ∧ u.rd .PD_OFFSET k = s.rd .PD_OFFSET k)
        ∧ (∀ v o : Nat, s.rd .PD_SERVO_EN k = 0 → incr = some v → off = some o → bits o 64 32 < 1000000000 →
            u.rd .PD_INCR k = max (incrOne - incrOne / 1000) (min (incrOne + incrOne / 1000) v) ∧ u.rd .PD_OFFSET k = o % 2 ^ 112
            ∧ u.out = s.out ++ (if u.rd .PD_INCR k = v then [] else [.written (Fld.PD_INCR.bitAddr k 0 / 32 * 4) Status.CLAMPED.code [u.rd .PD_INCR k]])))
    ∧ (∃ u, Sys2Proof.Machine.exec (.ptActAdjSettle t) s = .next u ∧ (if s'.actAdj = 0 then u.rd .PT_ACT_ADJ = 0 ∧ u.q .adjFrom = 0 ∧ s.only [.PT_ACT_ADJ] u ∧ u.mem = s.mem ∧ u.out = s.out
        else u = s'))
    ∧ (let live := s.rd .MC_STATE port = 2
      let master := s.rd (ppState k) port = 6
      (∃ u, Sys2Proof.Machine.exec (.ptpSyncInterval t port k) s = .next u ∧ (if master ∧ live then u.out = s.out ++ (if s.rd .PP_TWO_STEP port = 1 then [.ptp port k 0 (s.qn .ppSeqSync port k % 65536) 0 none] else [])
          ∧ u.q .ppSeqSync port k = s.q .ppSeqSync port k + 1 ∧ u.regs = s.regs ∧ u.mem = s.mem else u = s'))
      ∧ (∃ u, Sys2Proof.Machine.exec (.ptpDelayReqInterval t port k) s = .next u ∧ (if s.rd .PD_SLAVE_PORT k = port + 1 ∧ live then
          u.out = s.out ++ (if s.rd .PP_TWO_STEP port = 1 then [.ptp port k 1 (s.qn .ppSeqReq port k % 65536) 0 (s.ptpTo k 1)] else []) ∧ u.q .ppSeqReq port k = s.q .ppSeqReq port k + 1 ∧ u.regs = s.regs ∧ u.mem = s.mem else u = s'))
      ∧ (∃ u, Sys2Proof.Machine.exec (.ptpAnnounceInterval t port k) s = .next u ∧ still u
          ∧ u.pdUse k 0 = s.rd .PD_NUMBER k ∧ u.pdUse k 1 = s.rd .PD_LOG_SYNC k ∧ u.pdUse k 2 = s.rd .PD_LOG_ANNC k ∧ u.pdUse k 4 = s.rd .PD_ANNC_TMO k
          ∧ (let own := u.rd .PD_SLAVE_PORT k = 0
             u.out = s.out ++ (if u.rd (ppState k) port = 6 ∧ live then
               (match (if own then u.ownSet k else u.eBest k) with
                | some d => [.announce port k d.prio1 d.cls d.acc d.var d.prio2 d.gm (if own then 0 else d.steps + 1) (u.rd .PD_UTC_OFFSET k) (if own then some 0xA0 else none)]
                | none => []) else []))))

/-- O35. PROXY_SURFACE_COMPLETE at a generator with a source that delivers a picture adds the codewords that could not be corrected to PX_PEAT_UNCORR, PX_FRAMES adds 1, PX_MISS is 0, PX_W and PX_H are half or a quarter of the source's active picture as the PX_SCALE in use says (a write of the generator is in use from its frame start, R337), and PX_STATE is RUNNING. At a generator without a source, or whose source delivers no picture, nothing happens. No other generator's registers change, nor any byte of memory, and nothing leaves the module. (The active picture of a format is log 19.) -/
def Obligations.ProxySurfacesComplete : Prop :=
  ∀ (s : State) (t g uncorr : Nat), s.wf = true → s.fits → g < 256 →
    let (w, h) := activeSize (s.pxFormat g)
    let k := s.pxDown g
    (s.pxKind g = 0 ∨ s.pxFormat g = 0 → Sys2Proof.Machine.exec (.proxySurfaceComplete t g uncorr) s = .next (s.since t))
    ∧ (s.pxKind g ≠ 0 → s.pxFormat g ≠ 0 → ∃ u, Sys2Proof.Machine.exec (.proxySurfaceComplete t g uncorr) s = .next u
        ∧ u.rd .PX_PEAT_UNCORR g = min (s.rd .PX_PEAT_UNCORR g + uncorr) 0xFFFFFFFF
        ∧ u.rd .PX_FRAMES g = min (s.rd .PX_FRAMES g + 1) 0xFFFFFFFF ∧ u.rd .PX_MISS g = 0 ∧ u.rd .PX_W g = w / k
        ∧ u.rd .PX_H g = h / k ∧ u.rd .PX_STATE g = 1 ∧ u.q .pxDone g = s.q .pxDone g + 1
        ∧ s.onlyAt g [.PX_PEAT_UNCORR, .PX_FRAMES, .PX_MISS, .PX_W, .PX_H, .PX_STATE] u ∧ u.mem = s.mem ∧ u.out = s.out ∧ u.pending = s.pending)

/-- O36. A member of a pair past LISTEN sends its partner one HEARTBEAT on each path with its epoch, state, health and highest held number; a module outside pairs and a member in LISTEN send none (a member whose record counter is spent waits, R427); the active manager beats to every other populated node besides; RD_HEALTH follows. A check sets each path's miss count to 0 or adds 1 up to 15; one path newly failed counts RD_PATH_WARNS, with both failed a standby goes to TAKING_OVER. A beat that does not verify is counted. A partner's beat with a higher epoch fences an ACTIVE, STANDBY or TAKING_OVER member; an ACTIVE partner ends LISTEN in SYNCING; a beat ends TAKING_OVER in STANDBY. A worker takes the sender of a higher epoch as its manager and ignores a lower one. An active partner of an IP pair that has heard no manager beat for 3 ms stops its send flows. Memory is unchanged by each. -/
def Obligations.BeatsAreSentCheckedAndHeard : Prop :=
  ∀ (s : State) (t : Nat), s.wf = true → s.fits → s.rd .SU_STATE = 3 →
    let s' := s.since t
    let beat (lichen : Bool) (target : Nat) : Bool × Rec := (lichen, ⟨10, s.msgOrder, s.node, target, ⟨0, 0, 0, false⟩,
      [s.rd .RD_EPOCH + s.rd .RD_ACTIVE_NODE * 2 ^ 16 + s.rd .RD_STATE_PAIR * 2 ^ 22 + s'.health * 2 ^ 25, s.heldTop % 2 ^ 48]⟩)
    let pairRegs : List Fld := [.RD_COUNT_VALID, .RD_STATE_PAIR, .RD_EPOCH, .RD_ACTIVE_NODE, .SYS_MGR_ROLE, .ORD_NEXT, .RD_UNPROT]
    (s.counterSpent = false → (s.rd .RD_ROLE = 1 → s.rd .RD_STATE_PAIR ≠ 5) →
      ∃ u, Sys2Proof.Machine.exec (.heartbeatSend t) s = .next u ∧ u.rd .RD_HEALTH = s'.health ∧ (s'.health ≠ 255 → u.rd .RD_HEALTH_S = 0)
        ∧ u.records = s.records ++ (if s.rd .RD_ROLE = 0 ∨ s.rd .RD_STATE_PAIR = 1 then [] else [beat true (s.rd .RD_PARTNER), beat false (s.rd .RD_PARTNER)])
        ∧ (s.rd .RD_ROLE = 0 ∨ s.rd .RD_STATE_PAIR = 1 → u.out = s.out)
        ∧ s.only [.RD_HEALTH, .RD_HEALTH_S] u ∧ u.mem = s.mem)
    ∧ (s.isManager = true → s.rd .RD_ROLE = 1 → s.rd .RD_STATE_PAIR = 5 →
      ∃ u more, Sys2Proof.Machine.exec (.heartbeatSend t) s = .next u ∧ u.records = s.records ++ [beat true (s.rd .RD_PARTNER), beat false (s.rd .RD_PARTNER)] ++ more
        ∧ more.length = (s.populated.filter fun n => n != s.node && n != s.rd .RD_PARTNER).length
        ∧ s.only [.RD_HEALTH, .RD_HEALTH_S] u ∧ u.mem = s.mem)
    ∧ (s.rd .RD_ROLE ≠ 0 → (s.rd .RD_STATE_PAIR = 5 → s.held = []) →
      let fab := if s.q .beatFab = 1 then 0 else min 15 (s.rd .RD_MISS_FAB + 1)
      let lk := if s.q .beatLk = 1 then 0 else min 15 (s.rd .RD_MISS_LK + 1)
      let warned := (s.rd .RD_MISS_FAB < 3 ∧ 3 ≤ s.rd .RD_MISS_LK) ∨ (3 ≤ s.rd .RD_MISS_FAB ∧ s.rd .RD_MISS_LK < 3)
      ∃ u, Sys2Proof.Machine.exec (.heartbeatCheck t) s = .next u ∧ u.rd .RD_MISS_FAB = fab ∧ u.rd .RD_MISS_LK = lk ∧ u.q .beatFab = 0 ∧ u.q .beatLk = 0
        ∧ u.rd .RD_PATH_WARNS = (if ((fab < 3 ∧ 3 ≤ lk) ∨ (3 ≤ fab ∧ lk < 3)) ∧ ¬ warned then min (s.rd .RD_PATH_WARNS + 1) 0xFFFFFFFF else s.rd .RD_PATH_WARNS)
        ∧ u.rd .RD_STATE_PAIR = (if 3 ≤ fab ∧ 3 ≤ lk ∧ s.rd .RD_STATE_PAIR = 3 then 4 else s.rd .RD_STATE_PAIR)
        ∧ s.only ([.RD_MISS_FAB, .RD_MISS_LK, .RD_PATH_WARNS] ++ pairRegs) u ∧ u.out = s.out ∧ u.mem = s.mem)
    ∧ (∀ (sender plane : Nat) (lichen : Bool) (b : Beat),
      ∃ u, Sys2Proof.Machine.exec (.heartbeatReceive t sender lichen plane b false) s = .next u ∧ u.rd .FAB_TAG_FAILS = min (s.rd .FAB_TAG_FAILS + 1) 0xFFFFFFFF
        ∧ s.only [.FAB_TAG_FAILS] u ∧ u.out = s.out ∧ u.mem = s.mem)
    ∧ (∀ (plane : Nat) (lichen : Bool) (b : Beat), s.rd .RD_ROLE ≠ 0 → b.epoch < 2 ^ 16 →
      let st := s.rd .RD_STATE_PAIR
      (s.rd .RD_EPOCH < b.epoch → st = 5 ∨ st = 3 ∨ st = 4 →
        ∃ u, Sys2Proof.Machine.exec (.heartbeatReceive t (s.rd .RD_PARTNER) lichen plane b true) s = .next u ∧ u.rd .RD_STATE_PAIR = 6 ∧ u.rd .RD_EPOCH = b.epoch
          ∧ u.rd .RD_ACTIVE_NODE = s.rd .RD_PARTNER ∧ u.rd .RD_FENCES = min (s.rd .RD_FENCES + 1) 0xFFFFFFFF ∧ u.timer .fence = some (max s.now t + 10 * psMs)
          ∧ (s.rd .RD_ROLE = 1 → u.rd .SYS_MGR_ROLE = 0 ∧ u.held = []) ∧ (s.idleBlock 14 = false → u.latched .REDUND_FENCED = true)
          ∧ s.only (.RD_FENCES :: pairRegs) u ∧ u.out = s.out ∧ u.mem = s.mem)
      ∧ (st = 1 → b.state = 5 →
        ∃ u, Sys2Proof.Machine.exec (.heartbeatReceive t (s.rd .RD_PARTNER) lichen plane b true) s = .next u ∧ u.rd .RD_STATE_PAIR = 2 ∧ u.rd .RD_EPOCH = b.epoch
          ∧ u.rd .RD_ACTIVE_NODE = s.rd .RD_PARTNER ∧ u.rd .ORD_STATE = 0 ∧ u.hist = [] ∧ u.img = none ∧ u.timer .listen = none
          ∧ u.timer .joinSend = some (max s.now t) ∧ s.only (.ORD_STATE :: pairRegs) u ∧ u.out = s.out ∧ u.mem = s.mem)
      ∧ (st = 4 → b.epoch ≤ s.rd .RD_EPOCH →
        ∃ u, Sys2Proof.Machine.exec (.heartbeatReceive t (s.rd .RD_PARTNER) lichen plane b true) s = .next u ∧ u.rd .RD_STATE_PAIR = 3
          ∧ (s.rd .RD_ROLE = 1 → u.rd .SYS_MGR_ROLE = 2) ∧ u.rd .RD_TAKEOVERS = s.rd .RD_TAKEOVERS ∧ s.only pairRegs u ∧ u.out = s.out ∧ u.mem = s.mem))
    ∧ (∀ (sender plane : Nat) (lichen : Bool) (b : Beat), s.rd .RD_ROLE = 0 → s.rd .ORD_STATE ≠ 2 → sender < 64 → b.epoch < 2 ^ 16 →
      ∃ u, Sys2Proof.Machine.exec (.heartbeatReceive t sender lichen plane b true) s = .next u
        ∧ (if s.qn .managerEpoch < b.epoch then u.rd .RD_ACTIVE_NODE = sender ∧ u.rd .RD_EPOCH = b.epoch ∧ s.only [.RD_ACTIVE_NODE, .RD_EPOCH] u else u.regs = s.regs)
        ∧ u.out = s.out ∧ u.mem = s.mem)
    ∧ (∃ u, Sys2Proof.Machine.exec (.managerBeatLoss t) s = .next u ∧ u.regs = s.regs ∧ u.mem = s.mem ∧ u.out = s.out
        ∧ u.q .mgrLost = (if s.rd .RD_ROLE = 2 ∧ s.rd .RD_STATE_PAIR = 5 ∧ s.qn .mgrBeatAt + 3 * psMs ≤ max s.now t + 1 then 1 else s.q .mgrLost))

/-- O37. LISTEN_TIMEOUT of a member in LISTEN enters ACTIVE with epoch 1 and names this module active; a manager without a start-up salvo to order at once then orders from 1, is IN_ORDER and unprotected. FENCE_EXPIRY of a FENCED member enters SYNCING, drops the held actions and joins again. TAKEBACK_ORDER of the active, not preferred manager whose partner is in STANDBY, has been healthy for RD_HOLD_S and is not blocked orders a WRITE of 1 to RD_TAKEBACK stamped next in D0 and holds it for the ACK; where a condition fails nothing happens. RD_REARM = 1 clears RD_REVERT_BLOCKED and RD_PARTNER_FAILS. None changes memory. -/
def Obligations.PairMembersTakeTheActiveRole : Prop :=
  ∀ (s : State) (t : Nat), s.wf = true → s.fits →
    let s' := s.since t
    let pairRegs : List Fld := [.RD_COUNT_VALID, .RD_STATE_PAIR, .RD_EPOCH, .RD_ACTIVE_NODE, .SYS_MGR_ROLE, .ORD_NEXT, .RD_UNPROT, .ORD_STATE]
    (s'.due .listen = true → s.rd .RD_STATE_PAIR = 1 → (s.rd .RD_ROLE = 1 → s.rd .RD_STATE_RASTER 0 ≠ 2 ∨ s.cfg.bind CfgImage.startSalvo = none) →
      ∃ u, Sys2Proof.Machine.exec (.listenTimeout t) s = .next u ∧ u.rd .RD_STATE_PAIR = 5 ∧ u.rd .RD_EPOCH = 1 ∧ u.rd .RD_ACTIVE_NODE = s.node ∧ u.timer .listen = none
        ∧ (s.rd .RD_ROLE = 1 → u.rd .ORD_NEXT = 1 ∧ u.rd .ORD_STATE = 1 ∧ u.rd .SYS_MGR_ROLE = 1 ∧ u.rd .RD_UNPROT = 1 ∧ u.timer .joinSend = none)
        ∧ s.only (.SEC_ROUTER_START :: pairRegs) u ∧ u.mem = s.mem)
    ∧ (s'.due .listen = false ∨ s.rd .RD_STATE_PAIR ≠ 1 → Sys2Proof.Machine.exec (.listenTimeout t) s = .next s')
    ∧ (s'.due .fence = true → s.rd .RD_STATE_PAIR = 6 →
      ∃ u, Sys2Proof.Machine.exec (.fenceExpiry t) s = .next u ∧ u.rd .RD_STATE_PAIR = 2 ∧ u.rd .ORD_STATE = 0 ∧ u.hist = [] ∧ u.img = none ∧ u.timer .fence = none
        ∧ u.timer .joinSend = some (max s.now t) ∧ s.only pairRegs u ∧ u.out = s.out ∧ u.mem = s.mem)
    ∧ (s'.due .fence = false ∨ s.rd .RD_STATE_PAIR ≠ 6 → Sys2Proof.Machine.exec (.fenceExpiry t) s = .next s')
    ∧ (let ready := s.rd .RD_ROLE = 1 ∧ s.rd .RD_STATE_PAIR = 5 ∧ s.rd .RD_PREFERRED = 0 ∧ s.q .partnerState = 4 ∧ s.q .healthRun ≠ 0
          ∧ s.qn .healthRun + s.view (s.rd .RD_PARTNER) .RD_HOLD_S * psS ≤ max s.now t + 1 ∧ s.rd .RD_REVERT_BLOCKED = 0 ∧ s.q .pendingTakeback = 0
      (∀ st : Stamp, ready → s'.resolve ⟨0, 0, 0, false⟩ false = .ok st →
        ∃ u r, Sys2Proof.Machine.exec (.takebackOrder t) s = .next u ∧ u.rd .ORD_NEXT = succOrder (s.rd .ORD_NEXT) ∧ u.q .pendingTakeback = 1
          ∧ u.hist.getLast? = some ⟨s.rd .ORD_NEXT, 5, st, s.node, encodeWrite takebackAddr [1]⟩ ∧ u.held = s.held ++ [⟨s.rd .ORD_NEXT, none⟩]
          ∧ u.records = s.records ++ [(true, r), (false, r)] ∧ r.order = s.rd .ORD_NEXT ∧ r.kind = 5 ∧ r.stamp = st
          ∧ s.only [.ORD_NEXT] u ∧ u.mem = s.mem)
      ∧ (¬ ready → Sys2Proof.Machine.exec (.takebackOrder t) s = .next s'))
    ∧ (∀ value : Nat, ∃ u, Sys2Proof.Machine.exec (.rdRearm t value) s = .next u
        ∧ (if value % 2 = 1 then u.rd .RD_REVERT_BLOCKED = 0 ∧ u.rd .RD_PARTNER_FAILS = 0 ∧ u.q .failAt 0 = 0 ∧ u.q .failAt 1 = 0 ∧ u.q .failAt 2 = 0
              ∧ s.only [.RD_REVERT_BLOCKED, .RD_PARTNER_FAILS] u ∧ u.out = s.out ∧ u.mem = s.mem
           else u = s'))

/-- O38. A standby stores an action of its partner that it does not hold and sends the ACK of the highest unbroken number on both paths (while its record counter is not spent, R427); a record that fails its tag or comes from elsewhere is counted. An ACK that covers nothing held releases nothing; one that covers the only held action releases it: ORD_APPLIED is its number and its answer leaves, with UNPROTECTED as it stands. STANDBY_RESEND after 1 ms sends every held action again on both paths. A good frame or a comma is the sixteenth in a row that takes RD_LK_UP to 1, and a good frame's record is tested; a cut frame counts for nothing; a frame that fails its CRC adds 1 to RD_LK_CRC_ERRS and is the fourth in a row that takes it to 0, and so do 10 us without a comma. Memory is unchanged. -/
def Obligations.StandbyStoresAndLichenCounts : Prop :=
  ∀ (s : State) (t : Nat), s.wf = true → s.fits →
    let s' := s.since t
    let mgr := s.rd .RD_ROLE = 1
    (∀ r : Rec, ∃ u, Sys2Proof.Machine.exec (.standbyRecordStore t r false) s = .next u ∧ u.rd .FAB_TAG_FAILS = min (s.rd .FAB_TAG_FAILS + 1) 0xFFFFFFFF
        ∧ s.only [.FAB_TAG_FAILS] u ∧ u.hist = s.hist ∧ u.out = s.out ∧ u.mem = s.mem)
    ∧ (∀ r : Rec, mgr → s.rd .RD_STATE_PAIR = 3 →
      (r.sender ≠ s.rd .RD_PARTNER → ∃ u, Sys2Proof.Machine.exec (.standbyRecordStore t r true) s = .next u
        ∧ u.rd .RD_STALE_RECORDS = min (s.rd .RD_STALE_RECORDS + 1) 0xFFFFFFFF ∧ s.only [.RD_STALE_RECORDS] u ∧ u.hist = s.hist ∧ u.out = s.out ∧ u.mem = s.mem)
      ∧ (s.counterSpent = false → r.sender = s.rd .RD_PARTNER → (∀ b ∈ s.hist, b.order ≠ r.order) →
        let h := s.app (.hist (insertAction ⟨r.order, r.kind, r.stamp, r.target, r.body⟩ s.hist))
        let ack (lichen : Bool) : Bool × Rec := (lichen, ⟨13, s.msgOrder, s.node, s.rd .RD_PARTNER, ⟨0, 0, 0, false⟩, [h.heldRun % 2 ^ 48]⟩)
        ∃ u rest, Sys2Proof.Machine.exec (.standbyRecordStore t r true) s = .next u ∧ u.hist = h.hist ∧ u.records = s.records ++ [ack true, ack false] ++ rest))
    ∧ (¬ mgr → ∀ r : Rec, Sys2Proof.Machine.exec (.standbyRecordStore t r true) s = .next s')
    ∧ (mgr → s.rd .RD_STATE_PAIR = 5 →
      (∀ upTo : Nat, (∀ h ∈ s.held, later h.order upTo = true) → s.held ≠ [] →
        ∃ u, Sys2Proof.Machine.exec (.ack t (s.rd .RD_PARTNER) upTo true) s = .next u ∧ u.held = s.held ∧ u.out = s.out
          ∧ u.rd .RD_UNPROT = (if s.q .partnerState = 4 then 0 else s.rd .RD_UNPROT) ∧ s.only [.RD_UNPROT] u ∧ u.mem = s.mem)
      ∧ (∀ (upTo : Nat) (a : Action) (x : Answer), s.held = [⟨a.order, some x⟩] → later a.order upTo = false → a.order < 2 ^ 48 → a.kind ≠ 5 →
          (s.hist.find? fun b => b.order == a.order) = some a →
        ∃ u sent, Sys2Proof.Machine.exec (.ack t (s.rd .RD_PARTNER) upTo true) s = .next u ∧ u.held = [] ∧ u.rd .ORD_APPLIED = a.order
          ∧ u.out = s.out ++ sent ++ [.answer { x with flags := x.flags / 2 * 2 + s.rd .RD_UNPROT }] ∧ u.timer .standbyResend = none))
    ∧ (¬ mgr → ∀ sender upTo : Nat, Sys2Proof.Machine.exec (.ack t sender upTo true) s = .next s')
    ∧ (s'.due .standbyResend = true → s.held ≠ [] →
      ∃ u sent, Sys2Proof.Machine.exec (.standbyResend t) s = .next u ∧ u.records = s.records ++ sent ∧ u.regs = s.regs ∧ u.mem = s.mem
        ∧ sent.length = 2 * (s.held.filter fun h => s.hist.any fun a => a.order == h.order).length ∧ u.timer .standbyResend = some (max s.now t + psMs))
    ∧ (let good (u : State) : Prop := u.q .lkRun = s.qn .lkRun + 1 ∧ u.rd .RD_LK_UP = (if 16 ≤ s.qn .lkRun + 1 then 1 else s.rd .RD_LK_UP)
          ∧ u.timer .lkComma = some (max s.now t + 10 * psUs) ∧ u.records = s.records ∧ u.mem = s.mem
      (∀ spores : List Nat, spores ≠ [] → spores.length ≤ 66 →
        ∃ u, Sys2Proof.Machine.exec (.lichenFrameReceive t ⟨spores, lichenCrc spores, false⟩) s = .next u ∧ good u ∧ u.q .lkBad = 0 ∧ s.only [.RD_LK_UP, .FAB_TAG_FAILS] u)
      ∧ (∃ u, Sys2Proof.Machine.exec (.lichenCommaReceive t) s = .next u ∧ good u ∧ u.q .lkBad = s.q .lkBad ∧ s.only [.RD_LK_UP] u)
      ∧ (∀ (spores : List Nat) (crc : Nat), ∃ u, Sys2Proof.Machine.exec (.lichenFrameReceive t ⟨spores, crc, true⟩) s = .next u ∧ u.regs = s.regs ∧ u.mem = s.mem
          ∧ u.records = s.records ∧ u.timer .lkComma = some (max s.now t + 10 * psUs)))
    ∧ (∀ (spores : List Nat) (crc : Nat), spores = [] ∨ 66 < spores.length ∨ lichenCrc spores ≠ crc →
      ∃ u, Sys2Proof.Machine.exec (.lichenFrameReceive t ⟨spores, crc, false⟩) s = .next u ∧ u.rd .RD_LK_CRC_ERRS = min (s.rd .RD_LK_CRC_ERRS + 1) 0xFFFFFFFF
        ∧ u.rd .RD_LK_UP = (if 4 ≤ s.qn .lkBad + 1 then 0 else s.rd .RD_LK_UP) ∧ u.q .lkRun = 0 ∧ u.q .lkBad = s.qn .lkBad + 1
        ∧ s.only [.RD_LK_UP, .RD_LK_CRC_ERRS] u ∧ u.records = s.records ∧ u.mem = s.mem)
    ∧ (∃ u, Sys2Proof.Machine.exec (.lichenCommaTimeout t) s = .next u
        ∧ (if s'.due .lkComma = true then u.rd .RD_LK_UP = 0 ∧ u.q .lkRun = 0 ∧ u.timer .lkComma = none ∧ s.only [.RD_LK_UP] u ∧ u.out = s.out ∧ u.mem = s.mem else u = s'))

/-- O39. OPEN on a port with a free slot and a good certificate puts the slot in state 1 with the port and the certificate's controller, answers on the port and gives CONFIRM 2 s. CONFIRM with a good signature opens it (state 2); with a bad one, or when the 2 s end, the slot is free again (state 0), TC_AUTH_FAILS adds 1 and NOT_AUTHORISED leaves. A CLOSE that is taken is answered ACCEPTED and frees the slot, and so does the end of the idle time. Registers outside blocks 0Fh and 11h and all of memory are unchanged by each. -/
def Obligations.SessionsOpenAndClose : Prop :=
  ∀ (s : State) (t : Nat), s.wf = true → s.fits → s.rd .SU_STATE = 3 →
    let s' : State := { s with now := max s.now t }
    let quiet (u : State) : Prop := (∀ f i j, blockOf f.desc.addr ≠ 0x0F → blockOf f.desc.addr ≠ 0x11 → u.rd f i j = s.rd f i j) ∧ u.mem = s.mem
    (∀ (port n : Nat) (c : Cert), port < 3 → s.freeSlot port = some n → s'.certStatus c = none →
      ∃ u, Sys2Proof.Machine.exec (.open_ t port c) s = .next u ∧ u.rd .TS_STATE n = 1 ∧ u.rd .TS_PORT n = port
        ∧ u.rd .TS_CTRL_ID n = c.ctrlId % 2 ^ Fld.TS_CTRL_ID.desc.width ∧ u.out = s.out ++ [.openAck n]
        ∧ u.timer .sessConfirm n = some (max s.now t + 2 * psS) ∧ quiet u)
    ∧ (∀ sess : Nat, sess < 34 → (s.session sess).isSome = true → s.rd .TS_STATE sess = 1 →
      (∃ u, Sys2Proof.Machine.exec (.confirm t sess true) s = .next u ∧ u.rd .TS_STATE sess = 2 ∧ u.latched .SESSION_OPEN = true
        ∧ u.timer .sessIdle sess = some (max s.now t + s.rd .TC_IDLE_S * psS) ∧ u.out = s.out ∧ quiet u)
      ∧ (∃ u, Sys2Proof.Machine.exec (.confirm t sess false) s = .next u ∧ u.rd .TS_STATE sess = 0 ∧ u.latched .SESSION_AUTH_FAIL = true
        ∧ u.rd .TC_AUTH_FAILS = min (s.rd .TC_AUTH_FAILS + 1) 0xFFFFFFFF ∧ u.out = s.out ++ [.openRefused (s.rd .TS_PORT sess) 0x001E] ∧ quiet u))
    ∧ (∀ sess : Nat, sess < 34 → (s.session sess).isSome = true → s'.due .sessConfirm sess = true →
      ∃ u, Sys2Proof.Machine.exec (.sessionConfirmTimeout t sess) s = .next u ∧ u.rd .TS_STATE sess = 0
        ∧ u.rd .TC_AUTH_FAILS = min (s.rd .TC_AUTH_FAILS + 1) 0xFFFFFFFF ∧ u.out = s.out ++ [.openRefused (s.rd .TS_PORT sess) 0x001E] ∧ quiet u)
    ∧ (∀ m : Msg, m.t = t → s.takes m = true →
      ∃ u, Sys2Proof.Machine.exec (.close m) s = .next u ∧ u.rd .TS_STATE m.sess = 0 ∧ u.latched .SESSION_CLOSED = true
        ∧ u.out = s.out ++ [.answer ⟨m.sess, m.seq, 0, 0, 0, 0, 0, s.activeNode, []⟩] ∧ quiet u)
    ∧ (∀ sess : Nat, sess < 34 → (s.session sess).isSome = true → s'.due .sessIdle sess = true →
      ∃ u, Sys2Proof.Machine.exec (.sessionIdleTimeout t sess) s = .next u ∧ u.rd .TS_STATE sess = 0 ∧ u.latched .SESSION_CLOSED = true
        ∧ u.out = s.out ∧ quiet u)

/-- O40. A message of an open session that passes the checks of R378 to R380 is answered ACCEPTED with its sequence number and the active manager's node: a READ of the word of SYS_NODE with its node number and validity; HEARTBEAT with house time in seconds and nanoseconds, ORD_APPLIED and RD_STATE; QUERY NODE with the seven fields of the node looked up; QUERY SDP with the text of the send flow; QUERY CLAMP_REPORT with the part; QUERY LATENCY along a path with the total of its terms and each term, and NO_PATH where there is none. Each counts in TS_MSGS, and registers outside block 0Fh and all of memory are unchanged. (The layout of the answers' data in numbers, and the SDP text, are the model's: log 5, log 24.) -/
def Obligations.ReadsAndQueriesAreAnswered : Prop :=
  ∀ (s : State) (m : Msg), s.wf = true → s.fits → s.takes m = true →
    let s' : State := { s with now := max s.now m.t }
    let said (u : State) (status flags : Nat) (data : List Nat) : Prop :=
      u.out = s.out ++ [.answer ⟨m.sess, m.seq, status, 0, 0, flags, 0, s.activeNode, data⟩]
      ∧ u.rd .TS_MSGS m.sess = min (s.rd .TS_MSGS m.sess + 1) 0xFFFFFFFF
      ∧ (∀ f i j, blockOf f.desc.addr ≠ 0x0F → u.rd f i j = s.rd f i j) ∧ u.mem = s.mem
    (m.lenOk = true → ∃ u, Sys2Proof.Machine.exec (.read m 0x40000108 4) s = .next u ∧ said u 0 0 [s.rd .SYS_NODE + s.rd .SYS_NODE_VALID * 256])
    ∧ (∃ u, Sys2Proof.Machine.exec (.heartbeat m) s = .next u ∧ said u 0 0 [s'.house / psS, s'.house % psS / psNs, s.rd .ORD_APPLIED, s.rd .RD_STATE_PAIR])
    ∧ (∀ dst dbus src : Nat, ∃ u, Sys2Proof.Machine.exec (.queryNode m dst dbus src) s = .next u
        ∧ said u 0 0 (([.AN_PRESENT, .AN_INV, .AN_TRANSP, .AN_RAMPING, .AN_GAIN, .AN_RAMP, .AN_COEF] : List Fld).map (s'.nodeField (s'.lookNode dst dbus src))))
    ∧ (∀ kind index : Nat, (kind = 1 ∧ index < 256) ∨ (kind = 3 ∧ index < 512) → ∃ u, Sys2Proof.Machine.exec (.querySdp m kind index) s = .next u
        ∧ said u 0 0 (Config.sdpText kind index (((sdpFields kind).map fun f => s.rd f index)
            ++ [s.ssrc (if kind = 1 then 0 else 2) index, if kind = 1 then s.fmtOut index else s.rate])))
    ∧ (∀ part : Nat, ∃ u, Sys2Proof.Machine.exec (.queryClampReport m part) s = .next u ∧ said u 0 0 (s.clampPart part))
    ∧ (∀ srcNode src dstNode ad : Nat, ∃ u, Sys2Proof.Machine.exec (.queryLatency m srcNode src dstNode ad) s = .next u
        ∧ (match s'.latencyTerms srcNode src dstNode ad with
           | none => said u 0x00CB 0 []
           | some (ts, asrc) => said u 0 (if asrc then 4 else 0) ((ts.map Prod.snd).sum :: ts.flatMap fun x => [x.1, x.2])))

/-- O41. A SUBSCRIBE that is taken on a claimed module outside KINDLING replaces the session's mask and is answered ACCEPTED. EVENT_SEND sends the first 16 waiting records of an open session with the next sequence number and holds them as unacknowledged; EVENT_RESEND_TIMEOUT sends the same records with the same number again; an EVENT_ACK of that number takes them out of the queue, unanswered. A message part that stays incomplete is answered BAD_MESSAGE for its first part (log 25). Memory is unchanged by each. -/
def Obligations.SubscriptionsAndEventDelivery : Prop :=
  ∀ (s : State) (t : Nat), s.wf = true → s.fits →
    let s' : State := { s with now := max s.now t }
    (∀ (m : Msg) (mask : Nat), m.t = t → s.takes m = true → s.claimOnly m.sess = false → s.rd .SU_STATE ≠ 4 →
      ∃ u, Sys2Proof.Machine.exec (.subscribe m mask) s = .next u ∧ (u.session m.sess).map Session.mask = some (mask % 2 ^ 1024)
        ∧ u.out = s.out ++ [.answer ⟨m.sess, m.seq, 0, 0, 0, 0, 0, s.activeNode, []⟩] ∧ u.mem = s.mem)
    ∧ (∀ (m : Msg) (x : Session) (seq k : Nat), m.t = t → s.takes m = true → s.session m.sess = some x → x.unacked = some (seq, k) → x.lost = 0 →
      ∃ u, Sys2Proof.Machine.exec (.eventAck m seq) s = .next u
        ∧ (u.session m.sess).map (fun y => (y.queue, y.unacked)) = some (x.queue.drop k, none) ∧ u.out = s.out ∧ u.mem = s.mem)
    ∧ (∀ (sess : Nat) (x : Session), sess < 34 → s.session sess = some x → s.rd .TS_STATE sess = 2 → x.unacked = none → x.queue ≠ [] →
      ∃ u, Sys2Proof.Machine.exec (.eventSend t sess) s = .next u
        ∧ u.out = s.out ++ [.event sess (s.rd .TS_SEQ_TX sess + 1) (x.queue.take 16)]
        ∧ (u.session sess).map Session.unacked = some (some (s.rd .TS_SEQ_TX sess + 1, min 16 x.queue.length))
        ∧ u.timer .eventResend sess = some (max s.now t + s.rd .TC_RESEND_MS * psMs) ∧ u.mem = s.mem)
    ∧ (∀ (sess : Nat) (x : Session) (seq k : Nat), s.session sess = some x → x.unacked = some (seq, k) → s'.due .eventResend sess = true →
      ∃ u, Sys2Proof.Machine.exec (.eventResendTimeout t sess) s = .next u ∧ u.out = s.out ++ [.event sess seq (x.queue.take k)]
        ∧ u.regs = s.regs ∧ u.mem = s.mem)
    ∧ (∀ sess : Nat, s'.due .msgPart sess = true →
      ∃ u, Sys2Proof.Machine.exec (.messagePartTimeout t sess) s = .next u
        ∧ u.out = s.out ++ [.answer ⟨sess, s.qn .partSeq sess, 0x001D, 0, 0, 0, 0, s.activeNode, []⟩] ∧ u.mem = s.mem)

/-- O42. Firmware's queue holds at most 256 records. An event raised in a sound state joins the queue when it holds fewer than 256 records and is otherwise dropped with EQ_LOST adding 1; EQ_HEAD shows the oldest record; a write of 1 to EQ_ACK while EQ_COUNT is not 0 takes the oldest record out, and EQ_COUNT and EQ_HEAD follow. (For an event of a block that is not idle.) -/
def Obligations.FirmwareQueueAndLatch : Prop :=
  ∀ s : State, s.wf = true → s.evq.length ≤ 256
    ∧ (∀ (e : Ev) (inst param : Nat), s.idleBlock (e.num / 48) = false →
        let u := s.apply (raise e inst param s)
        let r : EvRec := ⟨e.num, s.node, inst % 2 ^ 16, s.qn .evSerial % 2 ^ 32, param % 2 ^ 64, s.houseS, s.houseNs⟩
        u.evq = (if s.evq.length < 256 then s.evq ++ [r] else s.evq)
        ∧ (s.fits → u.rd .EQ_LOST = (if s.evq.length < 256 then s.rd .EQ_LOST else min (s.rd .EQ_LOST + 1) 0xFFFFFFFF))
        ∧ u.rd .EQ_COUNT = u.evq.length ∧ u.rd .EQ_HEAD = (u.evq.head?.map recBits).getD 0 % 2 ^ Fld.EQ_HEAD.desc.width)
    ∧ (∀ value : Nat, value % 2 = 1 → s.rd .EQ_COUNT ≠ 0 →
        ∃ u, Sys2Proof.Machine.exec (.eqAck value) s = .next u ∧ u.evq = s.evq.tail ∧ u.rd .EQ_COUNT = s.evq.tail.length
          ∧ u.rd .EQ_HEAD = (s.evq.tail.head?.map recBits).getD 0 % 2 ^ Fld.EQ_HEAD.desc.width
          ∧ (∀ f i j, f ≠ .EQ_COUNT → f ≠ .EQ_HEAD → u.rd f i j = s.rd f i j) ∧ u.mem = s.mem ∧ u.out = s.out)

/-- O43. EP_LATCH_CLEAR clears exactly the bits written as 1 of its latch word, and EP_PINS is what latch and masks then say. With power-good, GPI_CHANGE makes its bit of GP_IN the level inverted by GP_POL, every other line stays, and a change not reported in the last millisecond latches GPI_CHANGE. An ordered pulse whose line and sample have come starts: its line's bit of GP_OUT_NOW is the inverse of GP_OUT_LEVEL; GPO_PULSE_END at its end returns the bit to GP_OUT_LEVEL. Memory is unchanged by each. (The pins follow at once, log 7.) -/
def Obligations.LatchAndGpioLines : Prop :=
  ∀ (s : State) (t : Nat), s.wf = true → s.fits →
    let s' : State := { s with now := max s.now t }
    (∀ word mask : Nat, word < 32 →
      ∃ u, Sys2Proof.Machine.exec (.epLatchClear word mask) s = .next u ∧ u.rd .EP_LATCH word = s.rd .EP_LATCH word - Nat.land (s.rd .EP_LATCH word) mask
        ∧ u.rd .EP_PINS = u.evtPins ∧ (∀ f i j, f ≠ .EP_LATCH ∨ i ≠ word → f ≠ .EP_PINS → u.rd f i j = s.rd f i j) ∧ u.mem = s.mem ∧ u.out = s.out)
    ∧ (∀ (line : Nat) (level : Bool), line < 32 → s.q .powerGood = 1 →
      ∃ u, Sys2Proof.Machine.exec (.gpiChange t line level) s = .next u ∧ bit (u.rd .GP_IN) line = (level != bit (s.rd .GP_POL) line)
        ∧ (∀ k, k < 32 → k ≠ line → bit (u.rd .GP_IN) k = bit (s.rd .GP_IN) k)
        ∧ (bit (s.rd .GP_IN) line ≠ (level != bit (s.rd .GP_POL) line) → s.q .gpiRaised line = 0 → u.latched .GPI_CHANGE = true)
        ∧ (∀ f i j, blockOf f.desc.addr ≠ 0x0F → u.rd f i j = s.rd f i j) ∧ u.mem = s.mem)
    ∧ (∀ line : Nat, line < 32 → s.q .powerGood = 1 → s'.due .gpoEnd line = true →
      ∃ u, Sys2Proof.Machine.exec (.gpoPulseEnd t line) s = .next u ∧ bit (u.rd .GP_OUT_NOW) line = bit (s.rd .GP_OUT_LEVEL) line
        ∧ u.timer .gpoEnd line = none ∧ u.mem = s.mem ∧ u.out = s.out)
    ∧ (∀ (p : Pend) (line us l k : Nat), line < 32 → 1 ≤ us → us < 2 ^ 16 → s.q .powerGood = 1 → s.standAlone = true → s.rd .SU_STATE = 3 →
        s.acts = [p] → p.pt = .line l k → p.at_ ≤ s'.house → p.stamp.dom = 0 → s.rd .RD_FORMAT 0 = 1 → p.item = .words 0x40F00414 [2 ^ line, us * 2 ^ 16] →
      ∃ u, Sys2Proof.Machine.exec (.gpoPulseStart t) s = .next u ∧ bit (u.rd .GP_OUT_NOW) line = !bit (s.rd .GP_OUT_LEVEL) line
        ∧ u.timer .gpoEnd line = some (max s.now t + us * psUs) ∧ u.acts = [] ∧ u.mem = s.mem)

/-- O44. With nothing else outstanding on the matrix, a burst of a master other than Xithaid that keeps R404 and whose target is a memory (SRAM, Fern or Peat) is granted. A read answered at once brings its beats, byte i of beat k from the address remapped under R410 plus 32k + i, and changes no byte. A write to SRAM or Peat is answered DONE and stores each byte whose enable is 1, and every other byte of memory keeps its value. A burst that waits or whose target has not answered is held, and BM_OUTSTANDING counts it. (How far a burst comes is an operand, log 21.) -/
def Obligations.BusBurstsReadAndWriteMemory : Prop :=
  ∀ (s : State) (t master id qos addr tgt : Nat), s.wf = true → s.fits → s.bursts = [] → s.q .remapNext = 0 → master < 10 → master ≠ 4 → id < busIds master →
    s.q .bmReset master = 0 → busTarget (s.busAddr addr) = some tgt → (tgt = 1 ∨ tgt = 3) → s.busRight master (s.busAddr addr) = 3 →
    (∀ len : Nat, burstRule addr len tgt = true →
      ∃ u, Sys2Proof.Machine.exec (.busRead t master id qos addr len .answered) s = .next u
        ∧ u.out = s.out ++ [.bus master id 0 0 ((List.range len).map fun k =>
            (List.range 32).foldl (fun v i => v + s.busByte (s.busAddr addr + 32 * k + i) * 2 ^ (8 * i)) 0)]
        ∧ u.bursts = [] ∧ u.rd .BM_OUTSTANDING master = 0 ∧ u.mem = s.mem ∧ (∀ f i j, f ≠ .BM_OUTSTANDING → u.rd f i j = s.rd f i j))
    ∧ (∀ beats : List (Nat × Nat), burstRule addr beats.length tgt = true →
      ∃ u, Sys2Proof.Machine.exec (.busWrite t master id qos addr beats .answered) s = .next u
        ∧ u.out = s.out ++ [.bus master id 0 0 []]
        ∧ (∀ k i v en, beats[k]? = some (v, en) → i < 32 → bit en i = true →
            u.peek (s.busAddr addr + 32 * k + i) = BitVec.ofNat 8 (bits v (8 * i) 8))
        ∧ (∀ b, (∀ k i v en, beats[k]? = some (v, en) → i < 32 → bit en i = true → b ≠ s.busAddr addr + 32 * k + i) → u.peek b = s.peek b)
        ∧ (∀ f i j, f ≠ .BM_OUTSTANDING → u.rd f i j = s.rd f i j))
    ∧ (∀ (len k : Nat), burstRule addr len tgt = true →
      ∃ u, Sys2Proof.Machine.exec (.busRead t master id qos addr len (.granted k)) s = .next u
        ∧ (u.bursts.map fun b => (b.master, b.id, b.granted)) = [(master, id, true)] ∧ u.rd .BM_OUTSTANDING master = 1 ∧ u.mem = s.mem ∧ u.out = s.out)

/-- O45. A read at an address that no target serves is answered UNMAPPED and counted in BM_ERRORS. A granted burst without an answer for BM_TIMEOUT_CYC cycles is answered REJECT by the matrix, released, and counted in BM_TIMEOUTS. MASTER_RESET withdraws what the master has waiting, leaves no enable of a write beyond what was delivered, sends no answer and closes the port; BUS_MASTER_DRAIN releases what is left, opens the port and counts in BM_DRAINS. (Outside KINDLING, where block 12h is idle, the timeout and the drain latch their events.) -/
def Obligations.BusErrorsTimeoutsAndDrains : Prop :=
  ∀ (s : State) (t master id : Nat), s.wf = true → s.fits → master < 10 →
    (∀ qos addr len : Nat, master ≠ 4 → id < busIds master → s.q .bmReset master = 0 → busTarget (s.busAddr addr) = none →
      ∃ u, Sys2Proof.Machine.exec (.busRead t master id qos addr len .answered) s = .next u ∧ u.out = s.out ++ [.bus master id 2 0 []]
        ∧ u.rd .BM_ERRORS master = min (s.rd .BM_ERRORS master + 1) 0xFFFFFFFF ∧ u.bursts = s.bursts ∧ u.mem = s.mem)
    ∧ (∀ b : Burst, s.bursts.find? (fun b => b.master == master && b.id == id && b.granted) = some b →
        b.since + s.rd .BM_TIMEOUT_CYC * 1250 ≤ max s.now t →
      ∃ u, Sys2Proof.Machine.exec (.busTimeout t master id) s = .next u ∧ u.out = s.out ++ [.bus master id 1 0x0010 []]
        ∧ u.bursts = s.bursts.filter (fun c => !c.same b) ∧ u.rd .BM_TIMEOUTS master = min (s.rd .BM_TIMEOUTS master + 1) 0xFFFFFFFF
        ∧ (s.rd .SU_STATE ≠ 4 → u.latched .BUS_TIMEOUT = true) ∧ u.mem = s.mem)
    ∧ (∃ u, Sys2Proof.Machine.exec (.masterReset t master) s = .next u ∧ u.q .bmReset master = 1
        ∧ (∀ b ∈ u.bursts, b.master = master → b.granted = true ∧ b.beats = [])
        ∧ (∀ b ∈ s.bursts, b.master ≠ master → b ∈ u.bursts))
    ∧ (s.q .bmReset master = 1 →
      ∃ u, Sys2Proof.Machine.exec (.busMasterDrain t master) s = .next u ∧ u.q .bmReset master = 0
        ∧ u.bursts = s.bursts.filter (fun b => b.master != master) ∧ u.rd .BM_DRAINS master = min (s.rd .BM_DRAINS master + 1) 0xFFFFFFFF
        ∧ (s.rd .SU_STATE ≠ 4 → u.latched .BUS_MASTER_DRAIN = true) ∧ u.mem = s.mem ∧ u.out = s.out)

/-- O46. A write of SYS_REMAP by CC0 to CC3 is held; any other master's is answered REJECT with READONLY, and nothing is held. A held value reaches SYS_REMAP once no granted burst below 10000000h is outstanding, and not before. Memory and every other register keep their values, but for the error registers of block 12h on a refusal and the event registers of block 0Fh. -/
def Obligations.RemapSwitchesOnceTheLowRangeIsFree : Prop :=
  ∀ (s : State) (t master value : Nat), s.wf = true → s.fits →
    (master < 4 → ∃ u, Sys2Proof.Machine.exec (.sysRemapWrite t master value) s = .next u ∧ u.q .remapNext = ((value % 2 + 1 : Nat) : Int)
        ∧ u.regs = s.regs ∧ u.mem = s.mem ∧ u.out = s.out)
    ∧ (4 ≤ master → master < 10 → ∃ u, Sys2Proof.Machine.exec (.sysRemapWrite t master value) s = .next u ∧ u.q .remapNext = s.q .remapNext
        ∧ u.out = s.out ++ [.bus master 0 1 0x0011 []] ∧ u.mem = s.mem
        ∧ (∀ f i j, blockOf f.desc.addr ≠ 0x0F → blockOf f.desc.addr ≠ 0x12 → u.rd f i j = s.rd f i j))
    ∧ (∀ v : Nat, v < 2 → s.q .remapNext = ((v + 1 : Nat) : Int) →
      ∃ u, Sys2Proof.Machine.exec (.sysRemapSwitch t) s = .next u
        ∧ (if s.bursts.any (fun b => b.granted && b.low) then u.regs = s.regs ∧ u.q .remapNext = s.q .remapNext
           else u.rd .SYS_REMAP = v ∧ u.q .remapNext = 0)
        ∧ (∀ f i j, f ≠ .SYS_REMAP → u.rd f i j = s.rd f i j) ∧ u.mem = s.mem ∧ u.out = s.out)

/-- O47. SEC_CLAIM_GO = 1 with a good certificate, the claim code on an unclaimed module or the release signature on a claimed one, a free owner slot, claiming not locked and no claim made since start: the owner's digest joins the fuses, SEC_OWNER_DIGEST shows it, SEC_STATE reads CLAIMED, ACCEPTED is answered, SEC_CLAIMED is latched and a restart is scheduled. A write of 0 is answered ACCEPTED and does nothing else. With a wrong code or a missing release the owners stay, the failure is counted, and the eighth since start sets SEC_STATE to CLAIM_LOCKED. A debug token that verifies and names this module sets SEC_DEBUG_OPEN, answers ACCEPTED and latches SEC_DEBUG_UNLOCKED; one that does not verify changes no register. Memory is unchanged by each. -/
def Obligations.ClaimBurnsTheOwner : Prop :=
  ∀ (s : State) (t sess : Nat) (v : ClaimVerdict), s.wf = true → s.fits →
    (∀ value : Nat, value % 2 = 0 → ∃ u, Sys2Proof.Machine.exec (.secClaimGo t sess value v) s = .next u ∧ u.owners = s.owners ∧ u.regs = s.regs
      ∧ u.out = s.out ++ [.claimAnswer sess 0] ∧ u.mem = s.mem)
    ∧ (s.q .claimDone = 0 → s.rd .SEC_STATE ≠ 2 → v.certOk = true → (s.owners = [] → v.codeOk = true) → (s.owners ≠ [] → v.releaseOk = true) →
        s.owners.length < 4 → s.domReady 0 = false →
      ∃ u, Sys2Proof.Machine.exec (.secClaimGo t sess 1 v) s = .next u ∧ u.owners = s.owners ++ [v.ownerDigest] ∧ u.rd .SEC_STATE = 1
        ∧ u.rd .SEC_OWNER_DIGEST = v.ownerDigest % 2 ^ 384 ∧ u.rd .SEC_OWNER_SLOT = s.owners.length ∧ (.claimAnswer sess 0) ∈ u.out
        ∧ u.latched .SEC_CLAIMED = true ∧ u.timer .restart = some (max s.now t + psMs) ∧ u.mem = s.mem)
    ∧ (s.q .claimDone = 0 → s.rd .SEC_STATE ≠ 2 → v.certOk = true → (s.owners = [] → v.codeOk = false) → (s.owners ≠ [] → v.releaseOk = false) →
      ∃ u, Sys2Proof.Machine.exec (.secClaimGo t sess 1 v) s = .next u ∧ u.owners = s.owners ∧ u.rd .SEC_CLAIM_FAILS = min (s.rd .SEC_CLAIM_FAILS + 1) 15
        ∧ u.rd .SEC_STATE = (if s.rd .SEC_CLAIM_FAILS = 7 then 2 else s.rd .SEC_STATE)
        ∧ u.out = s.out ++ [.claimAnswer sess (if s.owners = [] then 0x0201 else 0x0204)] ∧ u.mem = s.mem)
    ∧ (s.owners ≠ [] → v.tokenOk = true → v.tokenHere = true →
      ∃ u, Sys2Proof.Machine.exec (.secDebugToken t sess v) s = .next u ∧ u.rd .SEC_DEBUG_OPEN = 1 ∧ u.latched .SEC_DEBUG_UNLOCKED = true
        ∧ u.out = s.out ++ [.claimAnswer sess 0]
        ∧ (∀ f i j, f ≠ .SEC_DEBUG_OPEN → blockOf f.desc.addr ≠ 0x0F → u.rd f i j = s.rd f i j) ∧ u.mem = s.mem)
    ∧ (s.owners ≠ [] → v.tokenOk = false →
      ∃ u, Sys2Proof.Machine.exec (.secDebugToken t sess v) s = .next u ∧ u.out = s.out ++ [.claimAnswer sess 0x0209] ∧ u.regs = s.regs ∧ u.mem = s.mem)

/-- O48. Firmware's write of ORD_RESYNC_AUTO's word stores its bit and changes no other register. A write of 1 to XP_CNT_CLR zeroes XP_TAKES_ALL and XP_UNTIMED_ALL and nothing else. 5A5Ah to SYS_RESTART schedules a restart 1 ms on while D0 is not ready, from firmware and, in KINDLING, from a session on SVC with the CONFIGURE privilege, which is answered ACCEPTED; another value schedules none. COMMANDED_RESTART at that moment begins a start: SU_STATE is POWER_UP, nothing that was loaded is left, and fuses and NVM stay. -/
def Obligations.DirectWritesLand : Prop :=
  ∀ (s : State) (t : Nat), s.wf = true → s.fits →
    let s' : State := { s with now := max s.now t }
    (∀ v : Nat, ∃ u, Sys2Proof.Machine.exec (.registerWrite t 0x4000013C [v]) s = .next u ∧ u.rd .ORD_RESYNC_AUTO = v % 2
        ∧ (∀ f i j, f ≠ .ORD_RESYNC_AUTO → u.rd f i j = s.rd f i j) ∧ u.mem = s.mem ∧ u.out = s.out)
    ∧ (s.idleBlock 4 = false → ∃ u, Sys2Proof.Machine.exec (.counterClearWrite t 0x4048003C 1) s = .next u ∧ u.rd .XP_TAKES_ALL = 0 ∧ u.rd .XP_UNTIMED_ALL = 0
        ∧ (∀ f i j, f ≠ .XP_TAKES_ALL → f ≠ .XP_UNTIMED_ALL → u.rd f i j = s.rd f i j) ∧ u.mem = s.mem ∧ u.out = s.out)
    ∧ (s.domReady 0 = false → ∃ u, Sys2Proof.Machine.exec (.sysRestartWrite t 0x5A5A) s = .next u ∧ u.timer .restart = some (max s.now t + psMs)
        ∧ u.regs = s.regs ∧ u.mem = s.mem ∧ u.out = s.out)
    ∧ (∀ v : Nat, v ≠ 0x5A5A → ∃ u, Sys2Proof.Machine.exec (.sysRestartWrite t v) s = .next u ∧ u.timers = s.timers ∧ u.mem = s.mem)
    ∧ (∀ (m : Msg) (v : ClaimVerdict), m.t = t → s.takes m = true → m.lenOk = true → s.onSvc m.sess = true → s.claimOnly m.sess = false →
        bit (s.rd .TS_PRIV m.sess) 1 = true → s.rd .SU_STATE = 4 → s.rd .SYS_ROLE = 0 → s.domReady 0 = false →
      ∃ u, Sys2Proof.Machine.exec (.svcDirectWrite m 0x40000240 4 [0x5A5A] v) s = .next u ∧ u.timer .restart = some (max s.now t + psMs)
        ∧ u.out = s.out ++ [.answer ⟨m.sess, m.seq, 0, 0, 0, 0, 0, s.activeNode, []⟩] ∧ u.mem = s.mem)
    ∧ (s'.due .restart = true → ∃ u, Sys2Proof.Machine.exec (.commandedRestart t) s = .next u ∧ u.rd .SU_STATE = 0 ∧ u.q .powerGood = 1
        ∧ u.cfg = none ∧ u.sessions = [] ∧ u.acts = [] ∧ u.mem = [] ∧ u.owners = s.owners ∧ u.nvm = s.nvm ∧ u.clampReport = s.clampReport
        ∧ u.pending = s.pending)

/-- O49. A start that has begun ends in KINDLING with SU_KINDLING_WHY 4 and NVM_FAULT when the device does not answer, is smaller than 128 MiB or has no good directory; 2 on an unclaimed module; 1 when neither pair passes, with the status of the active pair in SU_FW_WHY [15:0] and of the other in [31:16]. SYS_ROLE is 0, SVC runs in the fused mode on lane LSV, and KINDLING_ENTERED is latched. -/
def Obligations.StartEndsInKindling : Prop :=
  ∀ (s : State) (t : Nat), s.wf = true → s.fits → s.q .powerGood = 1 → s.rd .SU_STATE = 0 →
    let ends (u : State) (why : Nat) : Prop := u.rd .SU_STATE = 4 ∧ u.rd .SU_KINDLING_WHY = why ∧ u.rd .SYS_ROLE = 0
      ∧ u.rd .MC_MODE 258 = s.rd .SU_KINDLING_SVC ∧ u.rd .LN_USE 258 = 5 ∧ u.rd .MC_STATE 258 = 1 ∧ u.latched .KINDLING_ENTERED = true
      ∧ u.owners = s.owners ∧ u.pending = s.pending
    (s.nvm.answers = false ∨ s.nvm.mib < 128 ∨ nvmDirectory s.nvm = none →
      ∃ u, Sys2Proof.Machine.exec (.start t) s = .next u ∧ ends u 4 ∧ u.latched .NVM_FAULT = true)
    ∧ (s.nvm.answers = true → 128 ≤ s.nvm.mib → (nvmDirectory s.nvm).isSome = true → s.owners = [] →
      ∃ u, Sys2Proof.Machine.exec (.start t) s = .next u ∧ ends u 2)
    ∧ (∀ e e' : Status, s.nvm.answers = true → 128 ≤ s.nvm.mib → (nvmDirectory s.nvm).isSome = true → s.owners ≠ [] → s.rd .SU_PAIR = 0 →
        s.pairTry (s.directory.active % 2) = .error e → s.pairTry (1 - s.directory.active % 2) = .error e' →
      ∃ u, Sys2Proof.Machine.exec (.start t) s = .next u ∧ ends u 1 ∧ u.rd .SU_FW_WHY = e.code + e'.code * 2 ^ 16)

/-- O50. On a claimed module with a usable device, a start whose active pair passes the checks of steps 4 and 6 runs that pair: SU_PAIR names it, its firmware and its image are in force, and SU_SET_ID shows its set. When the active pair fails and the other passes, the other runs, SU_FALLBACK is 1 and SU_FW_WHY holds the active pair's status. Either start ends in RUNNING with START_COMPLETE latched, or, if a fatal field was refused, in KINDLING with SU_KINDLING_WHY 3. -/
def Obligations.StartRunsThePairThatPasses : Prop :=
  ∀ (s : State) (t : Nat) (f : FwImage) (c : CfgImage), s.wf = true → s.fits → s.q .powerGood = 1 → s.rd .SU_STATE = 0 →
    s.nvm.answers = true → 128 ≤ s.nvm.mib → (nvmDirectory s.nvm).isSome = true → s.owners ≠ [] → s.rd .SU_FALLBACK = 0 → s.rd .SU_FW_WHY = 0 →
    let a := s.directory.active % 2
    let ends (u : State) (p : Nat) : Prop := u.rd .SU_PAIR = p + 1 ∧ u.fwRun = some f ∧ u.cfg = some c ∧ u.rd .SU_SET_ID = f.setIds.headD 0 % 2 ^ 32
      ∧ ((u.rd .SU_STATE = 3 ∧ u.latched .START_COMPLETE = true) ∨ (u.rd .SU_STATE = 4 ∧ u.rd .SU_KINDLING_WHY = 3))
      ∧ u.owners = s.owners ∧ u.pending = s.pending
    (s.pairTry a = .ok (f, c) →
      ∃ u, Sys2Proof.Machine.exec (.start t) s = .next u ∧ ends u a ∧ u.rd .SU_FALLBACK = 0 ∧ u.rd .SU_FW_WHY = 0)
    ∧ (∀ e : Status, s.pairTry a = .error e → s.pairTry (1 - a) = .ok (f, c) →
      ∃ u, Sys2Proof.Machine.exec (.start t) s = .next u ∧ ends u (1 - a) ∧ u.rd .SU_FALLBACK = 1 ∧ u.rd .SU_FW_WHY = e.code)

/-- O51. For a message taken from a session on SVC with the UPDATE privilege of a claimed module: OPEN is answered with the first status that refuses it (BUSY adds 1 to UP_BUSY_REFUSED), or opens the lock: UP_STATE is RECEIVING, UP_SOURCE 1, UP_HOLDER the session, totals and windows stand in their fields, the lock is held for 60 s, UPDATE_OPENED latches and the answer is ACCEPTED, or CLAMPED where a window was clamped. BLOCK without the lock is answered NOT_OPEN; a block that does not fit BAD_BLOCK, counted in UP_BAD_BLOCKS; any other is handed to the NVM and not yet answered, or ACCEPTED at once where the module itself is no target. NVM_BLOCK_WRITTEN answers the block that waited and counts it in UP_FW_BLOCKS or UP_CFG_BLOCKS where it was not present. VERIFY is answered NOT_OPEN without the lock, INCOMPLETE with the first missing block, the first failing status of the completed pair, BAD_SIGNATURE where a digest differs, and otherwise, with no target to relay to, ACCEPTED, with UP_STATE VERIFIED. No register outside blocks 0Fh, 10h and 11h and no byte of memory changes. -/
def Obligations.UpdateOffersBlocksAndVerification : Prop :=
  ∀ (s : State) (m : Msg), s.wf = true → s.fits → s.takes m = true → s.claimOnly m.sess = false → s.onSvc m.sess = true → m.lenOk = true →
    bit (s.rd .TS_PRIV m.sess) 3 = true →
    let s' := s.met m
    let kept (u : State) : Prop := s.outside [0x0F, 0x10, 0x11] u ∧ u.mem = s.mem ∧ u.pending = s.pending
    let said (u : State) (code : Nat) (data : List Nat) : Prop := u.out = s'.out ++ [.answer { s'.mkAnswer m .ACCEPTED with status := code, data := data }]
    (∀ o : Offer, ∃ u, Sys2Proof.Machine.exec (.updateOpen m o) s = .next u ∧ kept u
      ∧ (match s'.openStatus o with
         | some st => said u st.code [] ∧ u.rd .UP_BUSY_REFUSED = (if st = .BUSY then min (s.rd .UP_BUSY_REFUSED + 1) 0xFFFFFFFF else s.rd .UP_BUSY_REFUSED)
            ∧ (st ≠ .CONFLICT → u.upd = s.upd ∧ u.nvm = s.nvm ∧ s'.only [.TS_SEQ_TX, .UP_BUSY_REFUSED] u)
         | none =>
            let cs := clampNat 60 86400 o.confirmS
            let hs := clampNat 10 900 o.healthS
            said u (if cs = o.confirmS ∧ hs = o.healthS then 0 else 1) [] ∧ u.rd .UP_STATE = 1 ∧ u.rd .UP_SOURCE = 1 ∧ u.rd .UP_HOLDER = m.sess
            ∧ u.rd .UP_CONTENT = o.content % 4 ∧ u.rd .UP_CONFIRM_S = cs ∧ u.rd .UP_HEALTH_S = hs ∧ u.rd .UP_FW_BLOCKS = 0 ∧ u.rd .UP_CFG_BLOCKS = 0
            ∧ u.rd .UP_FW_TOTAL = (if bit o.content 0 then ceilDiv o.fwLen 4096 else 0) ∧ u.rd .UP_CFG_TOTAL = (if bit o.content 1 then ceilDiv o.cfgLen 4096 else 0)
            ∧ u.timer .updLock = some (s'.now + 60 * psS) ∧ u.latched .UPDATE_OPENED = true
            ∧ ∃ x, u.upd = some x ∧ x.holder = m.sess ∧ x.fwHave = 0 ∧ x.cfgHave = 0 ∧ x.writing = [] ∧ x.fwDigest = o.fwDigest ∧ x.cfgDigest = o.cfgDigest))
    ∧ (∀ (img index : Nat) (crcOk : Bool), ∃ u, Sys2Proof.Machine.exec (.updateBlock m img index crcOk) s = .next u ∧ kept u
        ∧ (s'.isHolder m.sess = false → said u Status.NOT_OPEN.code [] ∧ u.upd = s.upd ∧ s'.only [.TS_SEQ_TX] u)
        ∧ (∀ x, s.upd = some x → s'.isHolder m.sess = true →
            (blockBad x img index crcOk = true → said u Status.BAD_BLOCK.code [] ∧ u.upd = s.upd ∧ s'.only [.TS_SEQ_TX, .UP_BAD_BLOCKS] u
              ∧ u.rd .UP_BAD_BLOCKS = min (s.rd .UP_BAD_BLOCKS + 1) 0xFFFFFFFF)
            ∧ (blockBad x img index crcOk = false → s'.takesSelf x.targets = true →
                u.out = s'.out ∧ u.upd = some { x with writing := x.writing ++ [(img, index, m.sess, m.seq)] } ∧ s'.only [] u)
            ∧ (blockBad x img index crcOk = false → s'.takesSelf x.targets = false →
                said u 0 [] ∧ s'.only [.TS_SEQ_TX, .UP_FW_BLOCKS, .UP_CFG_BLOCKS] u)))
    ∧ (∀ (x : Upd) (index seq : Nat), s.upd = some x → m.sess ≠ 64 → (x.writing.find? fun w => w.1 == 0 && w.2.1 == index) = some (0, index, m.sess, seq) →
        let s'' := s.since m.t
        ∃ u, Sys2Proof.Machine.exec (.nvmBlockWritten m.t 0 index) s = .next u ∧ kept u
          ∧ u.out = s''.out ++ [.answer (s''.mkAnswer ⟨m.t, m.sess, seq, false, true, true⟩ .ACCEPTED)]
          ∧ (bit x.fwHave index = false → u.rd .UP_FW_BLOCKS = min (s.rd .UP_FW_BLOCKS + 1) 0x1FFF)
          ∧ (bit x.fwHave index = true → u.rd .UP_FW_BLOCKS = s.rd .UP_FW_BLOCKS)
          ∧ ∃ y, u.upd = some y ∧ bit y.fwHave index = true ∧ y.writing = x.writing.erase (0, index, m.sess, seq))
    ∧ (∀ (targets : Nat) (fw : Option FwImage) (cfg : Option CfgImage), ∃ u, Sys2Proof.Machine.exec (.updateVerify m targets fw cfg) s = .next u ∧ kept u
        ∧ (s'.isHolder m.sess = false → said u Status.NOT_OPEN.code [] ∧ u.nvm = s.nvm ∧ s'.only [.TS_SEQ_TX] u)
        ∧ (∀ x, s.upd = some x → s'.isHolder m.sess = true →
            (match missingBlock x, s'.pairStatus x fw cfg with
             | some k, _ => said u Status.INCOMPLETE.code [k] ∧ u.nvm = s.nvm ∧ s'.only [.TS_SEQ_TX] u
             | none, some st => said u st.code [] ∧ u.nvm = s.nvm ∧ s'.only [.TS_SEQ_TX, .SEC_IMAGE_REJECTED] u
             | none, none =>
               if digestsOk x fw cfg = false then said u Status.BAD_SIGNATURE.code [] ∧ u.nvm = s.nvm ∧ s'.only [.TS_SEQ_TX] u
               else u.rd .UP_STATE = 2 ∧ u.latched .UPDATE_VERIFIED = true ∧
                 ((s'.relayNodes targets).filter (fun n => bit (s.rd .UP_RELAY_TARGETS) n) = [] → said u 0 [] ∧ s'.only [.TS_SEQ_TX, .UP_STATE] u))))

/-- O52. For a message taken from a session on SVC with the UPDATE privilege of a claimed module, with no target to relay to: ACTIVATE and ABORT without the lock are answered NOT_OPEN; ABORT by the holder releases the lock. ACTIVATE of a verified pair is answered ACCEPTED, latches UPDATE_ACTIVATED and schedules the restart. CONFIRM is answered NOT_UNCONFIRMED unless the running pair is unconfirmed; once the health check has passed, inside the window and with no conflict, it is accepted: each anti-rollback counter is raised to its image's version number, never above its fuses, the lock is released, UP_STATE is IDLE. After 60 s without a message of the holder the lock is released. When HEALTH_S ends before the check has passed, or CONFIRM_S ends, an unconfirmed running pair falls back: a restart is scheduled and UPDATE_FALLBACK latches. A timer that is not due changes nothing. No register outside blocks 0Fh, 10h and 11h and no byte of memory changes. (Burning adds at most 255 and 63 fuses.) -/
def Obligations.UpdatesAreActivatedAndConfirmed : Prop :=
  ∀ (s : State) (m : Msg), s.wf = true → s.fits →
    let s' := s.met m
    let w := s.since m.t
    let kept (u : State) : Prop := s.outside [0x0F, 0x10, 0x11] u ∧ u.mem = s.mem ∧ u.pending = s.pending
    let said (u : State) (st : Status) : Prop := u.out = s'.out ++ [.answer (s'.mkAnswer m st)]
    let can : Prop := s.takes m = true ∧ s.claimOnly m.sess = false ∧ s.onSvc m.sess = true ∧ m.lenOk = true ∧ bit (s.rd .TS_PRIV m.sess) 3 = true
    (∀ targets : Nat, can → s'.relayNodes targets = [] → ∃ u, Sys2Proof.Machine.exec (.updateActivate m targets) s = .next u ∧ kept u
      ∧ (s'.isHolder m.sess = false → said u .NOT_OPEN ∧ u.nvm = s.nvm ∧ s'.only [.TS_SEQ_TX] u)
      ∧ (∀ x, s.upd = some x → s'.isHolder m.sess = true → s'.takesSelf targets = true → s.rd .UP_STATE = 2 → s'.takesSelf x.targets = true →
          said u .ACCEPTED ∧ u.q .upVerified = 1 ∧ (u.timer .restart).isSome = true ∧ u.latched .UPDATE_ACTIVATED = true ∧ u.upd = s.upd
          ∧ s'.only [.TS_SEQ_TX] u))
    ∧ (∀ targets : Nat, can → s'.relayNodes targets = [] → s'.takesSelf targets = true →
        ∃ u, Sys2Proof.Machine.exec (.updateConfirm m targets) s = .next u ∧ kept u
        ∧ (s.rd .UP_STATE ≠ 3 → said u .NOT_UNCONFIRMED ∧ u.nvm = s.nvm ∧ s'.only [.TS_SEQ_TX] u)
        ∧ (s.rd .UP_STATE = 3 → s.rd .UP_HEALTH_OK = 1 → s'.due .updWindow = false → s.q .upFallback = 0 → s.q .upConflict ≠ 1 →
            said u .ACCEPTED ∧ u.upd = none ∧ u.rd .UP_STATE = 0 ∧ u.latched .UPDATE_CONFIRMED = true
            ∧ u.rd .SEC_ROLLBACK_FW = max (s.rd .SEC_ROLLBACK_FW) (min (s.fwRun.elim 0 FwImage.svn) 255)
            ∧ u.rd .SEC_ROLLBACK_CFG = max (s.rd .SEC_ROLLBACK_CFG) (min (s.cfg.elim 0 CfgImage.svn) 63)))
    ∧ (∀ targets : Nat, can → s'.relayNodes targets = [] → ∃ u, Sys2Proof.Machine.exec (.updateAbort m targets) s = .next u ∧ kept u ∧ u.nvm = s.nvm
        ∧ (s'.isHolder m.sess = false → said u .NOT_OPEN ∧ u.upd = s.upd ∧ s'.only [.TS_SEQ_TX] u)
        ∧ (s'.isHolder m.sess = true → said u .ACCEPTED ∧ u.upd = none ∧ u.rd .UP_STATE = 0 ∧ u.rd .UP_HOLDER = 0 ∧ u.timer .updLock = none))
    ∧ (∃ u, Sys2Proof.Machine.exec (.updateLockIdleTimeout m.t) s = .next u ∧ kept u ∧ u.out = s.out
        ∧ (∀ x, s.upd = some x → w.due .updLock = true → w.holdsOpen x.holder = true → u.upd = none ∧ u.rd .UP_STATE = 0 ∧ u.timer .updLock = none)
        ∧ (w.due .updLock = false ∨ s.upd = none → u = w))
    ∧ (∃ u, Sys2Proof.Machine.exec (.updateHealthTimeout m.t) s = .next u ∧ kept u ∧ u.out = s.out
        ∧ (w.due .updHealth = true → s.rd .UP_HEALTH_OK = 0 → s.rd .UP_STATE = 3 → s.q .upFallback = 0 →
            u.q .upFallback = 1 ∧ (u.timer .restart).isSome = true ∧ u.timer .updWindow = none ∧ u.latched .UPDATE_FALLBACK = true)
        ∧ (w.due .updHealth = false ∨ s.rd .UP_HEALTH_OK = 1 → u = w))
    ∧ (∃ u, Sys2Proof.Machine.exec (.updateWindowExpiry m.t) s = .next u ∧ kept u ∧ u.out = s.out
        ∧ (w.due .updWindow = true → s.rd .UP_STATE = 3 → s.q .upFallback = 0 →
            u.q .upFallback = 4 ∧ (u.timer .restart).isSome = true ∧ u.latched .UPDATE_FALLBACK = true)
        ∧ (w.due .updWindow = false ∨ s.rd .UP_STATE = 0 ∧ s.q .upVerified = 0 → u = w))

/-- O53. A record of the relay does nothing unless SU_STATE is RUN or RESTRICTED; one whose tag fails adds 1 to FAB_TAG_FAILS, one whose sender is not the active manager adds 1 to RD_STALE_RECORDS. An OFFER that is refused, BLOCKS and a COMMAND where the relay holds no lock, are answered to the active manager with an ANSWER of the status and the subtype answered; a BLOCKS record of the holder whose blocks all fit hands them to the NVM, to be answered when they are written; a COMMAND ABORT of the holder releases the lock, a COMMAND ACTIVATE of a verified pair activates it and schedules the restart. At the manager, an ANSWER of a target that is awaited by no timer does nothing; a failing status up to VERIFY ends the target's part with UP_RELAY_STATE FAILED; the ANSWER that accepts the OFFER leads to its first BLOCKS record, awaited for 200 ms. When the 200 ms end, the record is sent again, ten times in all, and then UP_RELAY_STATE of the target is FAILED. No byte of memory changes. (The stages of a target's part are the model's own.) -/
def Obligations.TheRelayReachesTheTargets : Prop :=
  ∀ (s : State) (t : Nat), s.wf = true → s.fits →
    let s' := s.since t
    let on : Prop := s.rd .SU_STATE = 3 ∨ s.rd .SU_STATE = 5
    let kept (u : State) : Prop := u.mem = s.mem ∧ u.pending = s.pending
    let told (u : State) (sub code : Nat) : Prop := u.out = s.out ++ [.relay s.activeNode 0xF3 [code, sub, 0]]
    let turned (u : State) (sender : Nat) (ok : Bool) : Prop :=
      (¬ on → u = s')
      ∧ (on → ok = false → u.rd .FAB_TAG_FAILS = min (s.rd .FAB_TAG_FAILS + 1) 0xFFFFFFFF ∧ u.out = s.out ∧ u.upd = s.upd)
      ∧ (on → ok = true → sender ≠ s.activeNode → u.rd .RD_STALE_RECORDS = min (s.rd .RD_STALE_RECORDS + 1) 0xFFFFFFFF ∧ u.out = s.out ∧ u.upd = s.upd)
    (∀ (sender : Nat) (o : Offer) (ok : Bool), ∃ u, Sys2Proof.Machine.exec (.relayOffer t sender o ok) s = .next u ∧ kept u ∧ turned u sender ok
      ∧ (on → ok = true → sender = s.activeNode →
          match s'.openStatus { o with targets := 0 } with
          | some st => told u 0xF0 st.code
          | none => told u 0xF0 (if clampNat 60 86400 o.confirmS = o.confirmS ∧ clampNat 10 900 o.healthS = o.healthS then 0 else 1)
              ∧ u.rd .UP_STATE = 1 ∧ u.rd .UP_SOURCE = 2 ∧ u.rd .UP_HOLDER = s.activeNode % 64))
    ∧ (∀ (sender img first : Nat) (crcs : List Bool) (ok : Bool), ∃ u, Sys2Proof.Machine.exec (.relayBlocks t sender img first crcs ok) s = .next u
        ∧ kept u ∧ turned u sender ok
        ∧ (on → ok = true → sender = s.activeNode → s.isHolder 64 = false → told u 0xF1 Status.NOT_OPEN.code ∧ u.upd = s.upd)
        ∧ (∀ x, on → ok = true → sender = s.activeNode → s.isHolder 64 = true → s.upd = some x → x.targets = 0 → crcs ≠ [] →
            (∀ k c, crcs[k]? = some c → blockBad x img (first + k) c = false) →
            u.upd = some { x with writing := x.writing ++ (List.range crcs.length).map fun k => (img, first + k, 64, 0) } ∧ u.out = s.out))
    ∧ (∀ (sender op : Nat) (fw : Option FwImage) (cfg : Option CfgImage) (ok : Bool), ∃ u, Sys2Proof.Machine.exec (.relayCommand t sender op fw cfg ok) s = .next u
        ∧ kept u ∧ turned u sender ok
        ∧ (on → ok = true → sender = s.activeNode → s.isHolder 64 = false → op = 3 ∨ op = 4 ∨ op = 6 → told u 0xF2 Status.NOT_OPEN.code ∧ u.upd = s.upd)
        ∧ (on → ok = true → sender = s.activeNode → s.isHolder 64 = true → s.isManager = false → op = 6 →
            told u 0xF2 0 ∧ u.upd = none ∧ u.rd .UP_STATE = 0)
        ∧ (∀ x, on → ok = true → sender = s.activeNode → s.isHolder 64 = true → s.isManager = false → s.upd = some x → x.targets = 0 → s.rd .UP_STATE = 2 → op = 4 →
            told u 0xF2 0 ∧ u.q .upVerified = 1 ∧ (u.timer .restart).isSome = true ∧ u.latched .UPDATE_ACTIVATED = true))
    ∧ (∀ (sender status sub missing : Nat), sender < 64 → ∃ u, Sys2Proof.Machine.exec (.relayAnswer t sender status sub missing true) s = .next u ∧ kept u
        ∧ (s.isManager = false ∨ s.timer .relay sender = none → u = s')
        ∧ (s.isManager = true → (s.timer .relay sender).isSome = true → s.qn .relayCmd sender = 1 → sub = 0xF0 → 1 < status →
            u.rd .UP_RELAY_STATE sender = 3 ∧ u.timer .relay sender = none)
        ∧ (∀ x, s.upd = some x → s.isManager = true → (s.timer .relay sender).isSome = true → s.qn .relayCmd sender = 1 → sub = 0xF0 → status ≤ 1 →
            u.qn .relayCmd sender = 2 ∧ u.q .upSends sender = 1 ∧ u.timer .relay sender = some (s'.now + 200 * psMs)
            ∧ ∃ ds, u.out = s.out ++ [.relay sender 0xF1 ds]))
    ∧ (∀ node : Nat, node < 64 → ∃ u, Sys2Proof.Machine.exec (.relayResendTimeout t node) s = .next u ∧ kept u
        ∧ (s'.due .relay node = false → u = s')
        ∧ (∀ x, s.upd = some x → s'.due .relay node = true → s.q .upSends node < 10 → u.q .upSends node = s.q .upSends node + 1
            ∧ u.timer .relay node = some (s'.now + 200 * psMs) ∧ ∃ sub ds, u.out = s.out ++ [.relay node sub ds])
        ∧ (s'.due .relay node = true → 10 ≤ s.q .upSends node → u.timer .relay node = none ∧ u.rd .UP_RELAY_STATE node = 3))

/-- O54. A receiver in NO_SIGNAL that detects a signal is ACQUIRING from default equalisation with 2.5 ms (100 ms on PAM4); when that time ends it is ACQUIRING again at the next rate. In ACQUIRING, a lock at the rate tried within 450 ppm gives an SDI lane RATE_LOCKED, and its input in NO_SIGNAL too; on the other uses a lock within 200 ppm gives RATE_LOCKED, on LSV ALIGNED. Alignment gives ALIGNED; its loss RATE_LOCKED with LN_LOCK_LOSSES adding 1 and the errors counted, which an SDI input counts as a TRS loss, and which takes a fabric link in service out of it and a MAC port down. CDR loss gives ACQUIRING; loss of signal gives NO_SIGNAL, from which an SDI input is in NO_SIGNAL too. Other lanes' registers and memory are unchanged, and so is everything outside the functions that run on lanes. -/
def Obligations.LaneReceiversFollowTheirSignal : Prop :=
  ∀ (s : State) (t lane : Nat), s.wf = true → s.fits → lane < 259 →
    let near (u : State) : Prop := s.outside [0x00, 0x01, 0x02, 0x03, 0x04, 0x05, 0x07, 0x0B, 0x0C, 0x0E, 0x0F, 0x11] u ∧ u.mem = s.mem
      ∧ ∀ f k j, blockOf f.desc.addr = 1 → k ≠ lane → f ≠ .LN_ALIGNED_COUNT → u.rd f k j = s.rd f k j
    let starts (u : State) : Prop := u.rd .LN_RX_STATE lane = 2 ∧ u.rd .LN_RATE_NOW lane = 0 ∧ u.rd .LN_CTLE lane = 8 ∧ (∀ j, u.rd .LN_DFE lane j = 0)
      ∧ u.timer .lnAcquire lane = some (max s.now t + (if s.pam4 lane then 100 * psMs else 2500 * psUs))
    let lost (u : State) : Prop := u.rd .LN_LOCK_LOSSES lane = min (s.rd .LN_LOCK_LOSSES lane + (if s.rd .LN_RX_STATE lane = 4 then 1 else 0)) 0xFFFFFFFF
    (s.rd .LN_RX_STATE lane = 1 →
      ∃ u, Sys2Proof.Machine.exec (.laneSignalDetect t lane) s = .next u ∧ starts u ∧ u.qn .lnRateTry lane = 0 ∧ near u)
    ∧ (s.rd .LN_RX_STATE lane = 2 → (s.since t).due .lnAcquire lane = true →
      ∃ u, Sys2Proof.Machine.exec (.laneAcquireTimeout t lane) s = .next u ∧ starts u ∧ u.qn .lnRateTry lane = s.qn .lnRateTry lane + 1 ∧ near u)
    ∧ (∀ (rate frac : Nat) (ppm : Int), s.rd .LN_RX_STATE lane = 2 → frac < 2 →
      ∃ u, Sys2Proof.Machine.exec (.laneCdrLock t lane rate frac ppm) s = .next u ∧ near u
        ∧ (s.rd .LN_USE lane = 1 → lane < 256 → rate = s.rateTry lane → rate ≤ 5 → ppm.natAbs ≤ 4500 →
            u.rd .LN_RX_STATE lane = 3 ∧ u.rd .LN_RATE_NOW lane = rate ∧ u.rd .LN_RX_FRAC lane = frac ∧ u.rdS .LN_RX_PPM lane = ppm
              ∧ (s.rd .VI_STATE lane = 1 → u.rd .VI_STATE lane = 2 ∧ u.rd .VI_RATE lane = rate))
        ∧ (s.rd .LN_USE lane ≠ 1 → ppm.natAbs ≤ 2000 →
            u.rd .LN_RX_STATE lane = (if s.rd .LN_USE lane = 5 then 4 else 3) ∧ u.rd .LN_RATE_NOW lane = s.useRate lane ∧ u.rdS .LN_RX_PPM lane = ppm))
    ∧ (s.rd .LN_RX_STATE lane = 3 →
      ∃ u, Sys2Proof.Machine.exec (.laneAligned t lane) s = .next u ∧ u.rd .LN_RX_STATE lane = 4 ∧ u.rd .LN_ALIGNED_COUNT = (s.rd .LN_ALIGNED_COUNT + 1) % 512
        ∧ (s.rd .LN_USE lane = 1 → s.rd .VI_STATE lane = 2 → u.rd .VI_STATE lane = 3) ∧ near u)
    ∧ (∀ errs : Nat, s.rd .LN_RX_STATE lane = 4 →
      ∃ u, Sys2Proof.Machine.exec (.laneAlignLoss t lane errs) s = .next u ∧ u.rd .LN_RX_STATE lane = 3 ∧ lost u
        ∧ u.rd .LN_HDR_ERRS lane = min (s.rd .LN_HDR_ERRS lane + errs) 0xFFFFFFFF
        ∧ (s.rd .LN_USE lane = 1 → 3 ≤ s.rd .VI_STATE lane → u.rd .VI_STATE lane = 2 ∧ u.rd .VI_TRS_LOSSES lane = min (s.rd .VI_TRS_LOSSES lane + 1) 0xFFFFFFFF)
        ∧ (s.rd .LN_USE lane = 4 → s.inService (s.laneLink lane) = true → u.rd .FL_STATE (s.laneLink lane) = 1 ∨ u.rd .FL_STATE (s.laneLink lane) = 7)
        ∧ (s.rd .LN_USE lane = 2 ∨ s.rd .LN_USE lane = 3 → s.rd .MC_STATE lane = 2 → u.rd .MC_STATE lane = 1) ∧ near u)
    ∧ (3 ≤ s.rd .LN_RX_STATE lane →
      ∃ u, Sys2Proof.Machine.exec (.laneCdrLoss t lane) s = .next u ∧ starts u ∧ lost u ∧ near u)
    ∧ (2 ≤ s.rd .LN_RX_STATE lane →
      ∃ u, Sys2Proof.Machine.exec (.laneSignalLoss t lane) s = .next u ∧ u.rd .LN_RX_STATE lane = 1 ∧ u.rd .LN_RATE_NOW lane = 0
        ∧ u.timer .lnAcquire lane = none ∧ (s.rd .LN_USE lane = 1 → s.rd .VI_STATE lane ≠ 0 → u.rd .VI_STATE lane = 1) ∧ lost u ∧ near u)

/-- O55. A fault on a lane in use whose transmitter has none sets TX_FAULT with 10 ms to run, or, as the third within a second, HELD; LN_TX_FAULTS adds 1, LANE_TX_FAULT is latched, and LANE_TX_HELD with HELD; its SDI output in WAIT or RUNNING is in TX_FAULT too. After 10 ms with the cause cleared, or on LN_TX_RETRY = 1 in HELD (refused with REFUSED in any other state), the transmitter has no fault and its output sends again, or, where it has not yet run, waits (WAIT). Loss of a quad's clock counts, latches QUAD_CLOCK_LOSS, and faults each lane of the quad in use. Memory is unchanged, and so is everything outside the functions that run on lanes. -/
def Obligations.LaneTransmitterFaults : Prop :=
  ∀ (s : State) (t lane : Nat), s.wf = true → s.fits →
    let near (u : State) : Prop := s.outside [0x00, 0x01, 0x03, 0x04, 0x05, 0x07, 0x0B, 0x0C, 0x0E, 0x0F, 0x11] u ∧ u.mem = s.mem
    let third : Bool := decide (s.q .lnTxFaultAt lane 0 ≠ 0) && decide (((max s.now t : Nat) : Int) + 1 - s.q .lnTxFaultAt lane 0 ≤ psS)
    (lane < 259 → s.rd .LN_TX_STATE lane < 2 → s.rd .LN_USE lane ≠ 0 →
      ∃ u, Sys2Proof.Machine.exec (.laneTxFault t lane) s = .next u ∧ u.rd .LN_TX_FAULTS lane = min (s.rd .LN_TX_FAULTS lane + 1) 0xFFFFFFFF
        ∧ u.latched .LANE_TX_FAULT = true ∧ near u
        ∧ (if third then u.rd .LN_TX_STATE lane = 3 ∧ u.latched .LANE_TX_HELD = true
           else u.rd .LN_TX_STATE lane = 2 ∧ u.timer .lnResume lane = some (max s.now t + 10 * psMs))
        ∧ (s.rd .LN_USE lane = 1 → s.rd .VO_STATE lane = 1 ∨ s.rd .VO_STATE lane = 2 → u.rd .VO_STATE lane = 3))
    ∧ (lane < 259 → s.rd .LN_TX_STATE lane = 2 → (s.since t).due .lnResume lane = true →
      ∃ u, Sys2Proof.Machine.exec (.laneTxResume t lane true) s = .next u ∧ u.rd .LN_TX_STATE lane = 0 ∧ u.timer .lnResume lane = none
        ∧ (lane < 256 → u.rd .QD_CLK_LOCK (lane / 4) = 1) ∧ (s.rd .LN_USE lane = 1 → s.rd .VO_STATE lane = 3 → u.rd .VO_STATE lane = (if s.rd .VO_STD_NOW lane = 0 then 1 else 2)) ∧ near u)
    ∧ (lane < 259 → s.rd .LN_TX_STATE lane = 3 →
      ∃ u, Sys2Proof.Machine.exec (.lnTxRetry t lane 1) s = .next u ∧ u.rd .LN_TX_STATE lane = 0
        ∧ (s.rd .LN_USE lane = 1 → s.rd .VO_STATE lane = 3 → u.rd .VO_STATE lane = (if s.rd .VO_STD_NOW lane = 0 then 1 else 2)) ∧ near u)
    ∧ (∀ value : Nat, s.rd .LN_TX_STATE lane ≠ 3 → ∃ u, Sys2Proof.Machine.exec (.lnTxRetry t lane value) s = .next u
        ∧ u.regs = s.regs ∧ u.mem = s.mem ∧ u.out = s.out ++ [.written (Fld.bitAddr .LN_TX_RETRY lane 0 / 32 * 4) Status.REFUSED.code [0]])
    ∧ (∀ quad : Nat, quad < 64 → s.rd .QD_CLK_LOCK quad = 1 →
      ∃ u, Sys2Proof.Machine.exec (.quadClockLoss t quad) s = .next u ∧ u.rd .QD_CLK_LOCK quad = 0
        ∧ u.rd .QD_CLK_LOSSES quad = min (s.rd .QD_CLK_LOSSES quad + 1) 0xFFFFFFFF ∧ u.latched .QUAD_CLOCK_LOSS = true
        ∧ (∀ k, k < 4 → s.rd .LN_USE (4 * quad + k) ≠ 0 → 2 ≤ u.rd .LN_TX_STATE (4 * quad + k)) ∧ near u)

/-- O56. A write of LN_PRBS_TX that nothing refuses starts or stops the generator, and LN_TEST with LN_TEST_COUNT follows and its change is latched; a refused one changes no register and is reported with its status. The checker's lock follows what it finds, and a lock that ends, or is found again, adds what was compared and found while locked. LN_INJ_GO on a lane that sends inverts one bit in mode 1 and LN_INJ_LEN bits in mode 2, and never a bit while it is idle. LN_ES_GO starts a measurement on a locked receiver and aborts it at once on another, and is refused BUSY while one runs; its end gives COMPLETE and the count. Only the lane's own test registers change. -/
def Obligations.LaneTestsCountWhatTheyDo : Prop :=
  ∀ (s : State) (t lane : Nat), s.wf = true → s.fits → lane < 259 →
    let kept (fs : List Fld) (u : State) : Prop := s.onlyAt lane fs u ∧ u.mem = s.mem ∧ u.out = s.out
    (∀ v : Nat, ∃ u, Sys2Proof.Machine.exec (.lnPrbsTx t lane v) s = .next u
        ∧ (if s.prbsRefused lane v = none then u.rd .LN_PRBS_TX lane = v ∧ u.rd .LN_TEST lane = (if v = 0 then 0 else 1)
             ∧ (s.rd .LN_TEST lane ≠ (if v = 0 then 0 else 1) → u.latched .LANE_TEST_ACTIVE = true
                 ∧ (1 ≤ v → u.rd .LN_TEST_COUNT = (s.rd .LN_TEST_COUNT + 1) % 512) ∧ (v = 0 → u.rd .LN_TEST_COUNT = s.rd .LN_TEST_COUNT - 1))
           else u.regs = s.regs)
        ∧ s.only [.LN_PRBS_TX, .LN_TEST, .LN_TEST_COUNT] u ∧ (∀ f k j, k ≠ lane → f ≠ .LN_TEST_COUNT → f ∉ eventFields → u.rd f k j = s.rd f k j)
        ∧ u.mem = s.mem
        ∧ u.out = s.out ++ (match s.prbsRefused lane v with | some st => [.written (Fld.bitAddr .LN_PRBS_TX lane 0 / 32 * 4) st.code [s.rd .LN_PRBS_TX lane]] | none => []))
    ∧ (∀ (locked : Bool) (compared errs : Nat), s.rd .LN_PRBS_RX lane ≠ 0 →
      ∃ u, Sys2Proof.Machine.exec (.prbsCheckerLock t lane locked compared errs) s = .next u ∧ u.rd .LN_PRBS_LOCK lane = b2n locked
        ∧ u.rd .LN_PRBS_ERRS lane = (if s.rd .LN_PRBS_LOCK lane = 1 then min (s.rd .LN_PRBS_ERRS lane + errs) 0xFFFFFFFF else s.rd .LN_PRBS_ERRS lane)
        ∧ u.rd .LN_PRBS_BITS_LO lane + u.rd .LN_PRBS_BITS_HI lane * 2 ^ 32 = (let n := s.rd .LN_PRBS_BITS_LO lane + s.rd .LN_PRBS_BITS_HI lane * 2 ^ 32
            if s.rd .LN_PRBS_LOCK lane = 1 then min (n + compared) (2 ^ 48 - 1) else n)
        ∧ kept [.LN_PRBS_LOCK, .LN_PRBS_ERRS, .LN_PRBS_BITS_LO, .LN_PRBS_BITS_HI] u)
    ∧ (∃ u, Sys2Proof.Machine.exec (.lnInjGo t lane 1) s = .next u ∧ kept [.LN_INJ_COUNT] u
        ∧ u.rd .LN_INJ_COUNT lane = (if s.txState lane ≠ 1 then s.rd .LN_INJ_COUNT lane
            else match s.rd .LN_INJ_MODE lane with
              | 1 => min (s.rd .LN_INJ_COUNT lane + 1) 0xFFFFFFFF
              | 2 => min (s.rd .LN_INJ_COUNT lane + s.rd .LN_INJ_LEN lane) 0xFFFFFFFF
              | _ => s.rd .LN_INJ_COUNT lane))
    ∧ (s.rd .LN_ES_STATE lane ≠ 1 →
      ∃ u, Sys2Proof.Machine.exec (.lnEsGo t lane 1) s = .next u ∧ u.rd .LN_ES_STATE lane = (if s.rd .LN_RX_STATE lane < 3 then 3 else 1)
        ∧ (s.rd .LN_RX_STATE lane < 3 → u.latched .EYE_SCAN_DONE = true) ∧ kept [.LN_ES_STATE] u)
    ∧ (s.rd .LN_ES_STATE lane = 1 → ∃ u, Sys2Proof.Machine.exec (.lnEsGo t lane 1) s = .next u
        ∧ u.regs = s.regs ∧ u.mem = s.mem ∧ u.out = s.out ++ [.written (Fld.bitAddr .LN_ES_GO lane 0 / 32 * 4) Status.BUSY.code [0]])
    ∧ (∀ errs : Nat, s.rd .LN_ES_STATE lane = 1 →
      ∃ u, Sys2Proof.Machine.exec (.eyeScanDone t lane errs) s = .next u ∧ u.rd .LN_ES_STATE lane = 2 ∧ u.rd .LN_ES_ERRS lane = min errs 0xFFFFFFFF
        ∧ u.latched .EYE_SCAN_DONE = true ∧ kept [.LN_ES_STATE, .LN_ES_ERRS] u)

/-- O57. While VIN lies above the lockout, each PMBus read sends one answer with its command code and its bytes: STATUS_BYTE and STATUS_WORD from the status word, STATUS_INPUT and STATUS_TEMPERATURE from their bytes, READ_VIN, READ_IIN, READ_PIN, READ_TEMPERATURE_1 and READ_TEMPERATURE_2 in Linear11 of the PW_ fields, PMBUS_REVISION 33h, MFR_ID "ZSS", MFR_MODEL "PLX-256". Nothing else of the state changes but the time. CLEAR_FAULTS leaves of the latched status only the conditions that hold now and clears the communication bit; an unsupported command is not acknowledged and sets the communication bit, which STATUS_WORD then shows in bit 1; an alert response sends address 40h when a status bit is set, and nothing otherwise. No register and no byte of memory changes. (The places of the status bits and the block form of the two strings are the model's, log 22; a quotient that Linear11 does not meet is rounded as log 16 leaves it.) -/
def Obligations.PmbusCommandsAreAnswered : Prop :=
  ∀ (s : State) (t cmd : Nat), s.wf = true → s.q .vinUp = 1 →
    let said (cmd : Nat) (bytes : List Nat) : State := { s with now := max s.now t, out := s.out ++ [.pmbus cmd bytes] }
    Sys2Proof.Machine.exec (.statusByte t) s = .next (said 0x78 [s.pmWord % 256])
    ∧ Sys2Proof.Machine.exec (.statusWord t) s = .next (said 0x79 [s.pmWord % 256, s.pmWord / 256 % 256])
    ∧ Sys2Proof.Machine.exec (.statusInput t) s = .next (said 0x7C [s.qn .pwStatus % 256])
    ∧ Sys2Proof.Machine.exec (.statusTemperature t) s = .next (said 0x7D [s.qn .pwStatus / 256 % 256])
    ∧ Sys2Proof.Machine.exec (.readVin t) s = .next (said 0x88 (octets2 (linear11 (s.rd .PW_VIN : Nat) 100)))
    ∧ Sys2Proof.Machine.exec (.readIin t) s = .next (said 0x89 (octets2 (linear11 (s.rd .PW_IIN : Nat) 1000)))
    ∧ Sys2Proof.Machine.exec (.readPin t) s = .next (said 0x97 (octets2 (linear11 (s.rd .PW_PIN : Nat) 10)))
    ∧ Sys2Proof.Machine.exec (.readTemperature1 t) s = .next (said 0x8D (octets2 (linear11 (s.rdS .PW_TCASE) 10)))
    ∧ Sys2Proof.Machine.exec (.readTemperature2 t) s = .next (said 0x8E (octets2 (linear11 (s.rdS .PW_TJ_MAX) 10)))
    ∧ Sys2Proof.Machine.exec (.pmbusRevision t) s = .next (said 0x98 [0x33])
    ∧ Sys2Proof.Machine.exec (.mfrId t) s = .next (said 0x99 [3, 0x5A, 0x53, 0x53])
    ∧ Sys2Proof.Machine.exec (.mfrModel t) s = .next (said 0x9A [7, 0x50, 0x4C, 0x58, 0x2D, 0x32, 0x35, 0x36])
    ∧ (∃ u, Sys2Proof.Machine.exec (.clearFaults t) s = .next u ∧ u.qn .pwStatus = Nat.land (s.qn .pwStatus) s.pmNow ∧ u.q .pwComm = 0
      ∧ u.regs = s.regs ∧ u.mem = s.mem ∧ u.out = s.out)
    ∧ (∃ u, Sys2Proof.Machine.exec (.pmbusUnsupported t cmd) s = .next u ∧ u.out = s.out ++ [.pmbusNack cmd] ∧ bit u.pmWord 1 = true
      ∧ u.regs = s.regs ∧ u.mem = s.mem)
    ∧ Sys2Proof.Machine.exec (.smbusAlertResponse t) s
        = .next { s with now := max s.now t, out := s.out ++ (if s.pmWord = 0 then [] else [.pmbus 0x0C [0x40]]) }

/-- O58. While VIN lies above the lockout and the module is not in TRIP, THERMAL_SAMPLE stores the readings in PW_VIN, PW_IIN, PW_PIN, PW_TCASE and PW_TJ_MAX, keeps the larger power in PW_PIN_PEAK, and moves PW_STATE: NORMAL above 125.0 degrees to HOT, below -55.0 to COLD, from PW_TCASE_WARN to WARM; WARM likewise, and to NORMAL below PW_TCASE_WARN - 5.0; HOT at or below 122.0 to WARM; COLD at or above -52.0 to NORMAL. Registers outside blocks 0Fh and 13h and all of memory are unchanged, and nothing leaves the module. While VIN lies above the lockout, VIN_RANGE_CHANGE sets PW_VIN_OK to 1 between 36.5 V and 74.5 V, to 0 below 36.0 V and above 75.0 V, and leaves it between (the side on which the voltage was decides). A voltage that was in range and falls below 36.0 V, or rises above 75.0 V, latches its event where none was raised in the last second. Registers outside blocks 0Fh and 13h and all of memory are unchanged. -/
def Obligations.ThermalStateAndVinRange : Prop :=
  (∀ (s : State) (t vin iin pin : Nat) (tcase tj : Int), s.wf = true → s.q .vinUp = 1 → s.q .tripped ≠ 1 →
      vin < 2 ^ 16 → iin < 2 ^ 16 → pin < 2 ^ 16 → -2 ^ 15 ≤ tcase → tcase < 2 ^ 15 → -2 ^ 15 ≤ tj → tj < 2 ^ 15 →
      ∃ u, Sys2Proof.Machine.exec (.thermalSample t vin iin pin tcase tj) s = .next u
        ∧ u.rd .PW_VIN = vin ∧ u.rd .PW_IIN = iin ∧ u.rd .PW_PIN = pin ∧ u.rdS .PW_TCASE = tcase ∧ u.rdS .PW_TJ_MAX = tj
        ∧ u.rd .PW_PIN_PEAK = max (s.rd .PW_PIN_PEAK) pin % 2 ^ 16
        ∧ u.rd .PW_STATE = (match s.rd .PW_STATE with
            | 0 => if 1250 < tcase then 2 else if tcase < -550 then 3 else if (s.rd .PW_TCASE_WARN : Int) ≤ tcase then 1 else 0
            | 1 => if 1250 < tcase then 2 else if tcase < -550 then 3 else if tcase < (s.rd .PW_TCASE_WARN : Int) - 50 then 0 else 1
            | 2 => if tcase ≤ 1220 then 1 else 2
            | _ => if -520 ≤ tcase then 0 else 3)
        ∧ (∀ f i j, blockOf f.desc.addr ≠ 0x0F → blockOf f.desc.addr ≠ 0x13 → u.rd f i j = s.rd f i j)
        ∧ u.mem = s.mem ∧ u.out = s.out)
  ∧ (∀ (s : State) (t vin : Nat), s.wf = true → s.q .vinUp = 1 →
      ∃ u, Sys2Proof.Machine.exec (.vinRangeChange t vin) s = .next u
        ∧ (3650 ≤ vin → vin ≤ 7450 → u.rd .PW_VIN_OK = 1)
        ∧ ((vin < 3600 ∨ 7500 < vin) → u.rd .PW_VIN_OK = 0)
        ∧ (3600 ≤ vin → vin < 3650 → u.rd .PW_VIN_OK = (if s.q .vinOk = 2 then 0 else 1))
        ∧ (7450 < vin → vin ≤ 7500 → u.rd .PW_VIN_OK = (if s.q .vinOk = 3 then 0 else 1))
        ∧ (s.q .vinOk = 1 → vin < 3600 → s.q .vinLowAt = 0 → s.rd .SU_STATE ≠ 4 → u.latched .PWR_VIN_LOW = true)
        ∧ (s.q .vinOk = 1 → 7500 < vin → s.q .vinHighAt = 0 → s.rd .SU_STATE ≠ 4 → u.latched .PWR_VIN_HIGH = true)
        ∧ (∀ f i j, blockOf f.desc.addr ≠ 0x0F → blockOf f.desc.addr ≠ 0x13 → u.rd f i j = s.rd f i j)
        ∧ u.mem = s.mem ∧ u.out = s.out)

/-- O59. In HOT, not yet tripped, with the count of 100 ms complete or a junction above 150.0 degrees, THERMAL_TRIP adds 1 to PW_TRIPS, power-good falls, every session is gone and SU_STATE is POWER_UP. In TRIP, with the count of 10 s below 110.0 degrees complete, VIN above the lockout and the rails good, TRIP_RECOVERY ends the trip, power-good returns and a start has begun: SU_STATE is POWER_UP and SYS_NODE holds the straps. Both keep the fuses, the NVM and what waits. -/
def Obligations.TripEndsPowerGoodAndRecovers : Prop :=
  ∀ (s : State) (t : Nat), s.wf = true → s.fits →
    (s.rd .PW_STATE = 2 → s.q .tripped ≠ 1 → (({ s with now := max s.now t } : State).due .trip = true ∨ 1500 < s.rdS .PW_TJ_MAX) →
      ∃ u, Sys2Proof.Machine.exec (.thermalTrip t) s = .next u ∧ u.rd .PW_TRIPS = min (s.rd .PW_TRIPS + 1) 0xFFFFFFFF ∧ u.q .powerGood = 0
        ∧ u.q .tripped = 1 ∧ u.rd .SU_STATE = 0 ∧ u.sessions = [] ∧ u.owners = s.owners ∧ u.nvm = s.nvm ∧ u.pending = s.pending)
    ∧ (s.q .tripped = 1 → ({ s with now := max s.now t } : State).due .tripOut = true → s.q .vinUp = 1 → s.q .railsOk = 0 →
      ∃ u, Sys2Proof.Machine.exec (.tripRecovery t) s = .next u ∧ u.q .powerGood = 1 ∧ u.q .tripped = 0 ∧ u.rd .SU_STATE = 0
        ∧ u.rd .SYS_NODE = s.qn .pinNid % 64 ∧ u.rd .PW_TRIPS = s.rd .PW_TRIPS ∧ u.owners = s.owners ∧ u.nvm = s.nvm ∧ u.pending = s.pending)

/-- O60. With every condition of R494 met (VIN from 34.0 V up where it rises from the lockout, from 32.0 V up otherwise; at 78.0 V or less after the overvoltage shut-down, R493) and power-good low, POWER_GOOD_RISE raises power-good and begins a start with the straps in SYS_NODE. While power-good holds, POWER_GOOD_FALL ends it, adds 1 to PW_PG_LOSSES unless VIN fell to the lockout, and no configuration, session or byte of memory survives. RST_N released after 10 us or more begins a start. All three keep the fuses, the clamp report, what waits, and (but for a newly fitted device) the NVM. -/
def Obligations.PowerGoodEdgesAndReset : Prop :=
  ∀ (s : State) (t : Nat), s.wf = true → s.fits →
    (∀ pins : PowerPins, s.q .powerGood = 0 → (s.q .vinUp = 1 → s.q .tripped ≠ 1) → (if s.q .vinUp = 0 then 3400 else 3200) ≤ pins.vin → pins.vin < 8000 →
        (s.q .railsOk = 2 → pins.vin ≤ 7800) → pins.railsOk = true → pins.loOk = true → (s.q .vinUp = 0 → -550 ≤ pins.tcase) → pins.nvm = none →
        (s.q .vinUp = 0 ∨ s.q .vinUp = 1) →
      ∃ u, Sys2Proof.Machine.exec (.powerGoodRise t pins) s = .next u ∧ u.q .powerGood = 1 ∧ u.rd .SU_STATE = 0 ∧ u.rd .SYS_NODE = pins.nid % 64
        ∧ u.q .vinUp = 1 ∧ u.mem = [] ∧ u.owners = s.owners ∧ u.nvm = s.nvm ∧ u.clampReport = s.clampReport ∧ u.pending = s.pending)
    ∧ (∀ why : PgLoss, s.q .powerGood = 1 → s.q .vinUp = 1 →
      ∃ u, Sys2Proof.Machine.exec (.powerGoodFall t why) s = .next u ∧ u.q .powerGood = 0 ∧ u.rd .SU_STATE = 0 ∧ u.cfg = none ∧ u.sessions = [] ∧ u.mem = []
        ∧ u.rd .PW_PG_LOSSES = (if why = .lockout then s.rd .PW_PG_LOSSES else min (s.rd .PW_PG_LOSSES + 1) 0xFFFFFFFF)
        ∧ u.owners = s.owners ∧ u.nvm = s.nvm ∧ u.clampReport = s.clampReport ∧ u.pending = s.pending)
    ∧ (∀ lowPs : Nat, s.q .powerGood = 1 → 10000000 ≤ lowPs →
      ∃ u, Sys2Proof.Machine.exec (.rstNRelease t lowPs) s = .next u ∧ u.q .powerGood = 1 ∧ u.rd .SU_STATE = 0 ∧ u.rd .SYS_NODE = s.qn .pinNid % 64
        ∧ u.cfg = none ∧ u.sessions = [] ∧ u.owners = s.owners ∧ u.nvm = s.nvm ∧ u.clampReport = s.clampReport ∧ u.pending = s.pending)
end

