-- ==== Sys2Proof/Laws/Store.lean ====
section
/-! SUPPORT. What the operations of Machine/Store.lean do: reading what was written, leaving other keys alone, keeping the
keys in order and the default unlisted. -/
set_option Elab.async false
namespace Sys2Proof.Machine

theorem SMap.find_above {α : Type} {k b : Nat} (m : SMap α) (h : m.above b = true) (hk : k ≤ b) : m.find k = none := by
  induction m with
  | nil => rfl
  | cons p m ih =>
    obtain ⟨k', v⟩ := p
    simp only [SMap.above, Bool.and_eq_true, decide_eq_true_eq] at h
    simp only [SMap.find]
    rw [if_neg (by omega)]
    exact ih h.2

theorem SMap.above_mono {α : Type} {b c : Nat} (m : SMap α) (h : m.above b = true) (hc : c ≤ b) : m.above c = true := by
  induction m with
  | nil => rfl
  | cons p m ih =>
    obtain ⟨k', v⟩ := p
    simp only [SMap.above, Bool.and_eq_true, decide_eq_true_eq] at h ⊢
    exact ⟨by omega, ih h.2⟩

theorem SMap.find_ins_same {α : Type} (k : Nat) (v : α) (m : SMap α) : (m.ins k v).find k = some v := by
  induction m with
  | nil => simp [SMap.ins, SMap.find]
  | cons p m ih =>
    obtain ⟨k', v'⟩ := p
    simp only [SMap.ins]
    split
    · simp [SMap.find]
    · split
      · simp [SMap.find]
      · simp [SMap.find, *]

theorem SMap.find_ins_other {α : Type} {k j : Nat} (v : α) (m : SMap α) (h : j ≠ k) : (m.ins k v).find j = m.find j := by
  induction m with
  | nil => simp [SMap.ins, SMap.find, h]
  | cons p m ih =>
    obtain ⟨k', v'⟩ := p
    simp only [SMap.ins]
    split
    · simp [SMap.find, h]
    · split
      · subst_vars; simp [SMap.find, h]
      · simp only [SMap.find]; split <;> simp_all

theorem SMap.find_del_same {α : Type} (k : Nat) (m : SMap α) (hs : m.sorted = true) : (m.del k).find k = none := by
  induction m with
  | nil => rfl
  | cons p m ih =>
    obtain ⟨k', v'⟩ := p
    simp only [SMap.sorted, Bool.and_eq_true] at hs
    simp only [SMap.del]
    split
    · subst_vars; exact SMap.find_above m hs.1 (le_refl _)
    · simp only [SMap.find]
      rw [if_neg (by assumption)]
      exact ih hs.2

theorem SMap.find_del_other {α : Type} {k j : Nat} (m : SMap α) (h : j ≠ k) : (m.del k).find j = m.find j := by
  induction m with
  | nil => rfl
  | cons p m ih =>
    obtain ⟨k', v'⟩ := p
    simp only [SMap.del]
    split
    · subst_vars; simp [SMap.find, h]
    · simp only [SMap.find]; split <;> simp_all

theorem SMap.above_ins {α : Type} {b k : Nat} (v : α) (m : SMap α) (h : m.above b = true) (hk : b < k) :
    (m.ins k v).above b = true := by
  induction m with
  | nil => simp [SMap.ins, SMap.above, hk]
  | cons p m ih =>
    obtain ⟨k', v'⟩ := p
    simp only [SMap.above, Bool.and_eq_true, decide_eq_true_eq] at h
    simp only [SMap.ins]
    split
    · simp [SMap.above, hk, h]
    · split
      · simp [SMap.above, hk, h]
      · simp [SMap.above, h, ih h.2]

theorem SMap.above_del {α : Type} {b k : Nat} (m : SMap α) (h : m.above b = true) : (m.del k).above b = true := by
  induction m with
  | nil => rfl
  | cons p m ih =>
    obtain ⟨k', v'⟩ := p
    simp only [SMap.above, Bool.and_eq_true, decide_eq_true_eq] at h
    simp only [SMap.del]
    split
    · exact h.2
    · simp [SMap.above, h, ih h.2]

theorem SMap.sorted_ins {α : Type} (k : Nat) (v : α) (m : SMap α) (h : m.sorted = true) : (m.ins k v).sorted = true := by
  induction m with
  | nil => rfl
  | cons p m ih =>
    obtain ⟨k', v'⟩ := p
    simp only [SMap.sorted, Bool.and_eq_true] at h
    simp only [SMap.ins]
    split
    · simp only [SMap.sorted, SMap.above, Bool.and_eq_true, decide_eq_true_eq]
      exact ⟨⟨by assumption, SMap.above_mono m h.1 (by omega)⟩, h⟩
    · split
      · subst_vars; simpa [SMap.sorted] using h
      · simp only [SMap.sorted, Bool.and_eq_true]
        exact ⟨SMap.above_ins v m h.1 (by omega), ih h.2⟩

theorem SMap.sorted_del {α : Type} (k : Nat) (m : SMap α) (h : m.sorted = true) : (m.del k).sorted = true := by
  induction m with
  | nil => rfl
  | cons p m ih =>
    obtain ⟨k', v'⟩ := p
    simp only [SMap.sorted, Bool.and_eq_true] at h
    simp only [SMap.del]
    split
    · exact h.2
    · simp [SMap.sorted, SMap.above_del m h.1, ih h.2]

theorem SMap.lean_ins {α : Type} [DecidableEq α] {d : α} (k : Nat) {v : α} (m : SMap α) (h : m.lean d = true) (hv : v ≠ d) :
    (m.ins k v).lean d = true := by
  induction m with
  | nil => simp [SMap.ins, SMap.lean, hv]
  | cons p m ih =>
    obtain ⟨k', v'⟩ := p
    simp only [SMap.lean, Bool.and_eq_true] at h
    simp only [SMap.ins]
    split
    · simp [SMap.lean, hv, h]
    · split
      · simp [SMap.lean, hv, h]
      · simp [SMap.lean, h, ih h.2]

theorem SMap.lean_del {α : Type} [DecidableEq α] {d : α} (k : Nat) (m : SMap α) (h : m.lean d = true) :
    (m.del k).lean d = true := by
  induction m with
  | nil => rfl
  | cons p m ih =>
    obtain ⟨k', v'⟩ := p
    simp only [SMap.lean, Bool.and_eq_true] at h
    simp only [SMap.del]
    split
    · exact h.2
    · simp [SMap.lean, h, ih h.2]

theorem SMap.sorted_put {α : Type} [DecidableEq α] (d : α) (k : Nat) (v : α) (m : SMap α) (h : m.sorted = true) :
    (m.put d k v).sorted = true := by
  unfold SMap.put; split
  · exact SMap.sorted_del k m h
  · exact SMap.sorted_ins k v m h

theorem SMap.lean_put {α : Type} [DecidableEq α] (d : α) (k : Nat) (v : α) (m : SMap α) (h : m.lean d = true) :
    (m.put d k v).lean d = true := by
  unfold SMap.put; split
  · exact SMap.lean_del k m h
  · exact SMap.lean_ins k m h (by assumption)

theorem SMap.get_put_same {α : Type} [DecidableEq α] (d : α) (k : Nat) (v : α) (m : SMap α) (h : m.sorted = true) :
    (m.put d k v).get d k = v := by
  unfold SMap.put SMap.get; split
  · subst_vars; rw [SMap.find_del_same k m h]; rfl
  · rw [SMap.find_ins_same]; rfl

theorem SMap.get_put_other {α : Type} [DecidableEq α] (d d' : α) {k j : Nat} (v : α) (m : SMap α) (h : j ≠ k) :
    (m.put d k v).get d' j = m.get d' j := by
  unfold SMap.put SMap.get; split
  · rw [SMap.find_del_other m h]
  · rw [SMap.find_ins_other v m h]

end Sys2Proof.Machine
end

