-- ==== Sys2Proof/Laws/State.lean ====
section
/-! SUPPORT. Reading and writing the fields of State: what a register write, a quantity write and a timer leave unchanged, and what a register
reads after a write. Later proofs rewrite with these and unfold no record update. -/
set_option Elab.async false
namespace Sys2Proof.Machine

/-- Every field has few enough copies for the keys of `State.regs` to be distinct. -/
theorem Fld.small (f : Fld) : f.desc.n ≤ 2 ^ 20 ∧ f.desc.m ≤ 2 ^ 20 := by
  cases f <;> decide

/-- A reset value fits its field. -/
theorem Fld.reset_fits (f : Fld) (i j : Nat) : f.resetAt i j < 2 ^ f.desc.width := by
  by_cases h : f = .BM_QOS
  · subst h
    by_cases h : i < 10
    · interval_cases i <;> simp only [Fld.resetAt] <;> decide
    · simp only [Fld.resetAt]; rw [List.getD_eq_default _ _ (by simp; omega)]; decide
  · have e : f.resetAt i j = f.desc.reset := by unfold Fld.resetAt; split <;> first | contradiction | rfl
    rw [e]
    clear e h
    cases f <;> decide +kernel

theorem Fld.has_iff (f : Fld) (i j : Nat) : f.has i j = true ↔ i < f.desc.n ∧ j < f.desc.m := by simp [Fld.has]

theorem Fld.ctorIdx_inj {f g : Fld} (h : f.ctorIdx = g.ctorIdx) : f = g := by
  have e : ∀ x : Fld, Fld.ofNat x.ctorIdx = x := by intro x; cases x <;> rfl
  rw [← e f, ← e g, h]

/-- Different copies are listed under different keys. -/
theorem Fld.key_inj {f g : Fld} {i j k l : Nat} (hf : f.has i j = true) (hg : g.has k l = true) (h : f.key i j = g.key k l) :
    f = g ∧ i = k ∧ j = l := by
  rw [Fld.has_iff] at hf hg
  have a := f.small
  have b := g.small
  simp only [Fld.key] at h
  have h1 : f.ctorIdx = g.ctorIdx := by omega
  exact ⟨Fld.ctorIdx_inj h1, by omega, by omega⟩

-- A register write ------------------------------------------------------------------------------------------------

theorem State.setReg_of_not_has {s : State} {f : Fld} {i j : Nat} (v : Nat) (h : f.has i j = false) : s.setReg f i j v = s := by
  simp [State.setReg, h]

theorem State.rd_of_not_has (s : State) {f : Fld} {i j : Nat} (h : f.has i j = false) : s.rd f i j = 0 := by
  simp [State.rd, h]

/-- A register reads what was written, cut to its width. -/
theorem State.rd_setReg_same {s : State} {f : Fld} {i j : Nat} (v : Nat) (hs : SMap.sorted s.regs = true) (h : f.has i j = true) :
    (s.setReg f i j v).rd f i j = v % 2 ^ f.desc.width := by
  simp [State.setReg, State.rd, h, SMap.get_put_same _ _ _ _ hs]

/-- Another copy, or another field, keeps its value. -/
theorem State.rd_setReg_other (s : State) {f g : Fld} {i j k l : Nat} (v : Nat) (h : g ≠ f ∨ k ≠ i ∨ l ≠ j) :
    (s.setReg f i j v).rd g k l = s.rd g k l := by
  by_cases hf : f.has i j = true
  · by_cases hg : g.has k l = true
    · simp only [State.setReg, State.rd, hf, hg, if_true]
      apply SMap.get_put_other
      intro e
      obtain ⟨a, b, c⟩ := Fld.key_inj hg hf e
      rcases h with h | h | h <;> contradiction
    · simp [State.rd, hg]
  · simp [State.setReg, hf]

theorem State.setReg_sorted {s : State} (f : Fld) (i j v : Nat) (h : SMap.sorted s.regs = true) : SMap.sorted (s.setReg f i j v).regs = true := by
  unfold State.setReg; split
  · exact SMap.sorted_put _ _ _ _ h
  · exact h

@[simp] theorem State.setReg_pending (s : State) (f : Fld) (i j v : Nat) : (s.setReg f i j v).pending = s.pending := by unfold State.setReg; split <;> rfl
@[simp] theorem State.setReg_now (s : State) (f : Fld) (i j v : Nat) : (s.setReg f i j v).now = s.now := by unfold State.setReg; split <;> rfl
@[simp] theorem State.setReg_qty (s : State) (f : Fld) (i j v : Nat) : (s.setReg f i j v).qty = s.qty := by unfold State.setReg; split <;> rfl
@[simp] theorem State.setReg_timers (s : State) (f : Fld) (i j v : Nat) : (s.setReg f i j v).timers = s.timers := by unfold State.setReg; split <;> rfl
@[simp] theorem State.setReg_mem (s : State) (f : Fld) (i j v : Nat) : (s.setReg f i j v).mem = s.mem := by unfold State.setReg; split <;> rfl
@[simp] theorem State.setReg_owners (s : State) (f : Fld) (i j v : Nat) : (s.setReg f i j v).owners = s.owners := by unfold State.setReg; split <;> rfl
@[simp] theorem State.setReg_nvm (s : State) (f : Fld) (i j v : Nat) : (s.setReg f i j v).nvm = s.nvm := by unfold State.setReg; split <;> rfl
@[simp] theorem State.setReg_cfg (s : State) (f : Fld) (i j v : Nat) : (s.setReg f i j v).cfg = s.cfg := by unfold State.setReg; split <;> rfl
@[simp] theorem State.setReg_fwRun (s : State) (f : Fld) (i j v : Nat) : (s.setReg f i j v).fwRun = s.fwRun := by unfold State.setReg; split <;> rfl
@[simp] theorem State.setReg_clampReport (s : State) (f : Fld) (i j v : Nat) : (s.setReg f i j v).clampReport = s.clampReport := by unfold State.setReg; split <;> rfl
@[simp] theorem State.setReg_sessions (s : State) (f : Fld) (i j v : Nat) : (s.setReg f i j v).sessions = s.sessions := by unfold State.setReg; split <;> rfl
@[simp] theorem State.setReg_evq (s : State) (f : Fld) (i j v : Nat) : (s.setReg f i j v).evq = s.evq := by unfold State.setReg; split <;> rfl
@[simp] theorem State.setReg_out (s : State) (f : Fld) (i j v : Nat) : (s.setReg f i j v).out = s.out := by unfold State.setReg; split <;> rfl
@[simp] theorem State.setReg_buf (s : State) (f : Fld) (i j v : Nat) : (s.setReg f i j v).buf = s.buf := by unfold State.setReg; split <;> rfl
@[simp] theorem State.setReg_hist (s : State) (f : Fld) (i j v : Nat) : (s.setReg f i j v).hist = s.hist := by unfold State.setReg; split <;> rfl
@[simp] theorem State.setReg_held (s : State) (f : Fld) (i j v : Nat) : (s.setReg f i j v).held = s.held := by unfold State.setReg; split <;> rfl
@[simp] theorem State.setReg_senders (s : State) (f : Fld) (i j v : Nat) : (s.setReg f i j v).senders = s.senders := by unfold State.setReg; split <;> rfl
@[simp] theorem State.setReg_acts (s : State) (f : Fld) (i j v : Nat) : (s.setReg f i j v).acts = s.acts := by unfold State.setReg; split <;> rfl
@[simp] theorem State.setReg_img (s : State) (f : Fld) (i j v : Nat) : (s.setReg f i j v).img = s.img := by unfold State.setReg; split <;> rfl
@[simp] theorem State.setReg_shadows (s : State) (f : Fld) (i j v : Nat) : (s.setReg f i j v).shadows = s.shadows := by unfold State.setReg; split <;> rfl
@[simp] theorem State.setReg_vOuts (s : State) (f : Fld) (i j v : Nat) : (s.setReg f i j v).vOuts = s.vOuts := by unfold State.setReg; split <;> rfl
@[simp] theorem State.setReg_vFields (s : State) (f : Fld) (i j v : Nat) : (s.setReg f i j v).vFields = s.vFields := by unfold State.setReg; split <;> rfl
@[simp] theorem State.setReg_cfgRegs (s : State) (f : Fld) (i j v : Nat) : (s.setReg f i j v).cfgRegs = s.cfgRegs := by unfold State.setReg; split <;> rfl
@[simp] theorem State.setReg_vLegs (s : State) (f : Fld) (i j v : Nat) : (s.setReg f i j v).vLegs = s.vLegs := by unfold State.setReg; split <;> rfl
@[simp] theorem State.setReg_vSched (s : State) (f : Fld) (i j v : Nat) : (s.setReg f i j v).vSched = s.vSched := by unfold State.setReg; split <;> rfl
@[simp] theorem State.setReg_vApplied (s : State) (f : Fld) (i j v : Nat) : (s.setReg f i j v).vApplied = s.vApplied := by unfold State.setReg; split <;> rfl
@[simp] theorem State.setReg_vOpen (s : State) (f : Fld) (i j v : Nat) : (s.setReg f i j v).vOpen = s.vOpen := by unfold State.setReg; split <;> rfl
@[simp] theorem State.setReg_legs (s : State) (f : Fld) (i j v : Nat) : (s.setReg f i j v).legs = s.legs := by unfold State.setReg; split <;> rfl
@[simp] theorem State.setReg_txRecs (s : State) (f : Fld) (i j v : Nat) : (s.setReg f i j v).txRecs = s.txRecs := by unfold State.setReg; split <;> rfl
@[simp] theorem State.setReg_rxRecs (s : State) (f : Fld) (i j v : Nat) : (s.setReg f i j v).rxRecs = s.rxRecs := by unfold State.setReg; split <;> rfl
@[simp] theorem State.setReg_fwds (s : State) (f : Fld) (i j v : Nat) : (s.setReg f i j v).fwds = s.fwds := by unfold State.setReg; split <;> rfl
@[simp] theorem State.setReg_copies (s : State) (f : Fld) (i j v : Nat) : (s.setReg f i j v).copies = s.copies := by unfold State.setReg; split <;> rfl
@[simp] theorem State.setReg_lkQ (s : State) (f : Fld) (i j v : Nat) : (s.setReg f i j v).lkQ = s.lkQ := by unfold State.setReg; split <;> rfl
@[simp] theorem State.setReg_lkCur (s : State) (f : Fld) (i j v : Nat) : (s.setReg f i j v).lkCur = s.lkCur := by unfold State.setReg; split <;> rfl
@[simp] theorem State.setReg_frames (s : State) (f : Fld) (i j v : Nat) : (s.setReg f i j v).frames = s.frames := by unfold State.setReg; split <;> rfl
@[simp] theorem State.setReg_pics (s : State) (f : Fld) (i j v : Nat) : (s.setReg f i j v).pics = s.pics := by unfold State.setReg; split <;> rfl
@[simp] theorem State.setReg_segs (s : State) (f : Fld) (i j v : Nat) : (s.setReg f i j v).segs = s.segs := by unfold State.setReg; split <;> rfl
@[simp] theorem State.setReg_emb (s : State) (f : Fld) (i j v : Nat) : (s.setReg f i j v).emb = s.emb := by unfold State.setReg; split <;> rfl
@[simp] theorem State.setReg_nodes (s : State) (f : Fld) (i j v : Nat) : (s.setReg f i j v).nodes = s.nodes := by unfold State.setReg; split <;> rfl
@[simp] theorem State.setReg_changes (s : State) (f : Fld) (i j v : Nat) : (s.setReg f i j v).changes = s.changes := by unfold State.setReg; split <;> rfl
@[simp] theorem State.setReg_fades (s : State) (f : Fld) (i j v : Nat) : (s.setReg f i j v).fades = s.fades := by unfold State.setReg; split <;> rfl
@[simp] theorem State.setReg_imports (s : State) (f : Fld) (i j v : Nat) : (s.setReg f i j v).imports = s.imports := by unfold State.setReg; split <;> rfl
@[simp] theorem State.setReg_exports (s : State) (f : Fld) (i j v : Nat) : (s.setReg f i j v).exports = s.exports := by unfold State.setReg; split <;> rfl
@[simp] theorem State.setReg_peaks (s : State) (f : Fld) (i j v : Nat) : (s.setReg f i j v).peaks = s.peaks := by unfold State.setReg; split <;> rfl
@[simp] theorem State.setReg_vNodes (s : State) (f : Fld) (i j v : Nat) : (s.setReg f i j v).vNodes = s.vNodes := by unfold State.setReg; split <;> rfl
@[simp] theorem State.setReg_vImps (s : State) (f : Fld) (i j v : Nat) : (s.setReg f i j v).vImps = s.vImps := by unfold State.setReg; split <;> rfl
@[simp] theorem State.setReg_tdBuf (s : State) (f : Fld) (i j v : Nat) : (s.setReg f i j v).tdBuf = s.tdBuf := by unfold State.setReg; split <;> rfl
@[simp] theorem State.setReg_landings (s : State) (f : Fld) (i j v : Nat) : (s.setReg f i j v).landings = s.landings := by unfold State.setReg; split <;> rfl
@[simp] theorem State.setReg_loops (s : State) (f : Fld) (i j v : Nat) : (s.setReg f i j v).loops = s.loops := by unfold State.setReg; split <;> rfl
@[simp] theorem State.setReg_staged (s : State) (f : Fld) (i j v : Nat) : (s.setReg f i j v).staged = s.staged := by unfold State.setReg; split <;> rfl
@[simp] theorem State.setReg_trigs (s : State) (f : Fld) (i j v : Nat) : (s.setReg f i j v).trigs = s.trigs := by unfold State.setReg; split <;> rfl
@[simp] theorem State.setReg_txq (s : State) (f : Fld) (i j v : Nat) : (s.setReg f i j v).txq = s.txq := by unfold State.setReg; split <;> rfl
@[simp] theorem State.setReg_flows (s : State) (f : Fld) (i j v : Nat) : (s.setReg f i j v).flows = s.flows := by unfold State.setReg; split <;> rfl
@[simp] theorem State.setReg_rtp (s : State) (f : Fld) (i j v : Nat) : (s.setReg f i j v).rtp = s.rtp := by unfold State.setReg; split <;> rfl
@[simp] theorem State.setReg_freqLog (s : State) (f : Fld) (i j v : Nat) : (s.setReg f i j v).freqLog = s.freqLog := by unfold State.setReg; split <;> rfl
@[simp] theorem State.setReg_tsq (s : State) (f : Fld) (i j v : Nat) : (s.setReg f i j v).tsq = s.tsq := by unfold State.setReg; split <;> rfl
@[simp] theorem State.setReg_tsLost (s : State) (f : Fld) (i j v : Nat) : (s.setReg f i j v).tsLost = s.tsLost := by unfold State.setReg; split <;> rfl
@[simp] theorem State.setReg_foreign (s : State) (f : Fld) (i j v : Nat) : (s.setReg f i j v).foreign = s.foreign := by unfold State.setReg; split <;> rfl
@[simp] theorem State.setReg_bursts (s : State) (f : Fld) (i j v : Nat) : (s.setReg f i j v).bursts = s.bursts := by unfold State.setReg; split <;> rfl
@[simp] theorem State.setReg_upd (s : State) (f : Fld) (i j v : Nat) : (s.setReg f i j v).upd = s.upd := by unfold State.setReg; split <;> rfl
@[simp] theorem State.setReg_freed (s : State) (f : Fld) (i j v : Nat) : (s.setReg f i j v).freed = s.freed := by unfold State.setReg; split <;> rfl

-- A quantity ------------------------------------------------------------------------------------------------------

@[simp] theorem State.setQ_pending (s : State) (x : Qty) (i j : Nat) (v : Int) : (s.setQ x i j v).pending = s.pending := by unfold State.setQ; split <;> rfl
@[simp] theorem State.setQ_now (s : State) (x : Qty) (i j : Nat) (v : Int) : (s.setQ x i j v).now = s.now := by unfold State.setQ; split <;> rfl
@[simp] theorem State.setQ_regs (s : State) (x : Qty) (i j : Nat) (v : Int) : (s.setQ x i j v).regs = s.regs := by unfold State.setQ; split <;> rfl
@[simp] theorem State.setQ_timers (s : State) (x : Qty) (i j : Nat) (v : Int) : (s.setQ x i j v).timers = s.timers := by unfold State.setQ; split <;> rfl
@[simp] theorem State.setQ_mem (s : State) (x : Qty) (i j : Nat) (v : Int) : (s.setQ x i j v).mem = s.mem := by unfold State.setQ; split <;> rfl
@[simp] theorem State.setQ_owners (s : State) (x : Qty) (i j : Nat) (v : Int) : (s.setQ x i j v).owners = s.owners := by unfold State.setQ; split <;> rfl
@[simp] theorem State.setQ_nvm (s : State) (x : Qty) (i j : Nat) (v : Int) : (s.setQ x i j v).nvm = s.nvm := by unfold State.setQ; split <;> rfl
@[simp] theorem State.setQ_cfg (s : State) (x : Qty) (i j : Nat) (v : Int) : (s.setQ x i j v).cfg = s.cfg := by unfold State.setQ; split <;> rfl
@[simp] theorem State.setQ_fwRun (s : State) (x : Qty) (i j : Nat) (v : Int) : (s.setQ x i j v).fwRun = s.fwRun := by unfold State.setQ; split <;> rfl
@[simp] theorem State.setQ_clampReport (s : State) (x : Qty) (i j : Nat) (v : Int) : (s.setQ x i j v).clampReport = s.clampReport := by unfold State.setQ; split <;> rfl
@[simp] theorem State.setQ_sessions (s : State) (x : Qty) (i j : Nat) (v : Int) : (s.setQ x i j v).sessions = s.sessions := by unfold State.setQ; split <;> rfl
@[simp] theorem State.setQ_evq (s : State) (x : Qty) (i j : Nat) (v : Int) : (s.setQ x i j v).evq = s.evq := by unfold State.setQ; split <;> rfl
@[simp] theorem State.setQ_out (s : State) (x : Qty) (i j : Nat) (v : Int) : (s.setQ x i j v).out = s.out := by unfold State.setQ; split <;> rfl
@[simp] theorem State.setQ_buf (s : State) (x : Qty) (i j : Nat) (v : Int) : (s.setQ x i j v).buf = s.buf := by unfold State.setQ; split <;> rfl
@[simp] theorem State.setQ_hist (s : State) (x : Qty) (i j : Nat) (v : Int) : (s.setQ x i j v).hist = s.hist := by unfold State.setQ; split <;> rfl
@[simp] theorem State.setQ_held (s : State) (x : Qty) (i j : Nat) (v : Int) : (s.setQ x i j v).held = s.held := by unfold State.setQ; split <;> rfl
@[simp] theorem State.setQ_senders (s : State) (x : Qty) (i j : Nat) (v : Int) : (s.setQ x i j v).senders = s.senders := by unfold State.setQ; split <;> rfl
@[simp] theorem State.setQ_acts (s : State) (x : Qty) (i j : Nat) (v : Int) : (s.setQ x i j v).acts = s.acts := by unfold State.setQ; split <;> rfl
@[simp] theorem State.setQ_img (s : State) (x : Qty) (i j : Nat) (v : Int) : (s.setQ x i j v).img = s.img := by unfold State.setQ; split <;> rfl
@[simp] theorem State.setQ_shadows (s : State) (x : Qty) (i j : Nat) (v : Int) : (s.setQ x i j v).shadows = s.shadows := by unfold State.setQ; split <;> rfl
@[simp] theorem State.setQ_vOuts (s : State) (x : Qty) (i j : Nat) (v : Int) : (s.setQ x i j v).vOuts = s.vOuts := by unfold State.setQ; split <;> rfl
@[simp] theorem State.setQ_vFields (s : State) (x : Qty) (i j : Nat) (v : Int) : (s.setQ x i j v).vFields = s.vFields := by unfold State.setQ; split <;> rfl
@[simp] theorem State.setQ_cfgRegs (s : State) (x : Qty) (i j : Nat) (v : Int) : (s.setQ x i j v).cfgRegs = s.cfgRegs := by unfold State.setQ; split <;> rfl
@[simp] theorem State.setQ_vLegs (s : State) (x : Qty) (i j : Nat) (v : Int) : (s.setQ x i j v).vLegs = s.vLegs := by unfold State.setQ; split <;> rfl
@[simp] theorem State.setQ_vSched (s : State) (x : Qty) (i j : Nat) (v : Int) : (s.setQ x i j v).vSched = s.vSched := by unfold State.setQ; split <;> rfl
@[simp] theorem State.setQ_vApplied (s : State) (x : Qty) (i j : Nat) (v : Int) : (s.setQ x i j v).vApplied = s.vApplied := by unfold State.setQ; split <;> rfl
@[simp] theorem State.setQ_vOpen (s : State) (x : Qty) (i j : Nat) (v : Int) : (s.setQ x i j v).vOpen = s.vOpen := by unfold State.setQ; split <;> rfl
@[simp] theorem State.setQ_legs (s : State) (x : Qty) (i j : Nat) (v : Int) : (s.setQ x i j v).legs = s.legs := by unfold State.setQ; split <;> rfl
@[simp] theorem State.setQ_txRecs (s : State) (x : Qty) (i j : Nat) (v : Int) : (s.setQ x i j v).txRecs = s.txRecs := by unfold State.setQ; split <;> rfl
@[simp] theorem State.setQ_rxRecs (s : State) (x : Qty) (i j : Nat) (v : Int) : (s.setQ x i j v).rxRecs = s.rxRecs := by unfold State.setQ; split <;> rfl
@[simp] theorem State.setQ_fwds (s : State) (x : Qty) (i j : Nat) (v : Int) : (s.setQ x i j v).fwds = s.fwds := by unfold State.setQ; split <;> rfl
@[simp] theorem State.setQ_copies (s : State) (x : Qty) (i j : Nat) (v : Int) : (s.setQ x i j v).copies = s.copies := by unfold State.setQ; split <;> rfl
@[simp] theorem State.setQ_lkQ (s : State) (x : Qty) (i j : Nat) (v : Int) : (s.setQ x i j v).lkQ = s.lkQ := by unfold State.setQ; split <;> rfl
@[simp] theorem State.setQ_lkCur (s : State) (x : Qty) (i j : Nat) (v : Int) : (s.setQ x i j v).lkCur = s.lkCur := by unfold State.setQ; split <;> rfl
@[simp] theorem State.setQ_frames (s : State) (x : Qty) (i j : Nat) (v : Int) : (s.setQ x i j v).frames = s.frames := by unfold State.setQ; split <;> rfl
@[simp] theorem State.setQ_pics (s : State) (x : Qty) (i j : Nat) (v : Int) : (s.setQ x i j v).pics = s.pics := by unfold State.setQ; split <;> rfl
@[simp] theorem State.setQ_segs (s : State) (x : Qty) (i j : Nat) (v : Int) : (s.setQ x i j v).segs = s.segs := by unfold State.setQ; split <;> rfl
@[simp] theorem State.setQ_emb (s : State) (x : Qty) (i j : Nat) (v : Int) : (s.setQ x i j v).emb = s.emb := by unfold State.setQ; split <;> rfl
@[simp] theorem State.setQ_nodes (s : State) (x : Qty) (i j : Nat) (v : Int) : (s.setQ x i j v).nodes = s.nodes := by unfold State.setQ; split <;> rfl
@[simp] theorem State.setQ_changes (s : State) (x : Qty) (i j : Nat) (v : Int) : (s.setQ x i j v).changes = s.changes := by unfold State.setQ; split <;> rfl
@[simp] theorem State.setQ_fades (s : State) (x : Qty) (i j : Nat) (v : Int) : (s.setQ x i j v).fades = s.fades := by unfold State.setQ; split <;> rfl
@[simp] theorem State.setQ_imports (s : State) (x : Qty) (i j : Nat) (v : Int) : (s.setQ x i j v).imports = s.imports := by unfold State.setQ; split <;> rfl
@[simp] theorem State.setQ_exports (s : State) (x : Qty) (i j : Nat) (v : Int) : (s.setQ x i j v).exports = s.exports := by unfold State.setQ; split <;> rfl
@[simp] theorem State.setQ_peaks (s : State) (x : Qty) (i j : Nat) (v : Int) : (s.setQ x i j v).peaks = s.peaks := by unfold State.setQ; split <;> rfl
@[simp] theorem State.setQ_vNodes (s : State) (x : Qty) (i j : Nat) (v : Int) : (s.setQ x i j v).vNodes = s.vNodes := by unfold State.setQ; split <;> rfl
@[simp] theorem State.setQ_vImps (s : State) (x : Qty) (i j : Nat) (v : Int) : (s.setQ x i j v).vImps = s.vImps := by unfold State.setQ; split <;> rfl
@[simp] theorem State.setQ_tdBuf (s : State) (x : Qty) (i j : Nat) (v : Int) : (s.setQ x i j v).tdBuf = s.tdBuf := by unfold State.setQ; split <;> rfl
@[simp] theorem State.setQ_landings (s : State) (x : Qty) (i j : Nat) (v : Int) : (s.setQ x i j v).landings = s.landings := by unfold State.setQ; split <;> rfl
@[simp] theorem State.setQ_loops (s : State) (x : Qty) (i j : Nat) (v : Int) : (s.setQ x i j v).loops = s.loops := by unfold State.setQ; split <;> rfl
@[simp] theorem State.setQ_staged (s : State) (x : Qty) (i j : Nat) (v : Int) : (s.setQ x i j v).staged = s.staged := by unfold State.setQ; split <;> rfl
@[simp] theorem State.setQ_trigs (s : State) (x : Qty) (i j : Nat) (v : Int) : (s.setQ x i j v).trigs = s.trigs := by unfold State.setQ; split <;> rfl
@[simp] theorem State.setQ_txq (s : State) (x : Qty) (i j : Nat) (v : Int) : (s.setQ x i j v).txq = s.txq := by unfold State.setQ; split <;> rfl
@[simp] theorem State.setQ_flows (s : State) (x : Qty) (i j : Nat) (v : Int) : (s.setQ x i j v).flows = s.flows := by unfold State.setQ; split <;> rfl
@[simp] theorem State.setQ_rtp (s : State) (x : Qty) (i j : Nat) (v : Int) : (s.setQ x i j v).rtp = s.rtp := by unfold State.setQ; split <;> rfl
@[simp] theorem State.setQ_freqLog (s : State) (x : Qty) (i j : Nat) (v : Int) : (s.setQ x i j v).freqLog = s.freqLog := by unfold State.setQ; split <;> rfl
@[simp] theorem State.setQ_tsq (s : State) (x : Qty) (i j : Nat) (v : Int) : (s.setQ x i j v).tsq = s.tsq := by unfold State.setQ; split <;> rfl
@[simp] theorem State.setQ_tsLost (s : State) (x : Qty) (i j : Nat) (v : Int) : (s.setQ x i j v).tsLost = s.tsLost := by unfold State.setQ; split <;> rfl
@[simp] theorem State.setQ_foreign (s : State) (x : Qty) (i j : Nat) (v : Int) : (s.setQ x i j v).foreign = s.foreign := by unfold State.setQ; split <;> rfl
@[simp] theorem State.setQ_bursts (s : State) (x : Qty) (i j : Nat) (v : Int) : (s.setQ x i j v).bursts = s.bursts := by unfold State.setQ; split <;> rfl
@[simp] theorem State.setQ_upd (s : State) (x : Qty) (i j : Nat) (v : Int) : (s.setQ x i j v).upd = s.upd := by unfold State.setQ; split <;> rfl
@[simp] theorem State.setQ_freed (s : State) (x : Qty) (i j : Nat) (v : Int) : (s.setQ x i j v).freed = s.freed := by unfold State.setQ; split <;> rfl

@[simp] theorem State.rd_setQ (s : State) (x : Qty) (i j : Nat) (v : Int) (f : Fld) (k l : Nat) : (s.setQ x i j v).rd f k l = s.rd f k l := by
  simp [State.rd]

@[simp] theorem State.q_setReg (s : State) (f : Fld) (i j v : Nat) (x : Qty) (k l : Nat) : (s.setReg f i j v).q x k l = s.q x k l := by
  simp [State.q]

@[simp] theorem State.timer_setReg (s : State) (f : Fld) (i j v : Nat) (x : Tmr) (k : Nat) : (s.setReg f i j v).timer x k = s.timer x k := by
  simp [State.timer]

@[simp] theorem State.timer_setQ (s : State) (x : Qty) (i j : Nat) (v : Int) (y : Tmr) (k : Nat) : (s.setQ x i j v).timer y k = s.timer y k := by
  simp [State.timer]

@[simp] theorem State.peek_setReg (s : State) (f : Fld) (i j v a : Nat) : (s.setReg f i j v).peek a = s.peek a := by simp [State.peek]

@[simp] theorem State.peek_setQ (s : State) (x : Qty) (i j : Nat) (v : Int) (a : Nat) : (s.setQ x i j v).peek a = s.peek a := by simp [State.peek]

theorem Qty.ctorIdx_inj {x y : Qty} (h : x.ctorIdx = y.ctorIdx) : x = y := by
  have e : ∀ z : Qty, Qty.ofNat z.ctorIdx = z := by intro z; cases z <;> rfl
  rw [← e x, ← e y, h]

/-- A quantity reads what was put there. -/
theorem State.q_setQ_same {s : State} {x : Qty} {i j : Nat} (v : Int) (hs : SMap.sorted s.qty = true) (hi : i < 2 ^ 40) (hj : j < 2 ^ 40) :
    (s.setQ x i j v).q x i j = v := by
  simp only [State.setQ, State.q, hi, hj, and_self, if_true]
  exact SMap.get_put_same _ _ _ _ hs

/-- Another quantity keeps its value. -/
theorem State.q_setQ_other (s : State) {x y : Qty} {i j k l : Nat} (v : Int) (hk : k < 2 ^ 40) (hl : l < 2 ^ 40) (h : y ≠ x ∨ k ≠ i ∨ l ≠ j) :
    (s.setQ x i j v).q y k l = s.q y k l := by
  unfold State.setQ; split
  · rename_i b
    simp only [State.q]
    apply SMap.get_put_other
    intro e
    simp only [Qty.key] at e
    obtain ⟨b1, b2⟩ := b
    have h1 : y.ctorIdx = x.ctorIdx := by omega
    have h2 : k = i := by omega
    have h3 : l = j := by omega
    rcases h with h | h | h
    · exact h (Qty.ctorIdx_inj h1)
    · exact h h2
    · exact h h3
  · rfl

theorem State.setQ_sorted {s : State} (x : Qty) (i j : Nat) (v : Int) (h : SMap.sorted s.qty = true) : SMap.sorted (s.setQ x i j v).qty = true := by
  unfold State.setQ; split
  · exact SMap.sorted_put _ _ _ _ h
  · exact h

-- Memory ------------------------------------------------------------------------------------------------------------

/-- A byte reads what was stored; every other byte reads as before. -/
theorem SMap.peek_put (m : List Host.Cell) (a b : Nat) (v : Byte) (h : SMap.sorted m = true) :
    SMap.get (0 : Byte) b (SMap.put 0 a v m) = if b = a then v else SMap.get 0 b m := by
  split
  · subst_vars; exact SMap.get_put_same _ _ _ _ h
  · exact SMap.get_put_other _ _ _ _ (by assumption)

end Sys2Proof.Machine
end

