-- ==== Sys2Proof/Laws/Fits.lean ====
section
/-! SUPPORT. Registers inside the width of their fields: the reset values, and one write. -/
set_option Elab.async false
namespace Sys2Proof.Machine

theorem Fld.reset_lt (f : Fld) : Nat.blt f.desc.reset (2 ^ f.desc.width) = true := by
  cases f
  case SEC_ID_DIGEST => decide +kernel
  case SEC_OWNER_DIGEST => decide +kernel
  case SEC_RELEASE => decide +kernel
  case SEC_CLAIM_CERT => decide +kernel
  case SEC_DEBUG_TOKEN => decide +kernel
  all_goals rfl

theorem Fld.resetAt_lt (f : Fld) (i j : Nat) : f.resetAt i j < 2 ^ f.desc.width := by
  unfold Fld.resetAt
  split
  · have h : ∀ k, [8, 8, 8, 8, 12, 4, 4, 2, 15, 1].getD k 0 < 16 := by
      intro k
      by_cases hk : k < 10
      · interval_cases k <;> decide
      · simp [List.getElem?_eq_none (show [8, 8, 8, 8, 12, 4, 4, 2, 15, 1].length ≤ k by simpa using hk)]
    exact h i
  · exact Nat.le_of_ble_eq_true (Fld.reset_lt f)

/-- With no register listed, every register holds its reset value. -/
theorem State.fits_of_reset {s : State} (h : s.regs = []) : s.fits := by
  intro f i j
  unfold State.rd
  split
  · simp [h, SMap.get, SMap.find, Fld.resetAt_lt]
  · exact Nat.two_pow_pos _

/-- One write keeps registers inside their widths. -/
theorem State.setReg_fits {s : State} (hs : SMap.sorted s.regs = true) (h : s.fits) (f : Fld) (i j v : Nat) : (s.setReg f i j v).fits := by
  intro g k l
  by_cases hg : g = f ∧ k = i ∧ l = j
  · obtain ⟨rfl, rfl, rfl⟩ := hg
    by_cases hh : g.has k l = true
    · rw [State.rd_setReg_same v hs hh]; exact Nat.mod_lt _ (Nat.two_pow_pos _)
    · simpa [State.setReg, hh] using h g k l
  · rw [State.rd_setReg_other s v (by tauto)]; exact h g k l

theorem State.fits_congr {s u : State} (h : u.regs = s.regs) (hs : s.fits) : u.fits := by
  intro f i j
  have := hs f i j
  unfold State.rd at *
  rw [h]
  exact this

end Sys2Proof.Machine
end

