-- ==== Sys2Proof/Laws/Ops.lean ====
section
/-! SUPPORT. What the operations of Machine/Ops.lean do. `Act.to` is the state that an act leads to; `Act.Within` bounds what an act can do by a
property of its effects, and the frame lemmas below draw from such a bound that a component of the state, or a register, is unchanged. -/
set_option Elab.async false
namespace Sys2Proof.Machine
open Host

/-- The state that an act leads to. -/
def Act.to (a : Act) (s : State) : State := s.apply (a s)

theorem run_eq (a : Act) (s : State) : run a s = .next (a.to s) := rfl

@[simp] theorem State.apply_nil (s : State) : s.apply [] = s := rfl
@[simp] theorem State.apply_cons (s : State) (e : Eff) (es : List Eff) : s.apply (e :: es) = (s.app e).apply es := rfl
@[simp] theorem State.apply_append (s : State) (es fs : List Eff) : s.apply (es ++ fs) = (s.apply es).apply fs := by
  simp [State.apply, List.foldl_append]

@[simp] theorem skip_to (s : State) : Act.to skip s = s := rfl
@[simp] theorem andThen_to (a b : Act) (s : State) : (a.andThen b).to s = b.to (a.to s) := by simp [Act.to, Act.andThen]
@[simp] theorem all_nil_to (s : State) : (all []).to s = s := rfl
@[simp] theorem all_cons_to (a : Act) (as : List Act) (s : State) : (all (a :: as)).to s = (all as).to (a.to s) := by
  simp [all]
@[simp] theorem iff_to (c : Bool) (a : Act) (s : State) : (iff c a).to s = if c then a.to s else s := by
  unfold iff; split <;> rfl
@[simp] theorem look_to (f : State → Act) (s : State) : (look f).to s = (f s).to s := rfl
@[simp] theorem each_nil_to {α : Type} (f : α → Act) (s : State) : (each [] f).to s = s := rfl
@[simp] theorem each_cons_to {α : Type} (x : α) (xs : List α) (f : α → Act) (s : State) :
    (each (x :: xs) f).to s = (each xs f).to ((f x).to s) := by simp [each]
@[simp] theorem one_to (e : Eff) (s : State) : (one e).to s = s.app e := rfl
@[simp] theorem set_to (f : Fld) (v i j : Nat) (s : State) : (set f v i j).to s = s.setReg f i j v := rfl
@[simp] theorem setS_to (f : Fld) (v : Int) (i j : Nat) (s : State) : (setS f v i j).to s = s.setReg f i j (ofSigned v f.desc.width) := rfl
@[simp] theorem put_to (x : Qty) (v : Int) (i j : Nat) (s : State) : (put x v i j).to s = s.setQ x i j v := rfl
@[simp] theorem arm_to (x : Tmr) (ps i : Nat) (s : State) : (arm x ps i).to s = { s with timers := s.timers.ins (x.key i) (s.now + ps) } := rfl
@[simp] theorem disarm_to (x : Tmr) (i : Nat) (s : State) : (disarm x i).to s = { s with timers := s.timers.del (x.key i) } := rfl
@[simp] theorem at_to (t : Nat) (s : State) : (at_ t).to s = { s with now := max s.now t } := rfl
@[simp] theorem emit_to (m : Sent) (s : State) : (emit m).to s = { s with out := s.out ++ [m] } := rfl
@[simp] theorem count_to (f : Fld) (k i j : Nat) (s : State) :
    (Sys2Proof.Machine.count f k i j).to s = s.setReg f i j (min (s.rd f i j + k) (2 ^ f.desc.width - 1)) := rfl
@[simp] theorem addQ_to (x : Qty) (k : Int) (i j : Nat) (s : State) : (addQ x k i j).to s = s.setQ x i j (s.q x i j + k) := rfl
@[simp] theorem withFree_to (f : Nat → Act) (s : State) :
    (withFree f).to s = (f (Config.freeValue s.freed)).to { s with freed := s.freed + 1 } := by simp [withFree, State.app]

-- One effect --------------------------------------------------------------------------------------------------------

@[simp] theorem State.app_wr (s : State) (f : Fld) (i j v : Nat) : s.app (.wr f i j v) = s.setReg f i j v := rfl
@[simp] theorem State.app_put (s : State) (x : Qty) (i j : Nat) (v : Int) : s.app (.put x i j v) = s.setQ x i j v := rfl
@[simp] theorem State.app_arm (s : State) (x : Tmr) (i at_ : Nat) : s.app (.arm x i at_) = { s with timers := s.timers.ins (x.key i) at_ } := rfl
@[simp] theorem State.app_disarm (s : State) (x : Tmr) (i : Nat) : s.app (.disarm x i) = { s with timers := s.timers.del (x.key i) } := rfl
@[simp] theorem State.app_poke (s : State) (a : Nat) (b : Byte) : s.app (.poke a b) = { s with mem := SMap.put 0 a b s.mem } := rfl
@[simp] theorem State.app_advance (s : State) (t : Nat) : s.app (.advance t) = { s with now := max s.now t } := rfl
@[simp] theorem State.app_emit (s : State) (m : Sent) : s.app (.emit m) = { s with out := s.out ++ [m] } := rfl
@[simp] theorem State.app_useFree (s : State) : s.app (.useFree) = { s with freed := s.freed + 1 } := rfl
@[simp] theorem State.app_burnOwner (s : State) (d : Nat) : s.app (.burnOwner d) = { s with owners := (s.owners ++ [d]).take 4 } := rfl
@[simp] theorem State.app_nvm (s : State) (x : Nvm) : s.app (.nvm x) = { s with nvm := x } := rfl
@[simp] theorem State.app_cfg (s : State) (x : Option CfgImage) : s.app (.cfg x) = { s with cfg := x } := rfl
@[simp] theorem State.app_fwRun (s : State) (x : Option FwImage) : s.app (.fwRun x) = { s with fwRun := x } := rfl
@[simp] theorem State.app_clamps (s : State) (x : List ClampEnt) : s.app (.clamps x) = { s with clampReport := x.take 4096 } := rfl
@[simp] theorem State.app_sessions (s : State) (x : List Session) : s.app (.sessions x) = { s with sessions := x.take 34 } := rfl
@[simp] theorem State.app_evq (s : State) (x : List EvRec) : s.app (.evq x) = { s with evq := x.take 256 } := rfl
@[simp] theorem State.app_buf (s : State) (x : List Rec) : s.app (.buf x) = { s with buf := x.take 256 } := rfl
@[simp] theorem State.app_hist (s : State) (x : List Action) : s.app (.hist x) = { s with hist := x.drop (x.length - 256) } := rfl
@[simp] theorem State.app_held (s : State) (x : List Held) : s.app (.held x) = { s with held := x } := rfl
@[simp] theorem State.app_senders (s : State) (x : List (Nat × Nat)) : s.app (.senders x) = { s with senders := x.drop (x.length - 256) } := rfl
@[simp] theorem State.app_acts (s : State) (x : List Pend) : s.app (.acts x) = { s with acts := x } := rfl
@[simp] theorem State.app_img (s : State) (x : Option ImgBuf) : s.app (.img x) = { s with img := x } := rfl
@[simp] theorem State.app_shadows (s : State) (x : List Shadow) : s.app (.shadows x) = { s with shadows := x } := rfl
@[simp] theorem State.app_vOut (s : State) (n : Nat) (x : OutView) : s.app (.vOut n x) = { s with vOuts := s.vOuts.put OutView.start n x } := rfl
@[simp] theorem State.app_vOutsClear (s : State) : s.app (.vOutsClear) = { s with vOuts := [] } := rfl
@[simp] theorem State.app_vField (s : State) (k v : Nat) : s.app (.vField k v) = { s with vFields := s.vFields.ins k v } := rfl
@[simp] theorem State.app_vFieldsClear (s : State) : s.app (.vFieldsClear) = { s with vFields := [] } := rfl
@[simp] theorem State.app_snapshot (s : State) : s.app (.snapshot) = { s with cfgRegs := s.regs } := rfl
@[simp] theorem State.app_vLegs (s : State) (x : List Leg) : s.app (.vLegs x) = { s with vLegs := x } := rfl
@[simp] theorem State.app_vSched (s : State) (x : List Sched) : s.app (.vSched x) = { s with vSched := x } := rfl
@[simp] theorem State.app_vApplied (s : State) (n v : Nat) : s.app (.vApplied n v) = { s with vApplied := s.vApplied.put 0 n v } := rfl
@[simp] theorem State.app_vOpen (s : State) (n v : Nat) : s.app (.vOpen n v) = { s with vOpen := s.vOpen.put 0 n v } := rfl
@[simp] theorem State.app_legs (s : State) (x : List Leg) : s.app (.legs x) = { s with legs := x } := rfl
@[simp] theorem State.app_txRecs (s : State) (x : List TxRec) : s.app (.txRecs x) = { s with txRecs := x } := rfl
@[simp] theorem State.app_rxRecs (s : State) (x : List RxRec) : s.app (.rxRecs x) = { s with rxRecs := x } := rfl
@[simp] theorem State.app_fwds (s : State) (x : List FwdCell) : s.app (.fwds x) = { s with fwds := x } := rfl
@[simp] theorem State.app_copies (s : State) (x : List CellCopy) : s.app (.copies x) = { s with copies := x } := rfl
@[simp] theorem State.app_lkQ (s : State) (x : List LkFrame) : s.app (.lkQ x) = { s with lkQ := x } := rfl
@[simp] theorem State.app_lkCur (s : State) (x : Option LkFrame) : s.app (.lkCur x) = { s with lkCur := x } := rfl
@[simp] theorem State.app_frames (s : State) (x : List VFrame) : s.app (.frames x) = { s with frames := x } := rfl
@[simp] theorem State.app_pics (s : State) (x : List Pic) : s.app (.pics x) = { s with pics := x } := rfl
@[simp] theorem State.app_segs (s : State) (x : List Seg) : s.app (.segs x) = { s with segs := x } := rfl
@[simp] theorem State.app_emb (s : State) (x : List EmbSmp) : s.app (.emb x) = { s with emb := x } := rfl
@[simp] theorem State.app_nodes (s : State) (x : List ANode) : s.app (.nodes x) = { s with nodes := x } := rfl
@[simp] theorem State.app_changes (s : State) (x : List AChange) : s.app (.changes x) = { s with changes := x } := rfl
@[simp] theorem State.app_fades (s : State) (x : List MmFade) : s.app (.fades x) = { s with fades := x } := rfl
@[simp] theorem State.app_imports (s : State) (x : List ImpCell) : s.app (.imports x) = { s with imports := x } := rfl
@[simp] theorem State.app_exports (s : State) (x : List ImpCell) : s.app (.exports x) = { s with exports := x } := rfl
@[simp] theorem State.app_peaks (s : State) (x : List (Nat × Nat × Nat)) : s.app (.peaks x) = { s with peaks := x } := rfl
@[simp] theorem State.app_vNodes (s : State) (x : List VNode) : s.app (.vNodes x) = { s with vNodes := x } := rfl
@[simp] theorem State.app_vImps (s : State) (x : List VImp) : s.app (.vImps x) = { s with vImps := x } := rfl
@[simp] theorem State.app_tdBuf (s : State) (x : List TdFrame) : s.app (.tdBuf x) = { s with tdBuf := x } := rfl
@[simp] theorem State.app_wipe (s : State) (lo hi : Nat) : s.app (.wipe lo hi) = { s with mem := s.mem.filter fun c => !(decide (lo ≤ c.1) && decide (c.1 < hi)) } := rfl
@[simp] theorem State.app_landings (s : State) (x : List Landing) : s.app (.landings x) = { s with landings := x } := rfl
@[simp] theorem State.app_loops (s : State) (x : List FLoop) : s.app (.loops x) = { s with loops := x } := rfl
@[simp] theorem State.app_staged (s : State) (x : List Staged) : s.app (.staged x) = { s with staged := x } := rfl
@[simp] theorem State.app_trigs (s : State) (x : List Trig) : s.app (.trigs x) = { s with trigs := x } := rfl
@[simp] theorem State.app_txq (s : State) (x : List TxFrame) : s.app (.txq x) = { s with txq := x } := rfl
@[simp] theorem State.app_flows (s : State) (x : List IpFlow) : s.app (.flows x) = { s with flows := x } := rfl
@[simp] theorem State.app_rtp (s : State) (x : List RtpFrame) : s.app (.rtp x) = { s with rtp := x } := rfl
@[simp] theorem State.app_freqLog (s : State) (x : List (Int × Nat)) : s.app (.freqLog x) = { s with freqLog := x } := rfl
@[simp] theorem State.app_tsq (s : State) (x : List TsEnt) : s.app (.tsq x) = { s with tsq := x } := rfl
@[simp] theorem State.app_tsLost (s : State) (x : List TsEnt) : s.app (.tsLost x) = { s with tsLost := x } := rfl
@[simp] theorem State.app_foreign (s : State) (x : List Foreign) : s.app (.foreign x) = { s with foreign := x } := rfl
@[simp] theorem State.app_bursts (s : State) (x : List Burst) : s.app (.bursts x) = { s with bursts := x } := rfl
@[simp] theorem State.app_upd (s : State) (x : Option Upd) : s.app (.upd x) = { s with upd := x } := rfl
@[simp] theorem State.app_restart (s : State) : s.app (.restart) = s.fresh := rfl

-- Bounds on what an act does ------------------------------------------------------------------------------------------

/-- Every effect of the act has the property, whatever the state. -/
def Act.Within (p : Eff → Prop) (a : Act) : Prop := ∀ s, ∀ e ∈ a s, p e

theorem Act.Within.mono {p q : Eff → Prop} {a : Act} (h : a.Within p) (hpq : ∀ e, p e → q e) : a.Within q :=
  fun s e he => hpq e (h s e he)

section Bounds
variable {p : Eff → Prop}

theorem within_skip : Act.Within p skip := by intro s e h; cases h
theorem within_andThen {a b : Act} (ha : a.Within p) (hb : b.Within p) : (a.andThen b).Within p := by
  intro s e h; rcases List.mem_append.mp h with h | h
  · exact ha s e h
  · exact hb _ e h
theorem within_all {as : List Act} (h : ∀ a ∈ as, a.Within p) : (all as).Within p := by
  induction as with
  | nil => exact within_skip
  | cons a as ih => exact within_andThen (h a (by simp)) (ih fun b hb => h b (by simp [hb]))
theorem within_all_nil : (all []).Within p := within_skip
theorem within_all_cons {a : Act} {as : List Act} (ha : a.Within p) (h : (all as).Within p) : (all (a :: as)).Within p := within_andThen ha h
theorem within_iff {c : Bool} {a : Act} (h : c = true → a.Within p) : (iff c a).Within p := by
  unfold iff; split
  · exact h (by assumption)
  · exact within_skip
theorem within_look {f : State → Act} (h : ∀ s, (f s).Within p) : (look f).Within p := fun s => h s s
theorem within_each {α : Type} {xs : List α} {f : α → Act} (h : ∀ x ∈ xs, (f x).Within p) : (each xs f).Within p := by
  apply within_all; intro a ha
  obtain ⟨x, hx, rfl⟩ := List.mem_map.mp ha
  exact h x hx
theorem within_one {e : Eff} (h : p e) : (one e).Within p := by
  intro s e' h'; rw [List.mem_singleton.mp h']; exact h
theorem within_set {f : Fld} {v i j : Nat} (h : p (.wr f i j v)) : (set f v i j).Within p := within_one h
theorem within_setS {f : Fld} {v : Int} {i j : Nat} (h : ∀ n, p (.wr f i j n)) : (setS f v i j).Within p := within_one (h _)
theorem within_put {x : Qty} {v : Int} {i j : Nat} (h : p (.put x i j v)) : (put x v i j).Within p := within_one h
theorem within_arm {x : Tmr} {ps i : Nat} (h : ∀ d, p (.arm x i d)) : (arm x ps i).Within p := by
  intro s e h'; rw [List.mem_singleton.mp h']; exact h _
theorem within_disarm {x : Tmr} {i : Nat} (h : p (.disarm x i)) : (disarm x i).Within p := within_one h
theorem within_at {t : Nat} (h : p (.advance t)) : (at_ t).Within p := within_one h
theorem within_emit {m : Sent} (h : p (.emit m)) : (emit m).Within p := within_one h
theorem within_count {f : Fld} {k i j : Nat} (h : ∀ v, p (.wr f i j v)) : (Sys2Proof.Machine.count f k i j).Within p := by
  intro s e h'; rw [List.mem_singleton.mp h']; exact h _
theorem within_addQ {x : Qty} {k : Int} {i j : Nat} (h : ∀ v, p (.put x i j v)) : (addQ x k i j).Within p := by
  intro s e h'; rw [List.mem_singleton.mp h']; exact h _
theorem within_withFree {f : Nat → Act} (hu : p .useFree) (h : ∀ v, (f v).Within p) : (withFree f).Within p :=
  within_look fun _ => within_all_cons (within_one hu) (within_all_cons (h _) within_all_nil)
theorem within_setFree {f : Fld} {i j : Nat} (hu : p .useFree) (h : ∀ v, p (.wr f i j v)) : (setFree f i j).Within p :=
  within_withFree hu fun v => within_set (h v)
theorem within_ite {c : Prop} [Decidable c] {a b : Act} (ha : c → a.Within p) (hb : ¬c → b.Within p) : (if c then a else b : Act).Within p := by
  split
  · exact ha (by assumption)
  · exact hb (by assumption)

end Bounds

/-- What holds of the state and outlasts every allowed effect holds after the act. -/
theorem Act.Within.keeps {p : Eff → Prop} {P : State → Prop} {a : Act} (h : a.Within p) (hp : ∀ s e, p e → P s → P (s.app e)) {s : State}
    (hs : P s) : P (a.to s) := by
  have go : ∀ (es : List Eff), (∀ e ∈ es, p e) → ∀ s : State, P s → P (s.apply es) := by
    intro es
    induction es with
    | nil => intro _ s h; exact h
    | cons e es ih => intro he s h; exact ih (fun x hx => he x (by simp [hx])) _ (hp s e (he e (by simp)) h)
  exact go (a s) (h s) s hs

/-- An effect that leaves the registers outside `fs` alone: no start, no fuse of R426, and writes of `fs` alone. -/
def Eff.writes (fs : List Fld) : Eff → Prop
  | .wr f _ _ _ => f ∈ fs
  | .burnRollback _ _ => False
  | .restart => False
  | _ => True

/-- What a register reads depends on the store of registers alone. -/
theorem State.rd_congr {s t : State} (h : t.regs = s.regs) (f : Fld) (i j : Nat) : t.rd f i j = s.rd f i j := by simp only [State.rd, h]

theorem State.app_rd {s : State} {e : Eff} {fs : List Fld} (h : e.writes fs) {f : Fld} (hf : f ∉ fs) (i j : Nat) : (s.app e).rd f i j = s.rd f i j := by
  cases e
  case wr g k l v => exact State.rd_setReg_other _ _ (.inl (by rintro rfl; exact hf h))
  case put => exact State.rd_setQ ..
  case burnRollback => exact h.elim
  case restart => exact h.elim
  all_goals exact State.rd_congr (by simp only [State.app]) ..

/-- The frame of an act over the registers. -/
theorem Act.Within.rd {fs : List Fld} {a : Act} (h : a.Within (Eff.writes fs)) {f : Fld} (hf : f ∉ fs) (s : State) (i j : Nat) :
    (a.to s).rd f i j = s.rd f i j :=
  h.keeps (P := fun t => t.rd f i j = s.rd f i j) (fun _ _ he ht => (State.app_rd he hf i j).trans ht) rfl

/-- An effect that stores nothing in memory. -/
def Eff.storesNot : Eff → Prop
  | .poke _ _ => False
  | .wipe _ _ => False
  | .restart => False
  | _ => True

theorem State.app_mem {s : State} {e : Eff} (h : e.storesNot) : (s.app e).mem = s.mem := by
  cases e
  case poke => exact h.elim
  case wipe => exact h.elim
  case restart => exact h.elim
  case wr => exact State.setReg_mem ..
  case put => exact State.setQ_mem ..
  case burnRollback => simp only [State.app]; split <;> exact State.setReg_mem ..
  all_goals simp only [State.app]

/-- The frame of an act over memory. -/
theorem Act.Within.mem {a : Act} (h : a.Within Eff.storesNot) (s : State) : (a.to s).mem = s.mem :=
  h.keeps (P := fun t => t.mem = s.mem) (fun _ _ he ht => (State.app_mem he).trans ht) rfl

/-- Writing the kept fields changes nothing but registers. -/
theorem State.keep_fold {α : Type} (get : State → α) (hget : ∀ s f i j v, get (State.setReg s f i j v) = get s) (g : Fld → Nat) (fs : List Fld) :
    ∀ r : State, get (fs.foldl (fun r f => r.setReg f 0 0 (g f)) r) = get r := by
  induction fs with
  | nil => intro r; rfl
  | cons f fs ih => intro r; rw [List.foldl_cons, ih, hget]

theorem State.fresh_pending (s : State) : s.fresh.pending = s.pending :=
  State.keep_fold State.pending (fun _ _ _ _ _ => State.setReg_pending ..) s.rd keptFields _
theorem State.fresh_now (s : State) : s.fresh.now = s.now :=
  State.keep_fold State.now (fun _ _ _ _ _ => State.setReg_now ..) s.rd keptFields _
theorem State.fresh_owners (s : State) : s.fresh.owners = s.owners :=
  State.keep_fold State.owners (fun _ _ _ _ _ => State.setReg_owners ..) s.rd keptFields _
theorem State.fresh_out (s : State) : s.fresh.out = s.out :=
  State.keep_fold State.out (fun _ _ _ _ _ => State.setReg_out ..) s.rd keptFields _
theorem State.fresh_mem (s : State) : s.fresh.mem = [] :=
  State.keep_fold State.mem (fun _ _ _ _ _ => State.setReg_mem ..) s.rd keptFields _
theorem State.fresh_qty (s : State) : s.fresh.qty = [] :=
  State.keep_fold State.qty (fun _ _ _ _ _ => State.setReg_qty ..) s.rd keptFields _

theorem State.app_pending (s : State) (e : Eff) : (s.app e).pending = s.pending := by
  cases e
  case wr => exact State.setReg_pending ..
  case put => exact State.setQ_pending ..
  case burnRollback => simp only [State.app]; split <;> exact State.setReg_pending ..
  case restart => exact State.fresh_pending s
  all_goals simp only [State.app]

/-- A store that is never shortened: what has left the module stays sent. -/
theorem State.app_out (s : State) (e : Eff) : s.out <+: (s.app e).out := by
  cases e
  case wr => rw [State.app_wr, State.setReg_out]
  case put => rw [State.app_put, State.setQ_out]
  case burnRollback => simp only [State.app]; split <;> rw [State.setReg_out]
  case restart => rw [State.app_restart, State.fresh_out]
  case emit => exact List.prefix_append _ _
  all_goals simp only [State.app]; exact List.prefix_rfl

theorem Act.to_out (a : Act) (s : State) : s.out <+: (a.to s).out :=
  (show a.Within fun _ => True from fun _ _ _ => trivial).keeps (P := fun t => s.out <+: t.out) (fun t e _ h => h.trans (State.app_out t e))
    List.prefix_rfl

end Sys2Proof.Machine
end

