-- ==== Sys2Proof/Laws/PerInstr.lean ====
section
/-! SUPPORT. One lemma per command for the family NoBits: the table gives the command no bits, so that no word spells it and it reaches the queue
only by its name and operands. -/
set_option Elab.async false
namespace Sys2Proof.Laws.NoBits
open Sys2Proof

/-- No word of any length decodes to the command. -/
def Statement (i : Instr) : Prop := ∀ nbits w, decodeTableWord nbits w ≠ some i

theorem any (i : Instr) : Statement i := fun _ _ h => nomatch h

theorem powerGoodRise (t : Nat) (pins : PowerPins) : Statement (.powerGoodRise t pins) := any _
theorem powerGoodFall (t : Nat) (why : PgLoss) : Statement (.powerGoodFall t why) := any _
theorem rstNRelease (t lowPs : Nat) : Statement (.rstNRelease t lowPs) := any _
theorem start (t : Nat) : Statement (.start t) := any _
theorem sysRestartWrite (t value : Nat) : Statement (.sysRestartWrite t value) := any _
theorem commandedRestart (t : Nat) : Statement (.commandedRestart t) := any _
theorem registerWrite (t addr : Nat) (data : List Nat) : Statement (.registerWrite t addr data) := any _
theorem counterClearWrite (t addr value : Nat) : Statement (.counterClearWrite t addr value) := any _
theorem open_ (t port : Nat) (cert : Cert) : Statement (.open_ t port cert) := any _
theorem confirm (t sess : Nat) (sigOk : Bool) : Statement (.confirm t sess sigOk) := any _
theorem sessionConfirmTimeout (t sess : Nat) : Statement (.sessionConfirmTimeout t sess) := any _
theorem close (m : Msg) : Statement (.close m) := any _
theorem sessionIdleTimeout (t sess : Nat) : Statement (.sessionIdleTimeout t sess) := any _
theorem messagePartTimeout (t sess : Nat) : Statement (.messagePartTimeout t sess) := any _
theorem take (m : Msg) (req : Stamp) (d : Dest) : Statement (.take m req d) := any _
theorem salvo (m : Msg) (req : Stamp) (count : Nat) (ds : List Dest) : Statement (.salvo m req count ds) := any _
theorem lock (m : Msg) (req : Stamp) (mode : Nat) (force : Bool) (count : Nat) (outs : List Nat) : Statement (.lock m req mode force count outs) := any _
theorem realign (m : Msg) (req : Stamp) (mode : Nat) : Statement (.realign m req mode) := any _
theorem write (m : Msg) (req : Stamp) (node addr bytes : Nat) (data : List Nat) : Statement (.write m req node addr bytes data) := any _
theorem audioAction (m : Msg) (req : Stamp) (node bytes : Nat) (entries : List AudEntry) : Statement (.audioAction m req node bytes entries) := any _
theorem svcDirectWrite (m : Msg) (addr bytes : Nat) (data : List Nat) (v : ClaimVerdict) : Statement (.svcDirectWrite m addr bytes data v) := any _
theorem read (m : Msg) (addr bytes : Nat) : Statement (.read m addr bytes) := any _
theorem queryLatency (m : Msg) (srcNode as dstNode ad : Nat) : Statement (.queryLatency m srcNode as dstNode ad) := any _
theorem queryNode (m : Msg) (dst dbus src : Nat) : Statement (.queryNode m dst dbus src) := any _
theorem querySdp (m : Msg) (kind index : Nat) : Statement (.querySdp m kind index) := any _
theorem queryClampReport (m : Msg) (part : Nat) : Statement (.queryClampReport m part) := any _
theorem subscribe (m : Msg) (mask : Nat) : Statement (.subscribe m mask) := any _
theorem eventAck (m : Msg) (ackSeq : Nat) : Statement (.eventAck m ackSeq) := any _
theorem heartbeat (m : Msg) : Statement (.heartbeat m) := any _
theorem eventSend (t sess : Nat) : Statement (.eventSend t sess) := any _
theorem eventResendTimeout (t sess : Nat) : Statement (.eventResendTimeout t sess) := any _
theorem eqAck (value : Nat) : Statement (.eqAck value) := any _
theorem epLatchClear (word mask : Nat) : Statement (.epLatchClear word mask) := any _
theorem gpiChange (t line : Nat) (level : Bool) : Statement (.gpiChange t line level) := any _
theorem gpoPulseStart (t : Nat) : Statement (.gpoPulseStart t) := any _
theorem gpoPulseEnd (t line : Nat) : Statement (.gpoPulseEnd t line) := any _
theorem orderedRecordArrival (t : Nat) (r : Rec) (ok : Bool) : Statement (.orderedRecordArrival t r ok) := any _
theorem replayRepeat (t : Nat) : Statement (.replayRepeat t) := any _
theorem gapTimeout (t : Nat) : Statement (.gapTimeout t) := any _
theorem replayReq (t sender first count : Nat) : Statement (.replayReq t sender first count) := any _
theorem replayAns (t sender first count : Nat) (gone : Bool) : Statement (.replayAns t sender first count gone) := any _
theorem ordResyncReq (value : Nat) : Statement (.ordResyncReq value) := any _
theorem image (t sender k : Nat) (stamp : Stamp) (objs : List ImgObj) (last : Bool) : Statement (.image t sender k stamp objs last) := any _
theorem stateImageLoad (t : Nat) : Statement (.stateImageLoad t) := any _
theorem joinSend (t : Nat) : Statement (.joinSend t) := any _
theorem join (t node setId digest : Nat) (sigOk : Bool) : Statement (.join t node setId digest sigOk) := any _
theorem joinAnswer (t sender : Nat) (a : JoinAns) (sigOk : Bool) : Statement (.joinAnswer t sender a sigOk) := any _
theorem occupancy (t node applied digest openLinks : Nat) : Statement (.occupancy t node applied digest openLinks) := any _
theorem fabFrameCountReceive (t count : Nat) : Statement (.fabFrameCountReceive t count) := any _
theorem frameCountSlip (t : Nat) : Statement (.frameCountSlip t) := any _
theorem rasterFrameStart (t dom : Nat) (obs : FrameObs) : Statement (.rasterFrameStart t dom obs) := any _
theorem cleanSwitchPoint (t dom : Nat) (meas : List TakeMeas) : Statement (.cleanSwitchPoint t dom meas) := any _
theorem pathRelease (t src out : Nat) : Statement (.pathRelease t src out) := any _
theorem immediateTakeExecute (t : Nat) (meas : TakeMeas) : Statement (.immediateTakeExecute t meas) := any _
theorem voOffsetWrite (out value : Nat) : Statement (.voOffsetWrite out value) := any _
theorem laneSignalDetect (t lane : Nat) : Statement (.laneSignalDetect t lane) := any _
theorem laneSignalLoss (t lane : Nat) : Statement (.laneSignalLoss t lane) := any _
theorem laneCdrLock (t lane rate frac : Nat) (ppm : Int) : Statement (.laneCdrLock t lane rate frac ppm) := any _
theorem laneAcquireTimeout (t lane : Nat) : Statement (.laneAcquireTimeout t lane) := any _
theorem laneCdrLoss (t lane : Nat) : Statement (.laneCdrLoss t lane) := any _
theorem laneAligned (t lane : Nat) : Statement (.laneAligned t lane) := any _
theorem laneAlignLoss (t lane errs : Nat) : Statement (.laneAlignLoss t lane errs) := any _
theorem laneTxFault (t lane : Nat) : Statement (.laneTxFault t lane) := any _
theorem laneTxResume (t lane : Nat) (cleared : Bool) : Statement (.laneTxResume t lane cleared) := any _
theorem quadClockLoss (t quad : Nat) : Statement (.quadClockLoss t quad) := any _
theorem lnTxRetry (t lane value : Nat) : Statement (.lnTxRetry t lane value) := any _
theorem lnPrbsTx (t lane value : Nat) : Statement (.lnPrbsTx t lane value) := any _
theorem lnInjGo (t lane value : Nat) : Statement (.lnInjGo t lane value) := any _
theorem lnEsGo (t lane value : Nat) : Statement (.lnEsGo t lane value) := any _
theorem eyeScanDone (t lane errs : Nat) : Statement (.eyeScanDone t lane errs) := any _
theorem sdiFrameReceived (t input : Nat) (f : SdiFrame) : Statement (.sdiFrameReceived t input f) := any _
theorem sdiRateMeasure (t input : Nat) (ppm : Int) : Statement (.sdiRateMeasure t input ppm) := any _
theorem fabricCellSend (t link : Nat) (r : Option CellReady) : Statement (.fabricCellSend t link r) := any _
theorem fabricCellReceive (t link : Nat) (c : CellIn) : Statement (.fabricCellReceive t link c) := any _
theorem creditSend (t link ctrl aud : Nat) : Statement (.creditSend t link ctrl aud) := any _
theorem fabricDeliveryMoment (t out src seq : Nat) : Statement (.fabricDeliveryMoment t out src seq) := any _
theorem flEnableWrite (t link value : Nat) : Statement (.flEnableWrite t link value) := any _
theorem linkCellLock (t link : Nat) : Statement (.linkCellLock t link) := any _
theorem linkBerWindow (t link secs errors total : Nat) : Statement (.linkBerWindow t link secs errors total) := any _
theorem linkFailed (t link : Nat) : Statement (.linkFailed t link) := any _
theorem linkHolddownExpiry (t link : Nat) : Statement (.linkHolddownExpiry t link) := any _
theorem linkNewPathsOpen (t link : Nat) : Statement (.linkNewPathsOpen t link) := any _
theorem challenge (t link node index : Nat) (known : Bool) : Statement (.challenge t link node index known) := any _
theorem chain (t link : Nat) (chainOk : Bool) : Statement (.chain t link chainOk) := any _
theorem proof (t link : Nat) (sigOk : Bool) (ownerDigest : Nat) : Statement (.proof t link sigOk ownerDigest) := any _
theorem result (t link reason : Nat) : Statement (.result t link reason) := any _
theorem admissionTimeout (t link : Nat) : Statement (.admissionTimeout t link) := any _
theorem heartbeatSend (t : Nat) : Statement (.heartbeatSend t) := any _
theorem heartbeatCheck (t : Nat) : Statement (.heartbeatCheck t) := any _
theorem heartbeatReceive (t sender : Nat) (lichen : Bool) (plane : Nat) (b : Beat) (ok : Bool) : Statement (.heartbeatReceive t sender lichen plane b ok) := any _
theorem ack (t sender upTo : Nat) (ok : Bool) : Statement (.ack t sender upTo ok) := any _
theorem standbyRecordStore (t : Nat) (r : Rec) (ok : Bool) : Statement (.standbyRecordStore t r ok) := any _
theorem standbyResend (t : Nat) : Statement (.standbyResend t) := any _
theorem lichenFrameReceive (t : Nat) (f : LichenIn) : Statement (.lichenFrameReceive t f) := any _
theorem lichenCommaTimeout (t : Nat) : Statement (.lichenCommaTimeout t) := any _
theorem listenTimeout (t : Nat) : Statement (.listenTimeout t) := any _
theorem fenceExpiry (t : Nat) : Statement (.fenceExpiry t) := any _
theorem takebackOrder (t : Nat) : Statement (.takebackOrder t) := any _
theorem rdRearm (t value : Nat) : Statement (.rdRearm t value) := any _
theorem managerBeatLoss (t : Nat) : Statement (.managerBeatLoss t) := any _
theorem refInputLost (t input : Nat) : Statement (.refInputLost t input) := any _
theorem refInputPresent (t input : Nat) : Statement (.refInputPresent t input) := any _
theorem refYMeasure (t entry : Nat) (y freq : Int) : Statement (.refYMeasure t entry y freq) := any _
theorem refQualifyTimer (t entry : Nat) : Statement (.refQualifyTimer t entry) := any _
theorem refSelectEval (t : Nat) (refs : List Int) : Statement (.refSelectEval t refs) := any _
theorem refStartWaitExpiry (t : Nat) : Statement (.refStartWaitExpiry t) := any _
theorem refEmberHoldExpiry (t : Nat) : Statement (.refEmberHoldExpiry t) := any _
theorem ref10mLoss (t n : Nat) : Statement (.ref10mLoss t n) := any _
theorem realignSlewDone (t : Nat) : Statement (.realignSlewDone t) := any _
theorem pulseOutput (t out : Nat) : Statement (.pulseOutput t out) := any _
theorem ptpSyncReceive (t port num seq fine : Nat) (twoStep : Bool) (origin : Int) : Statement (.ptpSyncReceive t port num seq fine twoStep origin) := any _
theorem ptpFollowUpReceive (t port num seq : Nat) (origin : Int) : Statement (.ptpFollowUpReceive t port num seq origin) := any _
theorem ptpDelayReqReceive (t port num seq fine : Nat) : Statement (.ptpDelayReqReceive t port num seq fine) := any _
theorem ptpDelayRespReceive (t port num seq : Nat) (rx : Int) : Statement (.ptpDelayRespReceive t port num seq rx) := any _
theorem ptpAnnounceReceive (t port num sender prio1 cls acc var prio2 gm steps utc : Nat) : Statement (.ptpAnnounceReceive t port num sender prio1 cls acc var prio2 gm steps utc) := any _
theorem ptpAnnounceTimeout (t port k : Nat) : Statement (.ptpAnnounceTimeout t port k) := any _
theorem ptpManagementGet (t port num id : Nat) (get : Bool) : Statement (.ptpManagementGet t port num id get) := any _
theorem ptpSyncInterval (t port k : Nat) : Statement (.ptpSyncInterval t port k) := any _
theorem ptpAnnounceInterval (t port k : Nat) : Statement (.ptpAnnounceInterval t port k) := any _
theorem ptpDelayReqInterval (t port k : Nat) : Statement (.ptpDelayReqInterval t port k) := any _
theorem ptpTxTimestamp (t port k type seq fine : Nat) (ptp : Bool) : Statement (.ptpTxTimestamp t port k type seq fine ptp) := any _
theorem ptSnap (t value : Nat) : Statement (.ptSnap t value) := any _
theorem pqAck (port value : Nat) : Statement (.pqAck port value) := any _
theorem pqLostAck (port value : Nat) : Statement (.pqLostAck port value) := any _
theorem pdScaleWrite (t k : Nat) (incr off : Option Nat) : Statement (.pdScaleWrite t k incr off) := any _
theorem ptActAdjSettle (t : Nat) : Statement (.ptActAdjSettle t) := any _
theorem ipPacketReceive (t : Nat) (p : IpPacket) : Statement (.ipPacketReceive t p) := any _
theorem ipLegDown (t : Nat) (aud : Bool) (flow leg : Nat) : Statement (.ipLegDown t aud flow leg) := any _
theorem ipLegUp (t : Nat) (aud : Bool) (flow leg : Nat) : Statement (.ipLegUp t aud flow leg) := any _
theorem ipFlowQualify (t : Nat) (aud : Bool) (flow : Nat) : Statement (.ipFlowQualify t aud flow) := any _
theorem ipJoinTimeout (t : Nat) (aud : Bool) (flow : Nat) : Statement (.ipJoinTimeout t aud flow) := any _
theorem ipSendPacket (t : Nat) (aud anc : Bool) (index : Nat) : Statement (.ipSendPacket t aud anc index) := any _
theorem macFrameReceive (t port : Nat) (f : EthFrame) : Statement (.macFrameReceive t port f) := any _
theorem macFrameTransmit (t port : Nat) (arrived : List (TxKind × Nat)) : Statement (.macFrameTransmit t port arrived) := any _
theorem macLinkUp (t port : Nat) (speedOk : Bool) : Statement (.macLinkUp t port speedOk) := any _
theorem macLinkDown (t port why : Nat) : Statement (.macLinkDown t port why) := any _
theorem mcSleepWrite (t port value : Nat) : Statement (.mcSleepWrite t port value) := any _
theorem sleepDrainDone (t port : Nat) : Statement (.sleepDrainDone t port) := any _
theorem wakingExpiry (t port : Nat) : Statement (.wakingExpiry t port) := any _
theorem preemptVerifyTimer (t port : Nat) : Statement (.preemptVerifyTimer t port) := any _
theorem gateCycleStart (t port : Nat) : Statement (.gateCycleStart t port) := any _
theorem lpiEnter (t port : Nat) (quiet : Bool) : Statement (.lpiEnter t port quiet) := any _
theorem audioSampleTick (t : Nat) (ins : List AudioIn) (st337 : List Nat) : Statement (.audioSampleTick t ins st337) := any _
theorem fernBlockStart (t core : Nat) (lost : List (Nat × Nat)) : Statement (.fernBlockStart t core lost) := any _
theorem fcRestart (core value : Nat) : Statement (.fcRestart core value) := any _
theorem fpLenWrite (core ptr value : Nat) : Statement (.fpLenWrite core ptr value) := any _
theorem nop (t core : Nat) : Statement (.nop t core) := any _
theorem mpy4 (t core : Nat) : Statement (.mpy4 t core) := any _
theorem mac4 (t core : Nat) : Statement (.mac4 t core) := any _
theorem msu4 (t core : Nat) : Statement (.msu4 t core) := any _
theorem clr4 (t core : Nat) : Statement (.clr4 t core) := any _
theorem ld4 (t core : Nat) : Statement (.ld4 t core) := any _
theorem st4 (t core : Nat) : Statement (.st4 t core) := any _
theorem stx4 (t core : Nat) : Statement (.stx4 t core) := any _
theorem ext4 (t core : Nat) : Statement (.ext4 t core) := any _
theorem ld1 (t core : Nat) : Statement (.ld1 t core) := any _
theorem st1 (t core : Nat) : Statement (.st1 t core) := any _
theorem fernSramAccessDone (t core cycles : Nat) : Statement (.fernSramAccessDone t core cycles) := any _
theorem mov4 (t core : Nat) : Statement (.mov4 t core) := any _
theorem add (t core : Nat) : Statement (.add t core) := any _
theorem sub (t core : Nat) : Statement (.sub t core) := any _
theorem and_ (t core : Nat) : Statement (.and_ t core) := any _
theorem or_ (t core : Nat) : Statement (.or_ t core) := any _
theorem xor (t core : Nat) : Statement (.xor t core) := any _
theorem shl (t core : Nat) : Statement (.shl t core) := any _
theorem shr (t core : Nat) : Statement (.shr t core) := any _
theorem ldi (t core : Nat) : Statement (.ldi t core) := any _
theorem setp (t core : Nat) : Statement (.setp t core) := any _
theorem loop (t core : Nat) : Statement (.loop t core) := any _
theorem rloop (t core : Nat) : Statement (.rloop t core) := any _
theorem br (t core : Nat) : Statement (.br t core) := any _
theorem setwb (t core : Nat) : Statement (.setwb t core) := any _
theorem stat (t core : Nat) : Statement (.stat t core) := any _
theorem end_ (t core : Nat) : Statement (.end_ t core) := any _
theorem tdmMasterFrameStart (t port : Nat) (pins : List TdmClk) : Statement (.tdmMasterFrameStart t port pins) := any _
theorem tdmSlaveFrameReceived (t port : Nat) (f : TdmFrame) : Statement (.tdmSlaveFrameReceived t port f) := any _
theorem tdmClockDetect (t port : Nat) : Statement (.tdmClockDetect t port) := any _
theorem tdmClockStop (t port : Nat) : Statement (.tdmClockStop t port) := any _
theorem tdmZcTimeout (t port : Nat) : Statement (.tdmZcTimeout t port) := any _
theorem tdmTriggerWrite (t order dom : Nat) (data : List Nat) : Statement (.tdmTriggerWrite t order dom data) := any _
theorem tdmStart (t port : Nat) : Statement (.tdmStart t port) := any _
theorem tdmStop (t port : Nat) : Statement (.tdmStop t port) := any _
theorem proxySurfaceComplete (t gen uncorr : Nat) : Statement (.proxySurfaceComplete t gen uncorr) := any _
theorem busRead (t master id qos addr beats : Nat) (fate : BurstFate) : Statement (.busRead t master id qos addr beats fate) := any _
theorem busWrite (t master id qos addr : Nat) (beats : List (Nat × Nat)) (fate : BurstFate) : Statement (.busWrite t master id qos addr beats fate) := any _
theorem busTimeout (t master id : Nat) : Statement (.busTimeout t master id) := any _
theorem masterReset (t master : Nat) : Statement (.masterReset t master) := any _
theorem busMasterDrain (t master : Nat) : Statement (.busMasterDrain t master) := any _
theorem sysRemapWrite (t master value : Nat) : Statement (.sysRemapWrite t master value) := any _
theorem sysRemapSwitch (t : Nat) : Statement (.sysRemapSwitch t) := any _
theorem secClaimGo (t sess value : Nat) (v : ClaimVerdict) : Statement (.secClaimGo t sess value v) := any _
theorem secDebugToken (t sess : Nat) (v : ClaimVerdict) : Statement (.secDebugToken t sess v) := any _
theorem updateOpen (m : Msg) (o : Offer) : Statement (.updateOpen m o) := any _
theorem updateBlock (m : Msg) (img index : Nat) (crcOk : Bool) : Statement (.updateBlock m img index crcOk) := any _
theorem nvmBlockWritten (t img index : Nat) : Statement (.nvmBlockWritten t img index) := any _
theorem updateVerify (m : Msg) (targets : Nat) (fw : Option FwImage) (cfg : Option CfgImage) : Statement (.updateVerify m targets fw cfg) := any _
theorem updateActivate (m : Msg) (targets : Nat) : Statement (.updateActivate m targets) := any _
theorem updateConfirm (m : Msg) (targets : Nat) : Statement (.updateConfirm m targets) := any _
theorem updateAbort (m : Msg) (targets : Nat) : Statement (.updateAbort m targets) := any _
theorem updateLockIdleTimeout (t : Nat) : Statement (.updateLockIdleTimeout t) := any _
theorem updateHealthTimeout (t : Nat) : Statement (.updateHealthTimeout t) := any _
theorem updateWindowExpiry (t : Nat) : Statement (.updateWindowExpiry t) := any _
theorem relayOffer (t sender : Nat) (o : Offer) (ok : Bool) : Statement (.relayOffer t sender o ok) := any _
theorem relayBlocks (t sender img first : Nat) (crcs : List Bool) (ok : Bool) : Statement (.relayBlocks t sender img first crcs ok) := any _
theorem relayCommand (t sender op : Nat) (fw : Option FwImage) (cfg : Option CfgImage) (ok : Bool) : Statement (.relayCommand t sender op fw cfg ok) := any _
theorem relayAnswer (t sender status subtype missing : Nat) (ok : Bool) : Statement (.relayAnswer t sender status subtype missing ok) := any _
theorem relayResendTimeout (t node : Nat) : Statement (.relayResendTimeout t node) := any _
theorem vinRangeChange (t vin : Nat) : Statement (.vinRangeChange t vin) := any _
theorem thermalSample (t vin iin pin : Nat) (tcase tj : Int) : Statement (.thermalSample t vin iin pin tcase tj) := any _
theorem thermalTrip (t : Nat) : Statement (.thermalTrip t) := any _
theorem tripRecovery (t : Nat) : Statement (.tripRecovery t) := any _
theorem clearFaults (t : Nat) : Statement (.clearFaults t) := any _
theorem statusByte (t : Nat) : Statement (.statusByte t) := any _
theorem statusWord (t : Nat) : Statement (.statusWord t) := any _
theorem statusInput (t : Nat) : Statement (.statusInput t) := any _
theorem statusTemperature (t : Nat) : Statement (.statusTemperature t) := any _
theorem readVin (t : Nat) : Statement (.readVin t) := any _
theorem readIin (t : Nat) : Statement (.readIin t) := any _
theorem readPin (t : Nat) : Statement (.readPin t) := any _
theorem readTemperature1 (t : Nat) : Statement (.readTemperature1 t) := any _
theorem readTemperature2 (t : Nat) : Statement (.readTemperature2 t) := any _
theorem pmbusRevision (t : Nat) : Statement (.pmbusRevision t) := any _
theorem mfrId (t : Nat) : Statement (.mfrId t) := any _
theorem mfrModel (t : Nat) : Statement (.mfrModel t) := any _
theorem pmbusUnsupported (t cmd : Nat) : Statement (.pmbusUnsupported t cmd) := any _
theorem smbusAlertResponse (t : Nat) : Statement (.smbusAlertResponse t) := any _
theorem refSlewDone (t : Nat) : Statement (.refSlewDone t) := any _
theorem ref10mPresent (t n : Nat) : Statement (.ref10mPresent t n) := any _
theorem lichenCommaReceive (t : Nat) : Statement (.lichenCommaReceive t) := any _
theorem prbsCheckerLock (t lane : Nat) (locked : Bool) (compared errs : Nat) : Statement (.prbsCheckerLock t lane locked compared errs) := any _
theorem partnerLowPowerIdle (t port : Nat) (enters : Bool) : Statement (.partnerLowPowerIdle t port enters) := any _

end Sys2Proof.Laws.NoBits
end

