-- ==== Sys2Proof/Laws/Shared.lean ====
section
/-! SUPPORT. What the shared operations of Machine/Flags.lean can do, said once: the effects of raising an event and of sending an answer, the
latch bit that an event leaves, and the answer that leaves the module. -/
set_option Elab.async false
namespace Sys2Proof.Machine

/-- What raising an event can do. -/
def Eff.ofEvent : Eff → Prop
  | .wr f _ _ _ => f ∈ eventFields
  | .put x _ _ _ => x = .evSerial
  | .evq _ => True
  | .sessions _ => True
  | _ => False

theorem pins_within : pins.Within Eff.ofEvent :=
  within_look fun _ => within_set (by simp [Eff.ofEvent, eventFields])

theorem eqShow_within : eqShow.Within Eff.ofEvent :=
  within_look fun _ => within_all_cons (within_set (by simp [Eff.ofEvent, eventFields]))
    (within_all_cons (within_set (by simp [Eff.ofEvent, eventFields])) within_all_nil)

theorem putSession_within (x : Session) : (putSession x).Within Eff.ofEvent := within_look fun _ => within_one trivial

theorem queueRec_within (r : EvRec) (n : Nat) : (queueRec r n).Within Eff.ofEvent := by
  refine within_look fun s => ?_
  cases s.session n with
  | none => exact within_skip
  | some x =>
    refine within_ite (fun _ => within_ite (fun _ => ?_) (fun _ => ?_)) (fun _ => within_skip)
    · exact within_all_cons (putSession_within _) (within_all_cons (within_set (by simp [Eff.ofEvent, eventFields])) within_all_nil)
    · exact within_all_cons (putSession_within _) (within_all_cons (within_count fun _ => by simp [Eff.ofEvent, eventFields]) within_all_nil)

/-- Raising an event shows in the event fields and queues alone. -/
theorem raise_within (e : Ev) (i p : Nat) : (raise e i p).Within Eff.ofEvent := by
  refine within_look fun s => within_ite (fun _ => within_skip) (fun _ => ?_)
  refine within_all_cons (within_addQ fun _ => rfl) (within_all_cons ?_ (within_all_cons eqShow_within (within_all_cons
    (within_each fun n _ => queueRec_within _ n) (within_all_cons (within_set (by simp [Eff.ofEvent, eventFields]))
      (within_all_cons pins_within within_all_nil)))))
  exact within_ite (fun _ => within_one trivial) (fun _ => within_count fun _ => by simp [Eff.ofEvent, eventFields])

theorem Eff.ofEvent.writes {e : Eff} (h : e.ofEvent) : e.writes eventFields := by
  cases e <;> simp_all [Eff.ofEvent, Eff.writes]

theorem Eff.ofEvent.storesNot {e : Eff} (h : e.ofEvent) : e.storesNot := by
  cases e <;> simp_all [Eff.ofEvent, Eff.storesNot]

/-- A register in which no event shows keeps its value when an event is raised. -/
@[simp] theorem raise_rd (e : Ev) (i p : Nat) (s : State) {f : Fld} (hf : f ∉ eventFields) (j k : Nat) : ((raise e i p).to s).rd f j k = s.rd f j k :=
  Act.Within.rd ((raise_within e i p).mono fun _ => Eff.ofEvent.writes) hf s j k

@[simp] theorem pins_rd (s : State) {f : Fld} (hf : f ∉ eventFields) (j k : Nat) : (pins.to s).rd f j k = s.rd f j k :=
  Act.Within.rd (pins_within.mono fun _ => Eff.ofEvent.writes) hf s j k

@[simp] theorem raise_mem (e : Ev) (i p : Nat) (s : State) : ((raise e i p).to s).mem = s.mem :=
  Act.Within.mem ((raise_within e i p).mono fun _ => Eff.ofEvent.storesNot) s

/-- A component of the state that no event touches. -/
theorem ofEvent_keeps {α : Type} (get : State → α) (hr : ∀ s f i j v, get (State.setReg s f i j v) = get s)
    (hq : ∀ s i j v, get (State.setQ s .evSerial i j v) = get s) (he : ∀ s x, get (State.app s (.evq x)) = get s)
    (hs : ∀ s x, get (State.app s (.sessions x)) = get s) {a : Act} (h : a.Within Eff.ofEvent) (s : State) : get (a.to s) = get s := by
  refine h.keeps (P := fun t => get t = get s) (fun t e hp ht => ?_) rfl
  rw [← ht]
  cases e <;> simp only [Eff.ofEvent] at hp
  case wr => exact hr ..
  case put => subst hp; exact hq ..
  case evq => exact he ..
  case sessions => exact hs ..

@[simp] theorem raise_q (e : Ev) (i p : Nat) (s : State) {x : Qty} (hx : x ≠ .evSerial) (j k : Nat) (hj : j < 2 ^ 40) (hk : k < 2 ^ 40) :
    ((raise e i p).to s).q x j k = s.q x j k :=
  ofEvent_keeps (fun s => s.q x j k) (fun _ _ _ _ _ => State.q_setReg ..) (fun _ _ _ _ => State.q_setQ_other _ _ hj hk (.inl hx))
    (fun _ _ => rfl) (fun _ _ => rfl) (raise_within e i p) s

@[simp] theorem raise_pending (e : Ev) (i p : Nat) (s : State) : ((raise e i p).to s).pending = s.pending :=
  ofEvent_keeps State.pending (fun _ _ _ _ _ => State.setReg_pending ..) (fun _ _ _ _ => State.setQ_pending ..) (fun _ _ => rfl) (fun _ _ => rfl) (raise_within e i p) s
@[simp] theorem raise_now (e : Ev) (i p : Nat) (s : State) : ((raise e i p).to s).now = s.now :=
  ofEvent_keeps State.now (fun _ _ _ _ _ => State.setReg_now ..) (fun _ _ _ _ => State.setQ_now ..) (fun _ _ => rfl) (fun _ _ => rfl) (raise_within e i p) s
@[simp] theorem raise_timers (e : Ev) (i p : Nat) (s : State) : ((raise e i p).to s).timers = s.timers :=
  ofEvent_keeps State.timers (fun _ _ _ _ _ => State.setReg_timers ..) (fun _ _ _ _ => State.setQ_timers ..) (fun _ _ => rfl) (fun _ _ => rfl) (raise_within e i p) s
@[simp] theorem raise_owners (e : Ev) (i p : Nat) (s : State) : ((raise e i p).to s).owners = s.owners :=
  ofEvent_keeps State.owners (fun _ _ _ _ _ => State.setReg_owners ..) (fun _ _ _ _ => State.setQ_owners ..) (fun _ _ => rfl) (fun _ _ => rfl) (raise_within e i p) s
@[simp] theorem raise_nvm (e : Ev) (i p : Nat) (s : State) : ((raise e i p).to s).nvm = s.nvm :=
  ofEvent_keeps State.nvm (fun _ _ _ _ _ => State.setReg_nvm ..) (fun _ _ _ _ => State.setQ_nvm ..) (fun _ _ => rfl) (fun _ _ => rfl) (raise_within e i p) s
@[simp] theorem raise_cfg (e : Ev) (i p : Nat) (s : State) : ((raise e i p).to s).cfg = s.cfg :=
  ofEvent_keeps State.cfg (fun _ _ _ _ _ => State.setReg_cfg ..) (fun _ _ _ _ => State.setQ_cfg ..) (fun _ _ => rfl) (fun _ _ => rfl) (raise_within e i p) s
@[simp] theorem raise_fwRun (e : Ev) (i p : Nat) (s : State) : ((raise e i p).to s).fwRun = s.fwRun :=
  ofEvent_keeps State.fwRun (fun _ _ _ _ _ => State.setReg_fwRun ..) (fun _ _ _ _ => State.setQ_fwRun ..) (fun _ _ => rfl) (fun _ _ => rfl) (raise_within e i p) s
@[simp] theorem raise_clampReport (e : Ev) (i p : Nat) (s : State) : ((raise e i p).to s).clampReport = s.clampReport :=
  ofEvent_keeps State.clampReport (fun _ _ _ _ _ => State.setReg_clampReport ..) (fun _ _ _ _ => State.setQ_clampReport ..) (fun _ _ => rfl) (fun _ _ => rfl) (raise_within e i p) s
@[simp] theorem raise_out (e : Ev) (i p : Nat) (s : State) : ((raise e i p).to s).out = s.out :=
  ofEvent_keeps State.out (fun _ _ _ _ _ => State.setReg_out ..) (fun _ _ _ _ => State.setQ_out ..) (fun _ _ => rfl) (fun _ _ => rfl) (raise_within e i p) s
@[simp] theorem raise_buf (e : Ev) (i p : Nat) (s : State) : ((raise e i p).to s).buf = s.buf :=
  ofEvent_keeps State.buf (fun _ _ _ _ _ => State.setReg_buf ..) (fun _ _ _ _ => State.setQ_buf ..) (fun _ _ => rfl) (fun _ _ => rfl) (raise_within e i p) s
@[simp] theorem raise_hist (e : Ev) (i p : Nat) (s : State) : ((raise e i p).to s).hist = s.hist :=
  ofEvent_keeps State.hist (fun _ _ _ _ _ => State.setReg_hist ..) (fun _ _ _ _ => State.setQ_hist ..) (fun _ _ => rfl) (fun _ _ => rfl) (raise_within e i p) s
@[simp] theorem raise_held (e : Ev) (i p : Nat) (s : State) : ((raise e i p).to s).held = s.held :=
  ofEvent_keeps State.held (fun _ _ _ _ _ => State.setReg_held ..) (fun _ _ _ _ => State.setQ_held ..) (fun _ _ => rfl) (fun _ _ => rfl) (raise_within e i p) s
@[simp] theorem raise_acts (e : Ev) (i p : Nat) (s : State) : ((raise e i p).to s).acts = s.acts :=
  ofEvent_keeps State.acts (fun _ _ _ _ _ => State.setReg_acts ..) (fun _ _ _ _ => State.setQ_acts ..) (fun _ _ => rfl) (fun _ _ => rfl) (raise_within e i p) s
@[simp] theorem raise_img (e : Ev) (i p : Nat) (s : State) : ((raise e i p).to s).img = s.img :=
  ofEvent_keeps State.img (fun _ _ _ _ _ => State.setReg_img ..) (fun _ _ _ _ => State.setQ_img ..) (fun _ _ => rfl) (fun _ _ => rfl) (raise_within e i p) s
@[simp] theorem raise_shadows (e : Ev) (i p : Nat) (s : State) : ((raise e i p).to s).shadows = s.shadows :=
  ofEvent_keeps State.shadows (fun _ _ _ _ _ => State.setReg_shadows ..) (fun _ _ _ _ => State.setQ_shadows ..) (fun _ _ => rfl) (fun _ _ => rfl) (raise_within e i p) s
@[simp] theorem raise_vOuts (e : Ev) (i p : Nat) (s : State) : ((raise e i p).to s).vOuts = s.vOuts :=
  ofEvent_keeps State.vOuts (fun _ _ _ _ _ => State.setReg_vOuts ..) (fun _ _ _ _ => State.setQ_vOuts ..) (fun _ _ => rfl) (fun _ _ => rfl) (raise_within e i p) s
@[simp] theorem raise_vFields (e : Ev) (i p : Nat) (s : State) : ((raise e i p).to s).vFields = s.vFields :=
  ofEvent_keeps State.vFields (fun _ _ _ _ _ => State.setReg_vFields ..) (fun _ _ _ _ => State.setQ_vFields ..) (fun _ _ => rfl) (fun _ _ => rfl) (raise_within e i p) s
@[simp] theorem raise_cfgRegs (e : Ev) (i p : Nat) (s : State) : ((raise e i p).to s).cfgRegs = s.cfgRegs :=
  ofEvent_keeps State.cfgRegs (fun _ _ _ _ _ => State.setReg_cfgRegs ..) (fun _ _ _ _ => State.setQ_cfgRegs ..) (fun _ _ => rfl) (fun _ _ => rfl) (raise_within e i p) s
@[simp] theorem raise_vLegs (e : Ev) (i p : Nat) (s : State) : ((raise e i p).to s).vLegs = s.vLegs :=
  ofEvent_keeps State.vLegs (fun _ _ _ _ _ => State.setReg_vLegs ..) (fun _ _ _ _ => State.setQ_vLegs ..) (fun _ _ => rfl) (fun _ _ => rfl) (raise_within e i p) s
@[simp] theorem raise_vSched (e : Ev) (i p : Nat) (s : State) : ((raise e i p).to s).vSched = s.vSched :=
  ofEvent_keeps State.vSched (fun _ _ _ _ _ => State.setReg_vSched ..) (fun _ _ _ _ => State.setQ_vSched ..) (fun _ _ => rfl) (fun _ _ => rfl) (raise_within e i p) s
@[simp] theorem raise_vApplied (e : Ev) (i p : Nat) (s : State) : ((raise e i p).to s).vApplied = s.vApplied :=
  ofEvent_keeps State.vApplied (fun _ _ _ _ _ => State.setReg_vApplied ..) (fun _ _ _ _ => State.setQ_vApplied ..) (fun _ _ => rfl) (fun _ _ => rfl) (raise_within e i p) s
@[simp] theorem raise_vOpen (e : Ev) (i p : Nat) (s : State) : ((raise e i p).to s).vOpen = s.vOpen :=
  ofEvent_keeps State.vOpen (fun _ _ _ _ _ => State.setReg_vOpen ..) (fun _ _ _ _ => State.setQ_vOpen ..) (fun _ _ => rfl) (fun _ _ => rfl) (raise_within e i p) s
@[simp] theorem raise_legs (e : Ev) (i p : Nat) (s : State) : ((raise e i p).to s).legs = s.legs :=
  ofEvent_keeps State.legs (fun _ _ _ _ _ => State.setReg_legs ..) (fun _ _ _ _ => State.setQ_legs ..) (fun _ _ => rfl) (fun _ _ => rfl) (raise_within e i p) s
@[simp] theorem raise_frames (e : Ev) (i p : Nat) (s : State) : ((raise e i p).to s).frames = s.frames :=
  ofEvent_keeps State.frames (fun _ _ _ _ _ => State.setReg_frames ..) (fun _ _ _ _ => State.setQ_frames ..) (fun _ _ => rfl) (fun _ _ => rfl) (raise_within e i p) s
@[simp] theorem raise_nodes (e : Ev) (i p : Nat) (s : State) : ((raise e i p).to s).nodes = s.nodes :=
  ofEvent_keeps State.nodes (fun _ _ _ _ _ => State.setReg_nodes ..) (fun _ _ _ _ => State.setQ_nodes ..) (fun _ _ => rfl) (fun _ _ => rfl) (raise_within e i p) s
@[simp] theorem raise_changes (e : Ev) (i p : Nat) (s : State) : ((raise e i p).to s).changes = s.changes :=
  ofEvent_keeps State.changes (fun _ _ _ _ _ => State.setReg_changes ..) (fun _ _ _ _ => State.setQ_changes ..) (fun _ _ => rfl) (fun _ _ => rfl) (raise_within e i p) s
@[simp] theorem raise_fades (e : Ev) (i p : Nat) (s : State) : ((raise e i p).to s).fades = s.fades :=
  ofEvent_keeps State.fades (fun _ _ _ _ _ => State.setReg_fades ..) (fun _ _ _ _ => State.setQ_fades ..) (fun _ _ => rfl) (fun _ _ => rfl) (raise_within e i p) s
@[simp] theorem raise_imports (e : Ev) (i p : Nat) (s : State) : ((raise e i p).to s).imports = s.imports :=
  ofEvent_keeps State.imports (fun _ _ _ _ _ => State.setReg_imports ..) (fun _ _ _ _ => State.setQ_imports ..) (fun _ _ => rfl) (fun _ _ => rfl) (raise_within e i p) s
@[simp] theorem raise_exports (e : Ev) (i p : Nat) (s : State) : ((raise e i p).to s).exports = s.exports :=
  ofEvent_keeps State.exports (fun _ _ _ _ _ => State.setReg_exports ..) (fun _ _ _ _ => State.setQ_exports ..) (fun _ _ => rfl) (fun _ _ => rfl) (raise_within e i p) s
@[simp] theorem raise_peaks (e : Ev) (i p : Nat) (s : State) : ((raise e i p).to s).peaks = s.peaks :=
  ofEvent_keeps State.peaks (fun _ _ _ _ _ => State.setReg_peaks ..) (fun _ _ _ _ => State.setQ_peaks ..) (fun _ _ => rfl) (fun _ _ => rfl) (raise_within e i p) s
@[simp] theorem raise_vNodes (e : Ev) (i p : Nat) (s : State) : ((raise e i p).to s).vNodes = s.vNodes :=
  ofEvent_keeps State.vNodes (fun _ _ _ _ _ => State.setReg_vNodes ..) (fun _ _ _ _ => State.setQ_vNodes ..) (fun _ _ => rfl) (fun _ _ => rfl) (raise_within e i p) s
@[simp] theorem raise_vImps (e : Ev) (i p : Nat) (s : State) : ((raise e i p).to s).vImps = s.vImps :=
  ofEvent_keeps State.vImps (fun _ _ _ _ _ => State.setReg_vImps ..) (fun _ _ _ _ => State.setQ_vImps ..) (fun _ _ => rfl) (fun _ _ => rfl) (raise_within e i p) s
@[simp] theorem raise_tdBuf (e : Ev) (i p : Nat) (s : State) : ((raise e i p).to s).tdBuf = s.tdBuf :=
  ofEvent_keeps State.tdBuf (fun _ _ _ _ _ => State.setReg_tdBuf ..) (fun _ _ _ _ => State.setQ_tdBuf ..) (fun _ _ => rfl) (fun _ _ => rfl) (raise_within e i p) s
@[simp] theorem raise_landings (e : Ev) (i p : Nat) (s : State) : ((raise e i p).to s).landings = s.landings :=
  ofEvent_keeps State.landings (fun _ _ _ _ _ => State.setReg_landings ..) (fun _ _ _ _ => State.setQ_landings ..) (fun _ _ => rfl) (fun _ _ => rfl) (raise_within e i p) s
@[simp] theorem raise_loops (e : Ev) (i p : Nat) (s : State) : ((raise e i p).to s).loops = s.loops :=
  ofEvent_keeps State.loops (fun _ _ _ _ _ => State.setReg_loops ..) (fun _ _ _ _ => State.setQ_loops ..) (fun _ _ => rfl) (fun _ _ => rfl) (raise_within e i p) s
@[simp] theorem raise_staged (e : Ev) (i p : Nat) (s : State) : ((raise e i p).to s).staged = s.staged :=
  ofEvent_keeps State.staged (fun _ _ _ _ _ => State.setReg_staged ..) (fun _ _ _ _ => State.setQ_staged ..) (fun _ _ => rfl) (fun _ _ => rfl) (raise_within e i p) s
@[simp] theorem raise_trigs (e : Ev) (i p : Nat) (s : State) : ((raise e i p).to s).trigs = s.trigs :=
  ofEvent_keeps State.trigs (fun _ _ _ _ _ => State.setReg_trigs ..) (fun _ _ _ _ => State.setQ_trigs ..) (fun _ _ => rfl) (fun _ _ => rfl) (raise_within e i p) s
@[simp] theorem raise_txq (e : Ev) (i p : Nat) (s : State) : ((raise e i p).to s).txq = s.txq :=
  ofEvent_keeps State.txq (fun _ _ _ _ _ => State.setReg_txq ..) (fun _ _ _ _ => State.setQ_txq ..) (fun _ _ => rfl) (fun _ _ => rfl) (raise_within e i p) s
@[simp] theorem raise_flows (e : Ev) (i p : Nat) (s : State) : ((raise e i p).to s).flows = s.flows :=
  ofEvent_keeps State.flows (fun _ _ _ _ _ => State.setReg_flows ..) (fun _ _ _ _ => State.setQ_flows ..) (fun _ _ => rfl) (fun _ _ => rfl) (raise_within e i p) s
@[simp] theorem raise_freqLog (e : Ev) (i p : Nat) (s : State) : ((raise e i p).to s).freqLog = s.freqLog :=
  ofEvent_keeps State.freqLog (fun _ _ _ _ _ => State.setReg_freqLog ..) (fun _ _ _ _ => State.setQ_freqLog ..) (fun _ _ => rfl) (fun _ _ => rfl) (raise_within e i p) s
@[simp] theorem raise_tsq (e : Ev) (i p : Nat) (s : State) : ((raise e i p).to s).tsq = s.tsq :=
  ofEvent_keeps State.tsq (fun _ _ _ _ _ => State.setReg_tsq ..) (fun _ _ _ _ => State.setQ_tsq ..) (fun _ _ => rfl) (fun _ _ => rfl) (raise_within e i p) s
@[simp] theorem raise_tsLost (e : Ev) (i p : Nat) (s : State) : ((raise e i p).to s).tsLost = s.tsLost :=
  ofEvent_keeps State.tsLost (fun _ _ _ _ _ => State.setReg_tsLost ..) (fun _ _ _ _ => State.setQ_tsLost ..) (fun _ _ => rfl) (fun _ _ => rfl) (raise_within e i p) s
@[simp] theorem raise_foreign (e : Ev) (i p : Nat) (s : State) : ((raise e i p).to s).foreign = s.foreign :=
  ofEvent_keeps State.foreign (fun _ _ _ _ _ => State.setReg_foreign ..) (fun _ _ _ _ => State.setQ_foreign ..) (fun _ _ => rfl) (fun _ _ => rfl) (raise_within e i p) s
@[simp] theorem raise_bursts (e : Ev) (i p : Nat) (s : State) : ((raise e i p).to s).bursts = s.bursts :=
  ofEvent_keeps State.bursts (fun _ _ _ _ _ => State.setReg_bursts ..) (fun _ _ _ _ => State.setQ_bursts ..) (fun _ _ => rfl) (fun _ _ => rfl) (raise_within e i p) s
@[simp] theorem raise_upd (e : Ev) (i p : Nat) (s : State) : ((raise e i p).to s).upd = s.upd :=
  ofEvent_keeps State.upd (fun _ _ _ _ _ => State.setReg_upd ..) (fun _ _ _ _ => State.setQ_upd ..) (fun _ _ => rfl) (fun _ _ => rfl) (raise_within e i p) s
@[simp] theorem raise_freed (e : Ev) (i p : Nat) (s : State) : ((raise e i p).to s).freed = s.freed :=
  ofEvent_keeps State.freed (fun _ _ _ _ _ => State.setReg_freed ..) (fun _ _ _ _ => State.setQ_freed ..) (fun _ _ => rfl) (fun _ _ => rfl) (raise_within e i p) s

-- Answers -----------------------------------------------------------------------------------------------------------

/-- The fields that sending an answer writes. -/
def answerFields : List Fld := [.TS_SEQ_TX]

/-- An answer leaves. -/
theorem sendAnswer_out (a : Answer) (s : State) : ((sendAnswer a).to s).out = s.out ++ [.answer a] := by
  simp only [sendAnswer, look_to, all_cons_to, all_nil_to, emit_to, count_to]
  split <;> simp [putSession]

theorem sendAnswer_rd (a : Answer) (s : State) {f : Fld} (hf : f ≠ .TS_SEQ_TX) (j k : Nat) : ((sendAnswer a).to s).rd f j k = s.rd f j k := by
  simp only [sendAnswer, look_to, all_cons_to, all_nil_to, emit_to, count_to]
  split
  · exact State.rd_setReg_other _ _ (.inl hf)
  · simp only [putSession, look_to, one_to, State.app_sessions]
    exact State.rd_setReg_other _ _ (.inl hf)

end Sys2Proof.Machine
end

