-- ==== Sys2Proof/Laws/Sound.lean ====
section
/-! SUPPORT. Every act keeps the stores in order and the memory in its canonical form. -/
set_option Elab.async false
namespace Sys2Proof.Machine

theorem State.fresh_regs_sorted (s : State) : SMap.sorted s.fresh.regs = true := by
  have go : ∀ (fs : List Fld) (g : Fld → Nat) (r : State), SMap.sorted r.regs = true →
      SMap.sorted (fs.foldl (fun r f => r.setReg f 0 0 (g f)) r).regs = true := by
    intro fs g
    induction fs with
    | nil => intro r h; exact h
    | cons f fs ih => intro r h; exact ih _ (State.setReg_sorted _ _ _ _ h)
  exact go keptFields s.rd _ rfl

theorem State.app_regs_sorted {s : State} (e : Eff) (h : SMap.sorted s.regs = true) : SMap.sorted (s.app e).regs = true := by
  cases e
  case wr => exact State.setReg_sorted _ _ _ _ h
  case put => rw [State.app_put, State.setQ_regs]; exact h
  case burnRollback => simp only [State.app]; split <;> exact State.setReg_sorted _ _ _ _ h
  case restart => exact State.fresh_regs_sorted s
  all_goals simpa only [State.app] using h

theorem Act.to_regs_sorted (a : Act) {s : State} (h : SMap.sorted s.regs = true) : SMap.sorted (a.to s).regs = true :=
  (show a.Within fun _ => True from fun _ _ _ => trivial).keeps (P := fun t => SMap.sorted t.regs = true) (fun _ e _ h => State.app_regs_sorted e h) h

theorem State.app_qty_sorted {s : State} (e : Eff) (h : SMap.sorted s.qty = true) : SMap.sorted (s.app e).qty = true := by
  cases e
  case wr => rw [State.app_wr, State.setReg_qty]; exact h
  case put => exact State.setQ_sorted _ _ _ _ h
  case burnRollback => simp only [State.app]; split <;> (rw [State.setReg_qty]; exact h)
  case restart => rw [State.app_restart, State.fresh_qty]; rfl
  all_goals simpa only [State.app] using h

theorem Act.to_qty_sorted (a : Act) {s : State} (h : SMap.sorted s.qty = true) : SMap.sorted (a.to s).qty = true :=
  (show a.Within fun _ => True from fun _ _ _ => trivial).keeps (P := fun t => SMap.sorted t.qty = true) (fun _ e _ h => State.app_qty_sorted e h) h

theorem SMap.above_filter {α : Type} (p : Nat × α → Bool) (b : Nat) (m : SMap α) (h : SMap.above b m = true) : SMap.above b (m.filter p) = true := by
  induction m with
  | nil => rfl
  | cons c m ih =>
    obtain ⟨k, v⟩ := c
    simp only [SMap.above, Bool.and_eq_true, decide_eq_true_eq] at h
    simp only [List.filter_cons]
    split
    · simp only [SMap.above, Bool.and_eq_true, decide_eq_true_eq]; exact ⟨h.1, ih h.2⟩
    · exact ih h.2

theorem SMap.sorted_filter {α : Type} (p : Nat × α → Bool) (m : SMap α) (h : SMap.sorted m = true) : SMap.sorted (m.filter p : SMap α) = true := by
  induction m with
  | nil => rfl
  | cons c m ih =>
    obtain ⟨k, v⟩ := c
    simp only [SMap.sorted, Bool.and_eq_true] at h
    simp only [List.filter_cons]
    split
    · simp only [SMap.sorted, Bool.and_eq_true]; exact ⟨SMap.above_filter p k m h.1, ih h.2⟩
    · exact ih h.2

theorem SMap.lean_filter {α : Type} [DecidableEq α] (d : α) (p : Nat × α → Bool) (m : SMap α) (h : SMap.lean d m = true) :
    SMap.lean d (m.filter p : SMap α) = true := by
  induction m with
  | nil => rfl
  | cons c m ih =>
    obtain ⟨k, v⟩ := c
    simp only [SMap.lean, Bool.and_eq_true] at h
    simp only [List.filter_cons]
    split
    · simp only [SMap.lean, Bool.and_eq_true]; exact ⟨h.1, ih h.2⟩
    · exact ih h.2

/-- The memory operations keep the canonical form. -/
theorem Memory.wf_put (m : List Host.Cell) (a : Nat) (b : Byte) (h : Memory.wf m = true) : Memory.wf (SMap.put 0 a b m) = true := by
  simp only [Memory.wf, Bool.and_eq_true] at h ⊢
  exact ⟨SMap.sorted_put _ _ _ _ h.1, SMap.lean_put _ _ _ _ h.2⟩

theorem State.app_mem_wf {s : State} (e : Eff) (h : Memory.wf s.mem = true) : Memory.wf (s.app e).mem = true := by
  cases e
  case poke a b => exact Memory.wf_put _ _ _ h
  case wipe lo hi =>
    simp only [Memory.wf, Bool.and_eq_true] at h ⊢
    exact ⟨SMap.sorted_filter _ _ h.1, SMap.lean_filter _ _ _ h.2⟩
  case wr => rw [State.app_wr, State.setReg_mem]; exact h
  case put => rw [State.app_put, State.setQ_mem]; exact h
  case burnRollback => simp only [State.app]; split <;> (rw [State.setReg_mem]; exact h)
  case restart => rw [State.app_restart, State.fresh_mem]; rfl
  all_goals simpa only [State.app] using h

/-- Every act keeps the canonical form of memory. -/
theorem Act.to_mem_wf (a : Act) {s : State} (h : Memory.wf s.mem = true) : Memory.wf (a.to s).mem = true :=
  (show a.Within fun _ => True from fun _ _ _ => trivial).keeps (P := fun t => Memory.wf t.mem = true) (fun _ e _ h => State.app_mem_wf e h) h

theorem reset_mem_wf : Memory.wf State.reset.mem = true := rfl

/-- A state that is sound has its registers and quantities in order. -/
theorem State.wf_regs {s : State} (h : s.wf = true) : SMap.sorted s.regs = true := by
  simp only [State.wf, State.stores, Bool.and_eq_true] at h; tauto

theorem State.wf_qty {s : State} (h : s.wf = true) : SMap.sorted s.qty = true := by
  simp only [State.wf, State.stores, Bool.and_eq_true] at h; tauto

end Sys2Proof.Machine
end

