-- ==== Sys2Proof/Tests/Slice0.lean ====
section
/-! SUPPORT. The model's own tests: ill-formed commands are refused by WellFormed; each statement's hypotheses are met by a concrete state and
operands (`wit_`), with what the rules say comes of one step there. A witness satisfies `sound`, so that it is well formed and its registers fit
(`sound_wf`, `sound_fits`). -/
set_option Elab.async false
namespace Sys2Proof.Tests
open Sys2Proof Sys2Proof.Machine

/-- A state made from reset by giving registers and quantities values. -/
def mk (rs : List (Fld × Nat × Nat × Nat)) (qs : List (Qty × Nat × Nat × Int) := []) : State :=
  qs.foldl (fun s x => s.setQ x.1 x.2.1 x.2.2.1 x.2.2.2) (rs.foldl (fun s x => s.setReg x.1 x.2.1 x.2.2.1 x.2.2.2) State.reset)

/-- The state is well formed, and every listed register fits its field. -/
def sound (s : State) : Bool := s.wf && s.regs.all fun c => decide (c.2 < 2 ^ (Fld.ofNat (c.1 / 2 ^ 40)).desc.width)

/-- The command answers a next state with the property. -/
def did (c : Instr) (s : State) (p : State → Bool) : Bool := match exec c s with | .next u => p u | _ => false

/-- Timers by name. -/
def tms (l : List (Tmr × Nat × Nat)) : SMap Nat := l.foldl (fun m x => m.ins (x.1.key x.2.1) x.2.2) []

theorem sound_wf {s : State} (h : sound s = true) : s.wf = true := by
  simp only [sound, Bool.and_eq_true] at h; exact h.1

theorem SMap_mem_of_find {α : Type} {k : Nat} {v : α} : (m : SMap α) → m.find k = some v → (k, v) ∈ m
  | [], h => by simp [SMap.find] at h
  | (a, b) :: m, h => by
    simp only [SMap.find] at h
    split at h
    · simp_all
    · exact List.mem_cons_of_mem _ (SMap_mem_of_find m h)

theorem sound_fits {s : State} (h : sound s = true) : s.fits := by
  simp only [sound, Bool.and_eq_true, List.all_eq_true] at h
  intro f i j
  unfold State.rd
  split
  case isFalse => exact Nat.two_pow_pos _
  case isTrue hh =>
    unfold SMap.get
    cases e : s.regs.find (f.key i j) with
    | none => exact Fld.resetAt_lt f i j
    | some v =>
      have m := h.2 _ (SMap_mem_of_find _ e)
      rw [Fld.has_iff] at hh
      have sm := f.small
      have k : f.key i j / 2 ^ 40 = f.ctorIdx := by simp only [Fld.key]; omega
      have o : Fld.ofNat f.ctorIdx = f := Fld.ofNat_ctorIdx f
      simp only [k, o, decide_eq_true_eq] at m
      exact m

/-- Two commands wait in order. -/
def waiting : State := { State.reset with pending := [.powerGoodFall 5 .rail, .powerGoodFall 9 .rail] }

/-- Premises of StepCarriesOutFrontCommand, SoundStateIsKept, RegistersFitTheirFields: a sound, fitting state with commands waiting, and its step. -/
theorem wit_Step : waiting.wf = true ∧ waiting.fits ∧ waiting.pending.length = 2
    ∧ Machine.step { State.reset with pending := [] } = .next State.reset :=
  ⟨by decide, sound_fits (by decide), by decide, rfl⟩

/-- The first step leaves the second command waiting. -/
theorem wit_StepTakesOne : (match Machine.step waiting with | .next u => decide (u.pending = [.powerGoodFall 9 .rail]) && sound u | _ => false) = true := by
  decide

/-- Premise of OwnersAreOnlyAdded, and of its bound at its edge. -/
theorem wit_Owners : sound { State.reset with owners := [1, 2, 3, 4] } = true ∧ ¬ State.wf { State.reset with owners := [1, 2, 3, 4, 5] } := by
  decide

/-- StoredByteReadsBack: the stored bytes at address 0 and at the last offset, the neighbours untouched. -/
theorem wit_Stored : sound State.reset = true ∧ (State.reset.apply (storeLE 0 0x1234 2 State.reset)).loadLE 0 2 = 0x1234
    ∧ (State.reset.apply (storeLE 0 0x1234 2 State.reset)).peek 0 = 0x34 ∧ (State.reset.apply (storeLE 0 0x1234 2 State.reset)).peek 2 = 0
    ∧ (State.reset.apply (storeLE 0xFFFFFFFFFFFF 0x1FF 1 State.reset)).loadLE 0xFFFFFFFFFFFF 1 = 0xFF := by
  decide

-- Ill-formed commands, one for each check of WellFormed ---------------------------------------------------------------

theorem test_wf_refuses_ports_lanes_links : Instr.wf (.laneAligned 0 259) = false ∧ Instr.wf (.laneAligned 0 258) = true
    ∧ Instr.wf (.macLinkUp 0 259 true) = false ∧ Instr.wf (.open_ 0 3 ⟨true, true, 1, 0, 1, true, 1, 1⟩) = false ∧ Instr.wf (.linkFailed 0 256) = false
    ∧ Instr.wf (.voOffsetWrite 256 0) = false ∧ Instr.wf (.pathRelease 0 4096 0) = false ∧ Instr.wf (.quadClockLoss 0 64) = false
    ∧ Instr.wf (.tdmStart 0 16) = false ∧ Instr.wf (.proxySurfaceComplete 0 256 0) = false := by decide

theorem test_wf_refuses_indexes : Instr.wf (.nop 0 32) = false ∧ Instr.wf (.fpLenWrite 0 8 1) = false ∧ Instr.wf (.cleanSwitchPoint 0 8 []) = false
    ∧ Instr.wf (.refQualifyTimer 0 8) = false ∧ Instr.wf (.refInputLost 0 11) = false ∧ Instr.wf (.pdScaleWrite 0 2 none none) = false
    ∧ Instr.wf (.ipFlowQualify 0 false 256) = false ∧ Instr.wf (.ipFlowQualify 0 true 511) = true ∧ Instr.wf (.ipFlowQualify 0 true 512) = false
    ∧ Instr.wf (.eventSend 0 34) = false ∧ Instr.wf (.eventSend 0 64) = true ∧ Instr.wf (.replayReq 0 64 1 1) = false
    ∧ Instr.wf (.ack 0 1 (2 ^ 48) true) = false ∧ Instr.wf (.masterReset 0 10) = false ∧ Instr.wf (.gpoPulseEnd 0 32) = false
    ∧ Instr.wf (.epLatchClear 32 0) = false ∧ Instr.wf (.registerWrite 0 (2 ^ 40) []) = false := by decide

theorem test_wf_refuses_operands : (⟨2 ^ 48, 0, 0, false⟩ : Stamp).wf = false ∧ (⟨0, 4096, 0, false⟩ : Stamp).wf = false ∧ (⟨0, 0, 8, false⟩ : Stamp).wf = false
    ∧ Instr.wf (.orderedRecordArrival 0 ⟨1, 1, 0, 128, ⟨0, 0, 0, false⟩, []⟩ true) = false
    ∧ Instr.wf (.close ⟨0, 0, 2 ^ 32, false, true, true⟩) = false
    ∧ Instr.wf (.take ⟨0, 0, 1, false, true, true⟩ ⟨0, 0, 0, true⟩ ⟨4096, false, 0, false⟩) = false
    ∧ Instr.wf (.salvo ⟨0, 0, 1, false, true, true⟩ ⟨0, 0, 0, true⟩ 1 [⟨0, false, 4096, false⟩]) = false
    ∧ Instr.wf (.powerGoodRise 0 ⟨64, 4800, true, true, 250, none⟩) = false
    ∧ Instr.wf (.updateOpen ⟨0, 32, 1, false, true, true⟩ ⟨1, 2 ^ 32, 0, 0, 0, 0, 0, 0, 0, 0, 1800, 120⟩) = false
    ∧ Instr.wf (.updateAbort ⟨0, 32, 1, false, true, true⟩ (2 ^ 64)) = false := by decide

-- The order stream ----------------------------------------------------------------------------------------------------

/-- An edge module E02 of a router that runs, with node 32 as its active manager, D0 in format 0Dh. -/
def edge (rs : List (Fld × Nat × Nat × Nat)) (qs : List (Qty × Nat × Nat × Int)) : State :=
  mk ([(.SYS_ROLE, 0, 0, 2), (.SYS_NODE, 0, 0, 2), (.SYS_GEOM, 0, 0, 3), (.SYS_EDGE_COUNT, 0, 0, 8), (.SU_STATE, 0, 0, 3), (.RD_ACTIVE_NODE, 0, 0, 32),
    (.RD_FORMAT, 0, 0, 0x0D), (.RD_STATE_RASTER, 0, 0, 2), (.ORD_STATE, 0, 0, 1)] ++ rs) ((.powerGood, 0, 0, 1) :: qs)
def edge1 : State := edge [(.ORD_APPLIED, 0, 0, 41)] []
def notice : Rec := ⟨1, 42, 32, 2, ⟨100, 0, 0, false⟩, []⟩
/-- A LOCK (mode 1, holder 7) of router output 2 * 128 + 5. -/
def lockRec (order frame : Nat) : Rec := ⟨3, order, 32, 2, ⟨frame, 0, 0, false⟩, [encodeLock 261 1 7 false]⟩

theorem wit_OrderedRecords_stale : sound edge1 = true ∧ edge1.rd .SU_STATE = 3 ∧ { notice with sender := 33 }.sender ≠ edge1.activeNode
    ∧ did (.orderedRecordArrival 5 { notice with sender := 33 } true) edge1 (fun u => u.rd .RD_STALE_RECORDS == 1 && u.rd .ORD_APPLIED == 41) = true
    ∧ did (.orderedRecordArrival 5 notice false) edge1 (fun u => u.rd .FAB_TAG_FAILS == 1 && u.rd .ORD_APPLIED == 41) = true := by decide +kernel
theorem wit_OrderedRecords_notice : notice.sender = edge1.activeNode ∧ edge1.rd .ORD_STATE = 1 ∧ edge1.buf = [] ∧ notice.order = edge1.nextOrder
    ∧ edge1.itemsOf notice = [] ∧ did (.orderedRecordArrival 5 notice true) edge1 (fun u => u.rd .ORD_APPLIED == 42 && u.rd .ORD_SEEN == 42
      && u.rd .ORD_STATE == 1 && u.acts == [] && u.buf == []) = true := by decide +kernel
theorem wit_OrderedRecords_lock : (lockRec 42 100).order = edge1.nextOrder ∧ edge1.itemsOf (lockRec 42 100) = [.lock 5 1 7]
    ∧ edge1.domFormat 0 = some ⟨60000, 1001, 1125, 2200, 7, 0⟩ ∧ edge1.acts = []
    ∧ (edge1.since 5).house ≤ (⟨60000, 1001, 1125, 2200, 7, 0⟩ : Format).frameStart 100
    ∧ did (.orderedRecordArrival 5 (lockRec 42 100) true) edge1 (fun u => u.rd .ORD_APPLIED == 42 && u.rd .SCHED_PENDING == 1 && u.acts ==
      [⟨42, 3, ⟨100, 0, 0, false⟩, 0, 100, .frameStart, (⟨60000, 1001, 1125, 2200, 7, 0⟩ : Format).frameStart 100, 0, 0, .lock 5 1 7⟩]) = true := by decide +kernel
theorem wit_OrderedRecords_late : (⟨60000, 1001, 1125, 2200, 7, 0⟩ : Format).frameStart 102 < (edge1.since (2 * psS)).house
    ∧ did (.orderedRecordArrival (2 * psS) (lockRec 42 100) true) edge1 (fun u => u.rd .ORD_APPLIED == 42 && u.rd .ORD_REFUSED_LATE == 1
      && u.latched .ACTION_REFUSED_LATE && u.acts == []) = true := by decide +kernel
theorem wit_OrderedRecords_gap : (lockRec 297 100).order ≠ edge1.nextOrder ∧ later 297 edge1.nextOrder = true ∧ orderDiff 297 edge1.nextOrder = 255
    ∧ did (.orderedRecordArrival 5 (lockRec 297 100) true) edge1 (fun u => u.rd .ORD_STATE == 2 && u.rd .ORD_APPLIED == 41 && u.rd .ORD_GAPS == 1
      && u.buf == [lockRec 297 100] && u.latched .ORDER_GAP && u.timer .gap == some (5 + 64 * psMs) && u.timer .replay == some (5 + psMs)) = true := by decide +kernel
theorem wit_OrderedRecords_lost : later 298 edge1.nextOrder = true ∧ orderDiff 298 edge1.nextOrder = 256
    ∧ did (.orderedRecordArrival 5 (lockRec 298 100) true) edge1 (fun u => u.rd .ORD_STATE == (if edge1.rd .ORD_RESYNC_AUTO = 1 then 4 else 3)
      && u.rd .ORD_LOSSES == 1 && u.buf == [] && u.latched .ORDER_LOST) = true := by decide +kernel
theorem wit_OrderedRecords_duplicate : later 41 edge1.nextOrder = false ∧ did (.orderedRecordArrival 5 (lockRec 41 100) true) edge1
    (fun u => u.rd .ORD_DUPLICATES == 1 && u.rd .ORD_APPLIED == 41 && u.rd .ORD_STATE == 1 && u.out == []) = true := by decide +kernel

def edgeLost : State := edge [(.ORD_APPLIED, 0, 0, 41), (.ORD_STATE, 0, 0, 3)] []
theorem wit_OrderedRecords_resync : sound edgeLost = true ∧ notice.order = edgeLost.nextOrder ∧ orderWrite notice = false
    ∧ did (.orderedRecordArrival 5 { notice with kind := 5, body := [0x40000140 + 4 * 2 ^ 40, 1] } true) edgeLost (fun u => u.rd .ORD_STATE == 4 && u.out == [.resyncReq 32]) = true
    ∧ did (.orderedRecordArrival 5 notice true) edgeLost (fun u => u.rd .ORD_STATE == 3 && u.rd .ORD_APPLIED == 41 && u.out == []) = true := by decide +kernel

def edgeGap : State := { edge [(.ORD_APPLIED, 0, 0, 41), (.ORD_STATE, 0, 0, 2)] [] with
  buf := [lockRec 44 100], timers := tms [(.gap, 0, 500), (.replay, 0, 400)] }
theorem wit_Gaps : sound edgeGap = true ∧ edgeGap.rd .ORD_STATE = 2 ∧ (edgeGap.since 500).due .replay = true ∧ (edgeGap.since 500).due .gap = true
    ∧ edgeGap.missing = [(42, 2)]
    ∧ did (.replayRepeat 500) edgeGap (fun u => u.out.length == 1 && u.regs == edgeGap.regs && u.timer .replay == some (500 + psMs)) = true
    ∧ did (.gapTimeout 500) edgeGap (fun u => u.rd .ORD_STATE == 3 + edgeGap.rd .ORD_RESYNC_AUTO && u.buf == [] && u.latched .ORDER_LOST
      && u.timer .gap == none && u.timer .replay == none) = true
    ∧ did (.replayAns 5 32 42 2 true) edgeGap (fun u => u.rd .ORD_LOSSES == 1 && u.buf == []) = true
    ∧ did (.replayAns 5 33 42 2 true) edgeGap (fun u => u.rd .RD_STALE_RECORDS == 1 && u.buf == edgeGap.buf) = true
    ∧ did (.replayAns 5 32 42 2 false) edgeGap (· == (edgeGap.since 5)) = true := by decide +kernel
theorem wit_Gaps_resync : sound (edge [(.ORD_STATE, 0, 0, 3)] []) = true ∧ did (.ordResyncReq 1) (edge [(.ORD_STATE, 0, 0, 3)] [])
    (fun u => u.rd .ORD_STATE == 4 && u.out == [.resyncReq 32]) = true ∧ did (.ordResyncReq 1) edge1 (fun u => u.regs == edge1.regs && u.out == [.written 0x40000140 Status.REFUSED.code [0]]) = true := by decide +kernel
theorem wit_Gaps_spent : sound (edgeGap.setQ .msgCounter 0 0 0x100000000) = true ∧ (edgeGap.setQ .msgCounter 0 0 0x100000000).counterSpent = true
    ∧ did (.replayRepeat 500) (edgeGap.setQ .msgCounter 0 0 0x100000000) (fun u => u.out == [] && (u.timer .joinSend).isSome) = true := by decide +kernel

/-- A centre module C0 of plane A that is the active manager. -/
def mgr (rs : List (Fld × Nat × Nat × Nat)) (qs : List (Qty × Nat × Nat × Int)) : State :=
  mk ([(.SYS_ROLE, 0, 0, 3), (.SYS_NODE, 0, 0, 32), (.SYS_GEOM, 0, 0, 3), (.SYS_EDGE_COUNT, 0, 0, 8), (.SU_STATE, 0, 0, 3), (.RD_ACTIVE_NODE, 0, 0, 32),
    (.SYS_MGR_ROLE, 0, 0, 1), (.RD_FORMAT, 0, 0, 0x0D), (.RD_STATE_RASTER, 0, 0, 2), (.ORD_STATE, 0, 0, 1)] ++ rs) ((.powerGood, 0, 0, 1) :: qs)
def mgr1 : State := { mgr [(.ORD_NEXT, 0, 0, 44)] [] with hist := [⟨42, 3, ⟨9, 0, 0, false⟩, 64, [encodeLock 261 1 7 false]⟩, ⟨43, 1, ⟨9, 0, 0, false⟩, 64, [encodeTake ⟨259, false, 4, 0, false, false, 0, false, false, false, false⟩]⟩] }
theorem wit_Gaps_manager : sound mgr1 = true ∧ mgr1.isManager = true ∧ mgr1.standAlone = false
    ∧ did (.replayReq 5 2 42 3) mgr1 (fun u => u.out.length == 3 && u.regs == mgr1.regs
      && (match u.out.getLast? with | some (.record false r) => r.kind == 9 && r.body == [42 + 3 * 2 ^ 48] | _ => false)) = true
    ∧ did (.replayReq 5 2 41 1) mgr1 (fun u => (match u.out.getLast? with | some (.record false r) => r.body == [41 + 2 ^ 48 + 2 ^ 57] | _ => false)) = true
    ∧ edge1.isManager = false ∧ did (.replayReq 5 2 42 3) edge1 (· == (edge1.since 5)) = true := by decide +kernel

def legHere : Leg := ⟨2, 0, [3], false, true, 0, 0, 2, 4, 0, 0, 259, none⟩
def imgC : ImgBuf := ⟨77, ⟨0, 0, 0, false⟩, [.slot { legHere with link := 64 }], true⟩
def centreJoining : State := { mk [(.SYS_ROLE, 0, 0, 3), (.SYS_NODE, 0, 0, 33), (.SYS_GEOM, 0, 0, 3), (.SYS_EDGE_COUNT, 0, 0, 8), (.SU_STATE, 0, 0, 3),
    (.RD_ACTIVE_NODE, 0, 0, 32), (.RD_FORMAT, 0, 0, 0x0D), (.RD_STATE_RASTER, 0, 0, 2)] [(.managerEpoch, 0, 0, 3)] with timers := tms [(.joinSend, 0, 100)] }
theorem wit_Images_part : sound edge1 = true ∧ edge1.rd .ORD_STATE ≠ 5 ∧ edge1.img = none
    ∧ did (.image 5 32 77 ⟨0, 0, 0, false⟩ [.slot legHere] false) edge1 (fun u => u.rd .ORD_STATE == 4 && u.img == some ⟨77, ⟨0, 0, 0, false⟩, [.slot legHere], false⟩) = true
    ∧ did (.image 5 32 77 ⟨0, 0, 0, false⟩ [] true) { edge1 with img := some { imgC with complete := false } } (fun u => u.img == some imgC) = true := by decide +kernel
theorem wit_Images_far : sound { edge1 with buf := [lockRec 400 100] } = true
    ∧ did (.image 5 32 77 ⟨0, 0, 0, false⟩ [] true) { edge1 with buf := [lockRec 400 100] } (fun u => u.img == none && u.buf == [] && u.out == [.resyncReq 32]
      && u.rd .ORD_STATE == 4) = true := by decide +kernel
theorem wit_Images_load : sound { centreJoining with img := some imgC } = true ∧ (({ centreJoining with img := some imgC } : State).since 5).imageReady = true
    ∧ centreJoining.rd .RD_ROLE = 0 ∧ centreJoining.rd .RD_STATE_PAIR = 0 ∧ centreJoining.buf = [] ∧ centreJoining.nodes = []
    ∧ did (.stateImageLoad 5) { centreJoining with img := some imgC } (fun u => u.rd .ORD_APPLIED == 77 && u.rd .ORD_STATE == 1 && u.img == none && u.acts == []
      && u.timer .joinSend == none && u.legs == ([{ legHere with link := 64 }].filter centreJoining.myLeg)) = true := by decide +kernel
theorem wit_Images_join : centreJoining.standAlone = false ∧ (centreJoining.since 100).due .joinSend = true
    ∧ did (.joinSend 100) centreJoining (fun u => u.out == (centreJoining.joinTargets.map fun n => Sent.join false n 0 0) && u.timer .joinSend == some (100 + 10 * psMs)) = true
    ∧ mgr1.standAlone = false ∧ mgr1.isManager = true
    ∧ did (.join 5 2 0 0 false) mgr1 (fun u => u.rd .FAB_TAG_FAILS == 1 && u.out == []) = true
    ∧ did (.join 5 2 9 0 true) mgr1 (fun u => u.out == [.joinAnswer 2 (.peerUntested 0)]) = true
    ∧ did (.join 5 2 9 0 true) { mgr1 with fwRun := some ⟨1, [], 0, 0, true, [], [], [9], 0, []⟩ } (fun u => u.out.length == 2
      && u.out.head? == some (.joinAnswer 2 (.admitted 0 0 1)) && u.qn .joinCount 2 0 == 1) = true
    ∧ did (.join 5 2 9 1 true) { mgr1 with fwRun := some ⟨1, [], 0, 0, true, [], [], [9], 0, []⟩ } (fun u => u.out == [.joinAnswer 2 .mismatch]) = true := by
  decide +kernel
theorem wit_Images_answer : sound centreJoining = true ∧ centreJoining.isManager = false ∧ centreJoining.rd .RD_STATE_PAIR ≠ 1 ∧ centreJoining.q .managerEpoch ≠ 0
    ∧ centreJoining.rd .ORD_STATE = 0
    ∧ did (.joinAnswer 5 32 (.admitted 6 7 8) true) centreJoining (fun u => u.rd .SEC_ROUTER_START == 6 && u.rd .SEC_INCARNATION == 8 && u.timer .joinSend == none) = true
    ∧ did (.joinAnswer 5 32 .mismatch true) centreJoining (fun u => u.rd .ORD_STATE == 5 && u.latched .TOPOLOGY_MISMATCH) = true
    ∧ did (.joinAnswer 5 32 (.peerUntested 9) true) centreJoining (fun u => u.rd .SU_STATE == 5 && u.rd .SU_PEER_SET == 9 && u.latched .RESTRICTED_ENTERED) = true := by
  decide +kernel
theorem wit_Images_occupancy : mgr1.rd .SYS_MGR_ROLE ≠ 0 ∧ Nat.land (mgr1.vOpen.get 0 2) 5 = mgr1.vOpen.get 0 2 ∧ later 42 mgr1.lastOrder = false
    ∧ did (.occupancy 5 2 42 1 5) mgr1 (fun u => u.vApplied.get 0 2 == 42 && u.vOpen.get 0 2 == 5 && u.rd .FAB_MODEL_DIVERGE == 0) = true := by decide +kernel

/-- A member of the manager pair that listens. -/
def listener : State := { mk [(.SYS_ROLE, 0, 0, 3), (.SYS_NODE, 0, 0, 32), (.SYS_GEOM, 0, 0, 3), (.SU_STATE, 0, 0, 3), (.RD_ROLE, 0, 0, 1), (.RD_STATE_PAIR, 0, 0, 1)] []
  with timers := tms [(.listen, 0, 100)] }
theorem wit_Images_listen : sound listener = true ∧ did (.joinSend 100) { listener with timers := tms [(.joinSend, 0, 100)] }
    (fun u => u.out.head? == some (Sent.join true 0 0 0)) = true := by decide +kernel
theorem wit_FrameCounts : sound edge1 = true ∧ edge1.isManager = false ∧ edge1.domReady 0 = true
    ∧ did (.fabFrameCountReceive 5 0) edge1 (fun u => u.q .slipPending == 0 && u.rd .RD_COUNT_VALID 0 == 1 && u.rd .RD_COUNT_VALID 1 == 0) = true
    ∧ did (.fabFrameCountReceive 5 3) edge1 (fun u => u.q .slipPending == 1 && u.q .slipCount == 3 && u.rd .RD_COUNT_VALID 0 == 0) = true
    ∧ edge1.q .slipPending = 0 ∧ did (.frameCountSlip 5) edge1 (· == (edge1.since 5)) = true
    ∧ sound (edge [] [(.slipPending, 0, 0, 1), (.slipCount, 0, 0, 3)]) = true := by decide +kernel

theorem wit_OrderNumbers : sound listener = true ∧ (listener.since 100).due .listen = true ∧ listener.rd .RD_STATE_PAIR = 1 ∧ listener.mgrPair = true
    ∧ later 1 0xFFFFFFFFFFFF = true ∧ later 0x800000000000 1 = true ∧ later 0x800000000001 1 = false ∧ later 5 5 = false
    ∧ (mk [(.SYS_ROLE, 0, 0, 1)] []).standAlone = true ∧ (mk [(.ORD_NEXT, 0, 0, 1)] []).lastOrder = 0 := by decide +kernel

-- Video inputs, fabric links and cells, takes -------------------------------------------------------------------------

/-- A stand-alone module that runs, D0 and D1 in format 0Dh. -/
def alone (rs : List (Fld × Nat × Nat × Nat)) (qs : List (Qty × Nat × Nat × Int)) : State :=
  mk ([(.SYS_ROLE, 0, 0, 1), (.SYS_GEOM, 0, 0, 1), (.SU_STATE, 0, 0, 3), (.RD_FORMAT, 0, 0, 0x0D), (.RD_STATE_RASTER, 0, 0, 2), (.RD_FORMAT, 1, 0, 0x0D),
    (.RD_STATE_RASTER, 1, 0, 2), (.ORD_STATE, 0, 0, 1), (.SYS_MGR_ROLE, 0, 0, 1), (.ORD_NEXT, 0, 0, 1), (.SEC_STATE, 0, 0, 1)] ++ rs) ((.powerGood, 0, 0, 1) :: qs)
def frm : SdiFrame := ⟨4000, true, 2200, 1125, false, 3, 1, 0, false, none, false, true, 0, false, 0, 2, 1, 1, []⟩
def sig0D : Nat := sdiSig frm
def input3 (st dom : Nat) : State := alone [(.VI_PORT_MODE, 7, 0, 1), (.VI_STATE, 7, 0, st), (.VI_DOMAIN, 7, 0, dom)]
  [(.viLastFmt, 7, 0, sig0D), (.viSame, 7, 0, 1), (.viLastOk, 7, 0, sig0D), (.viOther, 7, 0, 1)]
theorem wit_SdiFrames : sound (input3 3 0) = true ∧ (input3 3 0).rd .VI_PORT_MODE 7 = 1 ∧ 3 ≤ (input3 3 0).rd .VI_STATE 7 ∧ (input3 3 0).rd .VI_LINK_MODE 7 = 0
    ∧ sdiFmt frm = 0x0D ∧ (input3 3 0).qn .viLastFmt 7 = sdiSig frm ∧ (input3 3 0).idleBlock 2 = false
    ∧ did (.sdiFrameReceived 9 7 frm) (input3 3 0) (fun u => u.rd .VI_STATE 7 == 4 && u.rd .VI_FMT 7 == 0x0D && u.rd .VI_RATE 7 == 3
      && u.rd .VI_CRC_LINES 7 == 2 && u.rd .VI_ANC_CS_ERRS 7 == 1 && u.rd .VI_AUD_PKT_ERRS 7 == 1 && u.rd .VI_BAD_FRAMES 7 == 0) = true
    ∧ did (.sdiFrameReceived 9 7 { frm with samples := 8, lines := [[1, 2], [3, 4]] }) (input3 3 0) (fun u =>
      u.loadLE ((input3 3 0).storeAt 7 ((input3 3 0).slotFor 7) + lineBytes 8) 3 == 3 + 4 * 2 ^ 10) = true
    ∧ did (.sdiFrameReceived 9 7 frm) (input3 3 2) (fun u => u.rd .VI_STATE 7 == 5 && u.rd .VI_MISMATCH_WHY 7 == 1 && u.latched .FORMAT_MISMATCH) = true
    ∧ did (.sdiFrameReceived 9 7 { frm with complete := false }) (input3 3 0) (fun u => u.rd .VI_STATE 7 == 3 && u.rd .VI_BAD_FRAMES 7 == 1) = true := by decide +kernel
theorem wit_SdiFrames_ready : sound (input3 4 0) = true ∧ did (.sdiFrameReceived 9 7 frm) (input3 4 0) (fun u => u.rd .VI_STATE 7 == 4 && u.rd .VI_BAD_FRAMES 7 == 0) = true
    ∧ did (.sdiFrameReceived 9 7 { frm with samples := 2640 }) (input3 4 0) (fun u => u.rd .VI_STATE 7 == 3 && u.rd .VI_BAD_FRAMES 7 == 1) = true
    ∧ did (.sdiFrameReceived 9 7 frm) (input3 5 0) (fun u => u.rd .VI_STATE 7 == 4) = true := by decide +kernel

def rated (sync : Nat) (cnt : Int) : State := alone [(.VI_PORT_MODE, 7, 0, 1), (.VI_STATE, 7, 0, 4), (.VI_FMT, 7, 0, 0x0D), (.VI_SYNC_SRC, 7, 0, sync)] [(.viSyncCnt, 7, 0, cnt)]
theorem wit_SourceRate : sound (rated 0 48) = true ∧ 3 ≤ (rated 0 48).rd .VI_STATE 7
    ∧ did (.sdiRateMeasure 9 7 (-100)) (rated 0 48) (fun u => u.rd .VI_SYNC_SRC 7 == 1 && u.rd .VI_ASRC 7 == 0 && u.rdS .VI_OFFSET_PPM 7 == -100 && u.rd .VI_STATE 7 == 4) = true
    ∧ did (.sdiRateMeasure 9 7 100) (rated 0 47) (fun u => u.rd .VI_SYNC_SRC 7 == 0 && u.rd .VI_ASRC 7 == 1) = true
    ∧ did (.sdiRateMeasure 9 7 200) (rated 1 0) (fun u => u.rd .VI_SYNC_SRC 7 == 1) = true ∧ did (.sdiRateMeasure 9 7 201) (rated 1 0) (fun u => u.rd .VI_SYNC_SRC 7 == 0) = true
    ∧ did (.sdiRateMeasure 9 7 50001) (rated 0 0) (fun u => u.rd .VI_STATE 7 == 5 && u.rd .VI_MISMATCH_WHY 7 == 2) = true := by decide +kernel

/-- The edge module with link 0 in a state. -/
def linked (st : Nat) (qs : List (Qty × Nat × Nat × Int)) : State := { edge [(.FL_STATE, 0, 0, st), (.LN_RX_STATE, 128, 0, 4)] qs with
  timers := tms [(.flHold, 0, 50), (.flNew, 0, 50), (.flAdmit, 0, 50)] }
theorem wit_FabricLinks : sound (linked 0 []) = true ∧ (linked 0 []).idleBlock 3 = false ∧ (linked 0 []).linkUsed 0 = true ∧ (linked 4 []).inService 0 = true
    ∧ (linked 7 []).rd .FL_STATE 0 = 7 ∧ ((linked 7 []).since 50).due .flHold 0 = true ∧ ((linked 4 []).since 50).due .flNew 0 = true
    ∧ ({ linked 4 [] with legs := [legHere] } : State).linkBusy 0 = true := by decide +kernel

theorem wit_LinkAdmission : sound (linked 1 []) = true ∧ (linked 1 []).rd .LN_RX_STATE ((linked 1 []).linkLane 0) = 4 ∧ (linked 1 []).rd .LN_TX_STATE ((linked 1 []).linkLane 0) < 2
    ∧ sound (linked 2 [(.admitFar, 0, 0, 1)]) = true ∧ (linked 2 []).rd .FL_STATE 0 = 2 ∧ ((linked 2 []).since 50).due .flAdmit 0 = true ∧ (linked 2 []).rd .SEC_STATE = 0
    ∧ did (.challenge 5 0 32 4 false) (linked 2 []) (fun u => u.qn .flChFar 0 == 32 + 4 * 64 && u.out == [.admission 0 2 0]) = true
    ∧ did (.challenge 5 0 32 4 true) (linked 2 []) (fun u => u.out == [.admission 0 3 0]) = true
    ∧ did (.chain 5 0 true) (linked 2 []) (fun u => u.out == [.admission 0 3 0] && u.regs == (linked 2 []).regs) = true
    ∧ did (.result 5 0 0) (linked 2 []) (fun u => u.q .admitFar 0 == 1 && u.rd .FL_STATE 0 == 2 && u.timer .flAdmit 0 == none) = true := by decide +kernel
def linkedOwned : State := { edge [(.FL_STATE, 0, 0, 2), (.SEC_STATE, 0, 0, 1), (.SEC_OWNER_DIGEST, 0, 0, 77), (.FL_FAR_NODE, 0, 0, 32), (.FL_FAR_LINK, 0, 0, 64)] [(.admitFar, 0, 0, 1), (.flChFar, 0, 0, 32 + 64 * 64)] with
  timers := tms [(.flAdmit, 0, 50)] }
theorem wit_LinkAdmission_owned : sound linkedOwned = true ∧ linkedOwned.rd .SEC_STATE ≠ 0 ∧ linkedOwned.q .admitFar 0 = 1 ∧ linkedOwned.farOf 0 = (32, 64) := by decide +kernel

def sending (pos : Int) : State := { edge [(.FL_STATE, 0, 0, 4), (.FL_CREDITS_CTRL, 0, 0, 1), (.FL_CREDITS_AUD, 0, 0, 1), (.VI_PORT_MODE, 3, 0, 1), (.VI_STATE, 3, 0, 4),
    (.VI_RATE, 3, 0, 3), (.VI_FMT, 3, 0, 0x0D), (.VI_ALIGN, 3, 0, 1)] [(.flCalPos, 0, 0, pos), (.auTxLink, 256, 0, 1)] with
  legs := [{ legHere with slot := 0 }], exports := [⟨0, 12, List.replicate cellPeriods []⟩] }
def ready : CellReady := ⟨70000, true, 99⟩
def ctrlRec : TxRec := ⟨0, 3, 0, 0, 9, 2, false, [11, 12]⟩
theorem wit_CellsSent : sound (sending 0) = true ∧ (sending 0).inService 0 = true ∧ (sending 0).controlOnly = false ∧ (sending 0).fenced = false
    ∧ ((sending 0).legs.any fun g => g.hand && g.node == (sending 0).ownNode && g.link == (sending 0).mirror 0) = false ∧ calPos 0 = .video 0 0
    ∧ (sending 0).owner 0 0 = some { legHere with slot := 0 }
    ∧ ((sending 0).since 5).videoReady 0 { legHere with slot := 0 } (some ready) = some ⟨0, clVideo, 259, 70000 % 2 ^ 16, true, 0, 70000, 99⟩
    ∧ (sending 1).owner 0 1 = none ∧ calPos 15 = .audio ∧ calPos 127 = .control ∧ ((sending 15).audioReady 0).map Prod.snd = some 12
    ∧ (edge [(.FL_STATE, 0, 0, 4)] []).audioReady 0 = none ∧ calPos 511 = .control := by decide +kernel
def leaves (p : Cell → Bool) (u : State) : Bool := match u.out with | [.cell 0 c] => p c | _ => false
theorem test_cells_leave : did (.fabricCellSend 5 0 (some ready)) (sending 0) (fun u => u.q .flCalPos 0 == 1 && u.q .seqTx 259 0 == 70001
      && leaves (fun c => c.cls == 1 && c.fs && c.stream == 259 && c.seq == 70000 % 2 ^ 16 && c.payload == 99 && !c.sp) u) = true
    ∧ did (.fabricCellSend 5 0 none) { sending 1 with txRecs := [ctrlRec, ⟨0, 2, 0, 0, 4, 2, false, [7]⟩, ⟨0, 0, 0, 0, 4, 2, false, [5]⟩] } (fun u => u.rd .FL_CREDITS_CTRL 0 == 0
      && u.txRecs == [⟨0, 2, 0, 0, 4, 2, false, [7]⟩] && leaves (fun c => c.cls == 3 && c.fs && c.stream == 9 + 2 * 2 ^ 8 && c.payload == 11 + 12 * 2 ^ 64 && c.sp && c.su && c.spore == 5) u) = true
    ∧ did (.fabricCellSend 5 0 none) (sending 15) (fun u => u.rd .FL_CREDITS_AUD 0 == 0 && leaves (fun c => c.cls == 2 && c.stream == 256 && c.seq == 12 / cellPeriods) u) = true
    ∧ did (.fabricCellSend 5 0 none) { edge [(.FL_STATE, 0, 0, 4)] [(.flCalPos, 0, 0, 511)] with txRecs := [⟨0, 1, 0, 0, 0, 0, false, [8]⟩] } (fun u => u.q .flCalPos 0 == 0 && u.txRecs == []
      && leaves (fun c => c.cls == 0 && c.sp && c.sl && !c.su && c.spore == 8) u) = true := by decide +kernel

def cellOf (cls stream seq : Nat) : CellIn := ⟨sealCell { emptyCell with cls := cls, stream := stream, seq := seq, payload := 77 }, false, false, 3, true⟩
/-- Router input 400 feeds output 5 here from plane A; its last frame opened at sequence number 0. -/
def fed : State := { edge [(.FL_STATE, 0, 0, 4), (.VO_STD_NOW, 5, 0, 3), (.XS_CUR, 5, 0, 400), (.XS_CUR_BLACK, 5, 0, 0), (.XS_PLANES, 5, 0, 3)] [(.rxAt, 400, 0, 1)] with
  legs := [⟨32, 2, [261], false, false, 0, 0, 2, 0, 0, 2, 400, none⟩] }
theorem wit_CellsReceived : sound fed = true ∧ fed.inService 0 = true ∧ fed.fedBy 400 = ([5], 2) ∧ fed.linkFormat 5 = some ⟨60000, 1001, 1125, 2200, 7, 0⟩
    ∧ fed.domFormat 0 = some ⟨60000, 1001, 1125, 2200, 7, 0⟩ ∧ (cellOf 1 400 7).cell.sp = false := by decide +kernel
theorem cellBytes_crc (c : Cell) (x : Nat) : cellBytes { c with crc := x } = cellBytes c := by
  unfold cellBytes; rfl
theorem sealed_passes_crc (c : Cell) : (sealCell c).crc = cellCrc (sealCell c) := by
  have h : cellCrc (sealCell c) = cellCrc c := by unfold cellCrc sealCell; rw [cellBytes_crc]
  rw [h]; simp only [sealCell]
theorem wit_CellsReceived_crc : (cellOf 1 400 7).cell.crc = cellCrc (cellOf 1 400 7).cell := sealed_passes_crc _
theorem wit_CellsReceived_control : ((fed.setQ .flNewCtrl 0 0 16).since 5).creditDue 0 0 0 = true ∧ (fed.since 5).creditDue 0 0 0 = false
    ∧ did (.creditSend 5 0 0 0) (fed.setQ .flNewCtrl 0 0 16) (fun u => u.out == [.credit 0 16 0] && u.qn .flFreedCtrl 0 == 16 && u.q .flNewCtrl 0 == 0 && u.txRecs.length == 1) = true
    ∧ did (.creditSend 5 0 1 0) (fed.setQ .flNewCtrl 0 0 17) (fun u => u.out == [.credit 0 16 0] && u.q .flNewCtrl 0 == 1) = true
    ∧ ordered 10 = false ∧ bits (([(2 : Nat) ^ 48 * 10 + 5]).headD 0) 48 4 ≠ 12 := by decide +kernel
theorem test_calendar_counts : ((List.range 512).map calPos).countP (fun p => p == .audio) = 28 ∧ ((List.range 512).map calPos).countP (fun p => p == .control) = 4
    ∧ crc16Byte 0xFFFF 0x31 = 0xC782 := by decide +kernel

def selecting (planes mode : Nat) (have_ : List Nat) : State := { (fed.setReg .XS_PLANES 5 0 planes).setReg .XS_SEL_MODE 5 0 mode with
  copies := have_.map fun p => ⟨400, p, 7, 7, 0x1234 + p⟩ }
theorem wit_Selector : sound (selecting 3 0 [1]) = true ∧ (selecting 3 0 [1]).feed 5 = .remote
    ∧ did (.fabricDeliveryMoment 5 5 400 7) (selecting 3 0 [1]) (fun u => u.rd .XS_ALT_CELLS 5 == 1 && u.rd .FAB_LOST_BOTH == 0) = true
    ∧ did (.fabricDeliveryMoment 5 5 400 7) (selecting 3 2 [0]) (fun u => u.rd .FAB_LOST_BOTH == 0 && u.regs == (selecting 3 2 [0]).regs) = true
    ∧ did (.fabricDeliveryMoment 5 5 401 7) (selecting 3 0 [1]) (· == (selecting 3 0 [1]).since 5) = true
    ∧ did (.fabricDeliveryMoment 5 5 400 7) (selecting 3 0 [0, 1]) (fun u => u.regs == (selecting 3 0 []).regs) = true
    ∧ ((selecting 3 0 []).setReg .XS_CUR 5 0 259).feed 5 ≠ .remote
    ∧ did (.fabricDeliveryMoment 5 5 259 7) ((selecting 3 0 []).setReg .XS_CUR 5 0 259) (· == ((selecting 3 0 []).setReg .XS_CUR 5 0 259).since 5) = true := by decide +kernel

def takeOf (order out src : Nat) (imm : Bool) (at_ : Nat) : Pend :=
  ⟨order, 1, ⟨1, 0, 0, imm⟩, 0, 1, .switchLine, at_, 0, 0, .take out src false false (encodeTake ⟨out, false, src, 0, false, false, 0, false, false, false, true⟩)⟩
def takes : State := { alone [] [] with acts := [takeOf 5 3 9 false 100, takeOf 6 3 8 false 100, takeOf 7 4 9 false 200, takeOf 8 5 11 true 100] }
theorem wit_TakesAtSwitchPoint : sound takes = true ∧ (takes.since 100).lineDue = [] ∧ 3 < takes.ports ∧ takes.rd .VO_DOMAIN (takes.voBase 3) = 0 ∧ ((takes.since 100).takesDue 3 false).getLast? = some (takeOf 6 3 8 false 100)
    ∧ ((takes.since 100).takesDue 4 false).getLast? = none ∧ ((takes.since 100).takesDue 5 true).getLast? = some (takeOf 8 5 11 true 100) := by decide +kernel
def offs : State := alone [(.VO_PORT_MODE, 3, 0, 1), (.VO_STATE, 3, 0, 2), (.VO_PORT_MODE, 9, 0, 1), (.VO_STATE, 9, 0, 2), (.VO_DOMAIN, 3, 0, 1)] []
theorem wit_ImmediateAndOffset : sound offs = true ∧ offs.idleBlock 5 = false ∧ offs.rd .VO_LINK_MODE 3 < 2 ∧ offs.domFormat 1 = some ⟨60000, 1001, 1125, 2200, 7, 0⟩
    ∧ offsetNeeds (offs.clampOffset 3 0) ⟨60000, 1001, 1125, 2200, 7, 0⟩ = false
    ∧ offsetNeeds (offs.clampOffset 3 2475000) ⟨60000, 1001, 1125, 2200, 7, 0⟩ = true ∧ offs.rd .VO_BUF 3 = 0 ∧ offs.freeBuffer = some 0 ∧ offs.noBuffer 3 2475000 = false := by
  decide +kernel

def locking : State := { offs with acts := [⟨5, 3, ⟨1, 0, 1, false⟩, 1, 1, .frameStart, 100, 0, 0, .lock 3 1 7⟩] }
def shadowed : State := { offs with shadows := [⟨.VO_EMB_MAP, 3, 0, 0x21, 1, 0⟩] }
theorem wit_FrameStarts : sound locking = true ∧ (locking.since 100).frameEnds 1 = true ∧ locking.rd .SU_STATE = 3 ∧ locking.q .ordHeld ≠ 1 ∧ locking.shadows = [] ∧ 100 ≤ (locking.since 100).house ∧ locking.rd .XS_LOCK_MODE 3 ≠ 1
    ∧ sound shadowed = true ∧ shadowed.acts = [] ∧ 0 ≤ (shadowed.since 100).house ∧ locking.rd .SYS_ROLE = 1 := by decide +kernel

-- Messages that order -------------------------------------------------------------------------------------------------

/-- Session `n` on a port (0 C0, 1 C1, 2 SVC), with every privilege and a full bucket. -/
def sess0 (n port : Nat) : Session := ⟨n, port, false, bucketFull, 0, 0, false, [], [], 0, [], none, 0, 0⟩
/-- The stand-alone module, claimed, with an open session. -/
def served (n port : Nat) (rs : List (Fld × Nat × Nat × Nat)) (qs : List (Qty × Nat × Nat × Int)) : State := { alone ([(.TS_STATE, n, 0, 2), (.TS_PORT, n, 0, port),
    (.TS_PRIV, n, 0, 0xFF), (.TS_CTRL_ID, n, 0, 9), (.ORD_NEXT, 0, 0, 44), (.ORD_APPLIED, 0, 0, 43), (.REF_STATE, 0, 0, 1)] ++ rs) qs with
  owners := [77], sessions := [sess0 n port] }
def m0 : Msg := ⟨5, 0, 7, false, true, true⟩
def orders0 : State := served 0 0 [(.VO_PORT_MODE, 3, 0, 1), (.VI_PORT_MODE, 4, 0, 1)] []
theorem wit_Ordering : sound orders0 = true ∧ m0.lenOk = true ∧ orders0.takes m0 = true ∧ orders0.orders m0 0 = true ∧ orders0.held = []
    ∧ (orders0.met m0).hasPort 3 = true ∧ (orders0.met m0).resolve ⟨0, 0, 0, true⟩ false = .ok ⟨0, 0, 0, true⟩ ∧ orders0.populated.contains 0 = true
    ∧ orders0.rd .REF_STATE = 1 := by decide +kernel
theorem wit_Ordering_lock : [3].Nodup ∧ (orders0.met m0).roomBar kLock ⟨0, 0, 0, true⟩ [(0, encodeLock 3 1 9 false)] = none
    ∧ (orders0.met m0).holdBar 9 false (bit (orders0.rd .TS_PRIV 0) 2) ⟨0, 3, 0, true⟩ = none := by decide +kernel
def audEnt : AudEntry := 3 * 2 ^ 16 + 4 * 2 ^ 48 + 2 ^ 81 + 64 * 2 ^ 96
def refSlew : Nat := (Fld.desc .REF_SLEW_PPB_S).addr
theorem wit_Ordering_write : refSlew ≠ amNodePort ∧ badRange refSlew 4 = none ∧ orders0.orders m0 (writePriv refSlew [6553700]) = true
    ∧ ((covered refSlew [6553700]).any fun x => pulseFields.contains x.fld) = false
    ∧ (match judgeWrite ((orders0.met m0).viewOf 0 0) (idleIn ((orders0.met m0).roleOf 0)) (fun _ _ => none) refSlew [6553700] with
       | .ok (ws, c) => !c && !(ws.any fun x => x.fld == .SYS_REMAP) | _ => false) = true
    ∧ ((orders0.met m0).capacity ((orders0.met m0).schedOf ⟨44, kWrite, ⟨0, 0, 0, true⟩, 0, encodeWrite refSlew [6553700]⟩)).isNone = true := by decide +kernel

-- IP flows and Ethernet ports -----------------------------------------------------------------------------------------

def ipFlows : State := { alone [(.IV_MODE, 5, 0, 1), (.OV_MODE, 5, 0, 1), (.OV_DUAL, 5, 0, 1), (.VO_STATE, 5, 0, 2), (.OV_ANC, 5, 0, 1), (.OA_MODE, 5, 0, 1), (.IV_LEG_A_UP, 5, 0, 1),
    (.VI_ALIGN, 5, 0, 0)] [(.ivLegSince, 11, 0, 1), (.ivLegLast, 11, 0, 100 * psMs)] with
  flows := [⟨false, 5, [1], [2], false, [], 0, 0, 0⟩, ⟨true, 5, [1], [], false, [], 0, 0, 0⟩], timers := tms [(.ivLeg, 10, 50), (.ivJoin, 5, 50)]
  rtp := [⟨5, 0, 0, 0, 0, none, none, [⟨9, 44, 0, [], 0, 0⟩], [], []⟩] }
def pkt : IpPacket := ⟨false, 5, 0, 0, 8, 0, 0, false, false, 2, 4, [1, 2], [], [], none, none⟩
theorem wit_IpFlows : sound ipFlows = true ∧ (ipFlows.flow false 5).cur ≠ [] ∧ (ipFlows.flow true 5).cur ≠ [] ∧ (ipFlows.flow false 6).targetOf 0 = [] ∧ (ipFlows.flow false 6).want = []
    ∧ ipFlows.ipSends = true ∧ ipFlows.idleBlock 6 = false ∧ ((ipFlows.rtpOf 5).find? (fun x => x.key == rtpKey pkt 1)).isSome = true ∧ (ipFlows.flow false 5).since = 0
    ∧ did (.ipPacketReceive 9 { pkt with flow := 6 }) ipFlows (· == ipFlows.since 9) = true
    ∧ did (.ipPacketReceive 9 pkt) ipFlows (fun u => u.rd .IV_PKTS 5 == 1 && u.rd .IV_ALT_PKTS 5 == 0 && u.timer .ivLeg 10 == some (9 + 10 * psMs)
      && (u.rtp.getLast?.map fun g => g.pkts.map fun x => (x.seq, x.off, x.words)) == some [(9, 0, []), (8, 4, [1, 2])]) = true
    ∧ did (.ipPacketReceive 9 { pkt with seq := 9 }) ipFlows (fun u => u.rd .IV_PKTS 5 == 0 && u.rtp == ipFlows.rtp) = true
    ∧ did (.ipPacketReceive 9 { pkt with leg := 1 }) ipFlows (fun u => u.rd .IV_PKTS 5 == 1 && u.rd .IV_ALT_PKTS 5 == 1) = true
    ∧ did (.ipPacketReceive 9 pkt) (ipFlows.setQ .ivDone 5 0 1) (fun u => u.rd .IV_LATE_PKTS 5 == 1 && u.rd .IV_PKTS 5 == 0) = true := by decide +kernel
theorem wit_IpFlows_audio : did (.ipPacketReceive 9 { pkt with aud := true, ts := 5000, win := some (-100) }) ipFlows
      (fun u => u.rd .IA_PKTS 5 == 1 && u.rd .IA_SYNC 5 == 1 && u.rd .IA_ASRC 5 == 0) = true
    ∧ did (.ipPacketReceive 9 { pkt with aud := true, ts := 5000, win := some 201 }) ipFlows (fun u => u.rd .IA_SYNC 5 == 0 && u.rd .IA_ASRC 5 == 1) = true := by decide +kernel
theorem wit_IpFlows_legs : (ipFlows.since 50).due .ivLeg 10 = true
    ∧ did (.ipLegDown 50 false 5 0) ipFlows (fun u => u.rd .IV_LEG_A_UP 5 == 0 && u.timer .ivLeg 10 == none && u.latched .IP_LEG_DOWN) = true
    ∧ did (.ipLegUp (100 * psMs) false 5 1) ipFlows (fun u => u.rd .IV_LEG_B_UP 5 == 1 && u.latched .IP_LEG_UP) = true
    ∧ did (.ipLegUp (100 * psMs - 1) false 5 1) ipFlows (· == ipFlows.since (100 * psMs - 1)) = true
    ∧ did (.ipFlowQualify 9 false 5) ipFlows (fun u => (u.flow false 5).qualified && u.timer .ivJoin 5 == none) = true
    ∧ did (.ipFlowQualify 9 true 5) ipFlows (· == ipFlows.since 9) = true
    ∧ did (.ipJoinTimeout 50 false 5) ipFlows (fun u => u.latched .IP_JOIN_TIMEOUT && u.timer .ivJoin 5 == none) = true := by decide +kernel
theorem wit_IpFlows_send : ipFlows.domFormat (ipFlows.rd .VO_DOMAIN (ipFlows.voBase 5)) = some ⟨60000, 1001, 1125, 2200, 7, 0⟩
    ∧ did (.ipSendPacket 9 false false 5) ipFlows (fun u => u.out.length == 2 && u.rd .OV_PKTS 5 == 1 && u.q .ovSeq 5 0 == 1) = true
    ∧ did (.ipSendPacket 9 false true 5) (ipFlows.setQ .ovAnc 5 0 1) (· == (ipFlows.setQ .ovAnc 5 0 1).since 9) = true
    ∧ did (.ipSendPacket (2 * psMs) true false 5) ipFlows (fun u => u.out.length == 1 && u.rd .OA_PKTS 5 == 1 && u.q .oaSeq 5 == 1) = true
    ∧ did (.ipSendPacket 9 true false 5) ipFlows (· == ipFlows.since 9) = true
    ∧ (edge [(.RD_ROLE, 0, 0, 2), (.RD_STATE_PAIR, 0, 0, 6)] []).ipSends = false := by decide +kernel

def mac2 (st : Nat) (rs : List (Fld × Nat × Nat × Nat)) (qs : List (Qty × Nat × Nat × Int)) : State :=
  alone ([(.MC_STATE, 256, 0, st), (.MC_MODE, 256, 0, 3), (.MC_EEE, 256, 0, 1), (.MQ_RING_LEN, 256, 1, 8), (.MC_DEFAULT_Q, 256, 0, 1)] ++ rs) qs
def eth : EthFrame := ⟨false, 3000, true, none, 0x88B5, 0xFFFFFFFFFFFF, 0x12345678, false, 0, 0, 0, [1, 2, 3], none⟩
def small : EthFrame := { eth with len := 200 }
theorem wit_Frames : sound (mac2 2 [] []) = true ∧ (mac2 2 [] []).rd .MC_STATE 256 = 2 ∧ 200 ≤ (mac2 2 [] []).rd .MC_MAX_FRAME 256 ∧ (mac2 2 [] []).steer 256 small = some (64, 1)
    ∧ (mac2 2 [] []).rd .MQ_FILL 256 1 + 1 ≤ (mac2 2 [] []).rd .MQ_RING_LEN 256 1 ∧ (mac2 2 [(.MQ_FILL, 256, 1, 8)] []).rd .MQ_FILL 256 1 = (mac2 2 [] []).rd .MQ_RING_LEN 256 1
    ∧ (mac2 2 [(.MC_DEFAULT_DROP, 256, 0, 1)] []).steer 256 small = none
    ∧ did (.macFrameReceive 9 256 small) (mac2 2 [(.MQ_FILL, 256, 1, 8)] []) (fun u => u.rd .MQ_NOBUF 256 1 == 1 && u.rd .MQ_FILL 256 1 == 8 && u.out == []) = true
    ∧ did (.macFrameReceive 9 256 small) (mac2 2 [(.MC_DEFAULT_DROP, 256, 0, 1)] []) (fun u => u.rd .MC_RX_FILTER_DROPS 256 == 1) = true
    ∧ did (.macFrameReceive 9 256 { small with fcsOk := false }) (mac2 2 [(.MC_DEFAULT_DROP, 256, 0, 1)] []) (fun u => u.rd .MC_RX_FCS_ERRS 256 == 1) = true
    ∧ did (.macFrameReceive 9 256 { small with media := true }) (mac2 2 [] []) (fun u => u.rd .MC_RX_FRAMES 256 == 1 && u.rd .MQ_FRAMES 256 1 == 0) = true
    ∧ did (.macFrameReceive 9 256 { small with len := 63 }) (mac2 2 [] []) (fun u => u.rd .MC_RX_LEN_ERRS 256 == 1) = true := by decide +kernel
theorem wit_Frames_sleep : sound (mac2 3 [(.MC_WAKE_ETYPE, 256, 0, 0x88B5), (.MC_WAKE_KEY, 256, 0, 0x12345678)] []) = true
    ∧ (mac2 3 [(.MC_WAKE_ETYPE, 256, 0, 0x88B5), (.MC_WAKE_KEY, 256, 0, 0x12345678)] []).isWake 256 small = true
    ∧ did (.macFrameReceive 9 256 { small with key := 1 }) (mac2 3 [] []) (· == (mac2 3 [] []).since 9) = true
    ∧ did (.macFrameReceive 9 256 small) (mac2 4 [] []) (fun u => u.rd .MC_RX_WAKE_DROPS 256 == 1) = true := by decide +kernel

def queued : State := { mac2 2 [(.MC_EXPRESS, 256, 0, 0x80)] [] with txq := [⟨256, 1, 100, false⟩, ⟨256, 6, 200, false⟩] }
def cutting : State := mac2 2 [(.MC_EXPRESS, 256, 0, 0x80), (.MC_URGENT_MODE, 256, 0, 1), (.MC_VERIFY_STATE, 256, 0, 2)] [(.mcTxEnd, 256, 0, 5000)]
def gated : State := mac2 2 [(.MC_URGENT_MODE, 256, 0, 2), (.MC_GATE_ENTRIES, 256, 0, 2), (.GL_INTERVAL_NS, 256, 0, 500), (.GL_GATES, 256, 1, 3)] []
theorem wit_Transmit : sound queued = true ∧ queued.q .mcDraining 256 ≠ 1 ∧ queued.rd .MC_URGENT_MODE 256 ≠ 2 ∧ headOf queued.txq 256 6 = some ⟨256, 6, 200, false⟩
    ∧ headOf queued.txq 256 7 = none ∧ queued.qn .mcTxEnd 256 ≤ 9
    ∧ did (.macFrameTransmit 9 256 []) queued (fun u => u.txq == [⟨256, 1, 100, false⟩] && u.out == [.frame 256 6 200 false] && u.rd .MC_TX_FRAMES 256 == 1
      && u.qn .mcTxEnd 256 == 9 + 220 * queued.octetPs 256) = true
    ∧ sound cutting = true ∧ cutting.preempts 256 = true ∧ bit (cutting.rd .MC_EXPRESS 256) 7 = true
    ∧ did (.macFrameTransmit 9 256 [(.tagged 7, 64)]) cutting (fun u => u.out == [.frame 256 7 64 true] && u.rd .MC_TX_PREEMPTS 256 == 1 && u.txq == []) = true
    ∧ sound gated = true ∧ did (.gateCycleStart 9 256) gated (fun u => u.q .glStart 256 == (gated.since 9).gateStart 256 + 1 && (u.gateList 256).length == 2 && u.regs == gated.regs) = true := by decide +kernel

def portD : State := mac2 1 [] []
def portT (st : Nat) (qs : List (Qty × Nat × Nat × Int)) : State := { mac2 st [(.MC_VERIFY_STATE, 256, 0, 1)] qs with timers := tms [(.mcDrain, 256, 50), (.mcWake, 256, 50), (.mcVerify, 256, 50)] }
theorem wit_PortStates : sound portD = true ∧ portD.idleBlock 7 = false ∧ portD.rd .MC_MODE 256 = 3 ∧ portD.rd .LN_TX_STATE 256 < 2 ∧ sound (portT 2 [(.mcDraining, 256, 0, 1)]) = true
    ∧ ((portT 2 []).since 50).due .mcDrain 256 = true ∧ ((portT 4 []).since 50).due .mcWake 256 = true ∧ ((portT 2 []).since 50).due .mcVerify 256 = true
    ∧ (portT 2 []).sessionOn 0 = false ∧ (portT 2 []).houseOnPort 256 = false ∧ (∀ f ∈ (portT 2 []).txq, f.port ≠ 256)
    ∧ did (.mcSleepWrite 9 256 1) (portT 2 []) (fun u => u.rd .MC_SLEEP 256 == 1 && u.q .mcDraining 256 == 1 && u.timer .mcDrain 256 == some (9 + psMs)) = true
    ∧ did (.preemptVerifyTimer 50 256) (portT 2 []) (fun u => u.q .mcVerifyN 256 == 1 && u.out == [.verify 256 false]) = true
    ∧ did (.preemptVerifyTimer 50 256) (portT 2 [(.mcVerifyN, 256, 0, 3)]) (fun u => u.rd .MC_VERIFY_STATE 256 == 3 && u.latched .MAC_PREEMPT_FAIL && u.timer .mcVerify 256 == none) = true
    ∧ did (.lpiEnter 9 256 true) (portT 2 []) (fun u => u.rd .MC_LPI_TX 256 == 1 && u.rd .MC_LPI_ENTRIES 256 == 1 && u.out == [.lpi 256]) = true
    ∧ did (.partnerLowPowerIdle 9 256 true) (portT 2 []) (fun u => u.rd .MC_LPI_RX 256 == 1) = true := by decide +kernel

-- The audio matrix, Fern, TDM ----------------------------------------------------------------------------------------

def node (dst src : Nat) (transp : Bool) : ANode := ⟨dst, src, 0, false, 1, transp, 2 ^ 20, 2 ^ 20, 0, 0, false, 0, 0⟩
def mixing : State := { alone [] [(.auSrc, 0, 0, 1000), (.auSrc, 1, 0, 77), (.auSrc, 5635, 0, 50), (.auMm, 64, 0, 2 ^ 20), (.auBus, 3, 0, 1060)] with
  nodes := [node 64 0 false, node 64 1 false, node 96 1 true, node 8195 0 false, node 8195 1 false, node 70 5635 false, node 8000 0 false] }
theorem wit_AudioMix : sound mixing = true ∧ mixing.changes = [] ∧ (mixing.nodes.all fun n => !n.gone 0) = true ∧ mixing.rd .SU_STATE ≠ 5
    ∧ (mixing.nodes.filter fun x => x.dst == 96) = [node 96 1 true] ∧ mixing.rd .AS_ASRC 1 = 0
    ∧ chanOfSource mixing.fast 5635 = some (.bus 3) ∧ busDst 3 = 8195 ∧ mixing.rd .BUS_CLASS 3 = 0 ∧ chanOfSource mixing.fast 9 = some (.edge 0 9)
    ∧ mixing.destOut 64 0 = ((1078 : Int), (12 : Nat), false, (0 : Nat)) := by decide +kernel

def words (c b : Nat) (ws : List Nat) : List (Nat × Nat) :=
  ws.zipIdx.flatMap fun (w, i) => (List.range 4).map fun j => (fernCodeAt c + 16 * b + 4 * i + j, w / 2 ^ (8 * j) % 256)
/-- Core 2 runs bundle 1 of a program, at slot `slot` of words `ws`. -/
def fern (slot : Nat) (ws : List Nat) (qs : List (Qty × Nat × Nat × Int) := []) (rs : List (Fld × Nat × Nat × Nat) := []) : State :=
  { alone ([(.FC_STATE, 2, 0, 3), (.FC_PROG, 2, 0, 0), (.FC_CTRL_DIV, 2, 0, 1)] ++ rs) ((.fcPc, 2, 0, 1) :: (.fcSlot, 2, 0, slot) :: (.fcSize, 2, 0, 8) :: (.fcX, 2, 1, 5) :: (.fcX, 2, 2, 7) :: (.fcX, 2, 3, -3) ::
      (.fcAcc, 2, 4, 100) :: qs) with
    mem := ((words 2 1 ws).filter fun x => x.2 != 0).map fun x => (x.1, BitVec.ofNat 8 x.2) }
def slotWord (op d a b f : Nat) : Nat := op * 2 ^ 24 + d * 2 ^ 19 + a * 2 ^ 14 + b * 2 ^ 9 + f
def inC (op d a b f : Nat) : State := fern 3 [0, 0, 0, slotWord op d a b f]
def inL (op d a b f : Nat) : State := fern 2 [0, 0, slotWord op d a b f, 0]
def inM (op d a b f : Nat) : State := fern 0 [slotWord op d a b f, 0, 0, 0]

theorem wit_FernSlots : sound (inC 2 4 1 2 0) = true ∧ (inC 2 4 1 2 0).q .fcIdle 2 ≠ 1 ∧ wOp ((inC 2 4 1 2 0).slotAt 2 1 3) = 2 ∧ (inC 2 4 1 2 0).enabled 2 ((inC 2 4 1 2 0).slotAt 2 1 3) = true
    ∧ (inC 2 4 1 2 0).loopsOf 2 = [] ∧ (inC 2 4 1 2 0).landings = []
    ∧ did (.add 5 2) (inC 2 4 1 2 0) (fun u => u.q .fcX 2 4 == 12 && u.q .fcPc 2 == 2 && u.q .fcSlot 2 == 0 && u.q .fcCycles 2 == 1) = true
    ∧ did (.sub 5 2) (inC 3 4 1 2 0) (fun u => u.q .fcX 2 4 == -2) = true
    ∧ did (.and_ 5 2) (inC 4 4 1 3 0) (fun u => u.q .fcX 2 4 == 5) = true
    ∧ did (.or_ 5 2) (inC 5 4 1 2 0) (fun u => u.q .fcX 2 4 == 7) = true
    ∧ did (.xor 5 2) (inC 6 4 1 2 0) (fun u => u.q .fcX 2 4 == 2) = true
    ∧ did (.shl 5 2) (inC 7 4 1 2 0) (fun u => u.q .fcX 2 4 == 640) = true
    ∧ did (.shr 5 2) (inC 8 4 2 1 0) (fun u => u.q .fcX 2 4 == 0) = true
    ∧ did (.ldi 5 2) (inC 9 4 0 0 511) (fun u => u.q .fcX 2 4 == -1) = true
    ∧ did (.stat 5 2) (inC 15 4 0 0 0) (fun u => u.q .fcX 2 4 == 0 && u.q .fcPc 2 == 2) = true := by decide +kernel
theorem wit_FernFlow : did (.nop 5 2) (inC 0 0 0 0 0) (fun u => u.q .fcPc 2 == 2 && u.q .fcCycles 2 == 1) = true
    ∧ did (.mov4 5 2) (inC 1 30 1 0 0) (fun u => u.q .fcX 2 30 == 5 && u.q .fcX 2 31 == 7 && u.q .fcX 2 0 == -3 && u.q .fcX 2 1 == 0) = true
    ∧ did (.setp 5 2) (inC 10 3 1 0 0) (fun u => u.rd .FP_BASE 2 3 == 5) = true ∧ did (.setp 5 2) (inC 10 3 3 0 1) (fun u => u.rdS .FP_MOD 2 3 == -3) = true
    ∧ did (.setp 5 2) (inC 10 3 1 0 2) (fun u => u.rd .FP_LEN 2 3 == 5) = true ∧ did (.setp 5 2) (inC 10 3 1 0 3) (fun u => u.rd .FP_PTR 2 3 == 5) = true
    ∧ did (.loop 5 2) (inC 11 0 1 0 4) (fun u => u.q .fcPc 2 == 2 && u.loops == [⟨2, 2, 6, 5, false, 0, 0, 0, 0⟩]) = true
    ∧ did (.loop 5 2) (inC 11 0 9 0 4) (fun u => u.q .fcPc 2 == 7 && u.loops == [] && u.q .fcCycles 2 == 1) = true
    ∧ did (.rloop 5 2) (inC 12 9 1 0 4) (fun u => u.q .fcPc 2 == 2 && u.loops == [⟨2, 2, 6, 0, true, 5, 2, 4, 0⟩]) = true
    ∧ did (.br 5 2) (inC 13 0 1 0 0) (fun u => u.q .fcPc 2 == 5 && u.q .fcCycles 2 == 3) = true
    ∧ did (.br 5 2) (inC 13 0 1 9 1) (fun u => u.q .fcPc 2 == 2 && u.q .fcCycles 2 == 1) = true
    ∧ did (.setwb 5 2) (inC 14 0 0 0 19) (fun u => u.q .fcWb 2 == 19) = true
    ∧ did (.end_ 5 2) (inC 16 0 0 0 0) (fun u => u.q .fcIdle 2 == 1 && u.q .fcPc 2 == 2) = true := by decide +kernel
theorem wit_FernQuads : sound (inM 2 1 1 1 0) = true ∧ (inM 2 1 1 1 0).bundleFault 2 = 0 ∧ (inM 2 1 1 1 0).q .fcHalt 2 ≠ 1
    ∧ did (.mpy4 5 2) (inM 1 1 1 1 0) (fun u => u.q .fcSlot 2 == 1 && u.staged == [⟨2, 4, 25⟩, ⟨2, 5, 49⟩, ⟨2, 6, 9⟩, ⟨2, 7, 0⟩]) = true
    ∧ did (.mac4 5 2) (inM 2 1 1 1 0) (fun u => u.staged == [⟨2, 4, 125⟩, ⟨2, 5, 49⟩, ⟨2, 6, 9⟩, ⟨2, 7, 0⟩]) = true
    ∧ did (.msu4 5 2) (inM 3 1 1 1 4) (fun u => u.staged == [⟨2, 4, 75⟩, ⟨2, 5, -35⟩, ⟨2, 6, 15⟩, ⟨2, 7, 0⟩]) = true
    ∧ did (.clr4 5 2) (inM 4 1 0 0 0) (fun u => u.staged == [⟨2, 4, 0⟩, ⟨2, 5, 0⟩, ⟨2, 6, 0⟩, ⟨2, 7, 0⟩] && u.q .fcAcc 2 4 == 100) = true
    ∧ did (.nop 5 2) (inM 0 0 0 0 0) (fun u => u.q .fcSlot 2 == 1) = true
    ∧ did (.nop 5 2) (inM 2 1 1 1 0) (· == (inM 2 1 1 1 0).since 5) = true
    ∧ (inM 5 0 0 0 0).bundleFault 2 = 1 ∧ did (.nop 5 2) (inM 5 0 0 0 0) (fun u => u.rd .FC_STATE 2 == 4 && u.rd .FC_FAULT 2 == 1 && u.rd .FC_FAULT_PC 2 == 1 && u.latched .FERN_FAULT) = true := by
  decide +kernel
def inLp (op d a f : Nat) (rs : List (Fld × Nat × Nat × Nat)) : State := fern 2 [0, 0, slotWord op d a 1 f, 0] [] ((.FP_MOD, 2, 1, 2) :: (.FP_PTR, 2, 1, 40) :: rs)
def data2 (s : State) : State := { s with mem := s.mem ++ [(fernDataAt 2 + 160, 9), (fernDataAt 2 + 165, 1)] }
theorem wit_FernMemory : sound (data2 (inLp 1 8 0 0 [])) = true ∧ ((inLp 1 8 0 0 []).preg 2 1).mode = 0 ∧ ((inLp 1 8 0 0 []).preg 2 1).words 4 = [40, 41, 42, 43]
    ∧ (((inLp 1 8 0 0 []).preg 2 1).words 4).all ((inLp 1 8 0 0 []).fernReach 2) = true
    ∧ did (.ld4 5 2) (data2 (inLp 1 8 0 0 [])) (fun u => u.landings == [⟨2, 3, 8, 9⟩, ⟨2, 3, 9, 256⟩, ⟨2, 3, 10, 0⟩, ⟨2, 3, 11, 0⟩] && u.rd .FP_PTR 2 1 == 42 && u.q .fcSlot 2 == 3) = true
    ∧ did (.ld1 5 2) (data2 (inLp 5 8 0 0 [])) (fun u => u.landings == [⟨2, 3, 8, 9⟩] && u.rd .FP_PTR 2 1 == 42) = true
    ∧ did (.st4 5 2) (data2 (inLp 2 0 1 0 [])) (fun u => u.loadLE (fernAddr 2 40) 4 == 5 && u.loadLE (fernAddr 2 42) 4 == 0xFFFFFFFD && u.peek (fernAddr 2 44) == (inLp 2 0 1 0 []).peek (fernAddr 2 44)) = true
    ∧ did (.st1 5 2) (inLp 6 0 1 0 []) (fun u => u.loadLE (fernAddr 2 40) 4 == 5 && u.loadLE (fernAddr 2 41) 4 == 0 && u.rd .FP_PTR 2 1 == 42) = true
    ∧ did (.stx4 5 2) (inLp 3 0 1 0 []) (fun u => u.loadLE (fernAddr 2 40) 4 == 100 && u.rd .FP_PTR 2 1 == 42) = true
    ∧ did (.ext4 5 2) (inL 4 8 1 0 0x10) (fun u => u.landings == [⟨2, 3, 8, 50⟩, ⟨2, 3, 9, 0⟩, ⟨2, 3, 10, 0⟩, ⟨2, 3, 11, 0⟩] && u.q .fcSlot 2 == 3) = true := by decide +kernel

/-- Inside a rotating loop whose stage 3 is not yet on. -/
def staged3 : State := { fern 0 [3 * 2 ^ 29 + slotWord 1 1 1 1 0, 0, 0, 0] [] with loops := [⟨2, 1, 4, 0, true, 5, 4, 1, 0⟩] }
theorem wit_FernPredicate : sound staged3 = true ∧ staged3.enabled 2 (staged3.slotAt 2 1 0) = false
    ∧ did (.mpy4 5 2) staged3 (fun u => u.q .fcSlot 2 == 1 && u.staged == []) = true := by decide +kernel

def blocks (st : Nat) (idle : Int) (rs : List (Fld × Nat × Nat × Nat)) (qs : List (Qty × Nat × Nat × Int)) : State :=
  fern 0 [] ((.fcIdle, 2, 0, idle) :: (.fcCycles, 2, 0, 300) :: (.fcEntry, 2, 0, 3) :: qs) ((.FC_STATE, 2, 0, st) :: (.FC_OUT_COUNT, 2, 0, 1) :: (.FC_RUN, 2, 0, 1) :: rs)
theorem wit_FernBlocks : sound (blocks 3 1 [] []) = true ∧ (blocks 3 1 [] []).sampleAt ((blocks 3 1 [] []).since 5).house = 0 ∧ (blocks 3 1 [] []).fb 2 = 16
    ∧ (blocks 2 1 [] []).domReady 0 = true ∧ (blocks 3 1 [] []).fb 2 * (blocks 3 1 [] []).rd .FC_IN_COUNT 2 ≤ 0x2000 ∧ (blocks 3 1 [] []).fb 2 * (blocks 3 1 [] []).rd .FC_TAP_COUNT 2 ≤ 0x2800
    ∧ did (.fernBlockStart 30000000 2 []) (blocks 3 1 [] []) (· == (blocks 3 1 [] []).since 30000000) = true
    ∧ did (.fcRestart 2 1) (blocks 2 1 [] []) (fun u => u.q .fcRestartReq 2 == 1) = true ∧ did (.fcRestart 2 1) (blocks 1 1 [] []) (· == blocks 1 1 [] []) = true
    ∧ did (.fpLenWrite 2 3 0) (blocks 3 1 [] []) (fun u => u.rd .FP_LEN 2 3 == 0 && u.rd .FP_LEN_PEND 2 3 == 0 && u.rd .FP_PEND 2 3 == 0) = true
    ∧ did (.fpLenWrite 2 3 12) (blocks 3 1 [(.FP_MODE, 2, 3, 1)] []) (fun u => u.rd .FP_LEN_PEND 2 3 == 12 && u.rd .FP_PEND 2 3 == 1) = true
    ∧ did (.fpLenWrite 2 3 12) (blocks 3 1 [(.FP_MODE, 2, 3, 2)] []) (fun u => u.rd .FP_LEN 2 3 == 1 && u.rd .FP_PEND 2 3 == 0 && u.out.length == 1) = true
    ∧ did (.fernSramAccessDone 5 2 3) (blocks 3 0 [] [(.fcHalt, 2, 0, 1)]) (fun u => u.q .fcHalt 2 == 0 && u.q .fcCycles 2 == 309) = true := by decide +kernel

/-- A frame of slots of 24 bits on the lands; its sync at the first bit clock, where `sync` says so. -/
def pinsOf (sync : Bool) (ws : List Nat) : List TdmClk :=
  (ws.flatMap fun w => (List.range 24).map fun j => bit w (23 - j)).zipIdx.map fun (d, i) => ⟨sync && i == 0, d, false, false⟩
/-- The data land of a frame of slots of 24 bits. -/
def landOf (ws : List Nat) : List (Option Bool) := ws.flatMap fun w => (List.range 24).map fun j => some (bit w (23 - j))
def port (st : Nat) (rs : List (Fld × Nat × Nat × Nat)) (qs : List (Qty × Nat × Nat × Int)) : State :=
  alone ((.TD_STATE, 2, 0, st) :: (.TD_SLOTS, 2, 0, 2) :: (.TD_WIDTH, 2, 0, 24) :: (.TD_TX_MASK, 2, 0, 1) :: (.TD_RX_MASK, 2, 0, 2) :: rs)
    ((.tdMask, 2, 0, 1) :: (.tdMask, 2, 1, 2) :: (.tdCh, 2, 0, 2) :: (.tdCh, 2, 33, 2) :: (.tdMaskAt, 2, 0, 2000000000) :: qs)
def master (st : Nat) : State := { port st [(.TD_MASTER, 2, 0, 1), (.TD_CLK, 2, 0, 2), (.TD_RATE_NOW, 2, 0, 1), (.TD_FRAME_BCLK, 2, 0, 48), (.TD_OFFSET, 2, 0, 0), (.TD_FS_POL, 2, 0, 1)] [(.tdFrame, 2, 0, 127)] with tdBuf := [⟨18, false, 3, [(-2, 0), (7, 0)]⟩] }
theorem wit_TdmMaster : sound (master 3) = true ∧ (master 3).tdActive 2 = true ∧ (master 1).tdActive 2 = false ∧ (master 3).rd .TD_ASRC 2 = 0 ∧ (master 3).rd .TD_FMT 2 = 0
    ∧ (master 3).slotOn 2 0 = true ∧ (master 3).slotOn 2 33 = true ∧ (master 2).rd .TD_SILENT_MODE 2 = 0 ∧ ((master 3).since 100000000).sampleFrom ((master 3).since 100000000).house = 5 := by decide +kernel

def slave (clk st : Nat) (rs : List (Fld × Nat × Nat × Nat)) : State := port st ([(.TD_MASTER, 2, 0, 0), (.TD_CLK, 2, 0, clk), (.TD_RATE_NOW, 2, 0, 1), (.TD_FRAME_BCLK, 2, 0, 48), (.TD_OFFSET, 2, 0, 0), (.TD_FS_POL, 2, 0, 1)] ++ rs) []
def tfrm : TdmFrame := ⟨pinsOf true [1, 2], 48000000, 2304, 0, none⟩
theorem wit_TdmSlave : sound (slave 1 1 []) = true ∧ (slave 2 3 []).tdActive 2 = true ∧ within500 48000000 (tdRateMHz ((slave 2 3 []).rd .TD_RATE_NOW 2)) = true
    ∧ (slave 1 1 []).tdQualRate 2 48000000 = some 1 ∧ within500 48100000 48000000 = false ∧ (slave 1 1 []).tdQualRate 2 50000000 = none
    ∧ did (.tdmSlaveFrameReceived 5 2 tfrm) (slave 1 1 []) (fun u => u.rd .TD_QUAL_COUNT 2 == 1 && u.rd .TD_CLK 2 == 1 && u.rd .TD_BCLK_KHZ 2 == 2304) = true
    ∧ did (.tdmSlaveFrameReceived 5 2 tfrm) (slave 1 1 [(.TD_QUAL_COUNT, 2, 0, 255)]) (fun u => u.rd .TD_QUAL_COUNT 2 == 256 && u.rd .TD_CLK 2 == 2 && u.rd .TD_RATE_NOW 2 == 1) = true
    ∧ did (.tdmSlaveFrameReceived 5 2 { tfrm with pins := pinsOf false [1, 2] }) (slave 1 1 [(.TD_QUAL_COUNT, 2, 0, 255)]) (fun u => u.rd .TD_QUAL_COUNT 2 == 0 && u.rd .TD_CLK 2 == 1) = true
    ∧ did (.tdmSlaveFrameReceived 5 2 tfrm) (slave 1 0 []) (· == (slave 1 0 []).since 5) = true
    ∧ did (.tdmClockDetect 5 2) (slave 0 1 []) (fun u => u.rd .TD_CLK 2 == 1) = true ∧ did (.tdmClockDetect 5 2) (slave 1 1 []) (· == (slave 1 1 []).since 5) = true := by decide +kernel

def zc : State := { port 3 [] [(.tdCh, 2, 7, 3), (.tdCh, 2, 9, 1)] with timers := tms [(.tdZc, 135, 50), (.tdZc, 137, 500)] }
theorem wit_TdmZc : sound zc = true ∧ (zc.since 50).due .tdZc 135 = true ∧ (zc.since 50).due .tdZc 137 = false
    ∧ did (.tdmZcTimeout 50 2) zc (fun u => u.timer .tdZc 135 == none && u.qn .tdCh 2 7 == 5 && u.qn .tdCh 2 9 == 1) = true
    ∧ did (.tdmZcTimeout 500 2) zc (fun u => u.qn .tdCh 2 9 == 4) = true := by decide +kernel
def trigd (op st clk : Nat) : State := { slave clk st [] with trigs := [⟨9, 4, op, 0, 5⟩] }
theorem wit_TdmTriggers : sound (trigd 1 1 2) = true ∧ (((trigd 1 1 2).since 5).trigsDue 2).getLast? = some ⟨9, 4, 1, 0, 5⟩
    ∧ did (.tdmTriggerWrite 5 9 0 [0x10004, 0, 0, 0]) (slave 2 1 []) (fun u => u.trigs == [⟨9, 4, 1, 0, 5⟩] && u.rd .TT_PORTS == 4 && u.rd .TT_OP == 1 && u.rd .TT_LAST_ORDER == 9) = true
    ∧ did (.tdmTriggerWrite 5 9 0 [0x30004, 0, 0, 0]) (slave 2 1 []) (fun u => u.trigs == [] && u.rd .TC_WRITE_REFUSED == 1) = true
    ∧ did (.tdmTriggerWrite 5 9 0 [0x10004, 0, 0, 1000000000]) (slave 2 1 []) (fun u => u.trigs == [] && u.rd .TC_WRITE_REFUSED == 1)
    ∧ did (.tdmTriggerWrite 5 9 0 [0x50004, 0, 0, 0]) (slave 2 1 []) (fun u => u.trigs == [] && u.rd .TC_WRITE_REFUSED == 1) = true
    ∧ did (.tdmStart 5 2) (trigd 2 1 2) (· == (trigd 2 1 2).since 5) = true ∧ did (.tdmStop 5 2) (trigd 1 1 2) (· == (trigd 1 1 2).since 5) = true := by decide +kernel

-- References, PTP -----------------------------------------------------------------------------------------------------

/-- Entry 3 names input 1, in a state, with y in 0.1 ppb. -/
def entry3 (st : Nat) (y : Int) : State := { alone [(.RE_INPUT, 3, 0, 1), (.RE_EN, 3, 0, 1), (.RE_STATE, 3, 0, st), (.RE_TOL, 3, 0, 10), (.RE_Y, 3, 0, ofSigned y 32),
  (.RE_QUAL_S, 3, 0, 10), (.REF_SEL, 0, 0, 15), (.REF_STATE, 0, 0, 4)] [] with timers := tms [(.reQual, 3, 40)] }
theorem wit_RefInputs : sound (entry3 3 0) = true ∧ (entry3 1 0).mayBePresent 1 = true ∧ (entry3 1 500).near 3 = true ∧ (entry3 1 501).near 3 = false
    ∧ did (.refInputLost 5 1) (entry3 3 0) (fun u => u.rd .RE_STATE 3 == 1 && u.rd .RE_LOSSES 3 == 1 && u.timer .reQual 3 == none && u.rd .RE_STATE 2 == (entry3 3 0).rd .RE_STATE 2) = true
    ∧ did (.refInputLost 5 2) (entry3 3 0) (fun u => u.rd .RE_STATE 3 == 3 && u.rd .RE_LOSSES 3 == 0) = true
    ∧ did (.refInputPresent 5 1) (entry3 1 500) (fun u => u.rd .RE_STATE 3 == 2 && u.timer .reQual 3 == some (5 + 10 * psS) && bit (u.rd .RI_SYN_OK) 1) = true
    ∧ did (.refInputPresent 5 1) (entry3 1 501) (fun u => u.rd .RE_STATE 3 == 2 && u.timer .reQual 3 == none) = true
    ∧ did (.refInputPresent 5 4) (entry3 1 0) (· == (entry3 1 0).since 5) = true := by decide +kernel
theorem wit_RefMeasured : did (.refYMeasure 5 3 1001 0) (entry3 3 0) (fun u => u.rd .RE_STATE 3 == 4 && u.rdS .RE_Y 3 == 1001 && u.timer .reQual 3 == some (5 + 10 * psS)) = true
    ∧ did (.refYMeasure 5 3 (-1000) 0) (entry3 4 0) (fun u => u.rd .RE_STATE 3 == 3 && u.rdS .RE_Y 3 == -1000 && u.timer .reQual 3 == none) = true
    ∧ did (.refYMeasure 5 3 500 0) (entry3 5 0) (fun u => u.rd .RE_STATE 3 == 2) = true ∧ did (.refYMeasure 5 3 501 0) (entry3 2 0) (fun u => u.rd .RE_STATE 3 == 2 && u.timer .reQual 3 == none) = true
    ∧ ((entry3 2 0).since 40).due .reQual 3 = true ∧ (entry3 2 0).lockMet 1 = true
    ∧ did (.refQualifyTimer 40 3) (entry3 2 0) (fun u => u.rd .RE_STATE 3 == 3 && u.q .refJust 3 == 1 && u.timer .reQual 3 == none) = true
    ∧ did (.refQualifyTimer 40 3) (entry3 4 0) (fun u => u.rd .RE_STATE 3 == 5 && u.rd .RE_DISQUALS 3 == 1) = true
    ∧ did (.refQualifyTimer 39 3) (entry3 2 0) (· == (entry3 2 0).since 39) = true
    ∧ did (.ref10mLoss 5 1) ((entry3 3 0).setReg .RI_10M_OK 0 0 3) (fun u => u.rd .RI_10M_OK == 1) = true ∧ did (.ref10mPresent 5 1) (entry3 3 0) (fun u => bit (u.rd .RI_10M_OK) 1) = true := by decide +kernel

def chosen (sel st y1 y2 y3 : Nat) (tm : List (Tmr × Nat × Nat)) : State := { alone [(.RE_INPUT, 1, 0, 0), (.RE_EN, 1, 0, 1), (.RE_STATE, 1, 0, y1), (.RE_TOL, 1, 0, 10),
    (.RE_INPUT, 3, 0, 1), (.RE_EN, 3, 0, 1), (.RE_STATE, 3, 0, y2), (.RE_TOL, 3, 0, 10), (.RE_Y, 3, 0, y3), (.REF_SEL, 0, 0, sel), (.REF_STATE, 0, 0, st), (.REF_EMBER_HOLD_S, 0, 0, 600)]
    [(.refC, 0, 0, (sel + 1) % 16)] with timers := tms tm }
theorem wit_Selection : sound (chosen 3 1 3 3 0 []) = true ∧ (List.range 8).filter (chosen 15 0 3 3 0 []).candidate = [1, 3] ∧ (chosen 15 0 3 3 0 []).tieGroup [1, 3] 15 = some [1, 3]
    ∧ (chosen 15 0 3 3 0 []).tie [1, 3] [1, 3] 15 = (1, false, false) ∧ (chosen 3 1 3 3 0 []).tieGroup [1, 3] 3 = none
    ∧ (chosen 3 1 3 3 501 []).tieGroup [1, 3] 3 = some [1, 3] ∧ (chosen 3 1 3 3 501 []).tie [1, 3] [1, 3] 3 = (1, true, false)
    ∧ (chosen 3 1 1 1 0 []).qn .refAcc < max (chosen 3 1 1 1 0 []).now 5 ∧ (List.range 8).filter (chosen 3 1 1 1 0 []).candidate = []
    ∧ ((chosen 15 0 1 1 0 [(.refStart, 0, 40)]).since 40).due .refStart = true ∧ ((chosen 15 3 1 1 0 [(.refHold, 0, 40)]).since 40).due .refHold = true
    ∧ ((List.range 8).all fun e => (chosen 15 0 3 3 0 []).rd .RE_STATE e == 0 || ((chosen 15 0 3 3 0 []).rd .RE_EN e == 0) == ((chosen 15 0 3 3 0 []).rd .RE_STATE e == 6)) = true := by decide +kernel
def slewing : State := alone [(.REF_SLEWING, 0, 0, 1), (.REF_REALIGNING, 0, 0, 1), (.PO_MODE, 1, 0, 2), (.PO_WIDTH_US, 1, 0, 10), (.PO_MODE, 0, 0, 1)] []
theorem wit_Slews : sound slewing = true ∧ (slewing.since 5).freqNow = slewing.q .refTarget ∧ slewing.profileEnd ≤ 5 ∧ slewing.q .poAt 1 = 0 ∧ slewing.domReady (slewing.rd .PO_DOMAIN 0) = true
    ∧ did (.refSlewDone 5) slewing (fun u => u.rd .REF_SLEWING == 0 && u.rdS .REF_FREQ == 0) = true
    ∧ did (.pulseOutput 5 1) slewing (fun u => u.out == [.pulse 1 10]) = true ∧ did (.pulseOutput 5 0) slewing (fun u => u.out.length == 1) = true := by decide +kernel

/-- Domain 0 served by Ethernet port 2, as its slave port or a master port, with a servo state. -/
def ptp (servo : Nat) (slave : Bool) (rs : List (Fld × Nat × Nat × Nat)) (qs : List (Qty × Nat × Nat × Int)) : State :=
  { alone ((.PD_EN, 0, 0, 1) :: (.PD_SERVO_EN, 0, 0, 1) :: (.PD_SERVO, 0, 0, servo) :: (.PD_SLAVE_PORT, 0, 0, if slave then 3 else 0) :: (.MC_STATE, 2, 0, 2) ::
      (.PP_STATE0, 2, 0, if slave then 9 else 6) :: (.PP_DOM_EN, 2, 0, 1) :: rs) ((.pdNext, 0, 0, 127) :: (.pdNext, 0, 2, 1) :: (.pdNext, 0, 4, 3) :: qs) with timers := tms [(.ptAnnounce, 4, 40)] }
def asked : List (Qty × Nat × Nat × Int) := [(.pdSyncSeq, 0, 0, 8), (.pdReqSeq, 0, 0, 8), (.pdFirst, 0, 0, 1), (.pdSyncT2, 0, 0, 1000), (.pdReqT3, 0, 0, 2000), (.pdGood, 0, 0, 15), (.pdBad, 0, 0, 3)]
def timed (servo : Nat) : State := ptp servo true [] ((.pdMpdN, 0, 0, 1) :: (.pdMpdSum, 0, 0, 100) :: asked)
theorem wit_Ptp : sound (timed 3) = true ∧ (timed 3).domOf 2 127 = some 0 ∧ (timed 3).domOf 2 4 = none ∧ (timed 3).ptpTo 0 0 = none ∧ (timed 3).rd .PD_SLAVE_PORT 0 = 3 ∧ (timed 3).q .pdSyncSeq 0 = 8
    ∧ (timed 3).mpd 0 = some 100 ∧ (ptp 3 true [] asked).mpd 0 = none ∧ (timed 3).onScale 0 ((timed 3).q .pdSyncT2 0) = 1000
    ∧ (timed 3).rd .PD_STEP_NS 0 * 65536 < (5 * 10 ^ 15) ∧ 4 * ((timed 3).rd .PD_LOCK_NS 0 * 65536) < (timed 3).rd .PD_STEP_NS 0 * 65536
    ∧ ((timed 3).since 40).due .ptAnnounce (annIdx 2 0) = true ∧ ((timed 3).since 39).due .ptAnnounce (annIdx 2 0) = false
    ∧ did (.ptpSyncReceive 5 2 127 7 0 true 55) (timed 3) (fun u => u.rd .PP_RX_EVENTS 2 == 1 && u.q .pdSyncSeq 0 == 8 && u.q .pdSyncT2 0 == ((timed 3).since 5).stamp 2 0 true) = true
    ∧ did (.ptpSyncReceive 5 2 4 7 0 true 55) (timed 3) (fun u => u.rd .PP_RX_EVENTS 2 == 1 && u.q .pdSyncSeq 0 == 8 && u.q .pdSyncT2 0 == 1000) = true
    ∧ did (.ptpFollowUpReceive 5 2 127 7 55) (ptp 3 true [] asked) (fun u => u.q .pdSyncT1 0 == 55) = true
    ∧ did (.ptpFollowUpReceive 5 2 127 6 55) (timed 3) (· == (timed 3).since 5) = true
    ∧ did (.ptpFollowUpReceive 5 2 127 7 (-(5 * 10 ^ 15))) (timed 3) (fun u => u.rd .PD_SERVO 0 == 2) = true := by decide +kernel
theorem wit_PtpAnswers : did (.ptpDelayRespReceive 5 2 127 7 3000) (timed 3) (fun u => u.q .pdMpdSum 0 1 == 1000 && u.q .pdMpdN 0 == 2 && u.q .pdReqSeq 0 == 0) = true
    ∧ did (.ptpDelayRespReceive 5 2 127 8 3000) (timed 3) (· == (timed 3).since 5) = true
    ∧ did (.ptpDelayReqReceive 5 2 127 7 0) (ptp 0 false [] []) (fun u => u.out.length == 1 && u.rd .PP_RX_EVENTS 2 == 1) = true
    ∧ did (.ptpDelayReqReceive 5 2 127 7 0) (timed 3) (fun u => u.out == [] && u.rd .PP_RX_EVENTS 2 == 1) = true
    ∧ did (.ptpManagementGet 5 2 127 0 true) (timed 3) (fun u => u.out == [.ptpMgmt 2 0 0 (some [(timed 3).clockId, 259, 128, 248, 128, 127])] || u.out.length == 1) = true
    ∧ did (.ptpManagementGet 5 2 127 5 true) (timed 3) (fun u => u.out == [.ptpMgmt 2 0 5 none]) = true := by decide +kernel

def ts (n : Nat) : TsEnt := ⟨2, 0, n, 0, 5, true, true⟩
def queuedTs (n m : Nat) : State := { ptp 0 false [(.PP_TWO_STEP, 2, 0, 1), (.PQ_COUNT, 2, 0, n), (.PQ_LOST_COUNT, 2, 0, m), (.PD_SERVO_EN, 0, 0, 0)] [] with
  tsq := (List.range n).map ts, tsLost := (List.range m).map ts }
theorem wit_Stamps : sound (queuedTs 1 1) = true ∧ ((queuedTs 1 1).tsq.filter fun e => e.port == 2).length = 1 ∧ ((queuedTs 64 16).tsq.filter fun e => e.port == 2).length = 64
    ∧ did (.pqAck 2 1) (queuedTs 1 1) (fun u => u.tsq == [] && u.rd .PQ_COUNT 2 == 0 && u.rd .PQ_LOST_COUNT 2 == 1) = true ∧ did (.pqAck 2 2) (queuedTs 1 1) (· == queuedTs 1 1) = true
    ∧ did (.pqLostAck 2 1) (queuedTs 1 1) (fun u => u.tsLost == [] && u.rd .PQ_LOST_COUNT 2 == 0) = true ∧ did (.pqLostAck 2 1) (queuedTs 1 0) (fun u => u.tsLost == [] && u.out.length == 1 && u.rd .PQ_COUNT 2 == 1) = true
    ∧ did (.ptSnap 5 1) (queuedTs 1 1) (fun u => u.rd .PT_SNAP_DONE == 1) = true ∧ did (.ptSnap 5 0) (queuedTs 1 1) (fun u => u.rd .PT_SNAP_DONE == 0) = true
    ∧ did (.pdScaleWrite 5 0 (some 5) (some (2 ^ 64 + 3))) (queuedTs 1 1) (fun u => u.rd .PD_INCR 0 == incrOne - incrOne / 1000 && u.rd .PD_OFFSET 0 == 2 ^ 64 + 3) = true
    ∧ did (.pdScaleWrite 5 0 (some 5) (some (10 ^ 9 * 2 ^ 64))) (queuedTs 1 1) (fun u => u.rd .PD_OFFSET 0 == 0) = true
    ∧ did (.pdScaleWrite 5 0 (some 5) none) (timed 3) (fun u => u.rd .PD_INCR 0 == (timed 3).rd .PD_INCR 0) = true
    ∧ did (.ptActAdjSettle 5) (queuedTs 1 1) (fun u => u.rd .PT_ACT_ADJ == 0) = true ∧ ((queuedTs 1 1).since 5).actAdj = 0 := by decide +kernel
theorem wit_PtpIntervals : did (.ptpSyncInterval 5 2 0) (ptp 0 false [(.PP_TWO_STEP, 2, 0, 1)] []) (fun u => u.out == [.ptp 2 0 0 0 0 none] && u.q .ppSeqSync 2 0 == 1) = true
    ∧ did (.ptpSyncInterval 5 2 0) (timed 3) (· == (timed 3).since 5) = true
    ∧ did (.ptpDelayReqInterval 5 2 0) ((timed 3).setReg .PP_TWO_STEP 2 0 1) (fun u => u.out == [.ptp 2 0 1 0 0 none] && u.q .ppSeqReq 2 0 == 1) = true
    ∧ did (.ptpAnnounceInterval 5 2 0) { ptp 0 false [(.PD_GM_OK, 0, 0, 1), (.REF_STATE, 0, 0, 1), (.PP_MASTER_OK, 2, 0, 1)] [] with timers := [] } (fun u => u.out.length == 1 && u.pdUse 0 0 == u.rd .PD_NUMBER 0) = true
    ∧ did (.ptpAnnounceInterval 5 2 0) (timed 3) (fun u => u.out == []) = true := by decide +kernel

-- Proxy generators, pairs ---------------------------------------------------------------------------------------------

def proxy (fmt : Nat) (qs : List (Qty × Nat × Nat × Int)) : State := alone [(.PX_KIND, 5, 0, 1), (.PX_POS, 5, 0, 7), (.VI_ALIGN_STATE, 7, 0, 1), (.VI_FMT, 7, 0, fmt)] qs
theorem wit_Proxy : sound (proxy 0x0D []) = true ∧ (proxy 0x0D []).pxFormat 5 = 0x0D ∧ activeSize 0x0D = (1920, 1080) ∧ (proxy 255 []).pxFormat 5 = 0
    ∧ did (.proxySurfaceComplete 5 5 3) (proxy 0x0D []) (fun u => u.rd .PX_FRAMES 5 == 1 && u.rd .PX_W 5 == 1920 / (if u.rd .PX_SCALE 5 = 0 then 2 else 4) && u.rd .PX_STATE 5 == 1 && u.rd .PX_PEAT_UNCORR 5 == 3) = true
    ∧ did (.proxySurfaceComplete 5 5 3) (proxy 0x0D [(.pxPend, 5, 0, 1), (.pxUse, 5, 0, 1), (.pxUse, 5, 1, 7), (.pxUse, 5, 2, 1)]) (fun u => u.rd .PX_FRAMES 5 == 1 && u.rd .PX_W 5 == 480 && u.rd .PX_H 5 == 270) = true
    ∧ did (.proxySurfaceComplete 5 5 3) (proxy 0x0D [(.pxPend, 5, 0, 1)]) (· == (proxy 0x0D [(.pxPend, 5, 0, 1)]).since 5) = true
    ∧ did (.proxySurfaceComplete 5 5 3) (proxy 255 []) (· == (proxy 255 []).since 5) = true := by decide +kernel

/-- The records that have left, each with whether it is on the Lichen link. -/
def records (u : State) : List (Bool × Rec) := u.out.filterMap fun x => match x with | .record l r => some (l, r) | _ => none
/-- A manager of the pair C0, C1 in a pair state; node 33 is the partner. -/
def pair (st : Nat) (rs : List (Fld × Nat × Nat × Nat)) (qs : List (Qty × Nat × Nat × Int)) : State :=
  { mgr ((.RD_ROLE, 0, 0, 1) :: (.RD_PARTNER, 0, 0, 33) :: (.RD_STATE_PAIR, 0, 0, st) :: (.RD_EPOCH, 0, 0, 4) :: (.ORD_NEXT, 0, 0, 44) :: rs) qs with
    timers := tms [(.listen, 0, 40), (.fence, 0, 40), (.standbyResend, 0, 40), (.lkComma, 0, 40)] }
def beat (epoch st : Nat) : Beat := ⟨epoch, 33, st, 255, 0⟩
theorem wit_Beats : sound (pair 5 [] []) = true ∧ (pair 5 [] []).rd .SU_STATE = 3 ∧ (pair 5 [] []).held = [] ∧ (pair 3 [] []).idleBlock 14 = false ∧ edge1.rd .RD_ROLE = 0
    ∧ edge1.qn .managerEpoch < 4
    ∧ did (.heartbeatReceive 5 33 true 0 (beat 5 5) false) (pair 3 [] []) (fun u => u.rd .FAB_TAG_FAILS == 1 && u.rd .RD_EPOCH == 4) = true
    ∧ did (.heartbeatReceive 5 32 true 0 (beat 4 5) true) edge1 (fun u => u.rd .RD_ACTIVE_NODE == 32 && u.rd .RD_EPOCH == 4) = true
    ∧ did (.heartbeatReceive 5 33 true 0 (beat 4 5) true) (edge1.setQ .managerEpoch 0 0 4) (fun u => u.rd .RD_ACTIVE_NODE == 32) = true
    ∧ did (.managerBeatLoss (9 * psMs)) ((pair 5 [] []).setReg .RD_ROLE 0 0 2) (fun u => u.q .mgrLost == 1) = true
    ∧ did (.managerBeatLoss (2 * psMs)) ((pair 5 [] []).setReg .RD_ROLE 0 0 2) (fun u => u.q .mgrLost == 0) = true
    ∧ did (.rdRearm 5 1) (pair 5 [(.RD_REVERT_BLOCKED, 0, 0, 1), (.RD_PARTNER_FAILS, 0, 0, 3)] [(.failAt, 0, 0, 5)]) (fun u => u.rd .RD_REVERT_BLOCKED == 0 && u.rd .RD_PARTNER_FAILS == 0 && u.q .failAt 0 == 0) = true := by
  decide +kernel
def taking : State := pair 5 [(.RD_PREFERRED, 0, 0, 0), (.REF_STATE, 0, 0, 1)] [(.partnerState, 0, 0, 4), (.healthRun, 0, 0, 1)]
def takeAt : Nat := 4000 * psS
theorem wit_Takeback : sound taking = true ∧ ((pair 1 [] []).since 40).due .listen = true ∧ ((pair 6 [] []).since 40).due .fence = true
    ∧ taking.rd .RD_REVERT_BLOCKED = 0 ∧ taking.q .pendingTakeback = 0 ∧ taking.qn .healthRun + taking.view 33 .RD_HOLD_S * psS ≤ max taking.now takeAt + 1
    ∧ (match (taking.since takeAt).resolve ⟨0, 0, 0, false⟩ false with | .ok _ => true | _ => false) = true
    ∧ did (.takebackOrder 5) (pair 5 [] []) (· == (pair 5 [] []).since 5) = true := by decide +kernel

def locked : Action := ⟨43, 3, ⟨9, 0, 0, false⟩, 64, [encodeLock 261 1 7 false]⟩
def answer9 : Answer := ⟨0, 5, 0, 0, 43, 1, 9, 9, []⟩
def holding : State := { pair 5 [(.RD_UNPROT, 0, 0, 0)] [] with hist := [locked], held := [⟨43, some answer9⟩] }
theorem wit_Standby : sound holding = true ∧ (pair 3 [] []).hist = [] ∧ later 43 42 = true ∧ later 43 43 = false ∧ (holding.hist.find? fun b => b.order == 43) = some locked
    ∧ (holding.since 40).due .standbyResend = true ∧ (holding.since 40).due .lkComma = true
    ∧ did (.standbyRecordStore 5 (lockRec 43 100) false) (pair 3 [] []) (fun u => u.rd .FAB_TAG_FAILS == 1 && u.hist == []) = true
    ∧ did (.standbyRecordStore 5 (lockRec 43 100) true) (pair 3 [] []) (fun u => u.rd .RD_STALE_RECORDS == 1 && u.hist == []) = true
    ∧ did (.standbyRecordStore 5 (lockRec 43 100) true) edge1 (· == edge1.since 5) = true
    ∧ did (.lichenCommaReceive 5) holding (fun u => u.rd .RD_LK_UP == 0 && u.q .lkRun == 1) = true
    ∧ did (.lichenFrameReceive 5 ⟨[1, 2], (lichenCrc [1, 2] + 1), false⟩) ((holding.setQ .lkBad 0 0 3).setReg .RD_LK_UP 0 0 1) (fun u => u.rd .RD_LK_UP == 0 && u.rd .RD_LK_CRC_ERRS == 1) = true
    ∧ did (.lichenFrameReceive 5 ⟨[1, 2], (lichenCrc [1, 3]), false⟩) ((holding.setQ .lkBad 0 0 2).setReg .RD_LK_UP 0 0 1) (fun u => u.rd .RD_LK_UP == 1 && u.rd .RD_LK_CRC_ERRS == 1) = true
    ∧ did (.lichenCommaTimeout 40) (holding.setReg .RD_LK_UP 0 0 1) (fun u => u.rd .RD_LK_UP == 0) = true
    ∧ did (.lichenCommaTimeout 39) holding (· == holding.since 39) = true := by decide +kernel

-- Trarad, bus, security, start ----------------------------------------------------------------------------------------

def goodCert : Cert := ⟨true, false, 5, 0, 100, true, 9, 0x0F⟩
/-- Slot 0 in set-up (1) or open (2) on port 0. -/
def slot0 (st : Nat) : State := { served 0 0 [(.TS_STATE, 0, 0, st), (.TC_IDLE_S, 0, 0, 30)] [] with
  timers := tms [(.sessConfirm, 0, 40), (.sessIdle, 0, 40), (.eventResend, 0, 40)] }
/-- A message in parts has begun. -/
def parted : State := { slot0 2 with timers := tms [(.msgPart, 0, 40)] }
def ended : State := { served 0 0 [] [] with sessions := [], owners := [77] }
theorem wit_Sessions : sound (slot0 1) = true ∧ ended.freeSlot 0 = some 0 ∧ ended.freeSlot 2 = some 32 ∧ (ended.since 5).certStatus goodCert = none ∧ ((slot0 1).session 0).isSome = true
    ∧ ((slot0 1).since 40).due .sessConfirm 0 = true ∧ ((slot0 2).since 40).due .sessIdle 0 = true ∧ (slot0 2).takes m0 = true
    ∧ did (.open_ 5 0 goodCert) ended (fun u => u.rd .TS_STATE 0 == 1 && u.rd .TS_CTRL_ID 0 == 9 && u.out == [.openAck 0] && u.timer .sessConfirm 0 == some (5 + 2 * psS)) = true
    ∧ did (.confirm 5 0 true) (slot0 1) (fun u => u.rd .TS_STATE 0 == 2 && u.latched .SESSION_OPEN && u.timer .sessIdle 0 == some (5 + 30 * psS) && u.out == []) = true := by decide +kernel

def ans0 (s : State) (status flags : Nat) (data : List Nat) (u : State) : Bool := u.out == [.answer ⟨0, 7, status, 0, 0, flags, 0, s.activeNode, data⟩] && u.rd .TS_MSGS 0 == 1
theorem wit_Queries : m0.lenOk = true ∧ did (.heartbeat m0) (slot0 2) (ans0 (slot0 2) 0 0 [0, 0, 43, 0]) = true
    ∧ did (.queryNode m0 64 0 0) (slot0 2) (ans0 (slot0 2) 0 0 [0, 0, 0, 0, 0x8000, 0, 0]) = true ∧ did (.queryClampReport m0 0) (slot0 2) (ans0 (slot0 2) 0 0 [2 ^ 32]) = true
    ∧ (slot0 2).latencyTerms 0 9 0 64 = none := by decide +kernel

def rec9 (n : Nat) : EvRec := ⟨9, 0, n, n, 0, 0, 0⟩
def listening (unacked : Option (Nat × Nat)) : State := { slot0 2 with sessions := [{ sess0 0 0 with queue := (List.range 20).map rec9, unacked := unacked }] }
theorem wit_Events : sound (listening none) = true ∧ (slot0 2).claimOnly 0 = false ∧ ((listening (some (3, 16))).since 40).due .eventResend 0 = true ∧ (parted.since 40).due .msgPart 0 = true
    ∧ did (.subscribe m0 6) (slot0 2) (fun u => (u.session 0).map Session.mask == some 6 && u.out.length == 1) = true
    ∧ did (.eventAck m0 3) (listening (some (3, 16))) (fun u => (u.session 0).map (fun y => (y.queue.length, y.unacked)) == some (4, none) && u.out == []) = true
    ∧ did (.eventSend 5 0) (listening none) (fun u => u.out == [.event 0 1 ((List.range 16).map rec9)] && (u.session 0).map Session.unacked == some (some (1, 16))) = true
    ∧ did (.eventResendTimeout 40 0) (listening (some (3, 2))) (fun u => u.out == [.event 0 3 ((List.range 2).map rec9)]) = true
    ∧ did (.messagePartTimeout 40 0) parted (fun u => u.out == [.answer ⟨0, 0, 0x1D, 0, 0, 0, 0, 0, []⟩]) = true := by decide +kernel

def evs (n : Nat) : State := { alone [(.EQ_COUNT, 0, 0, n), (.GP_POL, 0, 0, 8), (.GP_OUT_LEVEL, 0, 0, 8)] [] with evq := (List.range n).map rec9, timers := tms [(.gpoEnd, 3, 40)] }
theorem wit_FirmwareQueue : sound (evs 1) = true ∧ (evs 1).idleBlock (Ev.GPI_CHANGE.num / 48) = false ∧ (evs 256).evq.length = 256
    ∧ did (.eqAck 1) (evs 2) (fun u => u.evq == [rec9 1] && u.rd .EQ_COUNT == 1 && u.rd .EQ_HEAD == recBits (rec9 1) % 2 ^ Fld.EQ_HEAD.desc.width) = true
    ∧ did (.epLatchClear 3 6) ((evs 0).setReg .EP_LATCH 3 0 12) (fun u => u.rd .EP_LATCH 3 == 8) = true
    ∧ did (.gpiChange 5 3 false) (evs 0) (fun u => u.rd .GP_IN == 8 && u.latched .GPI_CHANGE) = true ∧ ((evs 0).since 40).due .gpoEnd 3 = true
    ∧ did (.gpoPulseEnd 40 3) (evs 0) (fun u => u.rd .GP_OUT_NOW == 8 && u.timer .gpoEnd 3 == none) = true := by decide +kernel
def pulsing : State := { alone [(.RD_FORMAT, 0, 0, 1)] [] with acts := [⟨5, 5, ⟨1, 7, 0, false⟩, 0, 1, .line 7 0, 0, 0, 0, .words 0x40F00414 [8, 20 * 2 ^ 16]⟩] }
theorem wit_Pulse : sound pulsing = true ∧ pulsing.standAlone = true ∧ pulsing.rd .SU_STATE = 3 ∧ pulsing.rd .RD_FORMAT 0 = 1 ∧ pulsing.q .powerGood = 1 ∧ 0 ≤ (pulsing.since 5).house := by decide +kernel

def bus0 : State := { alone [(.BM_ERR_VALID, 0, 0, 0)] [] with mem := [(0x10000007, 5), (0x10000020, 9)] }
def waitsOn (granted write : Bool) (addr : Nat) : State := { alone [] [(.remapNext, 0, 0, 2)] with bursts := [⟨2, 3, 0, write, addr, 1, if write then [(7, 1)] else [], granted, 0, 0⟩, ⟨5, 1, 0, false, 0x10000000, 1, [], true, 0, 0⟩] }
theorem wit_BusBursts : sound bus0 = true ∧ bus0.bursts = [] ∧ busTarget (bus0.busAddr 0x10000000) = some 1 ∧ bus0.busRight 2 (bus0.busAddr 0x10000000) = 3 ∧ burstRule 0x10000000 2 1 = true
    ∧ did (.busRead 5 2 3 0 0x10000000 2 .answered) bus0 (fun u => u.out == [.bus 2 3 0 0 [5 * 2 ^ 56, 9]] && u.bursts == [] && u.rd .BM_OUTSTANDING 2 == 0) = true
    ∧ did (.busRead 5 2 3 0 0x10000000 2 (.granted 1)) bus0 (fun u => u.out == [] && u.rd .BM_OUTSTANDING 2 == 1 && (u.bursts.map fun b => (b.master, b.id, b.granted)) == [(2, 3, true)]) = true
    ∧ did (.busWrite 5 2 3 0 0x10000000 [(0x0403, 2), (0, 1)] .answered) bus0 (fun u => u.out == [.bus 2 3 0 0 []] && u.mem == [(0x10000001, 4), (0x10000007, 5)]) = true
    ∧ busTarget (bus0.busAddr 0x11000000) = none ∧ did (.busRead 5 2 3 0 0x11000000 2 .answered) bus0 (fun u => u.out == [.bus 2 3 2 0 []] && u.rd .BM_ERRORS 2 == 1) = true := by decide +kernel
theorem wit_BusHeld : sound (waitsOn true true 0x10000040) = true ∧ did (.busTimeout psS 2 3) (waitsOn true false 0x10000040) (fun u => u.out == [.bus 2 3 1 0x10 []] && u.bursts.length == 1 && u.rd .BM_TIMEOUTS 2 == 1 && u.latched .BUS_TIMEOUT) = true
    ∧ did (.masterReset 5 2) (waitsOn true false 0x10000040) (fun u => u.q .bmReset 2 == 1 && (u.bursts.map fun b => (b.master, b.granted, b.beats)) == [(2, true, []), (5, true, [])]) = true
    ∧ did (.masterReset 5 2) (waitsOn false true 0x10000040) (fun u => (u.bursts.map fun b => b.master) == [5]) = true
    ∧ did (.busMasterDrain 5 2) ((waitsOn true false 0x10000040).setQ .bmReset 2 0 1) (fun u => u.q .bmReset 2 == 0 && u.bursts.length == 1 && u.rd .BM_DRAINS 2 == 1 && u.latched .BUS_MASTER_DRAIN) = true
    ∧ did (.sysRemapWrite 5 3 1) bus0 (fun u => u.q .remapNext == 2 && u.rd .SYS_REMAP == 0) = true
    ∧ did (.sysRemapWrite 5 4 1) bus0 (fun u => u.q .remapNext == 0 && u.out == [.bus 4 0 1 0x11 []]) = true
    ∧ did (.sysRemapSwitch 5) (waitsOn true false 0x100) (fun u => u.rd .SYS_REMAP == 0 && u.q .remapNext == 2) = true
    ∧ did (.sysRemapSwitch 5) (waitsOn true false 0x10000040) (fun u => u.rd .SYS_REMAP == 1 && u.q .remapNext == 0) = true := by decide +kernel

def verdict (cert code rel tok here : Bool) : ClaimVerdict := ⟨cert, code, rel, 88, tok, here⟩
def unready (owners : List Nat) (fails : Nat) : State := { alone [(.RD_STATE_RASTER, 0, 0, 1), (.SEC_CLAIM_FAILS, 0, 0, fails), (.SEC_STATE, 0, 0, b2n !owners.isEmpty)] [] with owners := owners }
theorem wit_Claim : sound (unready [] 0) = true ∧ (unready [] 0).domReady 0 = false ∧ (unready [] 0).q .claimDone = 0
    ∧ did (.secClaimGo 5 0 1 (verdict true true false false false)) (unready [] 0) (fun u => u.owners == [88] && u.rd .SEC_STATE == 1 && u.rd .SEC_OWNER_DIGEST == 88 && u.rd .SEC_OWNER_SLOT == 0
      && u.out == [.claimAnswer 0 0] && u.latched .SEC_CLAIMED && u.timer .restart == some (5 + psMs)) = true
    ∧ did (.secClaimGo 5 0 2 (verdict true true false false false)) (unready [] 0) (fun u => u.owners == [] && u.out == [.claimAnswer 0 0]) = true
    ∧ did (.secClaimGo 5 0 1 (verdict true false true false false)) (unready [77] 0) (fun u => u.owners == [77, 88] && u.rd .SEC_OWNER_SLOT == 1) = true
    ∧ did (.secClaimGo 5 0 1 (verdict true false true false false)) (unready [] 7) (fun u => u.owners == [] && u.rd .SEC_CLAIM_FAILS == 8 && u.rd .SEC_STATE == 2 && u.out == [.claimAnswer 0 0x0201]) = true
    ∧ did (.secClaimGo 5 0 1 (verdict true true false false false)) (unready [77] 6) (fun u => u.rd .SEC_CLAIM_FAILS == 7 && u.rd .SEC_STATE == 1 && u.out == [.claimAnswer 0 0x0204]) = true
    ∧ did (.secDebugToken 5 0 (verdict true true false true true)) (unready [77] 0) (fun u => u.rd .SEC_DEBUG_OPEN == 1 && u.latched .SEC_DEBUG_UNLOCKED && u.out == [.claimAnswer 0 0]) = true
    ∧ did (.secDebugToken 5 0 (verdict true true false false true)) (unready [77] 0) (fun u => u.regs == (unready [77] 0).regs && u.out == [.claimAnswer 0 0x209]) = true := by decide +kernel

def taken (n : Nat) : State := { served 32 2 [(.SU_STATE, 0, 0, 4), (.SYS_ROLE, 0, 0, 0), (.RD_STATE_RASTER, 0, 0, 1)] [] with timers := tms [(.restart, 0, n)] }
def mSvc : Msg := { m0 with sess := 32 }
def counted : State := alone [(.XP_TAKES_ALL, 0, 0, 9), (.XP_UNTIMED_ALL, 0, 0, 4)] []
theorem wit_Direct : sound counted = true ∧ counted.idleBlock 4 = false ∧ (taken 40).takes mSvc = true ∧ (taken 40).onSvc 32 = true ∧ (taken 40).claimOnly 32 = false ∧ ((taken 40).since 40).due .restart = true
    ∧ did (.sysRestartWrite 5 0x5A5A) (unready [] 0) (fun u => u.timer .restart == some (5 + psMs)) = true ∧ did (.sysRestartWrite 5 0x5A5B) (unready [] 0) (fun u => u.timer .restart == none) = true := by decide +kernel

def fwA : FwImage := ⟨100, [5, 5, 5], 0, 1, true, List.range 16, [1], [], 0, []⟩
def cfgA : CfgImage := ⟨200, 0, 1, 2, true, true, true, true, 1, 1, 0, 0, 0, [0x0D], [⟨0, 1, 0, 0, 0⟩], 0, [], [], [], [], none, []⟩
def device (answers : Bool) (f0 f1 : Option FwImage) : Nvm := ⟨[1, 2], 100, 128, answers, ⟨1, 0, [1, 1, 1, 1], true⟩, ⟨0, 0, [0, 0, 0, 0], false⟩, [f0, f1], [some cfgA, some cfgA], []⟩
def starting (owners : List Nat) (d : Nvm) : State := { mk [] [(.powerGood, 0, 0, 1)] with owners := owners, nvm := d }
def tries (s : State) (p : Nat) (ok : Bool) : Bool := match s.pairTry p with | .ok x => ok && decide (x = (fwA, cfgA)) | .error e => !ok && e == .BAD_SIGNATURE
theorem wit_Start : sound (starting [77] (device true (some fwA) none)) = true ∧ (nvmDirectory (device true none none)).isSome = true ∧ tries (starting [77] (device true (some fwA) none)) 0 true = true
    ∧ tries (starting [77] (device true none (some fwA))) 0 false = true ∧ tries (starting [77] (device true none (some fwA))) 1 true = true ∧ (starting [77] (device true none none)).directory.active = 0
    ∧ (starting [77] (device true none none)).rd .SU_PAIR = 0 ∧ (starting [] (device true none none)).rd .SU_FALLBACK = 0 := by decide +kernel
def kindled (s : State) (why : Nat) (u : State) : Bool := u.rd .SU_STATE == 4 && u.rd .SU_KINDLING_WHY == why && u.rd .SYS_ROLE == 0 && u.rd .MC_MODE 258 == s.rd .SU_KINDLING_SVC && u.rd .LN_USE 258 == 5
  && u.rd .MC_STATE 258 == 1 && u.latched .KINDLING_ENTERED

-- Field update, lanes, power ------------------------------------------------------------------------------------------

def offer : Offer := ⟨1, 4097, 0, 5, 0, 0, 1, 0, 1, 2, 100, 20⟩
def upd0 (have_ : Nat) (w : List (Nat × Nat × Nat × Nat)) (holder : Nat) : Upd := ⟨1, 4097, 0, 5, 0, 0, 1, 0, 1, 2, 100, 20, have_, 0, holder, w⟩
/-- The SVC session 32 with the UPDATE privilege; the update in a state. -/
def updated (st : Nat) (u : Option Upd) (rs : List (Fld × Nat × Nat × Nat)) : State := { served 32 2 ((.UP_STATE, 0, 0, st) :: (.RD_STATE_RASTER, 0, 0, 1) :: rs) [] with
  upd := u, nvm := device true (some fwA) none, timers := tms [(.updLock, 0, 40), (.updHealth, 0, 40), (.updWindow, 0, 40)] }
def answers32 (code : Nat) (data : List Nat) (u : State) : Bool := u.out == [.answer ⟨32, 7, code, 0, 0, 0, 0, 0, data⟩]
def blk : Nat × Nat × Nat × Nat := (0, 1, 32, 7)
theorem wit_Update : sound (updated 0 none []) = true ∧ (updated 0 none []).takes mSvc = true ∧ (updated 0 none []).claimOnly 32 = false ∧ (updated 0 none []).onSvc 32 = true ∧ mSvc.lenOk = true
    ∧ bit ((updated 0 none []).rd .TS_PRIV 32) 3 = true ∧ ((updated 0 none []).met mSvc).openStatus offer = none ∧ sound (updated 1 (some (upd0 1 [blk] 32)) []) = true
    ∧ ((updated 1 (some (upd0 1 [] 32)) []).met mSvc).openStatus offer = some .ALREADY_PRESENT ∧ ((updated 1 (some (upd0 1 [] 32)) []).met mSvc).openStatus { offer with setId := 6, fwDigest := 9 } = some .BUSY
    ∧ ((updated 1 (some (upd0 1 [] 32)) []).met mSvc).isHolder 32 = true ∧ blockBad (upd0 1 [] 32) 0 1 true = false ∧ blockBad (upd0 1 [] 32) 0 2 true = true
    ∧ missingBlock (upd0 1 [] 32) = some 1 ∧ missingBlock (upd0 3 [] 32) = none ∧ ((updated 1 (some (upd0 3 [] 32)) []).met mSvc).pairStatus (upd0 3 [] 32) (some fwA) none = none
    ∧ ((updated 1 (some (upd0 3 [] 32)) []).met mSvc).takesSelf 0 = true ∧ ((updated 1 (some (upd0 3 [] 32)) []).met mSvc).relayNodes 0 = [] := by decide +kernel

theorem wit_UpdateEnds : ((updated 1 (some (upd0 3 [] 32)) []).since 40).due .updLock = true ∧ ((updated 1 (some (upd0 3 [] 32)) []).since 40).holdsOpen 32 = true
    ∧ (updated 3 (some (upd0 3 [] 65)) [(.UP_HEALTH_OK, 0, 0, 1)]).q .upFallback = 0 ∧ ((updated 3 none []).met mSvc).due .updWindow = false ∧ ((updated 3 none []).since 40).due .updHealth = true := by decide +kernel

/-- A target of the relay (the manager is node 32), and the manager with node 2 in a stage. -/
def target (st : Nat) (u : Option Upd) : State := { edge [(.UP_STATE, 0, 0, st)] [] with upd := u, nvm := device true (some fwA) none }
def relaying (sends cmd : Nat) : State := { mgr [(.UP_STATE, 0, 0, 2)] [(.upSends, 2, 0, sends), (.relayCmd, 2, 0, cmd)] with upd := some (upd0 3 [] 32), timers := tms [(.relay, 2, 40)] }
theorem wit_Relay : sound (target 1 (some (upd0 1 [] 64))) = true ∧ (target 0 none).activeNode = 32 ∧ ((target 0 none).since 5).openStatus { offer with targets := 0 } = none ∧ (target 1 (some (upd0 1 [] 64))).isHolder 64 = true
    ∧ (target 0 none).isManager = false ∧ sound (relaying 1 1) = true ∧ (relaying 1 1).isManager = true ∧ ((relaying 1 1).since 40).due .relay 2 = true
    ∧ did (.relayOffer 5 33 offer true) (target 0 none) (fun u => u.rd .RD_STALE_RECORDS == 1 && u.upd == none) = true ∧ did (.relayOffer 5 32 offer false) (target 0 none) (fun u => u.rd .FAB_TAG_FAILS == 1 && u.upd == none) = true
    ∧ did (.relayOffer 5 32 offer true) (unready [] 0) (fun u => u.out == []) = true
    ∧ did (.relayBlocks 5 32 0 0 [true] true) (target 0 none) (fun u => u.out == [.relay 32 0xF3 [Status.NOT_OPEN.code, 0xF1, 0]]) = true
    ∧ did (.relayCommand 5 32 6 none none true) (target 0 none) (fun u => u.out == [.relay 32 0xF3 [Status.NOT_OPEN.code, 0xF2, 0]]) = true := by decide +kernel

/-- Lane 7 of the stand-alone module, in use for SDI, and lane 9 for a port. -/
def laned (rx : Nat) (rs : List (Fld × Nat × Nat × Nat)) (qs : List (Qty × Nat × Nat × Int)) : State := { alone ((.LN_USE, 7, 0, 1) :: (.LN_USE, 9, 0, 2) :: (.LN_RX_STATE, 7, 0, rx) ::
  (.LN_RX_STATE, 9, 0, rx) :: (.LN_CTLE, 7, 0, 3) :: (.LN_DFE, 7, 2, 5) :: rs) qs with timers := tms [(.lnAcquire, 7, 40), (.lnResume, 7, 40)] }
theorem wit_LaneReceiver : sound (laned 2 [] []) = true ∧ ((laned 2 [] []).since 40).due .lnAcquire 7 = true ∧ (laned 2 [] []).rateTry 7 = 5
    ∧ did (.laneSignalDetect 5 7) (laned 1 [] []) (fun u => u.rd .LN_RX_STATE 7 == 2 && u.rd .LN_CTLE 7 == 8 && u.rd .LN_DFE 7 2 == 0 && u.timer .lnAcquire 7 == some (5 + 2500 * psUs)) = true
    ∧ did (.laneAcquireTimeout 40 7) (laned 2 [] []) (fun u => u.rd .LN_RX_STATE 7 == 2 && u.q .lnRateTry 7 == 1) = true := by decide +kernel

def sends (tx : Nat) (rs : List (Fld × Nat × Nat × Nat)) (qs : List (Qty × Nat × Nat × Int)) : State :=
  laned 4 ((.LN_TX_STATE, 7, 0, tx) :: (.VO_PORT_MODE, 7, 0, 1) :: (.VO_STATE, 7, 0, if tx < 2 then 2 else 3) :: (.QD_CLK_LOCK, 1, 0, 1) :: rs) qs
theorem wit_LaneTransmitter : sound (sends 1 [] []) = true ∧ ((sends 2 [] []).since 40).due .lnResume 7 = true ∧ (sends 1 [] []).txState 7 = 1
    ∧ did (.laneTxFault 5 7) (sends 1 [] []) (fun u => u.rd .LN_TX_FAULTS 7 == 1 && u.latched .LANE_TX_FAULT && u.rd .LN_TX_STATE 7 == 2 && u.timer .lnResume 7 == some (5 + 10 * psMs) && u.rd .VO_STATE 7 == 3) = true
    ∧ did (.laneTxFault 5 7) (sends 1 [] [(.lnTxFaultAt, 7, 0, 3)]) (fun u => u.rd .LN_TX_STATE 7 == 3 && u.latched .LANE_TX_HELD) = true := by decide +kernel
theorem wit_LaneTests : (sends 1 [] []).prbsRefused 7 4 = none ∧ (sends 1 [] []).prbsRefused 7 5 ≠ none
    ∧ did (.lnPrbsTx 5 7 4) (sends 1 [] []) (fun u => u.rd .LN_PRBS_TX 7 == 4 && u.rd .LN_TEST 7 == 1 && u.rd .LN_TEST_COUNT == 1 && u.latched .LANE_TEST_ACTIVE) = true
    ∧ did (.lnPrbsTx 5 7 5) (sends 1 [] []) (fun u => u.regs == (sends 1 [] []).regs && u.out == [.written 0x40100750 Status.REFUSED.code [0]]) = true
    ∧ did (.prbsCheckerLock 5 7 false 99 3) (sends 1 [(.LN_PRBS_RX, 7, 0, 1), (.LN_PRBS_LOCK, 7, 0, 1), (.LN_PRBS_BITS_LO, 7, 0, 0xFFFFFFFF)] []) (fun u => u.rd .LN_PRBS_LOCK 7 == 0 && u.rd .LN_PRBS_ERRS 7 == 3
      && u.rd .LN_PRBS_BITS_LO 7 == 98 && u.rd .LN_PRBS_BITS_HI 7 == 1) = true
    ∧ did (.lnInjGo 5 7 1) (sends 1 [(.LN_INJ_MODE, 7, 0, 2), (.LN_INJ_LEN, 7, 0, 9)] []) (fun u => u.rd .LN_INJ_COUNT 7 == 9) = true
    ∧ did (.lnInjGo 5 7 1) (sends 2 [(.LN_INJ_MODE, 7, 0, 1)] []) (fun u => u.rd .LN_INJ_COUNT 7 == 0) = true
    ∧ did (.lnEsGo 5 7 1) (sends 1 [] []) (fun u => u.rd .LN_ES_STATE 7 == 1) = true ∧ did (.lnEsGo 5 7 1) (laned 2 [] []) (fun u => u.rd .LN_ES_STATE 7 == 3 && u.latched .EYE_SCAN_DONE) = true
    ∧ did (.lnEsGo 5 7 1) (sends 1 [(.LN_ES_STATE, 7, 0, 1)] []) (fun u => u.out == [.written 0x40100774 Status.BUSY.code [0]]) = true
    ∧ did (.lnTxRetry 5 7 1) (sends 1 [] []) (fun u => u.out == [.written 0x4010070C Status.REFUSED.code [0]]) = true
    ∧ did (.eyeScanDone 5 7 (2 ^ 33)) (sends 1 [(.LN_ES_STATE, 7, 0, 1)] []) (fun u => u.rd .LN_ES_STATE 7 == 2 && u.rd .LN_ES_ERRS 7 == 0xFFFFFFFF) = true := by decide +kernel

def powered (rs : List (Fld × Nat × Nat × Nat)) (qs : List (Qty × Nat × Nat × Int)) : State :=
  { alone ((.PW_VIN, 0, 0, 4800) :: (.PW_TCASE, 0, 0, 0xFFF6) :: rs) ((.vinUp, 0, 0, 1) :: (.vinOk, 0, 0, 1) :: (.pinNid, 0, 0, 0) :: qs) with timers := tms [(.trip, 0, 40), (.tripOut, 0, 40)], owners := [77] }
def pmSaid (cmd : Nat) (bytes : List Nat) : State := { (powered [] []).since 5 with out := [.pmbus cmd bytes] }
theorem wit_Pmbus : sound (powered [] []) = true ∧ did (.statusByte 5) (powered [] []) (· == pmSaid 0x78 [0]) = true ∧ did (.statusWord 5) (powered [] []) (· == pmSaid 0x79 [0, 0]) = true
    ∧ did (.statusInput 5) (powered [] []) (· == pmSaid 0x7C [0]) = true ∧ did (.statusTemperature 5) (powered [] []) (· == pmSaid 0x7D [0]) = true
    ∧ did (.readVin 5) (powered [] []) (· == pmSaid 0x88 (octets2 (ofSigned (-4) 5 * 2 ^ 11 + 768))) = true ∧ did (.readTemperature1 5) (powered [] []) (· == pmSaid 0x8D [0, 0xB4]) = true
    ∧ did (.readIin 5) (powered [] []) (fun u => u.out.length == 1) = true ∧ did (.readPin 5) (powered [] []) (fun u => u.out.length == 1) = true ∧ did (.readTemperature2 5) (powered [] []) (fun u => u.out.length == 1) = true
    ∧ did (.pmbusRevision 5) (powered [] []) (· == pmSaid 0x98 [0x33]) = true ∧ did (.mfrId 5) (powered [] []) (· == pmSaid 0x99 [3, 0x5A, 0x53, 0x53]) = true
    ∧ did (.mfrModel 5) (powered [] []) (· == pmSaid 0x9A [7, 0x50, 0x4C, 0x58, 0x2D, 0x32, 0x35, 0x36]) = true := by decide +kernel
theorem wit_PmbusFaults : did (.clearFaults 5) (powered [] [(.pwStatus, 0, 0, 0x60), (.vinOk, 0, 0, 2), (.pwComm, 0, 0, 1)]) (fun u => u.q .pwStatus == 0x20 && u.q .pwComm == 0) = true
    ∧ did (.pmbusUnsupported 5 0x21) (powered [] []) (fun u => u.out == [.pmbusNack 0x21] && bit u.pmWord 1) = true
    ∧ did (.smbusAlertResponse 5) (powered [] []) (fun u => u.out == []) = true ∧ did (.smbusAlertResponse 5) (powered [] [(.pwComm, 0, 0, 1)]) (fun u => u.out == [.pmbus 0x0C [0x40]]) = true
    ∧ did (.thermalSample 5 4800 10 20 1251 (-3)) (powered [] []) (fun u => u.rd .PW_STATE == 2 && u.rdS .PW_TCASE == 1251 && u.rdS .PW_TJ_MAX == -3 && u.rd .PW_PIN_PEAK == 20) = true
    ∧ did (.thermalSample 5 4800 10 20 1220 0) (powered [(.PW_STATE, 0, 0, 2)] []) (fun u => u.rd .PW_STATE == 1) = true ∧ did (.thermalSample 5 4800 10 20 (-521) 0) (powered [(.PW_STATE, 0, 0, 3)] []) (fun u => u.rd .PW_STATE == 3) = true
    ∧ did (.vinRangeChange 5 3599) (powered [] []) (fun u => u.rd .PW_VIN_OK == 0 && u.latched .PWR_VIN_LOW) = true ∧ did (.vinRangeChange 5 7501) (powered [] []) (fun u => u.rd .PW_VIN_OK == 0 && u.latched .PWR_VIN_HIGH) = true
    ∧ did (.vinRangeChange 5 3649) (powered [] [(.vinOk, 0, 0, 2)]) (fun u => u.rd .PW_VIN_OK == 0) = true ∧ did (.vinRangeChange 5 3600) (powered [] []) (fun u => u.rd .PW_VIN_OK == 1) = true
    ∧ did (.vinRangeChange 5 3650) (powered [] [(.vinOk, 0, 0, 2)]) (fun u => u.rd .PW_VIN_OK == 1) = true ∧ did (.vinRangeChange 5 7451) (powered [] [(.vinOk, 0, 0, 3)]) (fun u => u.rd .PW_VIN_OK == 0) = true := by decide +kernel
def pins0 : PowerPins := ⟨5, 3400, true, true, -550, none⟩
theorem wit_Power : ((powered [] []).since 40).due .trip = true ∧ ((powered [] []).since 40).due .tripOut = true
    ∧ did (.thermalTrip 40) (powered [(.PW_STATE, 0, 0, 2)] []) (fun u => u.rd .PW_TRIPS == 1 && u.q .powerGood == 0 && u.q .tripped == 1 && u.rd .SU_STATE == 0 && u.sessions == [] && u.owners == [77]) = true
    ∧ did (.tripRecovery 40) (powered [(.PW_TRIPS, 0, 0, 1)] [(.tripped, 0, 0, 1), (.powerGood, 0, 0, 0), (.pinNid, 0, 0, 6)]) (fun u => u.rd .PW_TRIPS == 1 && u.q .powerGood == 1 && u.q .tripped == 0 && u.rd .SU_STATE == 0 && u.rd .SYS_NODE == 6) = true
    ∧ did (.powerGoodRise 5 pins0) { mk [] [] with owners := [77] } (fun u => u.q .powerGood == 1 && u.rd .SU_STATE == 0 && u.rd .SYS_NODE == 5 && u.q .vinUp == 1 && u.owners == [77]) = true
    ∧ did (.powerGoodFall 5 .rail) (powered [] []) (fun u => u.q .powerGood == 0 && u.rd .PW_PG_LOSSES == 1 && u.rd .SU_STATE == 0 && u.owners == [77]) = true
    ∧ did (.powerGoodFall 5 .lockout) (powered [] []) (fun u => u.q .powerGood == 0 && u.rd .PW_PG_LOSSES == 0) = true
    ∧ did (.rstNRelease 5 10000000) (powered [] [(.pinNid, 0, 0, 6)]) (fun u => u.q .powerGood == 1 && u.rd .SU_STATE == 0 && u.rd .SYS_NODE == 6) = true := by decide +kernel

end Sys2Proof.Tests
end

section
/-! SUPPORT. Every command runs an act, and every act keeps every register inside the width of its field: O5. -/
set_option Elab.async false
namespace Sys2Proof.Machine

/-- Every meaning is the run of an act. -/
theorem exec_runs (c : Instr) (s : State) : ∃ a : Act, exec c s = run a s := by
  cases c
  case write m req node addr bytes data =>
    simp only [exec, execWrite]
    split <;> exact ⟨_, rfl⟩
  all_goals exact ⟨_, rfl⟩

/-- A start keeps every register inside its width. -/
theorem State.fresh_fits (s : State) : s.fresh.fits := by
  have go : ∀ (fs : List Fld) (g : Fld → Nat) (r : State), SMap.sorted r.regs = true → r.fits →
      (fs.foldl (fun r f => r.setReg f 0 0 (g f)) r).fits := by
    intro fs g
    induction fs with
    | nil => intro r _ h; exact h
    | cons f fs ih => intro r hs h; exact ih _ (State.setReg_sorted _ _ _ _ hs) (State.setReg_fits hs h _ _ _ _)
  exact go keptFields s.rd _ rfl (State.fits_of_reset rfl)

/-- Every effect does. -/
theorem State.app_fits {s : State} (e : Eff) (hs : SMap.sorted s.regs = true) (h : s.fits) : (s.app e).fits := by
  cases e
  case wr => exact State.setReg_fits hs h _ _ _ _
  case put => exact State.fits_congr (State.setQ_regs ..) h
  case burnRollback => simp only [State.app]; split <;> exact State.setReg_fits hs h _ _ _ _
  case restart => exact State.fresh_fits s
  all_goals exact State.fits_congr (by simp only [State.app]) h

/-- Every act does. -/
theorem Act.to_fits (a : Act) {s : State} (hs : SMap.sorted s.regs = true) (h : s.fits) : (a.to s).fits :=
  ((show a.Within fun _ => True from fun _ _ _ => trivial).keeps (P := fun t => SMap.sorted t.regs = true ∧ t.fits)
    (fun _ e _ ht => ⟨State.app_regs_sorted e ht.1, State.app_fits e ht.1 ht.2⟩) ⟨hs, h⟩).2

/-- Settles O5: a step runs an act, and every act keeps every register inside the width of its field. -/
theorem registersFitTheirFields : Obligations.RegistersFitTheirFields := by
  unfold Obligations.RegistersFitTheirFields
  intro s u hwf hfits hstep
  cases hp : s.pending with
  | nil =>
    simp only [step, hp, Host.Outcome.next.injEq] at hstep
    exact hstep ▸ hfits
  | cons c rest =>
    obtain ⟨a, ha⟩ := exec_runs c { s with pending := rest }
    simp only [step, hp, ha, run_eq, Host.Outcome.next.injEq] at hstep
    exact hstep ▸ a.to_fits (State.wf_regs hwf) hfits

end Sys2Proof.Machine
end

section
/-! SUPPORT. Words that cover one field of the object map: the copies that words cover, the judging of a write of one field, and what it stores (R11, R386, R507). -/
set_option Elab.async false
namespace Sys2Proof.Machine

-- The copies that words cover ---------------------------------------------------------------------------------------

/-- The copies of fields that `n` words from address `a` cover. -/
def coverPlaces (a n : Nat) : List (Fld × Nat × Nat) :=
  (Fld.ofBlock (blockOf a)).flatMap fun f => (((List.range n).flatMap fun k => f.copiesIn (a + 4 * k)).dedup).map fun p => (f, p)

/-- The write of one copy that words from address `a` make. -/
def coverWrite (a : Nat) (data : List Nat) (p : Fld × Nat × Nat) : FieldWrite :=
  ⟨p.1, p.2.1, p.2.2, bits (joinWords data) (p.1.bitAddr p.2.1 p.2.2 - a * 8) p.1.desc.width,
    decide (a * 8 ≤ p.1.bitAddr p.2.1 p.2.2) && decide (p.1.bitAddr p.2.1 p.2.2 + p.1.desc.width ≤ a * 8 + 32 * data.length), p.1.bitAddr p.2.1 p.2.2⟩

/-- Which copies words cover depends on their number alone. -/
theorem covered_eq (a : Nat) (data : List Nat) :
    covered a data = ((coverPlaces a data.length).map (coverWrite a data)).foldl (fun l x => insertAt x l) [] := by
  simp only [covered, coverPlaces, List.map_flatMap, List.map_map]
  rfl

/-- A word that covers one field, which begins with it, gives the field its low bits. -/
theorem covered_first {a v : Nat} {f : Fld} (h : coverPlaces a 1 = [(f, 0, 0)]) (hb : f.bitAddr 0 0 = a * 8) (hw : f.desc.width ≤ 32) :
    covered a [v] = [⟨f, 0, 0, v % 2 ^ f.desc.width, true, a * 8⟩] := by
  have hv : bits (joinWords [v]) 0 f.desc.width = v % 2 ^ f.desc.width := by
    simp only [joinWords, bits, Nat.mul_zero, Nat.add_zero, Nat.pow_zero, Nat.div_one]
    exact Nat.mod_mod_of_dvd v (Nat.pow_dvd_pow 2 hw)
  rw [covered_eq, List.length_singleton, h]
  simp [coverWrite, hb, hv, hw, insertAt]

theorem covered_resyncAuto (v : Nat) : covered 0x4000013C [v] = [⟨.ORD_RESYNC_AUTO, 0, 0, v % 2, true, 0x4000013C * 8⟩] :=
  covered_first (by decide +kernel) (by decide) (by decide)
theorem covered_xpCntClr : covered 0x4048003C [1] = [⟨.XP_CNT_CLR, 0, 0, 1, true, 0x4048003C * 8⟩] :=
  covered_first (by decide +kernel) (by decide) (by decide)
theorem covered_sysRestart : covered 0x40000240 [0x5A5A] = [⟨.SYS_RESTART, 0, 0, 0x5A5A, true, 0x40000240 * 8⟩] :=
  covered_first (by decide +kernel) (by decide) (by decide)

-- Judging a write of one field --------------------------------------------------------------------------------------

/-- Block 00h is idle in no role (R13). -/
theorem idleIn_zero (r : Nat) : idleIn r 0 = false := by
  unfold idleIn
  split <;> rfl

theorem State.idleBlock_zero (s : State) : s.idleBlock 0 = false := by
  simp [State.idleBlock, idleIn_zero]

/-- A field that its block has once is refused for its object where the block is idle alone. -/
theorem objectCheck_none {w : View} {idle : Nat → Bool} {f : Fld} (i : Nat) (hn : f.desc.n = 1)
    (hi : idle ((f.desc.addr - 0x40000000) / 0x100000) = false) (hr : idleIn w.role (blockOf f.desc.addr) = false) : objectCheck w idle f i = none := by
  simp [objectCheck, idleField, beyondRate, hn, hi, hr]

/-- A field that no other binds is judged by its own range. -/
theorem fieldCheck_ok {w : View} {idle : Nat → Bool} {f : Fld} {i j v : Nat} (ho : objectCheck w idle f i = none)
    (hr : rangeCheck w f i j v = .ok v) (hb : boundChecks w f i = []) (h1 : f ≠ .LN_TX_PRE) (h2 : f ≠ .LN_TX_POST) :
    fieldCheck w idle f i j v = .ok v := by
  simp only [fieldCheck, ho, hr, hb, Verdict.but, List.find?_nil]
  split <;> first | contradiction | rfl

/-- A field that belongs to no flow's target changes no MAC's load (R163). -/
theorem View.changeBar_false (w : View) (cur : List (Bool × Nat × List Nat)) {x : FieldWrite} (h : ∀ aud, x.fld ∉ targetFields aud) :
    w.changeBar cur x = false := by
  simp [View.changeBar, h]

/-- A write that covers one field, which stands as it is, is accepted (R507). -/
theorem State.judgeHere_single {s : State} {dom : Nat} {own : Bool} {a v : Nat} {x : FieldWrite} (hc : covered a [v] = [x]) (hw : x.whole = true)
    (ha : x.fld.desc.acc ≠ .ro) (hf : ∀ w : View, w.role = s.rd .SYS_ROLE → fieldCheck w s.idleBlock x.fld x.i x.j x.v = .ok x.v)
    (ht : ∀ w : View, s.targetCheck w x = none) : s.judgeHere dom own a [v] = .ok ([x], false) := by
  obtain ⟨f, i, j, y, whole, b⟩ := x
  obtain rfl : whole = true := hw
  simp only [State.judgeHere, judgeWrite, hc, List.filter_cons, List.filter_nil, bne_iff_ne.mpr ha, if_true, List.isEmpty_cons]
  simp [verdicts, hf _ (show (View.over (s.viewHere dom own) _).role = _ from rfl), ht, Except.map]

-- What it stores ----------------------------------------------------------------------------------------------------

/-- The fields that act together with others (R289, R312, R398, R431). -/
def groupFields : List Fld := [.PD_INCR, .PD_OFFSET, .TT_PORTS, .SEC_DEBUG_TOKEN, .GP_PULSE_LINES]

theorem valueOf_single_ne {x : FieldWrite} {f : Fld} (i : Nat) (h : x.fld ≠ f) : valueOf [x] f i = none := by
  simp [valueOf, h]

theorem writeGroups_single (order dom : Nat) {x : FieldWrite} (h : x.fld ∉ groupFields) (s : State) : (writeGroups order dom [x]).to s = s := by
  simp only [groupFields, List.mem_cons, not_or] at h
  obtain ⟨h1, h2, h3, h4, h5, _⟩ := h
  simp [writeGroups, trigWords, valueOf_single_ne _ h1, valueOf_single_ne _ h2, valueOf_single_ne _ h3, valueOf_single_ne _ h4, valueOf_single_ne _ h5]

theorem storeAll_single (from_ order dom : Nat) {x : FieldWrite} (h : x.fld ∉ groupFields) (s : State) :
    (storeAll from_ order dom [x]).to s = (storeField from_ x).to s := by
  simp [storeAll, writeGroups_single order dom h]

/-- Firmware's write of one field that is accepted stores it (R6). -/
theorem directWrite_single {s : State} {a v : Nat} {x : FieldWrite} (hj : s.judgeHere 0 false a [v] = .ok ([x], false)) (hb : s.busRight 0 a = 3)
    (hg : x.fld ∉ groupFields) (hm : x.fld ≠ .SYS_REMAP) : (directWrite a [v]).to s = (storeField (s.house + 1) x).to s := by
  simp [directWrite, hj, hb, storeAll_single _ _ _ hg, hm]

end Sys2Proof.Machine
end

section
/-! SUPPORT. The direct writes of O48: counters that a write clears, the restart that is asked for and the one that begins, the message that a session brings. -/
set_option Elab.async false
namespace Sys2Proof.Machine

theorem at_to_since (t : Nat) (s : State) : (at_ t).to s = s.since t := rfl

@[simp] theorem State.rd_since (s : State) (t : Nat) (f : Fld) (i j : Nat) : (s.since t).rd f i j = s.rd f i j := rfl

-- Counters that a write clears ----------------------------------------------------------------------------------------

/-- Copies of one field set to 0 read 0, and nothing else changes. -/
theorem each_zero_rd (c : Fld) (l : List (Nat × Nat)) (f : Fld) (i j : Nat) : ∀ s : State, SMap.sorted s.regs = true →
    ((each l fun p => set c 0 p.1 p.2).to s).rd f i j = if f = c ∧ (i, j) ∈ l then 0 else s.rd f i j := by
  induction l with
  | nil => intro s _; simp
  | cons p l ih =>
    intro s hs
    rw [each_cons_to, set_to, ih _ (State.setReg_sorted _ _ _ _ hs)]
    by_cases hp : f = c ∧ (i, j) = p
    · obtain ⟨rfl, rfl⟩ := hp
      have h0 : (s.setReg f i j 0).rd f i j = 0 := by
        cases hh : f.has i j with
        | true => simp [State.rd_setReg_same 0 hs hh]
        | false => exact State.rd_of_not_has _ hh
      simp [h0]
    · have ho : (s.setReg c p.1 p.2 0).rd f i j = s.rd f i j := by
        refine State.rd_setReg_other s 0 ?_
        by_contra hn
        simp only [not_or, not_not] at hn
        exact hp ⟨hn.1, Prod.ext hn.2.1 hn.2.2⟩
      by_cases hf : f = c
      · subst hf
        have : (i, j) ≠ p := fun e => hp ⟨rfl, e⟩
        simp [ho, this]
      · simp [ho, hf]

/-- Where a field that the block has once is not among the copies cleared, it holds its reset value. -/
theorem State.rd_of_not_cleared {s : State} {f c : Fld} (hn : f.desc.n = 1) (hm : f.desc.m = 1) (h : (0, 0) ∉ s.cleared f c 0 0) :
    s.rd c = c.resetAt 0 0 ∨ s.rd c = 0 := by
  cases hh : c.has 0 0 with
  | false => exact .inr (State.rd_of_not_has s hh)
  | true =>
    refine .inl ?_
    simp only [State.rd, hh, if_true, SMap.get]
    cases e : SMap.find (c.key 0 0) s.regs with
    | none => rfl
    | some v =>
      refine absurd (List.mem_filterMap.mpr ⟨_, Tests.SMap_mem_of_find _ e, ?_⟩) h
      have hk : c.key 0 0 / 2 ^ 40 = c.ctorIdx := by simp only [Fld.key]; omega
      have hi : c.key 0 0 / 2 ^ 20 % 2 ^ 20 = 0 := by simp only [Fld.key]; omega
      have hj : c.key 0 0 % 2 ^ 20 = 0 := by simp only [Fld.key]; omega
      simp only [hk, hi, hj, hn, hm, and_self, true_or, if_true]

/-- A write of 1 to a block's CNT_CLR field zeroes its counter `c`. -/
theorem each_cleared_rd {s : State} {f c : Fld} (hn : f.desc.n = 1) (hm : f.desc.m = 1) (hr : c.resetAt 0 0 = 0)
    {u : State} (hu : SMap.sorted u.regs = true) (hc : u.rd c = s.rd c) : ((each (s.cleared f c 0 0) fun p => set c 0 p.1 p.2).to u).rd c = 0 := by
  rw [each_zero_rd c _ _ _ _ u hu]
  split
  · rfl
  · rename_i h
    have := State.rd_of_not_cleared hn hm (fun hmem => h ⟨rfl, hmem⟩)
    rw [hr, or_self] at this
    rw [hc, this]

/-- `look_to` as a proved equation: `simp` rewrites with it step by step, and the kernel compares no two states by computing them. -/
theorem look_runs (f : State → Act) (s : State) : (look f).to s = (f s).to s := by rw [look_to]

-- A restart that is asked for, and one that begins (R437, R453) ---------------------------------------------------------

/-- While D0 is not ready a restart that is asked for comes in 1 ms (R453). -/
theorem restartAsked_to {s : State} (h : s.domReady 0 = false) :
    restartAsked.to s = { s with timers := s.timers.ins (Tmr.restart.key 0) (s.now + psMs) } := by
  simp only [restartAsked, look_runs, h]
  cases s.domFormat 0 <;> rfl

theorem busError_timers (m a : Nat) (write : Bool) (code status cause : Nat) (s : State) :
    ((busError m a write code status cause).to s).timers = s.timers := by
  simp only [busError, raisePerSecond, look_runs, all_cons_to, all_nil_to, count_to, iff_to, set_to]
  split <;> split <;> simp

theorem busError_mem (m a : Nat) (write : Bool) (code status cause : Nat) (s : State) : ((busError m a write code status cause).to s).mem = s.mem := by
  simp only [busError, raisePerSecond, look_runs, all_cons_to, all_nil_to, count_to, iff_to, set_to]
  split <;> split <;> simp

theorem State.fresh_cfg (s : State) : s.fresh.cfg = none :=
  State.keep_fold State.cfg (fun _ _ _ _ _ => State.setReg_cfg ..) s.rd keptFields _
theorem State.fresh_sessions (s : State) : s.fresh.sessions = [] :=
  State.keep_fold State.sessions (fun _ _ _ _ _ => State.setReg_sessions ..) s.rd keptFields _
theorem State.fresh_acts (s : State) : s.fresh.acts = [] :=
  State.keep_fold State.acts (fun _ _ _ _ _ => State.setReg_acts ..) s.rd keptFields _
theorem State.fresh_nvm (s : State) : s.fresh.nvm = s.nvm :=
  State.keep_fold State.nvm (fun _ _ _ _ _ => State.setReg_nvm ..) s.rd keptFields _
theorem State.fresh_clampReport (s : State) : s.fresh.clampReport = s.clampReport :=
  State.keep_fold State.clampReport (fun _ _ _ _ _ => State.setReg_clampReport ..) s.rd keptFields _

theorem each_put_get {α : Type} (get : State → α) (hq : ∀ s x i j v, get (State.setQ s x i j v) = get s) (g : Qty → Int) (xs : List Qty) :
    ∀ s : State, get ((each xs fun x => put x (g x)).to s) = get s := by
  induction xs with
  | nil => intro s; rfl
  | cons x xs ih => intro s; rw [each_cons_to, ih, put_to, hq]

/-- A component that writes of registers and quantities leave alone stands, where a start begins, as the return to reset leaves it (R437). -/
theorem beginStart_get {α : Type} (get : State → α) (hr : ∀ s f i j v, get (State.setReg s f i j v) = get s)
    (hq : ∀ s x i j v, get (State.setQ s x i j v) = get s) (s : State) : get (beginStart.to s) = get s.fresh := by
  simp only [beginStart, restartAll, all_cons_to, all_nil_to, look_runs, put_to, set_to, hr, hq, one_to, State.app_restart, each_put_get get hq]

/-- A start begins in POWER_UP (R435). -/
theorem beginStart_state {s : State} (hs : SMap.sorted s.regs = true) : (beginStart.to s).rd .SU_STATE = 0 := by
  have hs' : SMap.sorted ((put .powerGood 1).to (restartAll.to s)).regs = true := Act.to_regs_sorted _ (Act.to_regs_sorted _ hs)
  simp only [beginStart, all_cons_to, all_nil_to, set_to, look_runs]
  rw [State.rd_setReg_other _ _ (.inl (by decide)), State.rd_setReg_same 0 hs' (by decide), Nat.zero_mod]

/-- It begins with power-good (R435). -/
theorem beginStart_powerGood {s : State} (hs : SMap.sorted s.qty = true) : (beginStart.to s).q .powerGood = 1 := by
  simp only [beginStart, all_cons_to, all_nil_to, set_to, look_runs, State.q_setReg, put_to]
  exact State.q_setQ_same 1 (Act.to_qty_sorted _ hs) (by decide) (by decide)

-- A message that is taken (R378 to R380) --------------------------------------------------------------------------------

/-- A session once a message `seq` of it is taken: a token is spent, and the number is among those seen (R378, R380). -/
def Session.noted (x : Session) (now hi seq : Nat) : Session :=
  { x with
    bucket := x.fill now - token
    bucketAt := now
    seen := (seq :: x.seen).filter fun q => decide (max hi seq ≤ q + 64) }

/-- What a message that is taken does before it is acted on: its session's bucket and sequence numbers, and the timers that it restarts. -/
def noted (m : Msg) (x : Session) : Act := look fun s => all [
  putSession (x.noted s.now (s.rd .TS_SEQ_RX m.sess) m.seq), set .TS_SEQ_RX (max (s.rd .TS_SEQ_RX m.sess) m.seq) m.sess,
  Sys2Proof.Machine.count .TS_MSGS 1 m.sess, keepAlive m.sess, disarm .msgPart m.sess]

/-- Freshness and completeness of a message depend on its session's numbers alone. -/
theorem Session.fresh_congr {x y : Session} (h : y.seen = x.seen) (hi seq : Nat) : y.fresh hi seq = x.fresh hi seq := by
  simp only [Session.fresh, h]
theorem State.partsIn_congr {x y : Session} (h : y.seen = x.seen) (s : State) (t : Nat) (m : Msg) : (s.since t).partsIn y m = s.partsIn x m := by
  simp only [State.partsIn, State.qn, State.q, State.timer, State.since, h]
  rfl

/-- A message that is taken is noted, then acted on. -/
theorem received_to {s : State} {m : Msg} (h : s.takes m = true) :
    ∃ x : Session, s.session m.sess = some x ∧ ∀ act : Act, (received m act).to (s.since m.t) = act.to ((noted m x).to (s.since m.t)) := by
  unfold State.takes at h
  cases hx : s.session m.sess with
  | none => simp [hx] at h
  | some x =>
    simp only [hx, Bool.and_eq_true, decide_eq_true_eq, beq_iff_eq, Bool.not_eq_true', List.all_eq_true, bne_iff_ne] at h
    obtain ⟨⟨⟨⟨⟨⟨⟨⟨-, hopen⟩, htag⟩, hfill⟩, hnew⟩, hseq⟩, hfresh⟩, hmore⟩, hparts⟩ := h
    refine ⟨x, rfl, fun act => ?_⟩
    have hs : (s.since m.t).session m.sess = some x := hx
    have hf : ¬ x.fill (s.since m.t).now < token := Nat.not_lt.mpr hfill
    have ha : (x.answers.find? fun a => a.seq == m.seq) = none := by simpa [List.find?_eq_none] using hnew
    have hq : ¬ 0xFFFFFFFF ≤ m.seq := by omega
    have hp := State.partsIn_congr (x := x) (y := { x with bucket := x.fill (s.since m.t).now - token, bucketAt := (s.since m.t).now }) rfl s m.t m
    have hr := Session.fresh_congr (x := x) (y := { x with bucket := x.fill (s.since m.t).now - token, bucketAt := (s.since m.t).now }) rfl
    rw [hparts] at hp
    simp only [received, look_runs, hs, State.rd_since, hopen, htag, hf, ha, hq, hr, hfresh, hmore, hp, noted, Session.noted, all_cons_to, all_nil_to, iff_to,
      ne_eq, not_true_eq_false, Bool.not_true, Bool.false_eq_true, if_false, if_true]

/-- Noting a message shows in its session, its timers and two counts alone. -/
def Eff.ofMessage : Eff → Prop
  | .wr f _ _ _ => f = .TS_SEQ_RX ∨ f = .TS_MSGS
  | .sessions _ => True
  | .arm x _ _ => x = .sessIdle ∨ x = .updLock
  | .disarm x _ => x = .msgPart
  | _ => False

theorem noted_within (m : Msg) (x : Session) : (noted m x).Within Eff.ofMessage :=
  within_look fun _ => within_all_cons (within_look fun _ => within_one trivial) (within_all_cons (within_set (.inl rfl))
    (within_all_cons (within_count fun _ => .inr rfl) (within_all_cons (within_look fun _ => within_all_cons (within_arm fun _ => .inl rfl)
      (within_all_cons (within_iff fun _ => within_arm fun _ => .inr rfl) within_all_nil)) (within_all_cons (within_disarm rfl) within_all_nil))))

theorem Eff.ofMessage.writes {e : Eff} (h : e.ofMessage) : e.writes [.TS_SEQ_RX, .TS_MSGS] := by
  cases e <;> simp_all [Eff.ofMessage, Eff.writes]

/-- A component of the state that no message touches. -/
theorem ofMessage_keeps {α : Type} (get : State → α) (hr : ∀ s f i j v, get (State.setReg s f i j v) = get s)
    (hs : ∀ s x, get (State.app s (.sessions x)) = get s) (ht : ∀ (s : State) x, get { s with timers := x } = get s) (m : Msg) (x : Session) (s : State) :
    get ((noted m x).to s) = get s := by
  refine (noted_within m x).keeps (P := fun t => get t = get s) (fun t e hp h => ?_) rfl
  rw [← h]
  cases e <;> simp only [Eff.ofMessage] at hp
  case wr => exact hr ..
  case sessions => exact hs ..
  case arm => exact ht ..
  case disarm => exact ht ..

/-- A register other than the two counts keeps its value. -/
theorem noted_rd (m : Msg) (x : Session) (s : State) {f : Fld} (hf : f ∉ [Fld.TS_SEQ_RX, .TS_MSGS]) (i j : Nat) : ((noted m x).to s).rd f i j = s.rd f i j :=
  Act.Within.rd ((noted_within m x).mono fun _ => Eff.ofMessage.writes) hf s i j

/-- A sound state has no more sessions than slots (R375). -/
theorem State.wf_sessions {s : State} (h : s.wf = true) : s.sessions.length ≤ 34 := by
  simp only [State.wf, State.bounded, Bool.and_eq_true, decide_eq_true_eq] at h
  tauto

theorem putSession_session (y : Session) {s : State} (hl : s.sessions.length ≤ 34) (n : Nat) :
    ((putSession y).to s).session n = (s.session n).map fun z => if z.slot == y.slot then y else z := by
  have hp : ((fun z : Session => z.slot == n) ∘ fun z => if z.slot == y.slot then y else z) = fun z => z.slot == n := by
    funext z
    by_cases h : z.slot = y.slot <;> simp [h]
  simp only [State.session, putSession, look_runs, one_to, State.app_sessions]
  rw [List.take_of_length_le (by simpa using hl), List.find?_map, hp]

theorem sendAnswer_timers (a : Answer) (s : State) : ((sendAnswer a).to s).timers = s.timers := by
  simp only [sendAnswer, look_runs, all_cons_to, all_nil_to, emit_to, count_to]
  split <;> simp [putSession]

theorem sendAnswer_mem (a : Answer) (s : State) : ((sendAnswer a).to s).mem = s.mem := by
  simp only [sendAnswer, look_runs, all_cons_to, all_nil_to, emit_to, count_to]
  split <;> simp [putSession]

theorem noted_sessions (m : Msg) (x : Session) (s : State) :
    ((noted m x).to s).sessions = ((putSession (x.noted s.now (s.rd .TS_SEQ_RX m.sess) m.seq)).to s).sessions := by
  simp only [noted, keepAlive, look_runs, all_cons_to, all_nil_to, iff_to, set_to, count_to, arm_to, disarm_to]
  split <;> simp only [State.setReg_sessions]

/-- A session stays a claim session, or not one, when a message of it is noted. -/
theorem noted_claimOnly (m : Msg) {x : Session} {s : State} (hl : s.sessions.length ≤ 34) (hx : s.session m.sess = some x) :
    ((noted m x).to s).claimOnly m.sess = s.claimOnly m.sess := by
  have ho : ((noted m x).to s).owners = s.owners := ofMessage_keeps State.owners (fun _ _ _ _ _ => State.setReg_owners ..) (fun _ _ => rfl) (fun _ _ => rfl) m x s
  have hs : ((noted m x).to s).session m.sess = ((putSession (x.noted s.now (s.rd .TS_SEQ_RX m.sess) m.seq)).to s).session m.sess := by
    simp only [State.session, noted_sessions]
  simp only [State.claimOnly, ho, hs, putSession_session _ hl, hx, Option.map_some, Session.noted, BEq.rfl, if_true]

theorem noted_activeNode (m : Msg) (x : Session) (s : State) : ((noted m x).to s).activeNode = s.activeNode := by
  have hq (y : Qty) (i j : Nat) : ((noted m x).to s).q y i j = s.q y i j :=
    ofMessage_keeps (fun s => s.q y i j) (fun _ _ _ _ _ => State.q_setReg ..) (fun _ _ => rfl) (fun _ _ => rfl) m x s
  simp only [State.activeNode, State.standAlone, State.node, State.qn, hq]
  simp [noted_rd m x s]

-- The writes of O48 -----------------------------------------------------------------------------------------------------

/-- A write that covers one field of a block that is not idle, whose value meets the field's range, is accepted. -/
theorem State.judgeHere_plain {s : State} {dom : Nat} {own : Bool} {a v y b k : Nat} {f : Fld} (hc : covered a [v] = [⟨f, 0, 0, y, true, b⟩])
    (ha : f.desc.acc ≠ .ro) (hn : f.desc.n = 1) (hk : (f.desc.addr - 0x40000000) / 0x100000 = k ∧ blockOf f.desc.addr = k) (hi : s.idleBlock k = false)
    (hr : ∀ w, rangeCheck w f 0 0 y = .ok y) (hb : ∀ w, boundChecks w f 0 = []) (hp : f ≠ .LN_TX_PRE ∧ f ≠ .LN_TX_POST)
    (ht : ∀ w : View, s.targetCheck w ⟨f, 0, 0, y, true, b⟩ = none) : s.judgeHere dom own a [v] = .ok ([⟨f, 0, 0, y, true, b⟩], false) := by
  refine State.judgeHere_single hc rfl ha (fun w hw => fieldCheck_ok (objectCheck_none 0 hn ?_ ?_) (hr w) (hb w) hp.1 hp.2) ht
  · rw [hk.1]; exact hi
  · rw [hk.2, hw]
    simp only [State.idleBlock, Bool.or_eq_false_iff] at hi
    exact hi.1

/-- The fields of which a write meets a check that the target alone can make (R386). -/
def checkedFields : List Fld :=
  [.ORD_RESYNC_REQ, .FL_ENABLE, .VO_OFFSET, .FP_MODE, .FP_BASE, .FP_MOD, .RI_VIN0_PORT, .PD_INCR, .PD_OFFSET, .PD_UTC_OFFSET, .PQ_ACK, .PQ_LOST_ACK,
    .EQ_ACK, .MC_SLEEP, .LN_PRBS_TX, .LN_PRBS_NRZ, .LN_TX_RETRY, .LN_ES_GO] ++ framing ++ targetFields false ++ targetFields true

theorem State.targetCheck_none (s : State) (w : View) {x : FieldWrite} (h : x.fld ∉ checkedFields) : s.targetCheck w x = none := by
  have ht : ∀ aud, x.fld ∉ targetFields aud := by
    intro aud hm
    cases aud <;> exact h (by simp only [checkedFields, List.mem_append]; tauto)
  have hf : x.fld ∉ framing := fun hm => h (by simp only [checkedFields, List.mem_append]; tauto)
  unfold State.targetCheck
  split
  case h_19 => simp [View.changeBar_false w _ ht, hf]
  all_goals rename_i e; exact absurd (e ▸ h) (by decide)

/-- ORD_RESYNC_AUTO takes any value of its bit (R39). -/
theorem judgeHere_resyncAuto (s : State) (v : Nat) :
    s.judgeHere 0 false 0x4000013C [v] = .ok ([⟨.ORD_RESYNC_AUTO, 0, 0, v % 2, true, 0x4000013C * 8⟩], false) :=
  State.judgeHere_plain (covered_resyncAuto v) (by decide) (by decide) (by decide) (State.idleBlock_zero s) (fun _ => rfl) (fun _ => rfl) (by decide)
    fun w => s.targetCheck_none w (show Fld.ORD_RESYNC_AUTO ∉ checkedFields by decide)

/-- XP_CNT_CLR takes a 1 where its block is not idle (R142). -/
theorem judgeHere_xpCntClr {s : State} (h : s.idleBlock 4 = false) :
    s.judgeHere 0 false 0x4048003C [1] = .ok ([⟨.XP_CNT_CLR, 0, 0, 1, true, 0x4048003C * 8⟩], false) :=
  State.judgeHere_plain covered_xpCntClr (by decide) (by decide) (by decide) h (fun _ => rfl) (fun _ => rfl) (by decide)
    fun w => s.targetCheck_none w (show Fld.XP_CNT_CLR ∉ checkedFields by decide)

/-- SYS_RESTART takes 5A5Ah (R453). -/
theorem judgeHere_sysRestart (s : State) :
    s.judgeHere 0 false 0x40000240 [0x5A5A] = .ok ([⟨.SYS_RESTART, 0, 0, 0x5A5A, true, 0x40000240 * 8⟩], false) :=
  State.judgeHere_plain covered_sysRestart (by decide) (by decide) (by decide) (State.idleBlock_zero s) (fun _ => rfl) (fun _ => rfl) (by decide)
    fun w => s.targetCheck_none w (show Fld.SYS_RESTART ∉ checkedFields by decide)

/-- Firmware's write of ORD_RESYNC_AUTO stores its bit and does nothing else (R6, R39). -/
theorem directWrite_resyncAuto (s : State) (v : Nat) : (directWrite 0x4000013C [v]).to s = s.setReg .ORD_RESYNC_AUTO 0 0 (v % 2) := by
  rw [directWrite_single (judgeHere_resyncAuto s v) rfl (show Fld.ORD_RESYNC_AUTO ∉ groupFields by decide) (show Fld.ORD_RESYNC_AUTO ≠ .SYS_REMAP by decide)]
  rfl

/-- Firmware's write of 1 to XP_CNT_CLR clears its two counters (R142). -/
theorem directWrite_xpCntClr {s : State} (h : s.idleBlock 4 = false) :
    (directWrite 0x4048003C [1]).to s = (each (s.cleared .XP_CNT_CLR .XP_UNTIMED_ALL 0 0) fun p => set .XP_UNTIMED_ALL 0 p.1 p.2).to
      ((each (s.cleared .XP_CNT_CLR .XP_TAKES_ALL 0 0) fun p => set .XP_TAKES_ALL 0 p.1 p.2).to s) := by
  rw [directWrite_single (judgeHere_xpCntClr h) rfl (show Fld.XP_CNT_CLR ∉ groupFields by decide) (show Fld.XP_CNT_CLR ≠ .SYS_REMAP by decide)]
  show (clearCounters .XP_CNT_CLR 0 0).to s = _
  simp only [clearCounters, Fld.counters, look_runs, each_cons_to, each_nil_to]

/-- A session on SVC writes 5A5Ah to SYS_RESTART in KINDLING: a restart is asked for, and the message is answered ACCEPTED (R382, R453). -/
theorem svcWrite_sysRestart {s : State} {m : Msg} (v : ClaimVerdict) (hlen : m.lenOk = true) (hclaim : s.claimOnly m.sess = false)
    (hpriv : bit (s.rd .TS_PRIV m.sess) 1 = true) (hst : s.rd .SU_STATE = 4) :
    (svcWrite m 0x40000240 4 [0x5A5A] v).to s = (answer m .ACCEPTED).to (restartAsked.to s) := by
  have hstore : (storeField (s.house + 1) ⟨.SYS_RESTART, 0, 0, 0x5A5A, true, 0x40000240 * 8⟩).to s = restartAsked.to s := rfl
  have hall := storeAll_single (s.house + 1) 0 0 (x := ⟨.SYS_RESTART, 0, 0, 0x5A5A, true, 0x40000240 * 8⟩) (show Fld.SYS_RESTART ∉ groupFields by decide) s
  rw [hstore] at hall
  have hfs : (covered 0x40000240 [0x5A5A]).map FieldWrite.fld = [.SYS_RESTART] := by rw [covered_sysRestart]; rfl
  have hr : badRange 0x40000240 4 = none := by decide
  simp only [svcWrite, look_runs, hfs, hlen, hr, hclaim, hpriv, hst, judgeHere_sysRestart s]
  rw [if_neg (by decide), if_neg (by decide), if_neg (by decide), if_neg (by decide), all_cons_to, hall, all_cons_to, all_nil_to]
  rfl

/-- The answer leaves; timers and memory stay. -/
theorem answer_accepted (m : Msg) (s : State) : ((answer m .ACCEPTED).to s).timers = s.timers ∧ ((answer m .ACCEPTED).to s).mem = s.mem
    ∧ ((answer m .ACCEPTED).to s).out = s.out ++ [.answer ⟨m.sess, m.seq, 0, 0, 0, 0, 0, s.activeNode, []⟩] := by
  rw [answer, look_runs]
  exact ⟨sendAnswer_timers .., sendAnswer_mem .., sendAnswer_out ..⟩

/-- Where D0 is not ready, a restart that is asked for changes its timer alone. -/
theorem restartAsked_timer {s : State} (h : s.domReady 0 = false) : (restartAsked.to s).timer .restart = some (s.now + psMs) := by
  rw [restartAsked_to h]
  exact SMap.find_ins_same _ _ _

-- The five commands -----------------------------------------------------------------------------------------------------

theorem exec_registerWrite (t a : Nat) (data : List Nat) (s : State) :
    exec (.registerWrite t a data) s = .next ((directWrite a data).to (s.since t)) := by
  show run (all [at_ t, directWrite a data]) s = _
  rw [run_eq, all_cons_to, all_cons_to, all_nil_to, at_to_since]

theorem exec_counterClearWrite (t a v : Nat) (s : State) : exec (.counterClearWrite t a v) s = .next ((directWrite a [v]).to (s.since t)) :=
  exec_registerWrite t a [v] s

theorem exec_sysRestartWrite (t v : Nat) (s : State) : exec (.sysRestartWrite t v) s =
    .next ((if v = 0x5A5A then restartAsked else busError 0 0x40000240 true rReject Status.REFUSED.code 0 : Act).to (s.since t)) := by
  show run (all [at_ t, if v = 0x5A5A then restartAsked else busError 0 0x40000240 true rReject Status.REFUSED.code 0]) s = _
  rw [run_eq, all_cons_to, all_cons_to, all_nil_to, at_to_since]

theorem exec_svcDirectWrite {s : State} {m : Msg} (h : s.onSvc m.sess = true) (a n : Nat) (data : List Nat) (v : ClaimVerdict) :
    exec (.svcDirectWrite m a n data v) s = .next ((received m (svcWrite m a n data v)).to (s.since m.t)) := by
  show run (all [at_ m.t, look fun s => iff (s.onSvc m.sess) (received m (svcWrite m a n data v))]) s = _
  have hs : (s.since m.t).onSvc m.sess = true := h
  rw [run_eq, all_cons_to, all_cons_to, all_nil_to, at_to_since, look_runs, iff_to, if_pos hs]

theorem exec_commandedRestart {s : State} {t : Nat} (h : (s.since t).due .restart = true) :
    exec (.commandedRestart t) s = .next (beginStart.to (s.since t)) := by
  show run (all [at_ t, look fun s => iff (s.due .restart) beginStart]) s = _
  rw [run_eq, all_cons_to, all_cons_to, all_nil_to, at_to_since, look_runs, iff_to, if_pos h]

-- What they leave -------------------------------------------------------------------------------------------------------

/-- ORD_RESYNC_AUTO's word stores its bit (R6, R39). -/
theorem registerWrite_resyncAuto {s : State} (hs : SMap.sorted s.regs = true) (t v : Nat) :
    ∃ u, exec (.registerWrite t 0x4000013C [v]) s = .next u ∧ u.rd .ORD_RESYNC_AUTO = v % 2
      ∧ (∀ f i j, f ≠ .ORD_RESYNC_AUTO → u.rd f i j = s.rd f i j) ∧ u.mem = s.mem ∧ u.out = s.out := by
  refine ⟨_, exec_registerWrite .., ?_⟩
  rw [directWrite_resyncAuto]
  refine ⟨?_, fun f i j hf => State.rd_setReg_other _ _ (.inl hf), State.setReg_mem .., State.setReg_out ..⟩
  rw [State.rd_setReg_same (s := s.since t) _ hs (by decide)]
  exact Nat.mod_mod v 2

/-- Setting copies of a counter to 0 touches registers alone. -/
theorem each_zero_get {α : Type} (get : State → α) (hr : ∀ s f i j v, get (State.setReg s f i j v) = get s) (c : Fld) (l : List (Nat × Nat)) :
    ∀ s : State, get ((each l fun p => set c 0 p.1 p.2).to s) = get s := by
  induction l with
  | nil => intro s; rfl
  | cons p l ih => intro s; rw [each_cons_to, ih, set_to, hr]

/-- XP_CNT_CLR zeroes its two counters (R142). -/
theorem counterClearWrite_xpCntClr {s : State} (hs : SMap.sorted s.regs = true) (h : s.idleBlock 4 = false) (t : Nat) :
    ∃ u, exec (.counterClearWrite t 0x4048003C 1) s = .next u ∧ u.rd .XP_TAKES_ALL = 0 ∧ u.rd .XP_UNTIMED_ALL = 0
      ∧ (∀ f i j, f ≠ .XP_TAKES_ALL → f ≠ .XP_UNTIMED_ALL → u.rd f i j = s.rd f i j) ∧ u.mem = s.mem ∧ u.out = s.out := by
  refine ⟨_, exec_counterClearWrite .., ?_⟩
  rw [directWrite_xpCntClr (s := s.since t) h]
  have hsorted := Act.to_regs_sorted (each ((s.since t).cleared .XP_CNT_CLR .XP_TAKES_ALL 0 0) fun p => set .XP_TAKES_ALL 0 p.1 p.2) (s := s.since t) hs
  have hfirst {f : Fld} (hf : f ≠ .XP_TAKES_ALL) (i j : Nat) := (each_zero_rd .XP_TAKES_ALL
    ((s.since t).cleared .XP_CNT_CLR .XP_TAKES_ALL 0 0) f i j (s.since t) hs).trans (if_neg fun hh => hf hh.1)
  have hsecond {f : Fld} (hf : f ≠ .XP_UNTIMED_ALL) (i j : Nat) := (each_zero_rd .XP_UNTIMED_ALL
    ((s.since t).cleared .XP_CNT_CLR .XP_UNTIMED_ALL 0 0) f i j _ hsorted).trans (if_neg fun hh => hf hh.1)
  refine ⟨?_, ?_, fun f i j h1 h2 => (hsecond h2 i j).trans (hfirst h1 i j), ?_, ?_⟩
  · exact (hsecond (by decide) 0 0).trans (each_cleared_rd (s := s.since t) (by decide) (by decide) (by decide) hs rfl)
  · exact each_cleared_rd (by decide) (by decide) (by decide) hsorted (hfirst (by decide) 0 0)
  · exact (each_zero_get State.mem (fun _ _ _ _ _ => State.setReg_mem ..) _ _ _).trans (each_zero_get State.mem (fun _ _ _ _ _ => State.setReg_mem ..) _ _ _)
  · exact (each_zero_get State.out (fun _ _ _ _ _ => State.setReg_out ..) _ _ _).trans (each_zero_get State.out (fun _ _ _ _ _ => State.setReg_out ..) _ _ _)

/-- 5A5Ah to SYS_RESTART asks for a restart in 1 ms while D0 is not ready (R453). -/
theorem sysRestartWrite_asks {s : State} (t : Nat) (h : s.domReady 0 = false) : ∃ u, exec (.sysRestartWrite t 0x5A5A) s = .next u
    ∧ u.timer .restart = some (max s.now t + psMs) ∧ u.regs = s.regs ∧ u.mem = s.mem ∧ u.out = s.out := by
  refine ⟨_, exec_sysRestartWrite .., ?_⟩
  rw [if_pos rfl]
  refine ⟨restartAsked_timer (s := s.since t) h, ?_⟩
  rw [restartAsked_to (s := s.since t) h]
  exact ⟨rfl, rfl, rfl⟩

/-- Any other value asks for none (R453). -/
theorem sysRestartWrite_refused (s : State) (t : Nat) {v : Nat} (h : v ≠ 0x5A5A) :
    ∃ u, exec (.sysRestartWrite t v) s = .next u ∧ u.timers = s.timers ∧ u.mem = s.mem := by
  refine ⟨_, exec_sysRestartWrite .., ?_⟩
  rw [if_neg h]
  exact ⟨busError_timers .., busError_mem ..⟩

/-- In KINDLING a session on SVC with CONFIGURE asks for a restart, and is answered ACCEPTED (R382, R453). -/
theorem svcDirectWrite_restart {s : State} {m : Msg} (v : ClaimVerdict) (hwf : s.wf = true) (htakes : s.takes m = true) (hlen : m.lenOk = true)
    (hsvc : s.onSvc m.sess = true) (hclaim : s.claimOnly m.sess = false) (hpriv : bit (s.rd .TS_PRIV m.sess) 1 = true) (hst : s.rd .SU_STATE = 4)
    (hd : s.domReady 0 = false) : ∃ u, exec (.svcDirectWrite m 0x40000240 4 [0x5A5A] v) s = .next u ∧ u.timer .restart = some (max s.now m.t + psMs)
      ∧ u.out = s.out ++ [.answer ⟨m.sess, m.seq, 0, 0, 0, 0, 0, s.activeNode, []⟩] ∧ u.mem = s.mem := by
  obtain ⟨x, hx, hrec⟩ := received_to htakes
  have hrd {f : Fld} (hf : f ∉ [Fld.TS_SEQ_RX, .TS_MSGS]) (i j : Nat) : ((noted m x).to (s.since m.t)).rd f i j = s.rd f i j := noted_rd m x _ hf i j
  have hget {α : Type} (get : State → α) (hr : ∀ s f i j v, get (State.setReg s f i j v) = get s) (hs : ∀ s x, get (State.app s (.sessions x)) = get s)
      (ht : ∀ (s : State) x, get { s with timers := x } = get s) := ofMessage_keeps get hr hs ht m x (s.since m.t)
  have hc : ((noted m x).to (s.since m.t)).claimOnly m.sess = false :=
    (noted_claimOnly m (s := s.since m.t) (State.wf_sessions hwf) hx).trans hclaim
  have hd' : ((noted m x).to (s.since m.t)).domReady 0 = false := by
    simpa only [State.domReady, hrd (show Fld.RD_STATE_RASTER ∉ _ by decide)] using hd
  have hw := svcWrite_sysRestart v hlen hc ((congrArg (bit · 1) (hrd (by decide) _ _)).trans hpriv) ((hrd (by decide) 0 0).trans hst)
  obtain ⟨htimers, hmem, hout⟩ := answer_accepted m (restartAsked.to ((noted m x).to (s.since m.t)))
  refine ⟨_, exec_svcDirectWrite hsvc .., ?_⟩
  rw [hrec, hw, State.timer, htimers, hout, hmem, ← State.timer, restartAsked_timer hd', restartAsked_to hd']
  refine ⟨?_, ?_, hget State.mem (fun _ _ _ _ _ => State.setReg_mem ..) (fun _ _ => rfl) (fun _ _ => rfl)⟩
  · rw [hget State.now (fun _ _ _ _ _ => State.setReg_now ..) (fun _ _ => rfl) (fun _ _ => rfl)]
    rfl
  · have ho := hget State.out (fun _ _ _ _ _ => State.setReg_out ..) (fun _ _ => rfl) (fun _ _ => rfl)
    exact congrArg₂ (fun (o : List Sent) n => o ++ [Sent.answer ⟨m.sess, m.seq, 0, 0, 0, 0, 0, n, []⟩]) ho (noted_activeNode m x _)

/-- COMMANDED_RESTART begins a start, at which nothing that was loaded is left (R437, R453). -/
theorem commandedRestart_begins {s : State} (hwf : s.wf = true) (t : Nat) (h : (s.since t).due .restart = true) :
    ∃ u, exec (.commandedRestart t) s = .next u ∧ u.rd .SU_STATE = 0 ∧ u.q .powerGood = 1 ∧ u.cfg = none ∧ u.sessions = [] ∧ u.acts = [] ∧ u.mem = []
      ∧ u.owners = s.owners ∧ u.nvm = s.nvm ∧ u.clampReport = s.clampReport ∧ u.pending = s.pending := by
  refine ⟨_, exec_commandedRestart h, beginStart_state (s := s.since t) (State.wf_regs hwf), beginStart_powerGood (s := s.since t) (State.wf_qty hwf), ?_⟩
  exact ⟨(beginStart_get State.cfg (fun _ _ _ _ _ => State.setReg_cfg ..) (fun _ _ _ _ _ => State.setQ_cfg ..) _).trans (State.fresh_cfg _),
    (beginStart_get State.sessions (fun _ _ _ _ _ => State.setReg_sessions ..) (fun _ _ _ _ _ => State.setQ_sessions ..) _).trans (State.fresh_sessions _),
    (beginStart_get State.acts (fun _ _ _ _ _ => State.setReg_acts ..) (fun _ _ _ _ _ => State.setQ_acts ..) _).trans (State.fresh_acts _),
    (beginStart_get State.mem (fun _ _ _ _ _ => State.setReg_mem ..) (fun _ _ _ _ _ => State.setQ_mem ..) _).trans (State.fresh_mem _),
    (beginStart_get State.owners (fun _ _ _ _ _ => State.setReg_owners ..) (fun _ _ _ _ _ => State.setQ_owners ..) _).trans (State.fresh_owners _),
    (beginStart_get State.nvm (fun _ _ _ _ _ => State.setReg_nvm ..) (fun _ _ _ _ _ => State.setQ_nvm ..) _).trans (State.fresh_nvm _),
    (beginStart_get State.clampReport (fun _ _ _ _ _ => State.setReg_clampReport ..) (fun _ _ _ _ _ => State.setQ_clampReport ..) _).trans
      (State.fresh_clampReport _),
    (beginStart_get State.pending (fun _ _ _ _ _ => State.setReg_pending ..) (fun _ _ _ _ _ => State.setQ_pending ..) _).trans (State.fresh_pending _)⟩

/-- Settles O48: each clause is one of the six lemmas above. -/
theorem directWritesLand : Obligations.DirectWritesLand := by
  unfold Obligations.DirectWritesLand
  intro s t hwf _
  have hs := State.wf_regs hwf
  refine ⟨registerWrite_resyncAuto hs t, fun h => counterClearWrite_xpCntClr hs h t, sysRestartWrite_asks t, fun v => sysRestartWrite_refused s t, ?_,
    commandedRestart_begins hwf t⟩
  rintro m v rfl htakes hlen hsvc hclaim hpriv hst - hd
  exact svcDirectWrite_restart v hwf htakes hlen hsvc hclaim hpriv hst hd

end Sys2Proof.Machine
end

section
/-! SUPPORT. The latch of an event: what raising one sets in EP_LATCH, and what it leaves (R391, R394). -/
set_option Elab.async false
namespace Sys2Proof.Machine

-- The latch of an event -------------------------------------------------------------------------------------------------

theorem bit_eq_testBit (x k : Nat) : bit x k = x.testBit k := by
  simp only [bit, bits, Nat.pow_one, Nat.testBit_eq_decide_div_mod_eq]
  rfl

/-- The fields that the queues of events show. -/
def queueFields : List Fld := [.EQ_COUNT, .EQ_HEAD, .EQ_LOST, .TS_EVQ_FILL, .TS_EVQ_LOST]

theorem eqShow_writes : eqShow.Within (Eff.writes queueFields) :=
  within_look fun _ => within_all_cons (within_set (by simp [Eff.writes, queueFields])) (within_all_cons (within_set (by simp [Eff.writes, queueFields])) within_all_nil)

theorem putSession_writes (x : Session) : (putSession x).Within (Eff.writes queueFields) := within_look fun _ => within_one trivial

theorem queueRec_writes (r : EvRec) (n : Nat) : (queueRec r n).Within (Eff.writes queueFields) := by
  refine within_look fun s => ?_
  cases s.session n with
  | none => exact within_skip
  | some x =>
    refine within_ite (fun _ => within_ite (fun _ => ?_) (fun _ => ?_)) (fun _ => within_skip)
    · exact within_all_cons (putSession_writes _) (within_all_cons (within_set (by simp [Eff.writes, queueFields])) within_all_nil)
    · exact within_all_cons (putSession_writes _) (within_all_cons (within_count fun _ => by simp [Eff.writes, queueFields]) within_all_nil)

theorem pins_writes : pins.Within (Eff.writes [.EP_PINS]) := within_look fun _ => within_set (by simp [Eff.writes])

/-- Raising an event of a block that is not idle sets its latch bit in the latch's word, and writes no other word of the latch (R394). -/
theorem raise_rd_latch {e : Ev} {s : State} (hs : SMap.sorted s.regs = true) (hi : s.idleBlock (e.num / 48) = false) (inst param i : Nat) :
    ((raise e inst param).to s).rd .EP_LATCH i = if i = e.num / 32 ∧ Fld.EP_LATCH.has i 0 = true
      then Nat.lor (s.rd .EP_LATCH i) (2 ^ (e.num % 32)) % 2 ^ 32 else s.rd .EP_LATCH i := by
  simp only [raise, look_runs, hi, Bool.false_eq_true, if_false, all_cons_to, all_nil_to, set_to]
  rw [pins_writes.rd (by decide)]
  generalize hr : (⟨e.num, s.node, inst % 2 ^ 16, s.qn .evSerial % 2 ^ 32, param % 2 ^ 64, s.houseS, s.houseNs⟩ : EvRec) = r
  have hq : (if s.evq.length < 256 then one (.evq (s.evq ++ [r])) else Sys2Proof.Machine.count .EQ_LOST : Act).Within (Eff.writes queueFields) :=
    within_ite (fun _ => within_one trivial) fun _ => within_count fun _ => by simp [Eff.writes, queueFields]
  have he : (each (s.sessions.map Session.slot) (queueRec r)).Within (Eff.writes queueFields) := within_each fun n _ => queueRec_writes r n
  have ha {k : Nat} : ((addQ .evSerial).to s).rd .EP_LATCH k = s.rd .EP_LATCH k := by rw [addQ_to, State.rd_setQ]
  have hrd (k : Nat) := ((he.rd (f := .EP_LATCH) (by decide) _ k 0).trans (eqShow_writes.rd (by decide) _ k 0)).trans
    ((hq.rd (by decide) _ k 0).trans ha)
  by_cases h : i = e.num / 32 ∧ Fld.EP_LATCH.has i 0 = true
  · obtain ⟨rfl, hh⟩ := h
    rw [State.rd_setReg_same _ (Act.to_regs_sorted _ (Act.to_regs_sorted _ (Act.to_regs_sorted _ (Act.to_regs_sorted _ hs)))) hh]
    exact (if_pos ⟨rfl, hh⟩).symm
  · rw [if_neg h]
    by_cases hw : i = e.num / 32
    · have hh : Fld.EP_LATCH.has i 0 = false := by simpa [hw] using h
      rw [State.rd_of_not_has _ hh, State.rd_of_not_has _ hh]
    · rw [State.rd_setReg_other _ _ (.inr (.inl hw)), hrd]

/-- What is latched stays latched when an event is raised (R394). -/
theorem raise_latched_mono (e : Ev) (inst param : Nat) {s : State} (hs : SMap.sorted s.regs = true) {e' : Ev} (h : s.latched e' = true) :
    ((raise e inst param).to s).latched e' = true := by
  cases hi : s.idleBlock (e.num / 48) with
  | true => simpa [raise, look_runs, hi] using h
  | false =>
    simp only [State.latched, raise_rd_latch hs hi]
    split
    · simp only [State.latched, bit_eq_testBit] at h ⊢
      have hlt : e'.num % 32 < 32 := Nat.mod_lt _ (by decide)
      rw [Nat.testBit_mod_two_pow]
      simp only [hlt, decide_true, Bool.true_and]
      exact (Nat.testBit_or ..).trans (by rw [h, Bool.true_or])
    · exact h

/-- An event of a block that is not idle is latched when it is raised (R394). -/
theorem raise_latches (e : Ev) (inst param : Nat) {s : State} (hs : SMap.sorted s.regs = true) (hi : s.idleBlock (e.num / 48) = false)
    (hh : Fld.EP_LATCH.has (e.num / 32) 0 = true) : ((raise e inst param).to s).latched e = true := by
  simp only [State.latched, raise_rd_latch hs hi, hh, and_self, if_true, bit_eq_testBit]
  have hlt : e.num % 32 < 32 := Nat.mod_lt _ (by decide)
  rw [Nat.testBit_mod_two_pow]
  simp only [hlt, decide_true, Bool.true_and]
  exact (Nat.testBit_or ..).trans (by rw [Nat.testBit_two_pow_self, Bool.or_true])

end Sys2Proof.Machine
end

section
/-! SUPPORT. Acts that leave registers of a choice, the pending actions, the shadowed writes and the latch alone, by the ways acts are put together. -/
set_option Elab.async false
namespace Sys2Proof.Machine

-- Acts that leave alone what a frame start has settled ---------------------------------------------------------------------

/-- From `s` to `u` the copies that `K` names keep their values, no pending action or shadowed write comes or goes, and what is latched stays so. -/
structure State.Calm (K : Fld → Nat → Prop) (s u : State) : Prop where
  rd : ∀ f i j, K f i → u.rd f i j = s.rd f i j
  acts : u.acts = s.acts
  shadows : u.shadows = s.shadows
  latched : ∀ e, s.latched e = true → u.latched e = true

/-- The act leaves the copies that `K` names, the pending actions, the shadowed writes and the latch alone. -/
structure Act.Calm (K : Fld → Nat → Prop) (a : Act) : Prop where
  step : ∀ s, SMap.sorted s.regs = true → State.Calm K s (a.to s)

/-- The effects that do. -/
def Eff.calm (K : Fld → Nat → Prop) : Eff → Prop
  | .wr f i _ _ => ¬ K f i ∧ f ≠ .EP_LATCH
  | .burnRollback _ _ => False
  | .acts _ => False
  | .shadows _ => False
  | .restart => False
  | _ => True

variable {K : Fld → Nat → Prop}

theorem State.Calm.refl (s : State) : State.Calm K s s := ⟨fun _ _ _ _ => rfl, rfl, rfl, fun _ h => h⟩

theorem State.Calm.trans {s t u : State} (h : State.Calm K s t) (h' : State.Calm K t u) : State.Calm K s u :=
  ⟨fun f i j hk => (h'.rd f i j hk).trans (h.rd f i j hk), h'.acts.trans h.acts, h'.shadows.trans h.shadows, fun e he => h'.latched e (h.latched e he)⟩

/-- With the same registers, actions and shadowed writes. -/
theorem State.Calm.of_eq {s u : State} (hr : u.regs = s.regs) (ha : u.acts = s.acts) (hs : u.shadows = s.shadows) : State.Calm K s u :=
  ⟨fun _ _ _ _ => State.rd_congr hr .., ha, hs, fun e he => by simpa only [State.latched, State.rd_congr hr] using he⟩

theorem State.app_calm {e : Eff} (h : e.calm K) (s : State) : State.Calm K s (s.app e) := by
  cases e
  case wr f i j v =>
    obtain ⟨hk, hl⟩ := h
    refine ⟨fun g k l hg => State.rd_setReg_other _ _ ?_, State.setReg_acts .., State.setReg_shadows .., fun e he => ?_⟩
    · by_contra hn
      simp only [not_or, not_not] at hn
      obtain ⟨rfl, rfl, -⟩ := hn
      exact hk hg
    · rw [State.latched, State.app_wr, State.rd_setReg_other _ _ (.inl hl.symm)]
      exact he
  case put => exact .of_eq (State.setQ_regs ..) (State.setQ_acts ..) (State.setQ_shadows ..)
  case burnRollback => exact h.elim
  case acts => exact h.elim
  case shadows => exact h.elim
  case restart => exact h.elim
  all_goals exact .of_eq (by simp only [State.app]) (by simp only [State.app]) (by simp only [State.app])

/-- Acts whose every effect is calm are. -/
theorem calm_of_within {a : Act} (h : a.Within (Eff.calm K)) : a.Calm K :=
  ⟨fun s _ => h.keeps (P := fun t => State.Calm K s t) (fun t _ he ht => ht.trans (State.app_calm he t)) (.refl s)⟩

theorem Act.Calm.mono {K' : Fld → Nat → Prop} {a : Act} (h : a.Calm K) (hk : ∀ f i, K' f i → K f i) : a.Calm K' :=
  ⟨fun s hs => ⟨fun f i j hf => (h.step s hs).rd f i j (hk f i hf), (h.step s hs).acts, (h.step s hs).shadows, (h.step s hs).latched⟩⟩

theorem calm_skip : Act.Calm K skip := ⟨fun s _ => .refl s⟩
theorem calm_andThen {a b : Act} (ha : a.Calm K) (hb : b.Calm K) : (a.andThen b).Calm K where
  step s hs := by
    rw [andThen_to]
    exact (ha.step s hs).trans (hb.step _ (Act.to_regs_sorted a hs))
theorem calm_all {as : List Act} (h : as.Forall (Act.Calm K)) : (all as).Calm K := by
  induction as with
  | nil => exact calm_skip
  | cons a as ih =>
    rw [List.forall_cons] at h
    exact calm_andThen h.1 (ih h.2)
theorem calm_iff {c : Bool} {a : Act} (h : c = true → a.Calm K) : (iff c a).Calm K := by
  unfold iff
  split
  · exact h ‹_›
  · exact calm_skip
theorem calm_ite {c : Prop} [Decidable c] {a b : Act} (ha : c → a.Calm K) (hb : ¬c → b.Calm K) : (if c then a else b : Act).Calm K := by
  split
  · exact ha ‹_›
  · exact hb ‹_›
theorem calm_look {f : State → Act} (h : ∀ s, (f s).Calm K) : (look f).Calm K := ⟨fun s hs => (h s).step s hs⟩
theorem calm_each_mem {α : Type} {xs : List α} {f : α → Act} (h : ∀ x ∈ xs, (f x).Calm K) : (each xs f).Calm K :=
  calm_all (List.forall_iff_forall_mem.mpr fun a ha => by
    obtain ⟨x, hx, rfl⟩ := List.mem_map.mp ha
    exact h x hx)
theorem calm_each {α : Type} {xs : List α} {f : α → Act} (h : ∀ x, (f x).Calm K) : (each xs f).Calm K := calm_each_mem fun x _ => h x
theorem calm_one {e : Eff} (h : e.calm K) : (one e).Calm K := calm_of_within (within_one h)
theorem calm_set_of {f : Fld} {v i j : Nat} (hk : ¬ K f i) (hl : f ≠ .EP_LATCH) : (set f v i j).Calm K := calm_one ⟨hk, hl⟩
theorem calm_put {x : Qty} {v : Int} {i j : Nat} : (put x v i j).Calm K := calm_one trivial
theorem calm_addQ {x : Qty} {k : Int} {i j : Nat} : (addQ x k i j).Calm K := calm_of_within (within_addQ fun _ => trivial)
theorem calm_arm {x : Tmr} {ps i : Nat} : (arm x ps i).Calm K := calm_of_within (within_arm fun _ => trivial)
theorem calm_disarm {x : Tmr} {i : Nat} : (disarm x i).Calm K := calm_one trivial
theorem calm_emit {m : Sent} : (emit m).Calm K := calm_one trivial
theorem calm_count_of {f : Fld} {k i j : Nat} (hk : ¬ K f i) (hl : f ≠ .EP_LATCH) : (Sys2Proof.Machine.count f k i j).Calm K :=
  calm_of_within (within_count fun _ => ⟨hk, hl⟩)

/-- Raising an event is calm about every register in which no event shows. -/
theorem calm_raise_of (h : ∀ f i, K f i → f ∉ eventFields) (e : Ev) (i p : Nat) : (raise e i p).Calm K where
  step s hs := ⟨fun f j k hf => raise_rd e i p s (h f j hf) j k, raise_acts e i p s, raise_shadows e i p s, fun _ he => raise_latched_mono e i p hs he⟩

end Sys2Proof.Machine
end

section
/-! SUPPORT. What a frame start does at inputs, paths, references, flows and Moss leaves the fields of locks, outputs and embedding alone. -/
set_option Elab.async false
namespace Sys2Proof.Machine

-- Acts that leave alone the fields of locks, outputs and embedding -----------------------------------------------------------

/-- The fields that O21 speaks of, and those that say what an output does at a frame start. -/
def frameFields : List Fld := [.VO_FRAMES, .VO_STATE, .VO_PORT_MODE, .VO_DOMAIN, .VO_LINK_MODE, .XS_LOCK_MODE, .XS_HOLDER, .VO_EMB_MAP]

/-- The act leaves them alone at every copy. -/
abbrev Act.Quiet (a : Act) : Prop := a.Calm fun f _ => f ∈ frameFields

section
variable {f : Fld}
theorem quiet_set {v i j : Nat} (h : f ∉ .EP_LATCH :: frameFields := by decide) : (set f v i j).Quiet :=
  calm_set_of (fun hk => h (.tail _ hk)) fun hl => h (hl ▸ .head _)
theorem quiet_setS {v : Int} {i j : Nat} (h : f ∉ .EP_LATCH :: frameFields := by decide) : (setS f v i j).Quiet := quiet_set h
theorem quiet_count {k i j : Nat} (h : f ∉ .EP_LATCH :: frameFields := by decide) : (Sys2Proof.Machine.count f k i j).Quiet :=
  calm_count_of (fun hk => h (.tail _ hk)) fun hl => h (hl ▸ .head _)
theorem quiet_setFree {i j : Nat} (h : f ∉ .EP_LATCH :: frameFields := by decide) : (setFree f i j).Quiet := by
  unfold setFree withFree
  exact calm_look fun _ => calm_all ⟨calm_one trivial, quiet_set h⟩
theorem quiet_raise (e : Ev) (i p : Nat) : (raise e i p).Quiet :=
  calm_raise_of (fun _ _ hf => (by decide : ∀ g ∈ frameFields, g ∉ eventFields) _ hf) e i p
theorem quiet_moveState (h : f ∉ .EP_LATCH :: frameFields) (e : Ev) (i new : Nat) : (moveState f e i new).Quiet :=
  calm_look fun _ => calm_ite (fun _ => calm_skip) fun _ => calm_all ⟨quiet_set h, quiet_raise ..⟩
end

theorem quiet_raisePerSecond (e : Ev) (l : Qty) (i p : Nat) : (raisePerSecond e l i p).Quiet :=
  calm_look fun _ => calm_ite (fun _ => calm_all ⟨calm_put, quiet_raise ..⟩) fun _ => calm_skip

-- Inputs ---------------------------------------------------------------------------------------------------------------------

theorem quiet_putPic (k : Nat) (ls : List (List Nat)) : (putPic k ls).Quiet := calm_look fun _ => calm_one trivial
theorem quiet_deliverFrame (n F : Nat) (ls : List (List Nat)) : (deliverFrame n F ls).Quiet := calm_all ⟨quiet_putPic .., calm_put⟩
theorem quiet_inputSilent (n : Nat) : (inputSilent n).Quiet :=
  calm_look fun _ => calm_ite (fun _ => calm_skip) fun _ => calm_all ⟨quiet_set, quiet_set, quiet_set, calm_put, calm_put, quiet_raise ..⟩
theorem quiet_inputNoSource (n : Nat) : (inputNoSource n).Quiet :=
  calm_look fun _ => calm_ite (fun _ => calm_skip) fun _ => calm_all ⟨quiet_inputSilent n, calm_one trivial⟩
theorem quiet_readOut (n F : Nat) (f : VFrame) (bad : List (Nat × Nat)) : (readOut n F f bad).Quiet := calm_look fun _ => quiet_deliverFrame ..
theorem quiet_readLinks (n F line : Nat) (f : VFrame) (bad : List (Nat × Nat × Nat)) : (readLinks n F line f bad).Quiet :=
  calm_look fun s => calm_all ⟨quiet_readOut .., calm_iff fun _ => calm_each fun m => by
    cases s.mate m line f with
    | none => exact calm_skip
    | some g => exact quiet_readOut ..⟩
theorem quiet_latencyShow (n t line : Nat) : (latencyShow n t line).Quiet := calm_look fun _ => quiet_set
theorem quiet_readFrame (n F : Nat) (f : VFrame) (t line : Nat) (bad : List (Nat × Nat × Nat)) : (readFrame n F f t line bad).Quiet :=
  calm_all ⟨calm_put, calm_put, calm_put, quiet_set, quiet_set, calm_put, calm_put, quiet_latencyShow .., quiet_readLinks ..⟩
theorem quiet_readAgain (n F t line : Nat) (bad : List (Nat × Nat × Nat)) : (readAgain n F t line bad).Quiet :=
  calm_look fun s => calm_all ⟨quiet_latencyShow .., by
    cases s.frames.find? fun f => f.input == n && f.idx == s.qn .viReadP n with
    | none => exact calm_skip
    | some f => exact quiet_readLinks ..⟩
theorem quiet_raiseCounted (e : Ev) (acc last : Qty) (n k : Nat) : (raiseCounted e acc last n k).Quiet :=
  calm_look fun _ => calm_ite (fun _ => calm_all ⟨calm_put, calm_put, quiet_raise ..⟩) fun _ => calm_put
theorem quiet_frameRead (n : Nat) (begun : Option Nat) (fm : Format) (bad : List (Nat × Nat × Nat)) : (frameRead n begun fm bad).Quiet := by
  refine calm_look fun s => ?_
  dsimp only
  cases pick (s.stored n fm.linePeriod) (s.qn .viReadP n) begun s.house fm.period (s.rd .VI_FS_MIN n) with
  | first f => exact quiet_readFrame ..
  | noSource => exact quiet_inputSilent n
  | again => exact calm_all ⟨quiet_count, quiet_raiseCounted .., quiet_readAgain ..⟩
  | normal f => exact quiet_readFrame ..
  | drop f => exact calm_all ⟨quiet_count, quiet_raiseCounted .., quiet_readFrame ..⟩
  | recover f => exact quiet_readFrame ..
  | hold =>
    exact calm_ite (fun _ => quiet_inputNoSource n) fun _ =>
      calm_all ⟨quiet_count, calm_addQ, calm_iff fun _ => quiet_raise .., quiet_set, quiet_readAgain ..⟩
theorem quiet_lineTrack (n : Nat) (fm : Format) : (lineTrack n fm).Quiet := by
  refine calm_look fun s => ?_
  dsimp only
  cases (s.frames.filter fun f => f.input == n).getLast? with
  | none => exact calm_skip
  | some f =>
    refine calm_ite (fun _ => calm_skip) fun _ => calm_all ⟨quiet_setS, calm_put, calm_ite (fun _ => calm_ite (fun _ => ?_) fun _ => ?_) fun _ => ?_⟩
    · exact calm_all ⟨calm_put, quiet_set, quiet_set, quiet_count, calm_put, quiet_raise ..⟩
    · exact calm_ite (fun _ => calm_all ⟨calm_put, calm_put, quiet_set⟩) fun _ => calm_put
    · exact calm_ite (fun _ => calm_all ⟨calm_put, calm_put, calm_put, quiet_set, quiet_set, quiet_set⟩) fun _ =>
        calm_all ⟨calm_put, calm_iff fun _ => calm_all ⟨calm_put, quiet_set⟩⟩
theorem quiet_inputFrameStart (d n : Nat) (begun : Option Nat) (bad : List (Nat × Nat × Nat)) : (inputFrameStart d n begun bad).Quiet := by
  refine calm_look fun s => ?_
  cases s.domFormat d with
  | none => exact calm_skip
  | some fm =>
    exact calm_ite (fun _ => calm_skip) fun _ => calm_ite (fun _ => quiet_frameRead ..) fun _ =>
      calm_ite (fun _ => quiet_lineTrack ..) fun _ => calm_skip
theorem quiet_peatUncorrectable (n line : Nat) : (peatUncorrectable n line).Quiet := calm_all ⟨quiet_count, quiet_raise ..⟩

-- What an output carries -----------------------------------------------------------------------------------------------------

theorem quiet_segMark (n : Nat) : (segMark n).Quiet := calm_look fun _ => calm_ite (fun _ => calm_skip) fun _ => calm_one trivial
theorem quiet_outputFollowAt (free : Bool) (n : Nat) : (outputFollowAt free n).Quiet :=
  calm_look fun _ => calm_ite (fun _ => calm_skip) fun _ => calm_all ⟨calm_put, quiet_set, quiet_set, calm_iff fun _ => calm_put,
    calm_iff fun _ => quiet_raise .., calm_iff fun _ => quiet_raise .., quiet_segMark n⟩
theorem quiet_outputsOf (p : Nat) : (outputsOf p).Quiet := calm_look fun _ => calm_each fun _ => quiet_outputFollowAt ..
theorem quiet_feeding (n : Nat) {a : Act} (h : a.Quiet) : (feeding n a).Quiet :=
  calm_look fun _ => calm_all ⟨h, calm_look fun _ => calm_each quiet_outputsOf⟩
theorem quiet_embShow (n : Nat) : (embShow n).Quiet := calm_look fun _ => calm_iff fun _ => calm_all ⟨quiet_set, quiet_raise ..⟩
theorem quiet_vpidSent (n : Nat) : (vpidSent n).Quiet := by
  refine calm_look fun s => calm_ite (fun _ => ?_) fun _ => quiet_set
  cases s.srcVpid n with
  | none => exact calm_skip
  | some v => exact quiet_set
theorem quiet_formatMatches (d : Nat) : (formatMatches d).Quiet :=
  calm_look fun _ => calm_all ⟨calm_each fun _ => calm_all ⟨quiet_set, quiet_set, quiet_count, quiet_count⟩, calm_each fun _ => quiet_raise ..⟩
theorem quiet_landShow (n : Nat) : (landShow n).Quiet := calm_look fun _ => calm_ite (fun _ => quiet_set) fun _ => quiet_setFree
theorem quiet_frameBegun (F n : Nat) : (frameBegun F n).Quiet := calm_look fun _ => calm_all ⟨calm_put, calm_put, calm_put⟩
theorem quiet_streamChanged (x : StreamObs) : (streamChanged x).Quiet := calm_all ⟨calm_put, calm_put, calm_put, calm_put, calm_put⟩

-- Legs -----------------------------------------------------------------------------------------------------------------------

theorem quiet_linkShow (l : Nat) : (linkShow l).Quiet := calm_look fun _ => calm_all ⟨quiet_set, quiet_set⟩
theorem quiet_guarantee : guarantee.Quiet :=
  calm_look fun _ => calm_ite (fun _ => calm_skip) fun _ => calm_all ⟨quiet_set, quiet_set, quiet_set, quiet_set, quiet_set, quiet_set, quiet_set,
    quiet_set, quiet_set, quiet_set, quiet_set, calm_each fun _ => calm_all ⟨quiet_set, quiet_set⟩, calm_iff fun _ => quiet_raise ..⟩
theorem quiet_setLegs (x : List Leg) : (setLegs x).Quiet := calm_look fun _ => calm_all ⟨calm_one trivial, calm_each quiet_linkShow, quiet_guarantee⟩
theorem quiet_edgeHandovers : edgeHandovers.Quiet := calm_look fun _ => calm_each fun _ => calm_look fun _ => quiet_setLegs _

-- The reference inputs -------------------------------------------------------------------------------------------------------

theorem quiet_setOffset (x : Int) : (setOffset x).Quiet := calm_all ⟨quiet_set, quiet_set⟩
theorem quiet_setLeft (x : Int) : (setLeft x).Quiet := calm_all ⟨quiet_set, quiet_set⟩
theorem quiet_clockTick : clockTick.Quiet :=
  calm_look fun _ => calm_all ⟨calm_put, calm_iff fun _ => quiet_setOffset _, calm_iff fun _ => quiet_setLeft _, quiet_setS, quiet_set, calm_put,
    calm_one trivial, calm_each fun _ => calm_iff fun _ => calm_look fun _ => calm_all ⟨quiet_set, calm_look fun _ => quiet_set⟩⟩
theorem quiet_countValid : countValid.Quiet := calm_look fun _ => calm_each fun _ => quiet_set
theorem quiet_domainsFollow : domainsFollow.Quiet :=
  calm_look fun _ => calm_all ⟨calm_each fun _ => calm_iff fun _ => quiet_moveState (by decide) .., quiet_countValid⟩
theorem quiet_refState (new : Nat) : (refState new).Quiet :=
  calm_look fun _ => calm_ite (fun _ => calm_skip) fun _ => calm_all ⟨quiet_clockTick, quiet_set, calm_iff fun _ => calm_all ⟨quiet_count, calm_arm⟩,
    calm_iff fun _ => calm_disarm, calm_iff fun _ => calm_disarm, calm_iff fun _ => calm_put, calm_iff fun _ => calm_all ⟨quiet_set, quiet_set⟩,
    calm_iff fun _ => quiet_raise .., quiet_domainsFollow⟩
theorem quiet_driftFollow (e : Nat) : (driftFollow e).Quiet :=
  calm_look fun _ => calm_ite (fun _ => calm_skip) fun _ => calm_ite (fun _ => quiet_refState _) fun _ =>
    calm_ite (fun _ => quiet_refState _) fun _ => calm_skip
theorem quiet_refEntry (e new : Nat) : (refEntry e new).Quiet :=
  calm_look fun _ => calm_all ⟨quiet_moveState (by decide) .., calm_iff fun _ => calm_put, calm_iff fun _ => quiet_raise .., calm_iff fun _ => quiet_count,
    quiet_driftFollow e⟩
theorem quiet_qualTimer (e : Nat) (on : Bool) : (qualTimer e on).Quiet :=
  calm_look fun _ => calm_ite (fun _ => calm_iff fun _ => calm_arm) fun _ => calm_disarm
theorem quiet_qualify (e : Nat) : (qualify e).Quiet := calm_look fun _ => calm_all ⟨calm_disarm, quiet_refEntry .., quiet_qualTimer ..⟩
theorem quiet_inputPresent (input : Nat) : (inputPresent input).Quiet :=
  calm_look fun _ => calm_ite (fun _ => calm_skip) fun _ => calm_all ⟨calm_put, calm_iff fun _ => quiet_set, calm_each fun _ => calm_iff fun _ => quiet_qualify _⟩
theorem quiet_inputLost (input : Nat) : (inputLost input).Quiet :=
  calm_look fun _ => calm_all ⟨calm_put, calm_iff fun _ => quiet_set, calm_each fun _ => calm_iff fun _ =>
    calm_all ⟨calm_disarm, quiet_count, quiet_refEntry ..⟩⟩
theorem quiet_sdiInput (n : Nat) {a : Act} (h : a.Quiet) : (sdiInput n a).Quiet :=
  calm_look fun _ => calm_all ⟨quiet_feeding n h, calm_look fun _ => calm_each fun _ => calm_ite (fun _ => calm_skip) fun _ =>
    calm_ite (fun _ => quiet_inputLost _) fun _ => calm_iff fun _ => quiet_inputPresent _⟩

-- IP flows -------------------------------------------------------------------------------------------------------------------

theorem quiet_report (kind : Nat) (gs : List (Nat × Nat × Nat)) : (report kind gs).Quiet := calm_look fun _ => calm_each fun _ => calm_emit
theorem quiet_flowState (aud : Bool) (k v : Nat) : (flowState aud k v).Quiet := by
  cases aud <;> exact quiet_set
theorem quiet_putFlow (f : IpFlow) : (putFlow f).Quiet := calm_look fun _ => calm_one trivial
theorem quiet_flowFrameStart (f : IpFlow) (here later : Nat) : (flowFrameStart f here later).Quiet :=
  calm_look fun _ => calm_ite (fun _ => calm_all ⟨quiet_putFlow _, quiet_flowState .., calm_disarm, calm_iff fun _ => quiet_count, quiet_raise ..⟩) fun _ =>
    calm_ite (fun _ => calm_all ⟨quiet_report .., quiet_putFlow _⟩) fun _ => calm_skip
theorem quiet_lostBoth (aud : Bool) (k n : Nat) : (lostBoth aud k n).Quiet := by
  cases aud <;> exact calm_iff fun _ => calm_all ⟨quiet_count, quiet_raisePerSecond ..⟩
theorem quiet_rtpSettle (g : RtpFrame) : (rtpSettle g).Quiet := calm_look fun _ => calm_all ⟨quiet_lostBoth .., calm_put, calm_one trivial⟩
theorem quiet_flowsFrameStart (d : Nat) : (flowsFrameStart d).Quiet := by
  refine calm_look fun s => ?_
  dsimp only
  cases s.domFormat d with
  | none => exact calm_skip
  | some fm => exact calm_all ⟨calm_each quiet_rtpSettle, calm_each fun _ => quiet_flowFrameStart ..⟩

-- Moss -----------------------------------------------------------------------------------------------------------------------

theorem quiet_pxState (g new : Nat) : (pxState g new).Quiet :=
  calm_look fun _ => calm_ite (fun _ => calm_skip) fun _ => calm_all ⟨quiet_set, calm_iff fun _ => quiet_raise ..⟩
theorem quiet_pxNote (g : Nat) : (pxNote g).Quiet := calm_look fun _ => calm_all ⟨calm_put, calm_put, calm_put⟩
theorem quiet_pxFrameStart (d g : Nat) : (pxFrameStart d g).Quiet :=
  calm_look fun _ => calm_ite (fun _ => calm_skip) fun _ => calm_all ⟨calm_iff fun _ => calm_all ⟨calm_put, calm_put, quiet_putPic ..⟩, quiet_pxNote g,
    calm_look fun _ => calm_ite (fun _ => calm_iff fun _ => calm_all ⟨quiet_pxState .., quiet_set, quiet_set, quiet_set⟩) fun _ =>
      calm_all ⟨calm_iff fun _ => calm_all ⟨quiet_set, quiet_set⟩, calm_iff fun _ => quiet_count,
        calm_ite (fun _ => quiet_count) fun _ => calm_iff fun _ => quiet_set,
        calm_look fun _ => calm_ite (fun _ => quiet_pxState ..) fun _ => calm_iff fun _ => quiet_pxState ..⟩⟩
theorem quiet_tapsFollow (h ha : Nat) : (tapsFollow h ha).Quiet :=
  calm_look fun _ => calm_each fun _ => calm_ite (fun _ => calm_skip) fun _ => calm_all ⟨quiet_set, calm_iff fun _ => calm_all ⟨quiet_count, quiet_raise ..⟩⟩
theorem quiet_tileJudge (h t wa ha : Nat) : (tileJudge h t wa ha).Quiet := by
  refine calm_look fun s => calm_ite (fun _ => calm_iff fun _ => ?_) fun _ => calm_all ⟨calm_put, calm_ite (fun _ => ?_) fun _ => calm_iff fun _ => ?_,
    calm_look fun _ => calm_all ⟨calm_iff fun _ => quiet_raise .., calm_put⟩, calm_ite (fun _ => ?_) fun _ => calm_ite (fun _ => ?_) fun _ => ?_⟩
  · exact calm_all ⟨quiet_set, quiet_set, quiet_set, quiet_set, calm_put, calm_put, calm_put, calm_put, quiet_putPic ..⟩
  · exact calm_all ⟨calm_put, calm_put, quiet_putPic ..⟩
  · exact calm_all ⟨calm_put, calm_put, quiet_putPic ..⟩
  · exact calm_all ⟨quiet_set, quiet_set⟩
  · exact calm_all ⟨quiet_set, quiet_set, quiet_count, quiet_count, calm_iff fun _ => quiet_raise ..⟩
  · exact calm_all ⟨quiet_set, quiet_set, calm_iff fun _ => calm_all ⟨quiet_count, quiet_count, quiet_raise ..⟩⟩
theorem quiet_regionJudge (h r : Nat) (fault : Nat × Nat) : (regionJudge h r fault).Quiet := by
  refine calm_look fun s => calm_ite (fun _ => calm_iff fun _ => ?_) fun _ => calm_ite (fun _ => ?_) fun _ => calm_ite (fun _ => calm_skip) fun _ => ?_
  · exact calm_all ⟨calm_iff fun _ => quiet_set, quiet_set, calm_put, calm_put⟩
  · exact calm_all ⟨quiet_set, quiet_set⟩
  · exact calm_all ⟨quiet_set, quiet_set, quiet_set, calm_iff fun _ => quiet_set,
      calm_iff fun _ => calm_all ⟨quiet_count, quiet_count, quiet_raisePerSecond ..⟩, calm_put⟩
theorem quiet_borders (h : Nat) : (borders h).Quiet :=
  calm_look fun _ => calm_all ⟨calm_each fun _ => calm_put, calm_each fun _ => calm_all ⟨quiet_set, quiet_raise ..⟩, quiet_set⟩
theorem quiet_metersFollow (d h t : Nat) : (metersFollow d h t).Quiet := by
  refine calm_look fun s => ?_
  dsimp only
  cases s.domFormat d with
  | none => exact calm_skip
  | some f => exact calm_each fun _ => calm_put
theorem quiet_headCompose (d h : Nat) : (headCompose d h).Quiet := by
  refine calm_look fun s => ?_
  dsimp only
  cases s.domFormat d with
  | none => exact calm_skip
  | some f => exact calm_all ⟨quiet_putPic .., calm_each fun _ => calm_put⟩
theorem quiet_headState (h new : Nat) : (headState h new).Quiet := quiet_moveState (by decide) ..
theorem quiet_headFrameStart (d h : Nat) (sigs : List (Nat × Nat × Nat × Nat)) : (headFrameStart d h sigs).Quiet :=
  calm_look fun _ => calm_ite (fun _ => calm_skip) fun _ => calm_ite (fun _ => calm_iff fun _ => quiet_headState ..) fun _ =>
    calm_all ⟨quiet_headState .., calm_iff fun _ => calm_each fun _ => quiet_regionJudge .., calm_each fun _ => quiet_tileJudge ..,
      quiet_tapsFollow .., quiet_borders h, calm_each fun _ => quiet_metersFollow .., quiet_headCompose ..,
      calm_look fun _ => calm_all ⟨quiet_set, quiet_set⟩⟩
theorem quiet_mossFrameStart (d : Nat) (sigs : List (Nat × Nat × Nat × Nat)) : (mossFrameStart d sigs).Quiet :=
  calm_look fun _ => calm_ite (fun _ => calm_skip) fun _ => calm_all ⟨calm_each fun _ => quiet_pxFrameStart .., calm_each fun _ => quiet_headFrameStart ..⟩

end Sys2Proof.Machine
end

section
/-! SUPPORT. The outputs at a frame start: each that sends counts its own frame and no other (R151). -/
set_option Elab.async false
namespace Sys2Proof.Machine

-- The outputs of a domain at its frame start ---------------------------------------------------------------------------------

/-- The copies that the frame starts of outputs other than `n` leave alone: those of the frame fields, but for the state and the count of frames
of those other outputs. -/
def keptFor (n : Nat) (f : Fld) (i : Nat) : Prop := f ∈ frameFields ∧ (f ∈ [Fld.VO_FRAMES, .VO_STATE] → i = n)

theorem Act.Quiet.keptFor {n : Nat} {a : Act} (h : a.Quiet) : a.Calm (keptFor n) := h.mono fun _ _ hk => hk.1

theorem not_keptFor {m n : Nat} {f : Fld} (hm : m ≠ n) (hf : f ∈ [Fld.VO_FRAMES, .VO_STATE]) : ¬ keptFor n f m := fun hk => hm (hk.2 hf)

theorem calm_outputFrameStart {m n : Nat} (hm : m ≠ n) (d : Nat) : (outputFrameStart d m).Calm (keptFor n) := by
  refine calm_look fun s => calm_ite (fun _ => calm_skip) fun _ => calm_ite (fun _ => calm_iff fun _ => ?_) fun _ =>
    calm_ite (fun _ => ?_) fun _ => calm_skip
  · have hstate : (moveState .VO_STATE .OUTPUT_STATE_CHANGE m 2).Calm (keptFor n) :=
      calm_look fun _ => calm_ite (fun _ => calm_skip) fun _ =>
        calm_all ⟨calm_set_of (not_keptFor hm (by decide)) (by decide), (quiet_raise ..).keptFor⟩
    exact calm_all ⟨hstate, (quiet_set).keptFor, (quiet_outputFollowAt ..).keptFor, calm_look fun _ => calm_put, (quiet_frameBegun ..).keptFor,
      (quiet_embShow m).keptFor, (quiet_vpidSent m).keptFor, (quiet_landShow m).keptFor⟩
  · exact calm_all ⟨calm_count_of (not_keptFor hm (by decide)) (by decide), calm_iff fun _ => (quiet_count).keptFor,
      calm_iff fun _ => calm_all ⟨(quiet_set).keptFor, (quiet_count).keptFor, (quiet_raise ..).keptFor⟩, calm_iff fun _ => (quiet_set).keptFor,
      (quiet_outputFollowAt ..).keptFor, calm_look fun _ => calm_put, (quiet_frameBegun ..).keptFor, (quiet_embShow m).keptFor,
      (quiet_vpidSent m).keptFor, (quiet_landShow m).keptFor⟩

/-- A frame start at an output that sends: its frames in the frame start's domain count one more, and nothing else that it does touches the count. -/
theorem outputFrameStart_rd_frames {d n : Nat} {s : State} (hs : SMap.sorted s.regs = true) (hn : n < 256) (h2 : s.rd .VO_STATE n = 2)
    (hp : s.rd .VO_PORT_MODE n = 1) : ((outputFrameStart d n).to s).rd .VO_FRAMES n
      = if s.rd .VO_DOMAIN (s.voBase n) = d then min (s.rd .VO_FRAMES n + 1) 0xFFFFFFFF else s.rd .VO_FRAMES n := by
  by_cases hd : s.rd .VO_DOMAIN (s.voBase n) = d
  · have hcount : (((Sys2Proof.Machine.count .VO_FRAMES 1 n).to s).rd .VO_FRAMES n) = min (s.rd .VO_FRAMES n + 1) 0xFFFFFFFF := by
      have hhas : Fld.VO_FRAMES.has n 0 = true := by simp only [Fld.has, Bool.and_eq_true, decide_eq_true_eq]; exact ⟨hn, by decide⟩
      rw [count_to, State.rd_setReg_same _ hs hhas]
      exact Nat.mod_eq_of_lt (Nat.lt_of_le_of_lt (Nat.min_le_right ..) (by decide))
    simp only [outputFrameStart, look_runs, hd, hp, h2, ne_eq, not_true_eq_false, Nat.one_ne_zero, or_self, if_false, if_true, OfNat.ofNat_ne_one]
    rw [all_cons_to, ← hcount]
    refine (Act.Calm.step (K := fun f _ => f ∈ frameFields) (calm_all ?_) _ (Act.to_regs_sorted _ hs)).rd .VO_FRAMES n 0 (by decide)
    exact ⟨calm_iff fun _ => quiet_count, calm_iff fun _ => calm_all ⟨quiet_set, quiet_count, quiet_raise ..⟩, calm_iff fun _ => quiet_set,
      quiet_outputFollowAt .., calm_look fun _ => calm_put, quiet_frameBegun .., quiet_embShow n, quiet_vpidSent n, quiet_landShow n⟩
  · simp only [outputFrameStart, look_runs, hd, ne_eq, not_false_eq_true, true_or, if_true, if_false, skip_to]

theorem each_append_to {α : Type} (xs ys : List α) (f : α → Act) (s : State) : (each (xs ++ ys) f).to s = (each ys f).to ((each xs f).to s) := by
  induction xs generalizing s with
  | nil => rfl
  | cons x xs ih => rw [List.cons_append, each_cons_to, ih, each_cons_to]

theorem State.Calm.voBase {n : Nat} {s u : State} (h : State.Calm (keptFor n) s u) (k : Nat) : u.voBase k = s.voBase k := by
  simp only [State.voBase, h.rd .VO_LINK_MODE k 0 ⟨by decide, fun hf => absurd hf (by decide)⟩]

/-- Of the outputs that come by, each one once, one that sends counts its frame if the frame start is its domain's. -/
theorem outputFrameStarts_rd_frames {d n : Nat} {ms : List Nat} {s : State} (hs : SMap.sorted s.regs = true) (hn : n < 256) (hm : n ∈ ms)
    (hd : ms.Nodup) (h2 : s.rd .VO_STATE n = 2) (hp : s.rd .VO_PORT_MODE n = 1) : ((each ms (outputFrameStart d)).to s).rd .VO_FRAMES n
      = if s.rd .VO_DOMAIN (s.voBase n) = d then min (s.rd .VO_FRAMES n + 1) 0xFFFFFFFF else s.rd .VO_FRAMES n := by
  obtain ⟨as, bs, rfl⟩ := List.append_of_mem hm
  have hnot : ∀ m ∈ as ++ bs, m ≠ n := fun m hmem he => (List.nodup_middle.mp hd).notMem (he ▸ hmem)
  have hpre := (calm_each_mem fun m hmem => calm_outputFrameStart (hnot m (List.mem_append_left _ hmem)) d).step s hs
  have hpost := calm_each_mem fun m hmem => calm_outputFrameStart (hnot m (List.mem_append_right _ hmem)) d
  have hs' := Act.to_regs_sorted (each as (outputFrameStart d)) hs
  have hfree {f : Fld} (hf : f ∈ frameFields) (hx : f ∉ [Fld.VO_FRAMES, .VO_STATE]) (i : Nat) : keptFor n f i := ⟨hf, fun h => absurd h hx⟩
  have hown (f : Fld) (hf : f ∈ frameFields) : keptFor n f n := ⟨hf, fun _ => rfl⟩
  rw [each_append_to, each_cons_to, (hpost.step _ (Act.to_regs_sorted _ hs')).rd _ _ _ (hown .VO_FRAMES (by decide)),
    outputFrameStart_rd_frames hs' hn ((hpre.rd _ _ _ (hown .VO_STATE (by decide))).trans h2) ((hpre.rd _ _ _ (hown .VO_PORT_MODE (by decide))).trans hp),
    hpre.voBase, hpre.rd _ _ _ (hfree (f := .VO_DOMAIN) (by decide) (by decide) _), hpre.rd _ _ _ (hown .VO_FRAMES (by decide))]

end Sys2Proof.Machine
end

section
/-! SUPPORT. O21: the pending actions and the shadowed writes at a frame start, and the frame start of a domain from 1 to 7. -/
set_option Elab.async false
namespace Sys2Proof.Machine

-- Pending actions at a frame start -------------------------------------------------------------------------------------------

/-- The pending actions become `x`; SCHED_PENDING and its peak take values. -/
theorem setActs_runs (x : List Pend) (s : State) :
    ∃ a b, (setActs x).to s = (({ s with acts := x } : State).setReg .SCHED_PENDING 0 0 a).setReg .SCHED_PENDING_PEAK 0 0 b := by
  simp only [setActs, schedShow, all_cons_to, all_nil_to, one_to, look_runs, set_to, State.app_acts]
  exact ⟨_, _, rfl⟩

theorem setActs_rd (x : List Pend) (s : State) {f : Fld} (hf : f ∉ [Fld.SCHED_PENDING, .SCHED_PENDING_PEAK]) (i j : Nat) :
    ((setActs x).to s).rd f i j = s.rd f i j := by
  obtain ⟨a, b, h⟩ := setActs_runs x s
  rw [h, State.rd_setReg_other _ _ (.inl (by rintro rfl; exact hf (by decide))), State.rd_setReg_other _ _ (.inl (by rintro rfl; exact hf (by decide)))]
  rfl

theorem setActs_acts (x : List Pend) (s : State) : ((setActs x).to s).acts = x := by
  obtain ⟨a, b, h⟩ := setActs_runs x s
  simp only [h, State.setReg_acts]

theorem setActs_shadows (x : List Pend) (s : State) : ((setActs x).to s).shadows = s.shadows := by
  obtain ⟨a, b, h⟩ := setActs_runs x s
  simp only [h, State.setReg_shadows]

/-- House time and the start of a domain's frame are made of the time, a quantity and the domain's format. -/
theorem State.startOf_congr {s u : State} {d : Nat} (hn : u.now = s.now) (hq : u.q .houseOff = s.q .houseOff)
    (hr : u.rd .RD_FORMAT d = s.rd .RD_FORMAT d) : u.startOf d = s.startOf d := by
  simp only [State.startOf, State.domFormat, State.house, hn, hq, hr]

theorem setActs_startOf (x : List Pend) (s : State) (d : Nat) : ((setActs x).to s).startOf d = s.startOf d := by
  obtain ⟨a, b, h⟩ := setActs_runs x s
  exact State.startOf_congr (by simp only [h, State.setReg_now]) (by simp only [h, State.q, State.setReg_qty]) (setActs_rd x s (by decide) d 0)

/-- Where no immediate action has come due no line executes anything (R54). -/
theorem executeLines_none {s : State} (h : s.lineDue = []) : executeLines.to s = s := by
  simp only [executeLines, look_runs, h, List.isEmpty_nil, Bool.not_true, iff_to, Bool.false_eq_true, if_false]

theorem executeDue_none {s : State} (h : s.acts = []) : executeDue.to s = (setActs []).to s := by
  have hd : s.frameDue = [] := by simp only [State.frameDue, h, List.filter_nil, ite_self]
  simp only [executeDue, look_runs, hd, h, List.filter_nil, all_cons_to, all_nil_to, each_nil_to]

/-- A LOCK that is alone and due at this frame start executes and is pending no longer (R59). -/
theorem executeDue_lock {s : State} {p : Pend} {out mode holder : Nat} (h : s.acts = [p]) (hi : p.item = .lock out mode holder)
    (hp : p.pt = .frameStart) (ha : p.at_ ≤ s.house) (ho : s.q .ordHeld ≠ 1) :
    executeDue.to s = (lockAt out mode holder).to ((setActs []).to s) := by
  have hd : s.frameDue = [p] := by simp [State.frameDue, ho, h, hp, ha, hi]
  simp only [executeDue, look_runs, hd, h, all_cons_to, all_nil_to, each_cons_to, each_nil_to, hi, Bool.not_false, Bool.true_or, iff_to, if_true,
    executeItem]
  simp

/-- A LOCK that reaches the status fields leaves the other frame fields alone. -/
theorem calm_lockAt (n mode holder : Nat) : (lockAt n mode holder).Calm fun f _ => f ∈ frameFields ∧ f ∉ [Fld.XS_LOCK_MODE, .XS_HOLDER] :=
  calm_look fun _ => calm_ite (fun _ => calm_skip) fun _ => calm_all ⟨calm_set_of (fun h => h.2 (by decide)) (by decide),
    calm_set_of (fun h => h.2 (by decide)) (by decide), calm_look fun _ => (quiet_set).mono fun _ _ h => h.1, (quiet_raise ..).mono fun _ _ h => h.1⟩

/-- It stands in XS_LOCK_MODE, and where the mode changes the holder stands in XS_HOLDER and LOCK_CHANGE is raised (R134). -/
theorem lockAt_shows {s : State} {n mode holder : Nat} (hs : SMap.sorted s.regs = true) (hn : n < 256) (hm : mode < 4) (hh : holder < 2 ^ 16)
    (hi : s.idleBlock 4 = false) : ((lockAt n mode holder).to s).rd .XS_LOCK_MODE n = mode
      ∧ (s.rd .XS_LOCK_MODE n ≠ mode → ((lockAt n mode holder).to s).rd .XS_HOLDER n = (if mode = 0 then 0 else holder)
        ∧ ((lockAt n mode holder).to s).latched .LOCK_CHANGE = true) := by
  by_cases hsame : s.rd .XS_LOCK_MODE n = mode ∧ s.rd .XS_HOLDER n = holder
  · simp only [lockAt, look_runs, hsame, and_self, if_true, skip_to, ne_eq, not_true_eq_false, false_implies]
  · have hasM : Fld.XS_LOCK_MODE.has n 0 = true := by simp only [Fld.has, Bool.and_eq_true, decide_eq_true_eq]; exact ⟨hn, by decide⟩
    have hasH : Fld.XS_HOLDER.has n 0 = true := by simp only [Fld.has, Bool.and_eq_true, decide_eq_true_eq]; exact ⟨hn, by decide⟩
    have hs1 := State.setReg_sorted .XS_LOCK_MODE n 0 mode hs
    have hs2 := State.setReg_sorted .XS_HOLDER n 0 (if mode = 0 then 0 else holder) hs1
    simp only [lockAt, look_runs, hsame, if_false, all_cons_to, all_nil_to, set_to]
    refine ⟨?_, fun _ => ⟨?_, ?_⟩⟩
    · rw [raise_rd _ _ _ _ (by decide), State.rd_setReg_other _ _ (.inl (by decide)), State.rd_setReg_other _ _ (.inl (by decide)),
        State.rd_setReg_same _ hs hasM]
      exact Nat.mod_eq_of_lt hm
    · rw [raise_rd _ _ _ _ (by decide), State.rd_setReg_other _ _ (.inl (by decide)), State.rd_setReg_same _ hs1 hasH]
      refine Nat.mod_eq_of_lt ?_
      split
      · exact Nat.two_pow_pos _
      · exact hh
    · refine raise_latches _ _ _ (State.setReg_sorted _ _ _ _ hs2) ?_ (by decide)
      simpa [State.idleBlock, State.rd_setReg_other, Ev.num] using hi

-- Shadowed writes at a frame start -------------------------------------------------------------------------------------------

/-- Where none waits, none lands. -/
theorem shadowsLand_none {s : State} (h : s.shadows = []) (d : Nat) : (shadowsLand d).to s = s := by
  simp only [shadowsLand, look_runs, h, realigns, List.filter_nil, List.map_nil, List.dedup_nil, all_cons_to, all_nil_to, each_nil_to, one_to,
    State.app_shadows]
  rw [← h]

/-- A write of VO_EMB_MAP that waits alone for this frame start lands in its field, and nothing follows it (R9, R154). -/
theorem shadowsLand_embMap {s : State} {w : Shadow} {d : Nat} (h : s.shadows = [w]) (hf : w.fld = .VO_EMB_MAP) (hd : w.dom = d)
    (ha : w.from_ ≤ s.startOf d) : (shadowsLand d).to s = ({ s with shadows := [] } : State).setReg .VO_EMB_MAP w.i w.j w.v := by
  have hdue : (s.shadows.filter fun x => x.dom == d && decide (x.from_ ≤ s.startOf d)) = [w] := by simp [h, hd, ha]
  have hleft : (s.shadows.filter fun x => !([w] : List Shadow).contains x) = [] := by simp [h]
  have hrealign : realigns s [w] = [] := by simp [realigns, hf]
  have hidle : ([w].filter fun x => x.fld == .VO_IDLE_STD) = [] := by simp [hf]
  have hlands : ([w].filter fun x => [Fld.VO_DOMAIN, .VO_STD, .VO_IDLE_STD, .VO_TRANSP_MODE].contains x.fld) = [] := by simp [hf]
  have hflows (aud : Bool) : ([w].filter fun x => (targetFields aud).contains x.fld) = [] := by
    have : (targetFields aud).contains Fld.VO_EMB_MAP = false := by cases aud <;> decide
    rw [List.filter_singleton, hf, this]
    rfl
  have happly (u : State) : (applied w.fld w.i w.j w.v).to u = u.setReg .VO_EMB_MAP w.i w.j w.v := by simp only [hf, applied, look_runs, set_to]
  simp only [shadowsLand, look_runs, hdue, hleft, hrealign, hidle, hlands, hflows, List.map_nil, List.dedup_nil, all_cons_to, all_nil_to, each_cons_to,
    each_nil_to, one_to, State.app_shadows, happly]

-- A frame start of a domain from 1 to 7 --------------------------------------------------------------------------------------

/-- After the pending actions and the shadowed writes come quiet acts, the outputs, and quiet acts again. -/
theorem domainFrameStart_runs {d : Nat} (hd : 1 ≤ d) (obs : FrameObs) (s : State) : ∃ a b : Act, a.Quiet ∧ b.Quiet
    ∧ (domainFrameStart d obs).to s = b.to ((each (List.range s.ports) (outputFrameStart d)).to (a.to
        ((shadowsLand d).to (executeDue.to (executeLines.to (s.setQ .rdFrameAt d 0 (s.now + 1))))))) := by
  have h0 : (d == 0) = false := by simpa using Nat.ne_of_gt hd
  refine ⟨all [edgeHandovers, each obs.peat fun x => peatUncorrectable x.1 x.2.1, iff (s.ports != 0) (Sys2Proof.Machine.count .VI_PEAT_CORR obs.corrected),
    each (List.range s.ports) fun n => sdiInput n (inputFrameStart d n
      (if s.rd .VI_PORT_MODE n = 2 then s.rtpBegun n else (obs.begun.find? fun b => b.1 == n).map Prod.snd) obs.peat),
    each (obs.streams.filter fun x => s.rd .VO_DOMAIN (s.voBase x.out) == d) streamChanged, formatMatches d, mossFrameStart d obs.sigs],
    flowsFrameStart d, ?_, quiet_flowsFrameStart d, ?_⟩
  · exact calm_all ⟨quiet_edgeHandovers, calm_each fun _ => quiet_peatUncorrectable .., calm_iff fun _ => quiet_count,
      calm_each fun _ => quiet_sdiInput _ (quiet_inputFrameStart ..), calm_each quiet_streamChanged, quiet_formatMatches d, quiet_mossFrameStart ..⟩
  · simp only [domainFrameStart, look_runs, all_cons_to, all_nil_to, put_to, h0, iff_to, Bool.false_eq_true, if_false]

theorem State.ports_le (s : State) : s.ports ≤ 256 := by
  unfold State.ports
  split
  · decide
  · split <;> decide

/-- Every output that sends in `s` counts a frame from `s` to `u` if its domain is `d`, and none if it is another. -/
def State.countsFrames (d : Nat) (s u : State) : Prop := ∀ n, n < s.ports → s.rd .VO_STATE n = 2 → s.rd .VO_PORT_MODE n = 1 →
  u.rd .VO_FRAMES n = if s.rd .VO_DOMAIN (s.voBase n) = d then min (s.rd .VO_FRAMES n + 1) 0xFFFFFFFF else s.rd .VO_FRAMES n

/-- The copies that every output leaves alone at a frame start. -/
abbrev keptForAll (f : Fld) (_ : Nat) : Prop := f ∈ frameFields ∧ f ∉ [Fld.VO_FRAMES, .VO_STATE]

theorem calm_outputFrameStarts (d : Nat) (s : State) : (each (List.range s.ports) (outputFrameStart d)).Calm keptForAll :=
  (calm_each_mem fun _ hm => calm_outputFrameStart (Nat.ne_of_lt (Nat.lt_of_lt_of_le (List.mem_range.mp hm) s.ports_le)) d).mono
    fun _ _ h => ⟨h.1, fun hf => absurd hf h.2⟩

/-- The frame fields but those that an action or a write of its own may settle at the same frame start. -/
def outFields : List Fld := [.VO_FRAMES, .VO_STATE, .VO_PORT_MODE, .VO_DOMAIN, .VO_LINK_MODE]

/-- If the actions and the shadowed writes leave what outputs need, then a frame start counts the frames of the domain's outputs and keeps what they have
settled. -/
theorem domainFrameStart_calm {d : Nat} (hd : 1 ≤ d) (obs : FrameObs) {s v : State} (hs : SMap.sorted s.regs = true)
    (hv : (shadowsLand d).to (executeDue.to (executeLines.to (s.setQ .rdFrameAt d 0 (s.now + 1)))) = v)
    (hout : ∀ f ∈ outFields, ∀ i, v.rd f i = s.rd f i) :
    State.Calm keptForAll v ((domainFrameStart d obs).to s)
      ∧ s.countsFrames d ((domainFrameStart d obs).to s) := by
  obtain ⟨a, b, ha, hb, hrun⟩ := domainFrameStart_runs hd obs s
  have hvs : SMap.sorted v.regs = true := by
    rw [← hv]
    exact Act.to_regs_sorted _ (Act.to_regs_sorted _ (Act.to_regs_sorted _ (by rwa [State.setQ_regs])))
  have hvs' := Act.to_regs_sorted a hvs
  rw [hrun, hv]
  constructor
  · have h1 := (ha.mono (K' := keptForAll) fun _ _ h => h.1).step v hvs
    have h2 := (calm_outputFrameStarts d s).step (a.to v) hvs'
    have h3 := (hb.mono (K' := keptForAll) fun _ _ h => h.1).step _ (Act.to_regs_sorted (each (List.range s.ports) (outputFrameStart d)) hvs')
    exact (h1.trans h2).trans h3
  · intro n hn h2 hp
    have hkeep {f : Fld} (hf : f ∈ outFields) (i : Nat) : (a.to v).rd f i = s.rd f i :=
      ((ha.step v hvs).rd f i 0 ((by decide : ∀ f ∈ outFields, f ∈ frameFields) f hf)).trans (hout f hf i)
    have hbase : (a.to v).voBase n = s.voBase n := by simp only [State.voBase, hkeep (f := .VO_LINK_MODE) (by decide)]
    rw [(hb.step _ (Act.to_regs_sorted _ hvs')).rd _ _ _ (by decide),
      outputFrameStarts_rd_frames hvs' (Nat.lt_of_lt_of_le hn s.ports_le) (List.mem_range.mpr hn) List.nodup_range
        ((hkeep (by decide) n).trans h2) ((hkeep (by decide) n).trans hp),
      hbase, hkeep (f := .VO_DOMAIN) (by decide), hkeep (f := .VO_FRAMES) (by decide)]

/-- RASTER_FRAME_START of an enabled domain of a running module, at half a frame period or later, is a frame start of the domain (R46, R305). -/
theorem exec_rasterFrameStart_next {s : State} {t d : Nat} (hd : d < 8) (he : (s.since t).frameEnds d = true)
    (hr : s.rd .SU_STATE = 3 ∨ s.rd .SU_STATE = 5) (obs : FrameObs) :
    Sys2Proof.Machine.exec (.rasterFrameStart t d obs) s = .next ((domainFrameStart d obs).to (s.since t)) := by
  have hc : ((s.since t).frameEnds d && decide (d < 8) && ((s.since t).rd .SU_STATE == 3 || (s.since t).rd .SU_STATE == 5)) = true := by
    simp only [he, hd, decide_true, Bool.and_self, Bool.true_and, State.rd_since, Bool.or_eq_true, beq_iff_eq]
    exact hr
  show run (all [at_ t, look fun s => iff (s.frameEnds d && decide (d < 8) && (s.rd .SU_STATE == 3 || s.rd .SU_STATE == 5)) (domainFrameStart d obs)]) s = _
  rw [run_eq, all_cons_to, at_to_since, all_cons_to, all_nil_to, look_runs, iff_to, if_pos hc]

-- The statement ----------------------------------------------------------------------------------------------------------------

/-- The moment of a frame start is noted where neither house time nor a domain's format looks. -/
theorem setQ_rdFrameAt_house (s : State) (d : Nat) (x : Int) : (s.setQ .rdFrameAt d 0 x).house = s.house := by
  have hq : (s.setQ .rdFrameAt d 0 x).q .houseOff = s.q .houseOff := State.q_setQ_other _ _ (by decide) (by decide) (.inl (by decide))
  simp only [State.house, State.setQ_now, hq]

theorem setQ_rdFrameAt_startOf (s : State) (d k : Nat) (x : Int) : (s.setQ .rdFrameAt d 0 x).startOf k = s.startOf k :=
  State.startOf_congr (State.setQ_now ..) (State.q_setQ_other _ _ (by decide) (by decide) (.inl (by decide))) (State.rd_setQ ..)

/-- A LOCK that is due at a frame start is shown and gone, and the outputs count (R59, R134, R151). -/
theorem domainFrameStart_lock {d : Nat} (hd : 1 ≤ d) (obs : FrameObs) {s : State} (hs : SMap.sorted s.regs = true)
    (hrole : s.rd .SYS_ROLE = 1 ∨ s.rd .SYS_ROLE = 2) {p : Pend} {out mode holder : Nat}
    (hw : s.shadows = []) (ha : s.acts = [p]) (hi : p.item = .lock out mode holder) (hp : p.pt = .frameStart) (ht : p.at_ ≤ s.house)
    (ho : s.q .ordHeld ≠ 1) (hout : out < 256) (hm : mode < 4) (hh : holder < 2 ^ 16) :
    let u := (domainFrameStart d obs).to s
    u.acts = [] ∧ u.rd .XS_LOCK_MODE out = mode
      ∧ (s.rd .XS_LOCK_MODE out ≠ mode → u.rd .XS_HOLDER out = (if mode = 0 then 0 else holder) ∧ u.latched .LOCK_CHANGE = true) ∧ s.countsFrames d u := by
  obtain ⟨s₁, hs₁⟩ : ∃ s₁, s.setQ .rdFrameAt d 0 (s.now + 1) = s₁ := ⟨_, rfl⟩
  have hsort : SMap.sorted ((setActs []).to s₁).regs = true := Act.to_regs_sorted _ (by rwa [← hs₁, State.setQ_regs])
  have hacts : s₁.acts = [p] := by rw [← hs₁, State.setQ_acts, ha]
  have hhouse : p.at_ ≤ s₁.house := by rwa [← hs₁, setQ_rdFrameAt_house]
  have hord : s₁.q .ordHeld ≠ 1 := by rwa [← hs₁, State.q_setQ_other s _ (by decide) (by decide) (.inl (by decide))]
  have hrd {f : Fld} (hf : f ∉ [Fld.SCHED_PENDING, .SCHED_PENDING_PEAK]) (i : Nat) : ((setActs []).to s₁).rd f i = s.rd f i := by
    rw [setActs_rd [] _ hf i 0, ← hs₁, State.rd_setQ]
  have hidle : ((setActs []).to s₁).idleBlock 4 = false := by
    have hrole' := hrole
    rw [← hrd (f := .SYS_ROLE) (by decide)] at hrole'
    obtain h | h := hrole' <;> simp [State.idleBlock, idleIn, h]
  have hcalm := (calm_lockAt out mode holder).step _ hsort
  obtain ⟨hmode, hholder⟩ := lockAt_shows hsort hout hm hh hidle
  have hline : s₁.lineDue = [] := by simp [State.lineDue, hacts, hp]
  have hland : (shadowsLand d).to (executeDue.to (executeLines.to s₁)) = (lockAt out mode holder).to ((setActs []).to s₁) := by
    rw [executeLines_none hline, executeDue_lock hacts hi hp hhouse hord]
    exact shadowsLand_none (hcalm.shadows.trans (by rw [setActs_shadows, ← hs₁, State.setQ_shadows, hw])) d
  obtain ⟨hkeep, hcount⟩ := domainFrameStart_calm hd obs hs (by rw [hs₁, hland]) fun f hf i =>
    (hcalm.rd f i 0 ((by decide : ∀ f ∈ outFields, f ∈ frameFields ∧ f ∉ [Fld.XS_LOCK_MODE, .XS_HOLDER]) f hf)).trans
      (hrd ((by decide : ∀ f ∈ outFields, f ∉ [Fld.SCHED_PENDING, .SCHED_PENDING_PEAK]) f hf) i)
  refine ⟨(hkeep.acts.trans hcalm.acts).trans (setActs_acts ..), (hkeep.rd _ _ _ ⟨by decide, by decide⟩).trans hmode, fun hne => ?_, hcount⟩
  obtain ⟨hheld, hlatch⟩ := hholder (by rwa [hrd (by decide)])
  exact ⟨(hkeep.rd _ _ _ ⟨by decide, by decide⟩).trans hheld, hkeep.latched _ hlatch⟩

/-- A write of VO_EMB_MAP that waits for a frame start lands there, and the outputs count (R9, R59, R151). -/
theorem domainFrameStart_embMap {d : Nat} (hd : 1 ≤ d) (obs : FrameObs) {s : State} (hs : SMap.sorted s.regs = true) {w : Shadow}
    (ha : s.acts = []) (hw : s.shadows = [w]) (hf : w.fld = .VO_EMB_MAP) (hdom : w.dom = d) (ht : w.from_ ≤ s.startOf d) (hi : w.i < 256) (hj : w.j = 0) :
    let u := (domainFrameStart d obs).to s
    u.shadows = [] ∧ u.rd .VO_EMB_MAP w.i = w.v % 2 ^ 32 ∧ s.countsFrames d u := by
  obtain ⟨s₁, hs₁⟩ : ∃ s₁, s.setQ .rdFrameAt d 0 (s.now + 1) = s₁ := ⟨_, rfl⟩
  have hsort : SMap.sorted ((setActs []).to s₁).regs = true := Act.to_regs_sorted _ (by rwa [← hs₁, State.setQ_regs])
  have hacts : s₁.acts = [] := by rw [← hs₁, State.setQ_acts, ha]
  have hshadows : ((setActs []).to s₁).shadows = [w] := by rw [setActs_shadows, ← hs₁, State.setQ_shadows, hw]
  have hstart : w.from_ ≤ ((setActs []).to s₁).startOf d := by rwa [setActs_startOf, ← hs₁, setQ_rdFrameAt_startOf]
  have hline : s₁.lineDue = [] := by simp [State.lineDue, hacts]
  have hland : (shadowsLand d).to (executeDue.to (executeLines.to s₁))
      = ({ (setActs []).to s₁ with shadows := [] } : State).setReg .VO_EMB_MAP w.i 0 w.v := by
    rw [executeLines_none hline, executeDue_none hacts, shadowsLand_embMap hshadows hf hdom hstart, hj]
  have hhas : Fld.VO_EMB_MAP.has w.i 0 = true := by simp only [Fld.has, Bool.and_eq_true, decide_eq_true_eq]; exact ⟨hi, by decide⟩
  obtain ⟨hkeep, hcount⟩ := domainFrameStart_calm hd obs hs (by rw [hs₁, hland]) fun f hf i => by
    rw [State.rd_setReg_other _ _ (.inl ((by decide : ∀ f ∈ outFields, f ≠ .VO_EMB_MAP) f hf))]
    exact (setActs_rd [] s₁ ((by decide : ∀ f ∈ outFields, f ∉ [Fld.SCHED_PENDING, .SCHED_PENDING_PEAK]) f hf) i 0).trans (by rw [← hs₁, State.rd_setQ])
  exact ⟨hkeep.shadows.trans (State.setReg_shadows ..), (hkeep.rd _ _ _ ⟨by decide, by decide⟩).trans (State.rd_setReg_same _ hsort hhas), hcount⟩

/-- Settles O21: a due LOCK and a waiting write of VO_EMB_MAP take effect before the outputs of the domain count their frame, and nothing that the circuits
report at the frame start touches any of them. -/
theorem frameStartsExecuteWhatIsDue : Obligations.FrameStartsExecuteWhatIsDue := by
  intro s t dom obs hwf hfits h1 h8 hends hrun hrole frames
  have hs : SMap.sorted (s.since t).regs = true := State.wf_regs hwf
  have hnext := exec_rasterFrameStart_next h8 hends hrun obs
  constructor
  · intro p out mode holder hw ha hi hp ht ho hout hm hh
    exact ⟨_, hnext, domainFrameStart_lock h1 obs hs hrole hw ha hi hp ht ho hout hm hh⟩
  · intro w ha hw hf hdom ht hi hj
    exact ⟨_, hnext, domainFrameStart_embMap h1 obs hs ha hw hf hdom ht hi hj⟩

end Sys2Proof.Machine
end

section
/-! SUPPORT. Every act keeps a sound state sound: O3; the state after reset is sound: O4. -/
set_option Elab.async false
namespace Sys2Proof.Machine

/-- Writing the kept fields leaves every store but that of registers as it is. -/
theorem State.fresh_stores (s : State) : s.fresh.stores = true := by
  have keep {α : Type} (get : State → α) (hget : ∀ s f i j v, get (State.setReg s f i j v) = get s) :=
    State.keep_fold get hget s.rd keptFields
      { State.reset with
        pending := s.pending, now := s.now, owners := s.owners, nvm := s.nvm, clampReport := s.clampReport, out := s.out, freed := s.freed }
  have htimers : s.fresh.timers = [] := keep State.timers fun _ _ _ _ _ => State.setReg_timers ..
  have hvOuts : s.fresh.vOuts = [] := keep State.vOuts fun _ _ _ _ _ => State.setReg_vOuts ..
  have hvFields : s.fresh.vFields = [] := keep State.vFields fun _ _ _ _ _ => State.setReg_vFields ..
  have hcfgRegs : s.fresh.cfgRegs = [] := keep State.cfgRegs fun _ _ _ _ _ => State.setReg_cfgRegs ..
  have hvApplied : s.fresh.vApplied = [] := keep State.vApplied fun _ _ _ _ _ => State.setReg_vApplied ..
  have hvOpen : s.fresh.vOpen = [] := keep State.vOpen fun _ _ _ _ _ => State.setReg_vOpen ..
  simp only [State.stores, State.fresh_regs_sorted, State.fresh_qty, htimers, hvOuts, hvFields, hcfgRegs, hvApplied, hvOpen]
  rfl

theorem State.stores_iff (s : State) : s.stores = true ↔
    SMap.sorted s.regs = true ∧ SMap.sorted s.qty = true ∧ SMap.lean (0 : Int) s.qty = true ∧ SMap.sorted s.timers = true
      ∧ SMap.sorted s.vOuts = true ∧ SMap.sorted s.vFields = true ∧ SMap.sorted s.cfgRegs = true ∧ SMap.sorted s.vApplied = true
      ∧ SMap.sorted s.vOpen = true := by
  simp only [State.stores, Bool.and_eq_true, and_assoc]

theorem State.setReg_stores {s : State} (h : s.stores = true) (f : Fld) (i j v : Nat) : (s.setReg f i j v).stores = true := by
  simp only [State.stores_iff, State.setReg_qty, State.setReg_timers, State.setReg_vOuts, State.setReg_vFields, State.setReg_cfgRegs,
    State.setReg_vApplied, State.setReg_vOpen] at h ⊢
  exact ⟨State.setReg_sorted f i j v h.1, h.2⟩

theorem State.setQ_stores {s : State} (h : s.stores = true) (x : Qty) (i j : Nat) (v : Int) : (s.setQ x i j v).stores = true := by
  rw [State.stores_iff] at h
  obtain ⟨hregs, hqty, hlean, hrest⟩ := h
  have hlean' : SMap.lean (0 : Int) (s.setQ x i j v).qty = true := by
    unfold State.setQ
    split
    · exact SMap.lean_put 0 _ _ _ hlean
    · exact hlean
  simp only [State.stores_iff, State.setQ_regs, State.setQ_timers, State.setQ_vOuts, State.setQ_vFields, State.setQ_cfgRegs,
    State.setQ_vApplied, State.setQ_vOpen]
  exact ⟨hregs, State.setQ_sorted x i j v hqty, hlean', hrest⟩

/-- Every effect keeps the stores under rising keys: each writes through the operations of Machine/Store.lean, empties a store, or copies the
registers. -/
theorem State.app_stores {s : State} (e : Eff) (h : s.stores = true) : (s.app e).stores = true := by
  cases e
  case wr => exact State.setReg_stores h ..
  case burnRollback => simp only [State.app]; split <;> exact State.setReg_stores h ..
  case put => exact State.setQ_stores h ..
  case restart => exact s.fresh_stores
  all_goals
    rw [State.stores_iff] at h ⊢
    obtain ⟨hregs, hqty, hlean, htimers, hvOuts, hvFields, hcfgRegs, hvApplied, hvOpen⟩ := h
  case arm => exact ⟨hregs, hqty, hlean, SMap.sorted_ins _ _ _ htimers, hvOuts, hvFields, hcfgRegs, hvApplied, hvOpen⟩
  case disarm => exact ⟨hregs, hqty, hlean, SMap.sorted_del _ _ htimers, hvOuts, hvFields, hcfgRegs, hvApplied, hvOpen⟩
  case vOut => exact ⟨hregs, hqty, hlean, htimers, SMap.sorted_put _ _ _ _ hvOuts, hvFields, hcfgRegs, hvApplied, hvOpen⟩
  case vOutsClear => exact ⟨hregs, hqty, hlean, htimers, rfl, hvFields, hcfgRegs, hvApplied, hvOpen⟩
  case vField => exact ⟨hregs, hqty, hlean, htimers, hvOuts, SMap.sorted_ins _ _ _ hvFields, hcfgRegs, hvApplied, hvOpen⟩
  case vFieldsClear => exact ⟨hregs, hqty, hlean, htimers, hvOuts, rfl, hcfgRegs, hvApplied, hvOpen⟩
  case snapshot => exact ⟨hregs, hqty, hlean, htimers, hvOuts, hvFields, hregs, hvApplied, hvOpen⟩
  case vApplied => exact ⟨hregs, hqty, hlean, htimers, hvOuts, hvFields, hcfgRegs, SMap.sorted_put _ _ _ _ hvApplied, hvOpen⟩
  case vOpen => exact ⟨hregs, hqty, hlean, htimers, hvOuts, hvFields, hcfgRegs, hvApplied, SMap.sorted_put _ _ _ _ hvOpen⟩
  all_goals
    simp only [State.app]
    exact ⟨hregs, hqty, hlean, htimers, hvOuts, hvFields, hcfgRegs, hvApplied, hvOpen⟩

theorem State.bounded_iff (s : State) : s.bounded = true ↔
    s.evq.length ≤ 256 ∧ s.clampReport.length ≤ 4096 ∧ s.sessions.length ≤ 34 ∧ s.buf.length ≤ 256 ∧ s.hist.length ≤ 256
      ∧ s.owners.length ≤ 4 := by
  simp only [State.bounded, Bool.and_eq_true, decide_eq_true_eq, and_assoc]

/-- A start empties every queue but the clamp report and the owner digests. -/
theorem State.fresh_bounded {s : State} (h : s.bounded = true) : s.fresh.bounded = true := by
  have keep {α : Type} (get : State → α) (hget : ∀ s f i j v, get (State.setReg s f i j v) = get s) :=
    State.keep_fold get hget s.rd keptFields
      { State.reset with
        pending := s.pending, now := s.now, owners := s.owners, nvm := s.nvm, clampReport := s.clampReport, out := s.out, freed := s.freed }
  have hevq : s.fresh.evq = [] := keep State.evq fun _ _ _ _ _ => State.setReg_evq ..
  have hclamps : s.fresh.clampReport = s.clampReport := keep State.clampReport fun _ _ _ _ _ => State.setReg_clampReport ..
  have hsessions : s.fresh.sessions = [] := keep State.sessions fun _ _ _ _ _ => State.setReg_sessions ..
  have hbuf : s.fresh.buf = [] := keep State.buf fun _ _ _ _ _ => State.setReg_buf ..
  have hhist : s.fresh.hist = [] := keep State.hist fun _ _ _ _ _ => State.setReg_hist ..
  rw [State.bounded_iff] at h ⊢
  rw [hevq, hclamps, hsessions, hbuf, hhist, State.fresh_owners]
  exact ⟨by simp, h.2.1, by simp, by simp, by simp, h.2.2.2.2.2⟩

/-- Every effect keeps every queue within its length: the constructors that replace a queue cut it. -/
theorem State.app_bounded {s : State} (e : Eff) (h : s.bounded = true) : (s.app e).bounded = true := by
  cases e
  case restart => exact State.fresh_bounded h
  all_goals
    rw [State.bounded_iff] at h ⊢
    obtain ⟨hevq, hclamps, hsessions, hbuf, hhist, howners⟩ := h
  case wr => simpa using ⟨hevq, hclamps, hsessions, hbuf, hhist, howners⟩
  case put => simpa using ⟨hevq, hclamps, hsessions, hbuf, hhist, howners⟩
  case burnRollback => simp only [State.app]; split <;> simpa using ⟨hevq, hclamps, hsessions, hbuf, hhist, howners⟩
  case burnOwner => exact ⟨hevq, hclamps, hsessions, hbuf, hhist, List.length_take_le _ _⟩
  case clamps => exact ⟨hevq, List.length_take_le _ _, hsessions, hbuf, hhist, howners⟩
  case sessions => exact ⟨hevq, hclamps, List.length_take_le _ _, hbuf, hhist, howners⟩
  case evq => exact ⟨List.length_take_le _ _, hclamps, hsessions, hbuf, hhist, howners⟩
  case buf => exact ⟨hevq, hclamps, hsessions, List.length_take_le _ _, hhist, howners⟩
  case hist x =>
    have hcut : (x.drop (x.length - 256)).length ≤ 256 := by rw [List.length_drop]; omega
    simp only [State.app_hist]
    exact ⟨hevq, hclamps, hsessions, hbuf, hcut, howners⟩
  all_goals
    simp only [State.app]
    exact ⟨hevq, hclamps, hsessions, hbuf, hhist, howners⟩

theorem State.wf_iff (s : State) : s.wf = true ↔ s.stores = true ∧ Memory.wf s.mem = true ∧ s.bounded = true := by
  simp only [State.wf, Bool.and_eq_true, and_assoc]

theorem State.app_wf {s : State} (e : Eff) (h : s.wf = true) : (s.app e).wf = true := by
  rw [State.wf_iff] at h ⊢
  obtain ⟨hstores, hmem, hbounded⟩ := h
  exact ⟨State.app_stores e hstores, State.app_mem_wf e hmem, State.app_bounded e hbounded⟩

/-- Every act keeps a sound state sound. -/
theorem Act.to_wf (a : Act) {s : State} (h : s.wf = true) : (a.to s).wf = true :=
  (show a.Within fun _ => True from fun _ _ _ => trivial).keeps (P := fun t => t.wf = true) (fun _ e _ ht => State.app_wf e ht) h

/-- Settles O3: a step runs an act, and every act keeps a sound state sound. -/
theorem soundStateIsKept : Obligations.SoundStateIsKept := by
  unfold Obligations.SoundStateIsKept
  intro s u hwf hstep
  cases hp : s.pending with
  | nil =>
    simp only [step, hp, Host.Outcome.next.injEq] at hstep
    exact hstep ▸ hwf
  | cons c rest =>
    obtain ⟨a, ha⟩ := exec_runs c { s with pending := rest }
    simp only [step, hp, ha, run_eq, Host.Outcome.next.injEq] at hstep
    have hpopped : State.wf { s with pending := rest } = true := hwf
    exact hstep ▸ a.to_wf hpopped

/-- Settles O4: nothing is listed in the state after reset, and every reset value fits its field. -/
theorem resetStateIsSound : Obligations.ResetStateIsSound := by
  unfold Obligations.ResetStateIsSound
  exact ⟨rfl, State.fits_of_reset rfl, rfl, rfl⟩

end Sys2Proof.Machine
end

section
/-! SUPPORT. What an act leaves alone: the parts of the state that it can touch, by the ways acts are put together. -/
set_option Elab.async false
namespace Sys2Proof.Machine

/-- A part of the state, as acts touch it; `media` stands for the queues of media, network and Fern. -/
inductive Part where
  | reg (f : Fld) | qty (x : Qty) | tmr (x : Tmr)
  | mem | now | out | freed | owners | nvm | cfg | fwRun | clampReport | sessions | evq | buf | hist | held | senders | acts | img | shadows
  | vOuts | vFields | cfgRegs | vLegs | vSched | vApplied | vOpen | vNodes | vImps | legs | txRecs | lkQ | upd | nodes | media
  deriving DecidableEq

/-- The part that an effect touches; none for a start, which touches all. -/
def Eff.part : Eff → Option Part
  | .wr f _ _ _ => some (.reg f)
  | .put x _ _ _ => some (.qty x)
  | .arm x i _ => if i < 2 ^ 40 then some (.tmr x) else none
  | .disarm x i => if i < 2 ^ 40 then some (.tmr x) else none
  | .poke _ _ => some .mem
  | .wipe _ _ => some .mem
  | .advance _ => some .now
  | .emit _ => some .out
  | .useFree => some .freed
  | .burnOwner _ => some .owners
  | .burnRollback _ _ => none
  | .nvm _ => some .nvm
  | .cfg _ => some .cfg
  | .fwRun _ => some .fwRun
  | .clamps _ => some .clampReport
  | .sessions _ => some .sessions
  | .evq _ => some .evq
  | .buf _ => some .buf
  | .hist _ => some .hist
  | .held _ => some .held
  | .senders _ => some .senders
  | .acts _ => some .acts
  | .img _ => some .img
  | .shadows _ => some .shadows
  | .vOut _ _ => some .vOuts
  | .vOutsClear => some .vOuts
  | .vField _ _ => some .vFields
  | .vFieldsClear => some .vFields
  | .snapshot => some .cfgRegs
  | .vLegs _ => some .vLegs
  | .vSched _ => some .vSched
  | .vApplied _ _ => some .vApplied
  | .vOpen _ _ => some .vOpen
  | .vNodes _ => some .vNodes
  | .vImps _ => some .vImps
  | .legs _ => some .legs
  | .txRecs _ => some .txRecs
  | .lkQ _ => some .lkQ
  | .upd _ => some .upd
  | .nodes _ => some .nodes
  | .restart => none
  | _ => some .media

/-- What a part of the state holds. -/
abbrev Part.Val : Part → Type
  | .reg _ => Nat → Nat → Nat
  | .qty _ => Fin (2 ^ 40) → Fin (2 ^ 40) → Int
  | .tmr _ => Fin (2 ^ 40) → Option Nat
  | .mem => List Host.Cell
  | .now => Nat
  | .out => List Sent
  | .freed => Nat
  | .owners => List Nat
  | .nvm => Nvm
  | .cfg => Option CfgImage
  | .fwRun => Option FwImage
  | .clampReport => List ClampEnt
  | .sessions => List Session
  | .evq => List EvRec
  | .buf => List Rec
  | .hist => List Action
  | .held => List Held
  | .senders => List (Nat × Nat)
  | .acts => List Pend
  | .img => Option ImgBuf
  | .shadows => List Shadow
  | .vOuts => SMap OutView
  | .vFields => SMap Nat
  | .cfgRegs => SMap Nat
  | .vLegs => List Leg
  | .vSched => List Sched
  | .vApplied => SMap Nat
  | .vOpen => SMap Nat
  | .vNodes => List VNode
  | .vImps => List VImp
  | .legs => List Leg
  | .txRecs => List TxRec
  | .lkQ => List LkFrame
  | .upd => Option Upd
  | .nodes => List ANode
  | .media => Unit

/-- A part of a state. -/
def State.part (s : State) : (p : Part) → p.Val
  | .reg f => fun i j => s.rd f i j
  | .qty x => fun i j => s.q x i j
  | .tmr x => fun i => s.timer x i
  | .mem => s.mem
  | .now => s.now
  | .out => s.out
  | .freed => s.freed
  | .owners => s.owners
  | .nvm => s.nvm
  | .cfg => s.cfg
  | .fwRun => s.fwRun
  | .clampReport => s.clampReport
  | .sessions => s.sessions
  | .evq => s.evq
  | .buf => s.buf
  | .hist => s.hist
  | .held => s.held
  | .senders => s.senders
  | .acts => s.acts
  | .img => s.img
  | .shadows => s.shadows
  | .vOuts => s.vOuts
  | .vFields => s.vFields
  | .cfgRegs => s.cfgRegs
  | .vLegs => s.vLegs
  | .vSched => s.vSched
  | .vApplied => s.vApplied
  | .vOpen => s.vOpen
  | .vNodes => s.vNodes
  | .vImps => s.vImps
  | .legs => s.legs
  | .txRecs => s.txRecs
  | .lkQ => s.lkQ
  | .upd => s.upd
  | .nodes => s.nodes
  | .media => ()

/-- No register is among the parts. -/
def noReg (ps : List Part) : Bool := ps.all fun p => match p with | .reg _ => false | _ => true

/-- The part is no register but one of the listed fields, or one in which an event shows. -/
def Part.shows (fs : List Fld) : Part → Bool
  | .reg f => decide (f ∈ fs) || decide (f ∈ eventFields)
  | _ => true

/-- The part is no register outside the listed blocks. -/
def Part.inBlocks (bs : List Nat) : Part → Bool
  | .reg f => decide (blockOf f.desc.addr ∈ bs)
  | _ => true

/-- From `s` to `u` nothing but the listed parts has changed; what waits is the same, registers in order stay so, and then what is latched too. -/
structure State.SameBut (ps : List Part) (s u : State) : Prop where
  part : ∀ p, p ∉ ps → u.part p = s.part p
  regs : noReg ps = true → u.regs = s.regs
  pending : u.pending = s.pending
  sorted : SMap.sorted s.regs = true → SMap.sorted u.regs = true
  latched : SMap.sorted s.regs = true → ∀ e, s.latched e = true → u.latched e = true

variable {ps qs : List Part} {s t u : State}

namespace State.SameBut

theorem refl (s : State) : SameBut ps s s := ⟨fun _ _ => rfl, fun _ => rfl, rfl, id, fun _ _ => id⟩

theorem trans (h : SameBut ps s t) (k : SameBut ps t u) : SameBut ps s u :=
  ⟨fun p hp => (k.part p hp).trans (h.part p hp), fun hn => (k.regs hn).trans (h.regs hn), k.pending.trans h.pending,
    fun hs => k.sorted (h.sorted hs), fun hs e he => k.latched (h.sorted hs) e (h.latched hs e he)⟩

theorem mono (h : SameBut ps s u) (hq : ∀ p ∈ ps, p ∈ qs) : SameBut qs s u where
  part p hp := h.part p fun hm => hp (hq p hm)
  regs hn := h.regs (by
    simp only [noReg, List.all_eq_true] at hn ⊢
    exact fun p hp => hn p (hq p hp))
  pending := h.pending
  sorted := h.sorted
  latched := h.latched

theorem rd (h : SameBut ps s u) {f : Fld} (hf : .reg f ∉ ps) (i j : Nat) : u.rd f i j = s.rd f i j := congrFun (congrFun (h.part (.reg f) hf) i) j

theorem q (h : SameBut ps s u) {x : Qty} (hx : .qty x ∉ ps) {i j : Nat} (hi : i < 2 ^ 40) (hj : j < 2 ^ 40) : u.q x i j = s.q x i j :=
  congrFun (congrFun (h.part (.qty x) hx) ⟨i, hi⟩) ⟨j, hj⟩

theorem timer (h : SameBut ps s u) {x : Tmr} (hx : .tmr x ∉ ps) {i : Nat} (hi : i < 2 ^ 40) : u.timer x i = s.timer x i :=
  congrFun (h.part (.tmr x) hx) ⟨i, hi⟩

/-- No register but the listed fields, and those in which an event shows, has changed. -/
theorem only (h : SameBut ps s u) {fs : List Fld} (hf : ps.all (Part.shows fs) = true) : s.only fs u :=
  fun f i j h1 h2 => h.rd (fun hm => by
    have := List.all_eq_true.mp hf _ hm
    simp only [Part.shows, Bool.or_eq_true, decide_eq_true_eq] at this
    exact this.elim h1 h2) i j

/-- No register outside the listed blocks has changed. -/
theorem outside (h : SameBut ps s u) {bs : List Nat} (hb : ps.all (Part.inBlocks bs) = true) : s.outside bs u :=
  fun f i j hf => h.rd (fun hm => by
    have := List.all_eq_true.mp hb _ hm
    simp only [Part.inBlocks, decide_eq_true_eq] at this
    exact hf this) i j

/-- With the same registers and what waits, the parts can be compared one by one. -/
theorem of_regs (hr : u.regs = s.regs) (hw : u.pending = s.pending) (hp : ∀ p, p ∉ ps → u.part p = s.part p) : SameBut ps s u :=
  ⟨hp, fun _ => hr, hw, fun hs => hr ▸ hs, fun _ e he => by simpa only [State.latched, State.rd_congr hr] using he⟩

end State.SameBut

theorem Tmr.ctorIdx_inj {x y : Tmr} (h : x.ctorIdx = y.ctorIdx) : x = y := by
  have e : ∀ z : Tmr, Tmr.ofNat z.ctorIdx = z := by intro z; cases z <;> rfl
  rw [← e x, ← e y, h]

theorem Tmr.key_ne {x y : Tmr} {i k : Nat} (hi : i < 2 ^ 40) (hk : k < 2 ^ 40) (h : y ≠ x ∨ k ≠ i) : y.key k ≠ x.key i := by
  intro e
  simp only [Tmr.key] at e
  rcases h with h | h
  · exact h (Tmr.ctorIdx_inj (by omega))
  · exact h (by omega)

/-- A register write touches its field alone; a latch that it might clear is left to the lemma about events. -/
theorem State.setReg_sameBut (s : State) {f : Fld} (hf : f ≠ .EP_LATCH) (i j v : Nat) : State.SameBut [.reg f] s (s.setReg f i j v) where
  part p hp := by
    cases p
    case reg g => funext k l; exact State.rd_setReg_other _ _ (.inl (by simpa using hp))
    case qty => funext k l; exact State.q_setReg ..
    case tmr => funext k; exact State.timer_setReg ..
    all_goals simp [State.part]
  regs hn := by cases hn
  pending := State.setReg_pending ..
  sorted := State.setReg_sorted f i j v
  latched _ e he := by simpa only [State.latched, State.rd_setReg_other s v (.inl hf.symm)] using he

theorem State.setQ_sameBut (s : State) (x : Qty) (i j : Nat) (v : Int) : State.SameBut [.qty x] s (s.setQ x i j v) :=
  .of_regs (State.setQ_regs ..) (State.setQ_pending ..) fun p hp => by
    cases p
    case reg => funext k l; exact State.rd_setQ ..
    case qty y => funext k l; exact State.q_setQ_other _ _ k.isLt l.isLt (.inl (by simpa using hp))
    case tmr => funext k; exact State.timer_setQ ..
    all_goals simp [State.part]

theorem State.arm_sameBut (s : State) (x : Tmr) {i : Nat} (hi : i < 2 ^ 40) (at_ : Nat) : State.SameBut [.tmr x] s (s.app (.arm x i at_)) :=
  .of_regs rfl rfl fun p hp => by
    cases p
    case tmr y => funext k; exact SMap.find_ins_other _ _ (Tmr.key_ne hi k.isLt (.inl (by simpa using hp)))
    all_goals rfl

theorem State.disarm_sameBut (s : State) (x : Tmr) {i : Nat} (hi : i < 2 ^ 40) : State.SameBut [.tmr x] s (s.app (.disarm x i)) :=
  .of_regs rfl rfl fun p hp => by
    cases p
    case tmr y => funext k; exact SMap.find_del_other _ (Tmr.key_ne hi k.isLt (.inl (by simpa using hp)))
    all_goals rfl

/-- Every effect but a start touches its one part. -/
theorem State.app_sameBut {e : Eff} {p : Part} (h : e.part = some p) (hl : p ≠ .reg .EP_LATCH) (s : State) : State.SameBut [p] s (s.app e) := by
  cases e
  case wr f i j v => cases h; exact State.setReg_sameBut s (by simpa using hl) i j v
  case put x i j v => cases h; exact State.setQ_sameBut s x i j v
  case arm x i at_ =>
    simp only [Eff.part, Option.ite_none_right_eq_some, Option.some.injEq] at h
    obtain ⟨hi, rfl⟩ := h
    exact State.arm_sameBut s x hi at_
  case disarm x i =>
    simp only [Eff.part, Option.ite_none_right_eq_some, Option.some.injEq] at h
    obtain ⟨hi, rfl⟩ := h
    exact State.disarm_sameBut s x hi
  case burnRollback => cases h
  case restart => cases h
  all_goals
    cases h
    refine .of_regs (by simp only [State.app]) (by simp only [State.app]) fun q hq => ?_
    simp only [State.app]
  -- the new value is put out of sight, so that the other parts are compared without it
  case' poke a b => generalize SMap.put 0 a b s.mem = v
  case' wipe => generalize List.filter _ _ = v
  case' advance t => generalize max s.now t = v
  case' emit m => generalize s.out ++ [m] = v
  case' useFree => generalize s.freed + 1 = v
  case' burnOwner => generalize List.take _ _ = v
  case' clamps => generalize List.take _ _ = v
  case' sessions => generalize List.take _ _ = v
  case' evq => generalize List.take _ _ = v
  case' buf => generalize List.take _ _ = v
  case' hist => generalize List.drop _ _ = v
  case' senders => generalize List.drop _ _ = v
  case' vOut n x => generalize SMap.put OutView.start n x s.vOuts = v
  case' vField => generalize SMap.ins _ _ _ = v
  case' vApplied n k => generalize SMap.put 0 n k s.vApplied = v
  case' vOpen n k => generalize SMap.put 0 n k s.vOpen = v
  all_goals
    cases q
    all_goals try rfl
  all_goals exact absurd (List.mem_singleton.mpr rfl) hq

-- Acts ------------------------------------------------------------------------------------------------------------------

/-- The act touches no other part than the listed ones. -/
structure Act.Touches (ps : List Part) (a : Act) : Prop where
  step : ∀ s, State.SameBut ps s (a.to s)

theorem Act.Touches.mono {a : Act} (h : a.Touches ps) (hq : ∀ p ∈ ps, p ∈ qs := by decide +kernel) : a.Touches qs := ⟨fun s => (h.step s).mono hq⟩

theorem State.SameBut.of_act {a : Act} (h : a.Touches ps) : State.SameBut ps s (a.to s) := h.step s

section
variable {a : Act} (h : a.Touches ps) (s : State)
include h

theorem Act.Touches.rd {f : Fld} (hf : .reg f ∉ ps := by decide +kernel) (i j : Nat := 0) : (a.to s).rd f i j = s.rd f i j := (h.step s).rd hf i j
theorem Act.Touches.q {x : Qty} (hx : .qty x ∉ ps := by decide +kernel) {i j : Nat} (hi : i < 2 ^ 40 := by decide) (hj : j < 2 ^ 40 := by decide) :
    (a.to s).q x i j = s.q x i j := (h.step s).q hx hi hj
theorem Act.Touches.timer {x : Tmr} (hx : .tmr x ∉ ps := by decide +kernel) {i : Nat} (hi : i < 2 ^ 40 := by decide) :
    (a.to s).timer x i = s.timer x i := (h.step s).timer hx hi
theorem Act.Touches.mem (hp : .mem ∉ ps := by decide +kernel) : (a.to s).mem = s.mem := (h.step s).part .mem hp
theorem Act.Touches.now (hp : .now ∉ ps := by decide +kernel) : (a.to s).now = s.now := (h.step s).part .now hp
theorem Act.Touches.out (hp : .out ∉ ps := by decide +kernel) : (a.to s).out = s.out := (h.step s).part .out hp
theorem Act.Touches.buf (hp : .buf ∉ ps := by decide +kernel) : (a.to s).buf = s.buf := (h.step s).part .buf hp
theorem Act.Touches.hist (hp : .hist ∉ ps := by decide +kernel) : (a.to s).hist = s.hist := (h.step s).part .hist hp
theorem Act.Touches.held (hp : .held ∉ ps := by decide +kernel) : (a.to s).held = s.held := (h.step s).part .held hp
theorem Act.Touches.acts (hp : .acts ∉ ps := by decide +kernel) : (a.to s).acts = s.acts := (h.step s).part .acts hp
theorem Act.Touches.img (hp : .img ∉ ps := by decide +kernel) : (a.to s).img = s.img := (h.step s).part .img hp
theorem Act.Touches.cfg (hp : .cfg ∉ ps := by decide +kernel) : (a.to s).cfg = s.cfg := (h.step s).part .cfg hp

end

theorem touches_skip : Act.Touches ps skip := ⟨fun s => .refl s⟩
theorem touches_andThen {a b : Act} (ha : a.Touches ps) (hb : b.Touches ps) : (a.andThen b).Touches ps where
  step s := by
    rw [andThen_to]
    exact (ha.step s).trans (hb.step _)
theorem touches_all {as : List Act} (h : as.Forall (Act.Touches ps)) : (all as).Touches ps := by
  induction as with
  | nil => exact touches_skip
  | cons a as ih =>
    rw [List.forall_cons] at h
    exact touches_andThen h.1 (ih h.2)
theorem touches_iff {c : Bool} {a : Act} (h : c = true → a.Touches ps) : (iff c a).Touches ps := by
  unfold iff
  split
  · exact h ‹_›
  · exact touches_skip
theorem touches_ite {c : Prop} [Decidable c] {a b : Act} (ha : c → a.Touches ps) (hb : ¬c → b.Touches ps) : (if c then a else b : Act).Touches ps := by
  split
  · exact ha ‹_›
  · exact hb ‹_›
theorem touches_look {f : State → Act} (h : ∀ s, (f s).Touches ps) : (look f).Touches ps := ⟨fun s => (h s).step s⟩
theorem touches_each {α : Type} {xs : List α} {f : α → Act} (h : ∀ x ∈ xs, (f x).Touches ps) : (each xs f).Touches ps :=
  touches_all (List.forall_iff_forall_mem.mpr fun a ha => by
    obtain ⟨x, hx, rfl⟩ := List.mem_map.mp ha
    exact h x hx)

/-- An act of effects each of which touches one of the parts; the latch is left to the lemma about events. -/
theorem touches_of_within {a : Act} (h : a.Within fun e => ∃ p ∈ ps, e.part = some p ∧ p ≠ .reg .EP_LATCH) : a.Touches ps where
  step s := h.keeps (P := fun t => State.SameBut ps s t) (fun t _ he ht => by
    obtain ⟨p, hp, hpart, hl⟩ := he
    exact ht.trans ((State.app_sameBut hpart hl t).mono fun q hq => List.mem_singleton.mp hq ▸ hp)) (.refl s)

section
variable {f : Fld}
theorem touches_one {e : Eff} {p : Part} (h : e.part = some p := by rfl) (hp : p ∈ ps ∧ p ≠ .reg .EP_LATCH := by decide +kernel) : (one e).Touches ps :=
  touches_of_within (within_one ⟨p, hp.1, h, hp.2⟩)
theorem touches_set {v i j : Nat} (hp : .reg f ∈ ps ∧ Part.reg f ≠ .reg .EP_LATCH := by decide +kernel) : (set f v i j).Touches ps := touches_one rfl hp
theorem touches_setS {v : Int} {i j : Nat} (hp : .reg f ∈ ps ∧ Part.reg f ≠ .reg .EP_LATCH := by decide +kernel) : (setS f v i j).Touches ps := touches_one rfl hp
theorem touches_count {k i j : Nat} (hp : .reg f ∈ ps ∧ Part.reg f ≠ .reg .EP_LATCH := by decide +kernel) : (Sys2Proof.Machine.count f k i j).Touches ps :=
  touches_of_within (within_count fun _ => ⟨_, hp.1, rfl, hp.2⟩)
theorem touches_setFree {i j : Nat} (hf : .freed ∈ ps := by decide +kernel) (hp : .reg f ∈ ps ∧ Part.reg f ≠ .reg .EP_LATCH := by decide +kernel) : (setFree f i j).Touches ps :=
  touches_of_within (within_setFree ⟨_, hf, rfl, by decide⟩ fun _ => ⟨_, hp.1, rfl, hp.2⟩)
end
theorem touches_put {x : Qty} {v : Int} {i j : Nat} (hp : .qty x ∈ ps := by decide +kernel) : (put x v i j).Touches ps :=
  touches_of_within (within_put ⟨_, hp, rfl, by simp⟩)
theorem touches_addQ {x : Qty} {k : Int} {i j : Nat} (hp : .qty x ∈ ps := by decide +kernel) : (addQ x k i j).Touches ps :=
  touches_of_within (within_addQ fun _ => ⟨_, hp, rfl, by simp⟩)
theorem touches_arm {x : Tmr} {d i : Nat} (hp : .tmr x ∈ ps := by decide +kernel) (hi : i < 2 ^ 40 := by decide +kernel) : (arm x d i).Touches ps :=
  touches_of_within (within_arm fun _ => ⟨.tmr x, hp, if_pos hi, by simp⟩)
theorem touches_disarm {x : Tmr} {i : Nat} (hp : .tmr x ∈ ps := by decide +kernel) (hi : i < 2 ^ 40 := by decide +kernel) : (disarm x i).Touches ps :=
  touches_of_within (within_disarm ⟨.tmr x, hp, if_pos hi, by simp⟩)
theorem touches_emit {m : Sent} (hp : .out ∈ ps := by decide +kernel) : (emit m).Touches ps := touches_one rfl ⟨hp, by simp⟩
theorem touches_at {t : Nat} (hp : .now ∈ ps := by decide +kernel) : (at_ t).Touches ps := touches_one rfl ⟨hp, by simp⟩

-- Events ------------------------------------------------------------------------------------------------------------------

/-- The parts that raising an event touches. -/
def eventParts : List Part := eventFields.map .reg ++ [.qty .evSerial, .evq, .sessions]

theorem reg_mem_map {f : Fld} {fs : List Fld} : Part.reg f ∈ fs.map Part.reg ↔ f ∈ fs := by simp

/-- Raising an event touches what shows events. -/
theorem touches_raise_eventParts (e : Ev) (i p : Nat) : (raise e i p).Touches eventParts where
  step s := by
    refine ⟨fun q hq => ?_, fun hn => (by cases hn), raise_pending .., Act.to_regs_sorted _, fun hs _ he => raise_latched_mono e i p hs he⟩
    have keep {α : Type} (get : State → α) (hr : ∀ s f i j v, get (State.setReg s f i j v) = get s)
        (hq : ∀ s i j v, get (State.setQ s .evSerial i j v) = get s) (he : ∀ s x, get (State.app s (.evq x)) = get s)
        (hs : ∀ s x, get (State.app s (.sessions x)) = get s) := ofEvent_keeps get hr hq he hs (raise_within e i p) s
    cases q
    case reg f => funext j k; exact raise_rd e i p s (fun hf => hq (List.mem_append_left _ (reg_mem_map.mpr hf))) j k
    case qty x => funext j k; exact raise_q e i p s (fun hx => hq (by subst hx; decide)) j k j.isLt k.isLt
    case tmr x =>
      funext j
      exact keep (fun s => s.timer x j) (fun _ _ _ _ _ => State.timer_setReg ..) (fun _ _ _ _ => State.timer_setQ ..) (fun _ _ => rfl) (fun _ _ => rfl)
    case sessions => exact absurd (by decide) hq
    case evq => exact absurd (by decide) hq
    all_goals
      exact keep (fun s => s.part _) (fun s f i j v => by unfold State.setReg; split <;> rfl) (fun s i j v => by unfold State.setQ; split <;> rfl)
        (fun _ _ => rfl) (fun _ _ => rfl)

theorem touches_raise {e : Ev} {i p : Nat} (h : ∀ q ∈ eventParts, q ∈ ps := by decide +kernel) : (raise e i p).Touches ps := (touches_raise_eventParts e i p).mono h

theorem touches_moveState {f : Fld} {e : Ev} {i new : Nat} (hp : .reg f ∈ ps ∧ Part.reg f ≠ .reg .EP_LATCH := by decide +kernel)
    (h : ∀ q ∈ eventParts, q ∈ ps := by decide +kernel) : (moveState f e i new).Touches ps :=
  touches_look fun _ => touches_ite (fun _ => touches_skip) fun _ => touches_all ⟨touches_set hp, touches_raise h⟩

end Sys2Proof.Machine
end

section
/-! SUPPORT. What the acts of a module's paths, pending actions and audio actions touch, and what falls due touches. -/
set_option Elab.async false
namespace Sys2Proof.Machine

-- Paths ---------------------------------------------------------------------------------------------------------------------

/-- The fields that follow a module's links and legs (R112, R117). -/
def guaranteeFields : List Fld :=
  [.FAB_CENTRES_OK_A, .FAB_CENTRES_OK_B, .FAB_BOUND_A, .FAB_BOUND_B, .FAB_OCC_A, .FAB_OCC_B, .FAB_UMAX_A, .FAB_UMAX_B, .FAB_GUAR, .FAB_PATHS,
   .XP_REPL_LEGS, .FAB_PAIR_OCC, .FAB_PAIR_OCC_IN]

def guaranteeParts : List Part := guaranteeFields.map .reg ++ eventParts

def legParts : List Part := [.legs, .reg .FL_SLOT_FMT, .reg .FL_SUB_BUSY] ++ guaranteeParts

theorem linkShow_touches (l : Nat) : (linkShow l).Touches legParts := touches_look fun _ => touches_all ⟨touches_set, touches_set⟩

theorem guarantee_touches : guarantee.Touches guaranteeParts :=
  touches_look fun _ => touches_ite (fun _ => touches_skip) fun _ => touches_all ⟨touches_set, touches_set, touches_set, touches_set, touches_set,
    touches_set, touches_set, touches_set, touches_set, touches_set, touches_set, touches_each fun _ _ => touches_all ⟨touches_set, touches_set⟩,
    touches_iff fun _ => touches_raise⟩

theorem setLegs_touches (x : List Leg) : (setLegs x).Touches legParts :=
  touches_look fun _ => touches_all ⟨touches_one rfl, touches_each fun l _ => linkShow_touches l, guarantee_touches.mono⟩

theorem establish_touches (x : TakeSpore) (pt : Option (Nat × Nat)) (sw : List (Nat × Nat)) : (establish x pt sw).Touches legParts :=
  touches_look fun _ => touches_ite (fun _ => touches_skip) fun _ => setLegs_touches _

-- Pending actions -------------------------------------------------------------------------------------------------------------

/-- The fields that show what waits (R60, R138). -/
def pendFields : List Fld :=
  [.SCHED_PENDING, .SCHED_PENDING_PEAK, .XS_PENDING, .XS_PEND, .XS_PEND_BLACK, .XS_PSTAMP_LO, .XS_PSTAMP_HI, .XS_PEND_CNT, .XP_PENDING_OUTS]

def pendParts : List Part := .acts :: pendFields.map .reg

theorem pendShow_touches (n : Nat) : (pendShow n).Touches pendParts := by
  refine touches_look fun s => touches_all ⟨?_, touches_set, touches_look fun _ => touches_set⟩
  cases s.takesOf n with
  | nil => exact touches_all ⟨touches_set, touches_set, touches_set, touches_set, touches_set⟩
  | cons p ps => exact touches_all ⟨touches_set, touches_set, touches_set, touches_set, touches_set⟩

theorem setActs_touches (x : List Pend) : (setActs x).Touches [.acts, .reg .SCHED_PENDING, .reg .SCHED_PENDING_PEAK] :=
  touches_all ⟨touches_one rfl, touches_look fun _ => touches_all ⟨touches_set, touches_set⟩⟩

theorem addPend_touches (p : Pend) : (addPend p).Touches pendParts := by
  refine touches_look fun s => touches_all ⟨(setActs_touches _).mono, ?_⟩
  cases p.item
  case take => exact pendShow_touches _
  all_goals exact touches_skip

-- What falls due ----------------------------------------------------------------------------------------------------------------

/-- What an import takes and shows (R214, R221). -/
def importParts : List Part :=
  [.reg .FL_AUD_TX, .reg .FL_AUD_RX, .reg .AX_LEGS, .reg .FAB_SINGLE_PLANE, .reg .AI_BUNDLE, .reg .AI_VALID, .reg .AI_PLANES, .qty .auTxLink,
   .qty .auRxLink, .qty .auRelease, .qty .auLeg, .qty .auImpFrom, .media] ++ eventParts

/-- What a record that falls due touches: paths, what waits, lateness, audio, a refusal passed on, and the events of these. -/
def dueParts : List Part :=
  [.reg .ORD_LATE, .reg .RD_LATE, .reg .ORD_REFUSED_LATE, .reg .RD_REFUSED, .reg .FAB_RESTORES, .reg .XS_PLANES, .out] ++ pendParts ++ legParts
    ++ importParts

theorem noteLate_touches (order dom k : Nat) : (noteLate order dom k).Touches dueParts := touches_all ⟨touches_count, touches_raise⟩

theorem refuseLate_touches (order dom : Nat) : (refuseLate order dom).Touches dueParts := by
  refine touches_look fun s => touches_all ⟨touches_count, touches_count, touches_raise, ?_⟩
  cases s.senders.find? fun x => x.1 == order with
  | none => exact touches_skip
  | some x => exact touches_emit

theorem placeTake_touches (order kind : Nat) (stamp : Stamp) (k was : Nat) (it : Item) (out : Nat) (pt : Pt) :
    (placeTake order kind stamp k was it out pt).Touches dueParts := by
  refine touches_look fun s => ?_
  dsimp only
  cases s.domFormat stamp.dom with
  | none => exact touches_skip
  | some fx =>
    cases s.domFormat (s.domOfOut out) with
    | none => exact touches_skip
    | some fy =>
      refine touches_ite (fun _ => ?_) fun _ => ?_
      · exact touches_all ⟨touches_iff fun _ => touches_all ⟨touches_iff fun _ => touches_count, noteLate_touches ..⟩, (addPend_touches _).mono⟩
      · cases it
        case path sp => exact touches_ite (fun _ => (establish_touches ..).mono) fun _ => (addPend_touches _).mono
        all_goals exact (addPend_touches _).mono

theorem placeAt_touches (order kind : Nat) (stamp : Stamp) (k was : Nat) (it : Item) (pt : Pt) :
    (placeAt order kind stamp k was it pt).Touches dueParts := by
  refine touches_look fun s => ?_
  dsimp only
  have here (pt : Pt) : Act.Touches dueParts (match s.domFormat stamp.dom with
      | some fm => addPend ⟨order, kind, stamp, stamp.dom, stamp.frame + k, pt, pointTime fm (stamp.frame + k) pt, k, 0, it⟩
      | none => skip) := by
    cases s.domFormat stamp.dom with
    | none => exact touches_skip
    | some fm => exact (addPend_touches _).mono
  cases it
  case take out src black restore sp =>
    cases restore
    · exact placeTake_touches ..
    · exact here _
  case path sp => exact touches_ite (fun _ => here _) fun _ => placeTake_touches ..
  all_goals exact here _

theorem awaitLine_touches (r : Rec) (it : Item) : (awaitLine r it).Touches dueParts := by
  refine touches_look fun s => ?_
  dsimp only
  cases s.movedBefore it with
  | some q => exact (addPend_touches _).mono
  | none =>
    cases s.domFormat (s.itemDom r.stamp it) with
    | some fm => exact (addPend_touches _).mono
    | none => exact touches_skip

theorem restoreAt_touches (out sp : Nat) : (restoreAt out sp).Touches dueParts :=
  show (look fun _ => all [_, _, _]).Touches dueParts from
    touches_look fun _ => touches_all ⟨(establish_touches ..).mono, touches_count, touches_set⟩

theorem audTake_touches (tx : Bool) (x y : Nat) (links : List Nat) : (audTake tx x y links).Touches importParts := by
  refine touches_look fun s => ?_
  dsimp only
  refine touches_ite (fun _ => touches_skip) fun _ => ?_
  split
  · cases tx
    · exact touches_all ⟨touches_put, touches_set⟩
    · exact touches_all ⟨touches_put, touches_set⟩
  · exact touches_skip

theorem importEnt_touches (x i : Nat) : (importEnt x i).Touches importParts := by
  refine touches_look fun s => touches_ite (fun _ => touches_ite (fun _ => touches_put) fun _ => ?_) fun _ =>
    touches_ite (fun _ => touches_ite (fun _ => touches_put) fun _ => ?_) fun _ => ?_
  · exact touches_all ⟨touches_put, touches_put, audTake_touches .., audTake_touches ..⟩
  · exact touches_all ⟨touches_put, touches_put, touches_each fun _ _ => touches_iff fun _ => audTake_touches .., touches_look fun _ => touches_set⟩
  · split
    · exact touches_all ⟨touches_iff fun _ => touches_all ⟨touches_count, touches_raise⟩, touches_set, touches_set, touches_set, touches_put,
        touches_put, touches_each fun _ _ => touches_iff fun _ => audTake_touches ..⟩
    · exact touches_skip

theorem audioApply_touches (es : List AudEntry) (t : Nat) : (audioApply es t).Touches importParts :=
  touches_look fun _ => touches_all ⟨touches_each fun _ _ => importEnt_touches .., touches_look fun _ => touches_one rfl⟩

theorem immediateItem_touches (r : Rec) (it : Item) : (immediateItem r it).Touches dueParts := by
  refine touches_look fun s => ?_
  cases it
  case take out src black restore sp =>
    cases restore
    · exact awaitLine_touches ..
    · exact restoreAt_touches ..
  case path sp => exact (establish_touches ..).mono
  case audio es => exact (audioApply_touches ..).mono
  case image => exact touches_skip
  all_goals exact awaitLine_touches ..

theorem dueNow_touches (r : Rec) : (dueNow r).Touches dueParts := by
  refine touches_look fun s => touches_ite (fun _ => touches_skip) fun _ => ?_
  cases s.domFormat r.stamp.dom with
  | none => exact touches_skip
  | some fm =>
    refine touches_ite (fun _ => touches_ite (fun _ => refuseLate_touches ..) fun _ => touches_each fun it _ => immediateItem_touches r it) fun _ => ?_
    dsimp only
    generalize (if (s.itemsOf r).any Item.lands then Pt.switchLine
      else if r.stamp.line = 0 then .frameStart else .line r.stamp.line (((s.itemsOf r).map pulseSample).foldl max 0)) = pt
    cases lateBy fm r.stamp.frame pt s.house with
    | none => exact refuseLate_touches ..
    | some k0 =>
      exact touches_all ⟨touches_iff fun _ => touches_all ⟨touches_count, noteLate_touches ..⟩, touches_each fun it _ => placeAt_touches ..⟩

/-- What applying a record in order touches. -/
def applyParts : List Part := .reg .ORD_APPLIED :: dueParts

theorem applyNext_touches (r : Rec) : (applyNext r).Touches applyParts := touches_all ⟨touches_set, (dueNow_touches r).mono⟩

end Sys2Proof.Machine
end

section
/-! SUPPORT. What giving a record touches and sends, what the manager learns, and what ordering an action leaves (R25 to R29). -/
set_option Elab.async false
namespace Sys2Proof.Machine

-- Records ------------------------------------------------------------------------------------------------------------------------

theorem pushSpores_touches (x : TxRec) : (pushSpores x).Touches [.txRecs] := touches_look fun _ => touches_one rfl

/-- What is given to the fabric touches. -/
def giveParts : List Part := [.out, .txRecs]

theorem giveRecord_touches (reply : Bool) (target : Nat) (r : Rec) : (giveRecord reply target r).Touches giveParts :=
  touches_look fun _ => touches_all ⟨touches_emit, touches_each fun _ _ => touches_look fun _ => touches_iff fun _ => (pushSpores_touches _).mono⟩

/-- What a record without an order number touches (R427). -/
def plainParts : List Part := [.tmr .joinSend, .qty .msgCounter] ++ giveParts

theorem sendPlain_touches (kind target : Nat) (body : List Nat) : (sendPlain kind target body).Touches plainParts :=
  touches_look fun _ => touches_ite (fun _ => touches_iff fun _ => touches_arm) fun _ => touches_all ⟨touches_addQ, (giveRecord_touches ..).mono⟩

/-- What the Lichen link touches (R359). -/
def lichenParts : List Part := [.out, .lkQ, .qty .lkEnd, .media]

theorem lichenStart_touches (f : LkFrame) (at_ : Nat) : (lichenStart f at_).Touches lichenParts :=
  touches_all ⟨touches_emit, touches_one rfl, touches_put⟩

theorem lichenRun_touches (n : Nat) : (lichenRun n).Touches lichenParts := by
  induction n with
  | zero => exact touches_skip
  | succ n ih =>
    refine touches_look fun s => touches_ite (fun _ => touches_skip) fun _ => ?_
    cases s.lkQ with
    | nil => exact touches_one rfl
    | cons f rest => exact touches_all ⟨touches_one rfl, lichenStart_touches .., ih⟩

theorem lichenGive_touches (f : LkFrame) : (lichenGive f).Touches lichenParts := by
  refine touches_all ⟨touches_look fun _ => lichenRun_touches _, touches_look fun s => ?_⟩
  cases s.lkCur with
  | none => exact lichenStart_touches ..
  | some g => exact touches_ite (fun _ => touches_all ⟨touches_emit, touches_one rfl, lichenStart_touches ..⟩) fun _ => touches_one rfl

theorem giveLichen_touches (urgent : Bool) (r : Rec) : (giveLichen urgent r).Touches lichenParts :=
  touches_look fun _ => touches_all ⟨touches_emit, touches_each fun _ _ => lichenGive_touches _⟩

theorem toStandby_touches (r : Rec) : (toStandby r).Touches (.txRecs :: lichenParts) :=
  touches_look fun _ => touches_all ⟨(giveLichen_touches ..).mono, (giveRecord_touches ..).mono⟩

-- Answers ------------------------------------------------------------------------------------------------------------------------

/-- What an answer touches (R380). -/
def answerParts : List Part := [.out, .sessions, .reg .TS_SEQ_TX]

theorem putSession_touches (x : Session) : (putSession x).Touches [.sessions] := touches_look fun _ => touches_one rfl

theorem sendAnswer_touches (a : Answer) : (sendAnswer a).Touches answerParts := by
  refine touches_look fun s => touches_all ⟨touches_emit, touches_count, ?_⟩
  cases s.session a.sess with
  | none => exact touches_skip
  | some x => exact (putSession_touches _).mono

theorem answerNow_touches (a : Answer) : (answerNow a).Touches answerParts := touches_look fun _ => sendAnswer_touches _

-- The manager's model --------------------------------------------------------------------------------------------------------------

/-- The manager's model of the router. -/
def learnParts : List Part := [.vSched, .vOuts, .vLegs, .vFields, .vNodes, .vImps, .qty .broken]

theorem learnTakes_touches (st : Stamp) (body : List Nat) : (learnTakes st body).Touches learnParts :=
  touches_look fun _ => touches_all ⟨touches_one rfl, touches_each fun _ _ => touches_look fun _ => touches_all ⟨touches_one rfl, touches_put⟩⟩

theorem learnWords_touches (node a : Nat) (data : List Nat) : (learnWords node a data).Touches learnParts := touches_each fun _ _ => touches_one rfl

theorem learnAudio_touches (st : Stamp) (es : List Nat) : (learnAudio st es).Touches learnParts :=
  touches_look fun _ => touches_all ⟨touches_one rfl, touches_one rfl⟩

theorem learn_touches (a : Action) : (learn a).Touches learnParts := by
  refine touches_look fun s => touches_all ⟨touches_one rfl, ?_⟩
  split
  · exact learnTakes_touches ..
  · exact learnTakes_touches ..
  · exact touches_each fun _ _ => touches_look fun _ => touches_one rfl
  · exact learnAudio_touches ..
  · exact learnWords_touches ..
  · exact touches_skip

-- Ordering -------------------------------------------------------------------------------------------------------------------------

theorem unprotect_touches : unprotect.Touches (.reg .RD_UNPROT :: eventParts) :=
  touches_look fun _ => touches_iff fun _ => touches_all ⟨touches_set, touches_raise⟩

/-- What releasing an action touches: its records, and what its own part at the manager does. -/
def releaseParts : List Part := .reg .ORD_SEEN :: .txRecs :: applyParts

theorem releaseAction_touches (a : Action) : (releaseAction a).Touches releaseParts :=
  touches_look fun _ => touches_all ⟨touches_each fun _ _ => (giveRecord_touches ..).mono, touches_set, (applyNext_touches _).mono⟩

/-- What happens to an action once it is ordered: it is sent, held, released, answered. -/
def handleParts : List Part :=
  [.held, .senders, .lkQ, .qty .lkEnd, .tmr .standbyResend, .reg .RD_UNPROT] ++ answerParts ++ releaseParts

/-- What ordering an action touches. -/
def orderParts : List Part := [.reg .ORD_NEXT, .hist] ++ learnParts ++ handleParts

/-- Applied in order, an action leaves its number in ORD_APPLIED (R30). -/
theorem applyNext_applied (r : Rec) {s : State} (hs : SMap.sorted s.regs = true) : ((applyNext r).to s).rd .ORD_APPLIED = r.order % 2 ^ 48 := by
  simp only [applyNext, all_cons_to, all_nil_to, set_to]
  rw [(dueNow_touches r).rd]
  exact State.rd_setReg_same _ hs rfl

theorem releaseAction_applied (a : Action) {s : State} (hs : SMap.sorted s.regs = true) : ((releaseAction a).to s).rd .ORD_APPLIED = a.order % 2 ^ 48 := by
  simp only [releaseAction, look_runs, all_cons_to, all_nil_to, set_to]
  exact applyNext_applied _ (State.setReg_sorted _ _ _ _ (Act.to_regs_sorted _ hs))

/-- What becomes of an ordered action `a` of state `s`, after it stands in the store (R25, R27). -/
def handle (s : State) (a : Action) (ans : Option Answer) : Act := all [
  match ans with | some x => one (.senders (s.senders ++ [(a.order, x.sess)])) | none => skip,
  iff s.hasPartner (toStandby (s.wholeRecord a)),
  if s.awaitsAck then all [one (.held (s.held ++ [⟨a.order, ans⟩])), iff (s.timer .standbyResend).isNone (arm .standbyResend psMs)]
  else all [unprotect, releaseAction a, match ans with | some x => answerNow x | none => skip]]

theorem handle_touches (s : State) (a : Action) (ans : Option Answer) : (handle s a ans).Touches handleParts := by
  refine touches_all ⟨?_, touches_iff fun _ => (toStandby_touches _).mono, touches_ite (fun _ => ?_) fun _ => ?_⟩
  · cases ans with
    | none => exact touches_skip
    | some x => exact touches_one rfl
  · exact touches_all ⟨touches_one rfl, touches_iff fun _ => touches_arm⟩
  · refine touches_all ⟨unprotect_touches.mono, (releaseAction_touches a).mono, ?_⟩
    cases ans with
    | none => exact touches_skip
    | some x => exact (answerNow_touches x).mono

/-- The state in which an action has been ordered and has taken its number, before it is handled. -/
def State.withAction (s : State) (a : Action) : State :=
  ((((learn a).to s).setReg .ORD_NEXT 0 0 (succOrder a.order))).app (.hist (s.hist ++ [a]))

theorem order_to (kind : Nat) (st : Stamp) (node : Nat) (body : List Nat) (ans : Nat → Option Answer) (s : State) :
    let a : Action := ⟨s.rd .ORD_NEXT, kind, st, node, body⟩
    (order kind st node body ans).to s = (handle s a (ans (s.rd .ORD_NEXT))).to (s.withAction a) := by
  simp only [order, handle, State.withAction, look_runs, all_cons_to, all_nil_to, set_to, one_to] <;> rfl

section
variable (kind : Nat) (st : Stamp) (node : Nat) (body : List Nat) (ans : Nat → Option Answer) {s : State}

theorem withAction_sorted (a : Action) (hs : SMap.sorted s.regs = true) : SMap.sorted (s.withAction a).regs = true :=
  State.app_regs_sorted _ (State.setReg_sorted _ _ _ _ (Act.to_regs_sorted _ hs))

theorem withAction_sameBut (a : Action) : State.SameBut ([.reg .ORD_NEXT, .hist] ++ learnParts) s (s.withAction a) :=
  (((learn_touches a).step s).mono (by decide +kernel)).trans
    (((State.setReg_sameBut _ (by decide) 0 0 _).mono (by decide +kernel)).trans ((State.app_sameBut rfl (by decide) _).mono (by decide +kernel)))

theorem withAction_next (a : Action) (hs : SMap.sorted s.regs = true) : (s.withAction a).rd .ORD_NEXT = succOrder a.order := by
  have hlt : succOrder a.order < 2 ^ 48 := by unfold succOrder; split <;> omega
  have hrd : (s.withAction a).rd .ORD_NEXT = (((learn a).to s).setReg .ORD_NEXT 0 0 (succOrder a.order)).rd .ORD_NEXT :=
    State.rd_congr (by simp only [State.withAction, State.app_hist]) ..
  rw [hrd, State.rd_setReg_same _ (Act.to_regs_sorted _ hs) rfl]
  exact Nat.mod_eq_of_lt hlt

theorem withAction_hist (a : Action) : (s.withAction a).hist.getLast? = some a := by
  simp only [State.withAction, State.app_hist, List.length_append, List.length_singleton]
  rw [List.drop_append_of_le_length (by omega), List.getLast?_append]
  rfl

/-- Ordering an action takes ORD_NEXT, which goes on to the next number (R28). -/
theorem order_next (hs : SMap.sorted s.regs = true) : ((order kind st node body ans).to s).rd .ORD_NEXT = succOrder (s.rd .ORD_NEXT) := by
  rw [order_to, (handle_touches ..).rd, withAction_next _ hs]

/-- The action is the newest of those held for replay (R29). -/
theorem order_hist :
    ((order kind st node body ans).to s).hist.getLast? = some ⟨s.rd .ORD_NEXT, kind, st, node, body⟩ := by
  rw [order_to, (handle_touches ..).hist]
  exact withAction_hist _

theorem order_touches : (order kind st node body ans).Touches orderParts where
  step s := by
    rw [order_to]
    exact ((withAction_sameBut _).mono (by decide +kernel)).trans (((handle_touches ..).step _).mono (by decide +kernel))

/-- Where no standby's acknowledgement is awaited, the action is applied at once: ORD_APPLIED is its number (R27, R30). -/
theorem order_applied (hs : SMap.sorted s.regs = true) (hw : s.awaitsAck = false) :
    ((order kind st node body ans).to s).rd .ORD_APPLIED = s.rd .ORD_NEXT % 2 ^ 48 := by
  simp only [order_to, handle, hw, all_cons_to, all_nil_to, Bool.false_eq_true, if_false]
  generalize hw : (unprotect.to _) = w
  have hws : SMap.sorted w.regs = true := hw ▸ Act.to_regs_sorted _ (Act.to_regs_sorted _ (Act.to_regs_sorted _ (withAction_sorted _ hs)))
  cases ans (s.rd .ORD_NEXT) with
  | none => exact releaseAction_applied _ hws
  | some x =>
    rw [(answerNow_touches x).rd]
    exact releaseAction_applied _ hws

/-- The answer that waits with the action is then the last thing to leave, with UNPROTECTED as it stands (R122, R363). -/
theorem order_answers (hw : s.awaitsAck = false) {x : Answer} (hx : ans (s.rd .ORD_NEXT) = some x) :
    ∃ b, ((order kind st node body ans).to s).out.getLast? = some (.answer { x with flags := x.flags / 2 * 2 + b }) := by
  simp only [order_to, handle, hw, hx, all_cons_to, all_nil_to, Bool.false_eq_true, if_false, answerNow, look_runs, sendAnswer_out]
  exact ⟨_, by rw [List.getLast?_append]; rfl⟩

end

end Sys2Proof.Machine
end

section
/-! SUPPORT. A member of a pair becomes active (R28, R361), order numbers: O12. -/
set_option Elab.async false
namespace Sys2Proof.Machine

-- One register and one state field ------------------------------------------------------------------------------------------------

theorem set_rd {f : Fld} {v i j : Nat} {s : State} (hs : SMap.sorted s.regs = true) (hh : f.has i j = true) : ((set f v i j).to s).rd f i j = v % 2 ^ f.desc.width :=
  State.rd_setReg_same v hs hh

/-- A state field that moves holds the new state. -/
theorem moveState_rd {f : Fld} {e : Ev} {i new : Nat} {s : State} (hs : SMap.sorted s.regs = true) (hh : f.has i 0 = true) (hf : f ∉ eventFields)
    (hn : new < 2 ^ f.desc.width) : ((moveState f e i new).to s).rd f i = new := by
  simp only [moveState, look_runs]
  split
  · assumption
  · rw [all_cons_to, all_cons_to, all_nil_to, raise_rd e i _ _ hf, set_rd hs hh, Nat.mod_eq_of_lt hn]

theorem each_sameBut {α : Type} {ps : List Part} {P : State → Prop} {f : α → Act} (hP : ∀ s u, State.SameBut ps s u → P s → P u) {xs : List α}
    (h : ∀ x ∈ xs, ∀ s, P s → State.SameBut ps s ((f x).to s)) {s : State} (hs : P s) : State.SameBut ps s ((each xs f).to s) := by
  induction xs generalizing s with
  | nil => exact .refl s
  | cons x xs ih =>
    rw [each_cons_to]
    have hx := h x (by simp) s hs
    exact hx.trans (ih (fun y hy => h y (by simp [hy])) (hP _ _ hx hs))

-- The manager's beats ---------------------------------------------------------------------------------------------------------------

theorem State.isManager_congr {s u : State} (h : u.regs = s.regs) : u.isManager = s.isManager := by
  simp only [State.isManager, State.standAlone, State.rd_congr h]

/-- The manager's counter is never spent (R427): a record of its own leaves, and no JOIN is asked for. -/
theorem sendPlain_manager {kind target : Nat} {body : List Nat} {s : State} (h : s.isManager = true) :
    State.SameBut (.qty .msgCounter :: giveParts) s ((sendPlain kind target body).to s) := by
  have hspent : s.counterSpent = false := by simp [State.counterSpent, h]
  simp only [sendPlain, look_runs, hspent, Bool.false_eq_true, if_false]
  exact .of_act (touches_all ⟨touches_addQ, (giveRecord_touches ..).mono⟩)

theorem managerBeats_manager {s : State} (h : s.isManager = true) : State.SameBut (.qty .msgCounter :: giveParts) s (managerBeats.to s) := by
  simp only [managerBeats, look_runs]
  exact each_sameBut (P := fun u => u.isManager = true) (fun _ _ hsu hm => (State.isManager_congr (hsu.regs rfl)).trans hm) (fun _ _ _ hm => sendPlain_manager hm) h

-- The state of a pair ---------------------------------------------------------------------------------------------------------------

theorem countValid_touches : countValid.Touches [.reg .RD_COUNT_VALID] := touches_look fun _ => touches_each fun _ _ => touches_set

/-- The fields that follow the state of a pair (R361). -/
def pairFields : List Fld := [.RD_STATE_PAIR, .SYS_MGR_ROLE, .RD_COUNT_VALID, .ORD_NEXT, .RD_UNPROT]

def pairParts : List Part := pairFields.map .reg ++ eventParts

theorem pairState_touches (new : Nat) : (pairState new).Touches pairParts :=
  touches_look fun _ => touches_all ⟨touches_moveState, touches_iff fun _ => touches_set, countValid_touches.mono,
    touches_iff fun _ => touches_all ⟨touches_set, touches_set⟩⟩

section
variable {s : State} (hs : SMap.sorted s.regs = true)
include hs

theorem pairState_rd {new : Nat} (hn : new < 8) : ((pairState new).to s).rd .RD_STATE_PAIR = new := by
  have hrest : (all [iff s.mgrPair (set .SYS_MGR_ROLE (if new = rdActive then 1 else if new = rdStandby ∨ new = rdTaking then 2 else 0)), countValid,
      iff (s.mgrPair && new != rdActive) (all [set .ORD_NEXT 0, set .RD_UNPROT 0])]).Touches [.reg .SYS_MGR_ROLE, .reg .RD_COUNT_VALID, .reg .ORD_NEXT, .reg .RD_UNPROT] :=
    touches_all ⟨touches_iff fun _ => touches_set, countValid_touches.mono, touches_iff fun _ => touches_all ⟨touches_set, touches_set⟩⟩
  simp only [pairState, look_runs]
  rw [all_cons_to, hrest.rd]
  exact moveState_rd hs rfl (by decide) hn

/-- A manager that becomes active says so in SYS_MGR_ROLE (R361). -/
theorem pairState_active_role (hm : s.mgrPair = true) : ((pairState rdActive).to s).rd .SYS_MGR_ROLE = 1 := by
  simp only [pairState, look_runs, all_cons_to, all_nil_to, hm, iff, if_true, bne_self_eq_false, Bool.and_false, Bool.false_eq_true, if_false, skip_to]
  rw [countValid_touches.rd]
  exact set_rd (Act.to_regs_sorted _ hs) rfl

end

-- The first entry into ACTIVE ---------------------------------------------------------------------------------------------------------

/-- What every member does that becomes the first active one. -/
def activeHead (s : State) : Act := all [disarm .listen, set .RD_EPOCH 1, set .RD_ACTIVE_NODE s.node, pairState rdActive]

/-- What a manager does besides, up to the start-up salvo. -/
def activeManager : Act := all [disarm .joinSend, set .ORD_NEXT 1, managerHere, withFree fun v => set .SEC_ROUTER_START v, put .salvoWait 1, unprotect, managerBeats]

theorem firstActive_to (s : State) :
    firstActive.to s = if s.mgrPair then salvoIfLocked.to (activeManager.to ((activeHead s).to s)) else (activeHead s).to s := by
  simp only [firstActive, activeHead, activeManager, look_runs, all_cons_to, all_nil_to, iff_to]

def activeHeadParts : List Part := [.tmr .listen, .reg .RD_EPOCH, .reg .RD_ACTIVE_NODE] ++ pairParts

theorem activeHead_touches (s : State) : (activeHead s).Touches activeHeadParts :=
  touches_all ⟨touches_disarm, touches_set, touches_set, (pairState_touches _).mono⟩

theorem managerHere_touches : managerHere.Touches [.qty .managerNode, .qty .managerEpoch, .reg .ORD_STATE] :=
  touches_look fun _ => touches_iff fun _ => touches_all ⟨touches_put, touches_put, touches_set⟩

theorem routerStart_touches : (withFree fun v => set .SEC_ROUTER_START v).Touches [.freed, .reg .SEC_ROUTER_START] :=
  touches_look fun _ => touches_all ⟨touches_one rfl, touches_set⟩

theorem managerBeats_touches : managerBeats.Touches plainParts := touches_look fun _ => touches_each fun _ _ => sendPlain_touches ..

def activeManagerParts : List Part :=
  [.tmr .joinSend, .reg .ORD_NEXT, .qty .managerNode, .qty .managerEpoch, .reg .ORD_STATE, .freed, .reg .SEC_ROUTER_START, .qty .salvoWait, .reg .RD_UNPROT]
    ++ eventParts ++ plainParts

theorem activeManager_touches : activeManager.Touches activeManagerParts :=
  touches_all ⟨touches_disarm, touches_set, managerHere_touches.mono, routerStart_touches.mono, touches_put, unprotect_touches.mono, managerBeats_touches.mono⟩

theorem State.mgrPair_of {s u : State} (h : u.rd .RD_ROLE = s.rd .RD_ROLE) : u.mgrPair = s.mgrPair := by simp only [State.mgrPair, h]

section
variable {s : State} (hs : SMap.sorted s.regs = true)
include hs

theorem activeHead_state : ((activeHead s).to s).rd .RD_STATE_PAIR = 5 := by
  rw [activeHead, all_cons_to, all_cons_to, all_cons_to, all_cons_to, all_nil_to]
  exact pairState_rd (Act.to_regs_sorted _ (Act.to_regs_sorted _ (Act.to_regs_sorted _ hs))) (by decide)

theorem activeHead_role (hm : s.mgrPair = true) : ((activeHead s).to s).rd .SYS_MGR_ROLE = 1 := by
  rw [activeHead, all_cons_to, all_cons_to, all_cons_to, all_cons_to, all_nil_to]
  refine pairState_active_role (Act.to_regs_sorted _ (Act.to_regs_sorted _ (Act.to_regs_sorted _ hs))) ?_
  have h : (all [disarm .listen, set .RD_EPOCH 1, set .RD_ACTIVE_NODE s.node]).Touches activeHeadParts := touches_all ⟨touches_disarm, touches_set, touches_set⟩
  exact (State.mgrPair_of (h.rd s)).trans hm

theorem managerHere_state (hm : s.mgrPair = true) : (managerHere.to s).rd .ORD_STATE = 1 := by
  rw [managerHere, look_runs, iff_to, if_pos hm, all_cons_to, all_cons_to, all_cons_to, all_nil_to]
  exact set_rd (Act.to_regs_sorted _ (Act.to_regs_sorted _ hs)) rfl

/-- The manager orders from 1 (R28). -/
theorem activeManager_next : (activeManager.to s).rd .ORD_NEXT = 1 := by
  have hrest : (all [managerHere, withFree fun v => set .SEC_ROUTER_START v, put .salvoWait 1, unprotect, managerBeats]).Touches
      ([.qty .managerNode, .qty .managerEpoch, .reg .ORD_STATE, .freed, .reg .SEC_ROUTER_START, .qty .salvoWait, .reg .RD_UNPROT] ++ eventParts ++ plainParts) :=
    touches_all ⟨managerHere_touches.mono, routerStart_touches.mono, touches_put, unprotect_touches.mono, managerBeats_touches.mono⟩
  rw [activeManager, all_cons_to, all_cons_to, hrest.rd]
  exact set_rd (Act.to_regs_sorted _ hs) rfl

/-- The manager is IN_ORDER (R365). -/
theorem activeManager_state (hm : s.mgrPair = true) : (activeManager.to s).rd .ORD_STATE = 1 := by
  have hrest : (all [withFree fun v => set .SEC_ROUTER_START v, put .salvoWait 1, unprotect, managerBeats]).Touches
      ([.freed, .reg .SEC_ROUTER_START, .qty .salvoWait, .reg .RD_UNPROT] ++ eventParts ++ plainParts) :=
    touches_all ⟨routerStart_touches.mono, touches_put, unprotect_touches.mono, managerBeats_touches.mono⟩
  have hstop : (disarm .joinSend).Touches [.tmr .joinSend] := touches_disarm
  have hone : (set .ORD_NEXT 1).Touches [.reg .ORD_NEXT] := touches_set
  rw [activeManager, all_cons_to, all_cons_to, all_cons_to, hrest.rd]
  refine managerHere_state (Act.to_regs_sorted _ (Act.to_regs_sorted _ hs)) ?_
  rw [State.mgrPair_of (hone.rd _), State.mgrPair_of (hstop.rd _), hm]

end

-- The start-up salvo ------------------------------------------------------------------------------------------------------------------

theorem pathBlocked_touches (out : Nat) : (pathBlocked out).Touches (.reg .FAB_BLOCKED :: eventParts) := touches_all ⟨touches_count, touches_raise⟩

/-- The start-up salvo is ordered as the next action, or is refused and nothing is ordered (R125). -/
theorem startSalvo_orders (s : State) (hs : SMap.sorted s.regs = true) :
    State.SameBut (.reg .FAB_BLOCKED :: eventParts) s (startSalvo.to s)
    ∨ State.SameBut orderParts s (startSalvo.to s) ∧ (startSalvo.to s).rd .ORD_NEXT = succOrder (s.rd .ORD_NEXT)
      ∧ ∃ a, (startSalvo.to s).hist.getLast? = some a ∧ a.order = s.rd .ORD_NEXT := by
  simp only [startSalvo, look_runs]
  cases s.cfg.bind CfgImage.startSalvo with
  | none => exact .inl (.refl s)
  | some ds =>
    dsimp only
    cases s.judgeTakes kSalvo ⟨0, 0, 0, false⟩ ds none with
    | refused st i => exact .inl (.of_act touches_raise)
    | blocked out i => exact .inl (.of_act (touches_all ⟨(pathBlocked_touches out).mono, touches_raise⟩))
    | accepted st body => exact .inr ⟨(order_touches ..).step s, order_next _ _ _ _ _ hs, _, order_hist .., rfl⟩

theorem salvoIfLocked_orders (s : State) (hs : SMap.sorted s.regs = true) :
    State.SameBut (.qty .salvoWait :: .reg .FAB_BLOCKED :: eventParts) s (salvoIfLocked.to s)
    ∨ State.SameBut (.qty .salvoWait :: orderParts) s (salvoIfLocked.to s) ∧ (salvoIfLocked.to s).rd .ORD_NEXT = succOrder (s.rd .ORD_NEXT)
      ∧ ∃ a, (salvoIfLocked.to s).hist.getLast? = some a ∧ a.order = s.rd .ORD_NEXT := by
  simp only [salvoIfLocked, look_runs, iff_to]
  split
  · rw [all_cons_to, all_cons_to, all_nil_to]
    have hput : (put .salvoWait 0).Touches [.qty .salvoWait] := touches_put
    rw [← hput.rd s (f := .ORD_NEXT)]
    refine (startSalvo_orders _ (Act.to_regs_sorted _ hs)).imp (fun h => ?_) fun ⟨h, hnext, hlast⟩ => ⟨?_, hnext, hlast⟩
    · exact ((hput.step s).mono (by decide +kernel)).trans (h.mono (by decide +kernel))
    · exact ((hput.step s).mono (by decide +kernel)).trans (h.mono (by decide +kernel))
  · exact .inl (.refl s)

-- Order numbers -------------------------------------------------------------------------------------------------------------------------

theorem later_iff {a b : Nat} (ha : a < 2 ^ 48) (hb : b < 2 ^ 48) :
    later a b = true ↔ 1 ≤ ((a : Int) - b) % 2 ^ 48 ∧ ((a : Int) - b) % 2 ^ 48 ≤ 2 ^ 47 - 1 := by
  simp only [later, Bool.and_eq_true, decide_eq_true_eq]
  omega

theorem succOrder_range (o : Nat) : succOrder o ≠ 0 ∧ succOrder o < 2 ^ 48 ∧ (o + 1 < 2 ^ 48 → succOrder o = o + 1) := by
  unfold succOrder
  split <;> omega

theorem orderBegin_next (s : State) (h : s.standAlone = true) : ((orderBegin).to s).rd .ORD_NEXT = 1 := by
  simp only [orderBegin, look_runs, h, if_true, all_cons_to, all_nil_to, put_to, State.rd_setQ, set_to]
  simp only [State.setReg, State.rd, show Fld.ORD_NEXT.has 0 0 = true from rfl, if_true, SMap.put, SMap.get]
  rw [if_neg (by decide), SMap.find_ins_same]
  rfl

theorem lastOrder_none {s : State} (hn : s.rd .ORD_NEXT = 1) (hh : s.hist = []) : s.lastOrder = 0 := by simp [State.lastOrder, hn, hh]

/-- LISTEN_TIMEOUT of a manager in LISTEN: it orders from 1, or the start-up salvo has taken 1 at once (R28, R125). -/
theorem firstActive_numbers {s : State} (hs : SMap.sorted s.regs = true) (hm : s.mgrPair = true) :
    (firstActive.to s).rd .ORD_STATE = 1 ∧ ((firstActive.to s).rd .ORD_NEXT = 1 ∧ (firstActive.to s).hist = s.hist
      ∨ (firstActive.to s).rd .ORD_NEXT = 2 ∧ ∃ a, (firstActive.to s).hist.getLast? = some a ∧ a.order = 1) := by
  rw [firstActive_to, hm, if_pos rfl]
  have hhead := (activeHead_touches s).step s
  have hhs := hhead.sorted hs
  have hhm : ((activeHead s).to s).mgrPair = true := (State.mgrPair_of ((activeHead_touches s).rd s)).trans hm
  generalize (activeHead s).to s = w at hhead hhs hhm
  have hstate := activeManager_state hhs hhm
  have hnext := activeManager_next hhs
  have hmgr := activeManager_touches.step w
  generalize activeManager.to w = v at hstate hnext hmgr
  have hhist : v.hist = s.hist := (hmgr.part .hist (by decide +kernel)).trans (hhead.part .hist (by decide +kernel))
  rcases salvoIfLocked_orders v (hmgr.sorted hhs) with h | ⟨h, hn, a, ha, ho⟩
  · exact ⟨(h.rd (by decide +kernel) 0 0).trans hstate, .inl ⟨(h.rd (by decide +kernel) 0 0).trans hnext, (h.part .hist (by decide +kernel)).trans hhist⟩⟩
  · refine ⟨(h.rd (by decide +kernel) 0 0).trans hstate, .inr ⟨?_, a, ha, ho.trans hnext⟩⟩
    rw [hn, hnext]
    rfl

theorem exec_listenTimeout (s : State) (t : Nat) : exec (.listenTimeout t) s
    = .next (if (s.since t).due .listen = true ∧ s.rd .RD_STATE_PAIR = 1 then firstActive.to (s.since t) else s.since t) := by
  simp only [exec, execListenTimeout, run_eq, all_cons_to, all_nil_to, look_runs, at_to_since, iff_to, State.rd_since, Bool.and_eq_true, beq_iff_eq]

/-- Settles O12: the arithmetic of serial numbers, and the number from which a manager and a stand-alone module order. -/
theorem orderNumbersAreSerial : Obligations.OrderNumbersAreSerial := by
  unfold Obligations.OrderNumbersAreSerial
  refine ⟨fun a b ha hb => later_iff ha hb, succOrder_range, by decide, fun s t hwf hdue hst hm => ⟨_, exec_listenTimeout s t, ?_⟩, orderBegin_next,
    fun s hn hh => lastOrder_none hn hh⟩
  rw [if_pos ⟨hdue, hst⟩]
  exact firstActive_numbers (s := s.since t) (State.wf_regs hwf) hm

end Sys2Proof.Machine
end

section
/-! SUPPORT. The records that leave: what is given to the fabric or to the Lichen link shows once, and what the link makes of it is no record. -/
set_option Elab.async false
namespace Sys2Proof.Machine

-- Records that leave ----------------------------------------------------------------------------------------------------------------

/-- An effect by which no record leaves. -/
def Eff.noRecord : Eff → Prop
  | .emit (.record _ _) => False
  | _ => True

theorem State.app_records {e : Eff} (h : e.noRecord) (s : State) : (s.app e).records = s.records := by
  have keep {u : State} (hu : u.out = s.out) : u.records = s.records := by rw [State.records, State.records, hu]
  cases e
  case emit m =>
    cases m
    case record => exact h.elim
    all_goals simp only [State.records, State.app_emit, List.filterMap_append, List.filterMap_cons, List.filterMap_nil, List.append_nil]
  case wr => exact keep (State.setReg_out ..)
  case put => exact keep (State.setQ_out ..)
  case burnRollback => simp only [State.app]; split <;> exact keep (State.setReg_out ..)
  case restart => exact keep s.fresh_out
  all_goals exact keep (by simp only [State.app])

theorem Act.Within.records {a : Act} (h : a.Within Eff.noRecord) (s : State) : (a.to s).records = s.records :=
  h.keeps (P := fun u => u.records = s.records) (fun u _ he hu => (State.app_records he u).trans hu) rfl

theorem lichenStart_noRecord (f : LkFrame) (at_ : Nat) : (lichenStart f at_).Within Eff.noRecord :=
  within_all_cons (within_emit trivial) (within_all_cons (within_one trivial) (within_all_cons (within_put trivial) within_all_nil))

theorem lichenRun_noRecord (n : Nat) : (lichenRun n).Within Eff.noRecord := by
  induction n with
  | zero => exact within_skip
  | succ n ih =>
    refine within_look fun s => within_ite (fun _ => within_skip) fun _ => ?_
    cases s.lkQ with
    | nil => exact within_one trivial
    | cons f rest => exact within_all_cons (within_one trivial) (within_all_cons (lichenStart_noRecord _ _) (within_all_cons ih within_all_nil))

theorem lichenGive_noRecord (f : LkFrame) : (lichenGive f).Within Eff.noRecord := by
  refine within_all_cons (within_look fun _ => lichenRun_noRecord _) (within_all_cons (within_look fun s => ?_) within_all_nil)
  cases s.lkCur with
  | none => exact lichenStart_noRecord _ _
  | some g =>
    exact within_ite (fun _ => within_all_cons (within_emit trivial) (within_all_cons (within_one trivial) (within_all_cons (lichenStart_noRecord _ _) within_all_nil)))
      fun _ => within_one trivial

/-- A record given to the fabric leaves once (R94). -/
theorem giveRecord_out (reply : Bool) (target : Nat) (r : Rec) (s : State) : ((giveRecord reply target r).to s).out = s.out ++ [.record false r] := by
  simp only [giveRecord, look_runs]
  rw [all_cons_to, all_cons_to, all_nil_to]
  refine (Act.Touches.out (ps := [.txRecs]) ?_ _).trans rfl
  exact touches_each fun _ _ => touches_look fun _ => touches_iff fun _ => pushSpores_touches _

theorem State.records_of_out {s u : State} {l : Bool} {r : Rec} (h : u.out = s.out ++ [.record l r]) : u.records = s.records ++ [(l, r)] := by
  rw [State.records, h, List.filterMap_append]
  rfl

theorem giveRecord_records (reply : Bool) (target : Nat) (r : Rec) (s : State) : ((giveRecord reply target r).to s).records = s.records ++ [(false, r)] :=
  State.records_of_out (giveRecord_out ..)

/-- A record given to the Lichen link leaves once (R359). -/
theorem giveLichen_records (urgent : Bool) (r : Rec) (s : State) : ((giveLichen urgent r).to s).records = s.records ++ [(true, r)] := by
  simp only [giveLichen, look_runs]
  rw [all_cons_to, all_cons_to, all_nil_to, (within_each fun _ _ => lichenGive_noRecord _).records]
  exact State.records_of_out rfl

theorem toStandby_records (r : Rec) (s : State) : ((toStandby r).to s).records = s.records ++ [(true, r), (false, r)] := by
  simp only [toStandby, look_runs]
  rw [all_cons_to, all_cons_to, all_nil_to, giveRecord_records, giveLichen_records, List.append_assoc]
  rfl

end Sys2Proof.Machine
end

section
/-! SUPPORT. The active role of a pair: LISTEN_TIMEOUT, FENCE_EXPIRY, TAKEBACK_ORDER and RD_REARM (R361, R367, R369): O37. -/
set_option Elab.async false
namespace Sys2Proof.Machine

-- Timers and quantities ---------------------------------------------------------------------------------------------------------------

theorem State.wf_timers {s : State} (h : s.wf = true) : SMap.sorted s.timers = true := ((State.stores_iff s).mp ((State.wf_iff s).mp h).1).2.2.2.1

theorem arm_timer (x : Tmr) (ps i : Nat) (s : State) : ((arm x ps i).to s).timer x i = some (s.now + ps) := SMap.find_ins_same ..

theorem disarm_timer {s : State} (h : s.wf = true) (x : Tmr) (i : Nat) : ((disarm x i).to s).timer x i = none := SMap.find_del_same _ _ (State.wf_timers h)

theorem put_q {s : State} (h : s.wf = true) (x : Qty) (v : Int) {i j : Nat} (hi : i < 2 ^ 40 := by decide) (hj : j < 2 ^ 40 := by decide) :
    ((put x v i j).to s).q x i j = v := State.q_setQ_same v (State.wf_qty h) hi hj

theorem put_q_other (s : State) (x : Qty) (v : Int) {i j k l : Nat} (h : k ≠ i ∨ l ≠ j) (hk : k < 2 ^ 40 := by decide) (hl : l < 2 ^ 40 := by decide) :
    ((put x v i j).to s).q x k l = s.q x k l := State.q_setQ_other s v hk hl (.inr h)

theorem set_regs_wf {f : Fld} {v i j : Nat} {s : State} (h : s.wf = true) (hh : f.has i j = true) (hv : v < 2 ^ f.desc.width) :
    ((set f v i j).to s).rd f i j = v := by rw [set_rd (State.wf_regs h) hh, Nat.mod_eq_of_lt hv]

theorem all_concat_to (as : List Act) (b : Act) (s : State) : (all (as ++ [b])).to s = b.to ((all as).to s) := by
  induction as generalizing s with
  | nil => rw [List.nil_append, all_cons_to, all_nil_to, all_nil_to]
  | cons a as ih => rw [List.cons_append, all_cons_to, all_cons_to, ih]

-- LISTEN_TIMEOUT ------------------------------------------------------------------------------------------------------------------------

section
variable {s : State} (hwf : s.wf = true)
include hwf

theorem activeHead_epoch : ((activeHead s).to s).rd .RD_EPOCH = 1 := by
  rw [activeHead, all_cons_to, all_cons_to, all_cons_to, all_cons_to, all_nil_to, (pairState_touches _).rd]
  have hnode : (set .RD_ACTIVE_NODE s.node).Touches [.reg .RD_ACTIVE_NODE] := touches_set
  rw [hnode.rd]
  exact set_regs_wf (Act.to_wf _ hwf) rfl (by decide)

theorem activeHead_node (hn : s.node < 64) : ((activeHead s).to s).rd .RD_ACTIVE_NODE = s.node := by
  rw [activeHead, all_cons_to, all_cons_to, all_cons_to, all_cons_to, all_nil_to, (pairState_touches _).rd]
  exact set_regs_wf (Act.to_wf _ (Act.to_wf _ hwf)) rfl hn

theorem activeHead_listen : ((activeHead s).to s).timer .listen = none := by
  have hrest : (all [set .RD_EPOCH 1, set .RD_ACTIVE_NODE s.node, pairState rdActive]).Touches ([.reg .RD_EPOCH, .reg .RD_ACTIVE_NODE] ++ pairParts) :=
    touches_all ⟨touches_set, touches_set, (pairState_touches _).mono⟩
  rw [activeHead, all_cons_to, hrest.timer]
  exact disarm_timer hwf ..

theorem activeManager_unprotected (hfits : s.fits) (hm : s.mgrPair = true) (hr : s.rd .SYS_MGR_ROLE = 1) : (activeManager.to s).rd .RD_UNPROT = 1 := by
  have hhead : (all [disarm .joinSend, set .ORD_NEXT 1, managerHere, withFree fun v => set .SEC_ROUTER_START v, put .salvoWait 1]).Touches
      [.tmr .joinSend, .reg .ORD_NEXT, .qty .managerNode, .qty .managerEpoch, .reg .ORD_STATE, .freed, .reg .SEC_ROUTER_START, .qty .salvoWait] :=
    touches_all ⟨touches_disarm, touches_set, managerHere_touches.mono, routerStart_touches.mono, touches_put⟩
  have hsplit : activeManager.to s = managerBeats.to (unprotect.to
      ((all [disarm .joinSend, set .ORD_NEXT 1, managerHere, withFree fun v => set .SEC_ROUTER_START v, put .salvoWait 1]).to s)) := by
    simp only [activeManager, all_cons_to, all_nil_to]
  have hrole := hhead.rd s (f := .RD_ROLE)
  have hmgr := hhead.rd s (f := .SYS_MGR_ROLE)
  have hwf' := Act.to_wf (all [disarm .joinSend, set .ORD_NEXT 1, managerHere, withFree fun v => set .SEC_ROUTER_START v, put .salvoWait 1]) hwf
  have hfits' := Act.to_fits (all [disarm .joinSend, set .ORD_NEXT 1, managerHere, withFree fun v => set .SEC_ROUTER_START v, put .salvoWait 1]) (State.wf_regs hwf) hfits
  rw [hsplit, managerBeats_touches.rd]
  generalize (all [disarm .joinSend, set .ORD_NEXT 1, managerHere, withFree fun v => set .SEC_ROUTER_START v, put .salvoWait 1]).to s = u at hrole hmgr hwf' hfits'
  have hpartner : (u.hasPartner && u.rd .SYS_MGR_ROLE == 1) = true := by
    have : s.rd .RD_ROLE = 1 := by simpa [State.mgrPair] using hm
    simp [State.hasPartner, hrole, hmgr, hr, this]
  rw [unprotect, look_runs, iff_to, hpartner, Bool.true_and]
  have hlt : u.rd .RD_UNPROT < 2 := hfits' .RD_UNPROT 0 0
  by_cases h0 : u.rd .RD_UNPROT = 0
  · rw [if_pos (by simp [h0]), all_cons_to, all_cons_to, all_nil_to, raise_rd _ _ _ _ (by decide)]
    exact set_regs_wf hwf' rfl (by decide)
  · rw [if_neg (by simp [h0])]
    omega

theorem activeManager_joins (hm : s.rd .SYS_MGR_ROLE = 1) : (activeManager.to s).timer .joinSend = none := by
  have hrest : (all [set .ORD_NEXT 1, managerHere, withFree fun v => set .SEC_ROUTER_START v, put .salvoWait 1, unprotect]).Touches
      ([.reg .ORD_NEXT, .qty .managerNode, .qty .managerEpoch, .reg .ORD_STATE, .freed, .reg .SEC_ROUTER_START, .qty .salvoWait, .reg .RD_UNPROT] ++ eventParts) :=
    touches_all ⟨touches_set, managerHere_touches.mono, routerStart_touches.mono, touches_put, unprotect_touches.mono⟩
  have hstop : (disarm .joinSend).Touches [.tmr .joinSend] := touches_disarm
  have hsplit : activeManager.to s = managerBeats.to ((all [set .ORD_NEXT 1, managerHere, withFree fun v => set .SEC_ROUTER_START v, put .salvoWait 1, unprotect]).to
      ((disarm .joinSend).to s)) := by
    simp only [activeManager, all_cons_to, all_nil_to]
  have hmgr : ((all [set .ORD_NEXT 1, managerHere, withFree fun v => set .SEC_ROUTER_START v, put .salvoWait 1, unprotect]).to ((disarm .joinSend).to s)).isManager = true := by
    rw [State.isManager, hrest.rd, hstop.rd, hm, beq_self_eq_true, Bool.or_true]
  rw [hsplit, (managerBeats_manager hmgr).timer (by decide +kernel) (by decide), hrest.timer]
  exact disarm_timer hwf ..

end

/-- Without a start-up salvo that can be ordered at once, none is (R125). -/
theorem salvoIfLocked_waits {s : State} (h : s.rd .RD_STATE_RASTER 0 ≠ 2 ∨ s.cfg.bind CfgImage.startSalvo = none) :
    State.SameBut [.qty .salvoWait] s (salvoIfLocked.to s) := by
  rw [salvoIfLocked, look_runs, iff_to]
  rcases h with h | h
  · rw [if_neg (by simp [h])]
    exact .refl s
  · split
    · have hput : (put .salvoWait 0).Touches [.qty .salvoWait] := touches_put
      rw [all_cons_to, all_cons_to, all_nil_to, startSalvo, look_runs, hput.cfg, h]
      exact hput.step s
    · exact .refl s

/-- What becoming the first active member touches where no salvo is ordered. -/
def firstActiveParts : List Part := activeHeadParts ++ activeManagerParts

/-- A manager that becomes the first active one (R361, R365). -/
theorem firstActive_manager {s : State} (hwf : s.wf = true) (hfits : s.fits) (hm : s.mgrPair = true)
    (hsalvo : s.rd .RD_STATE_RASTER 0 ≠ 2 ∨ s.cfg.bind CfgImage.startSalvo = none) :
    let u := firstActive.to s
    u.rd .ORD_NEXT = 1 ∧ u.rd .ORD_STATE = 1 ∧ u.rd .SYS_MGR_ROLE = 1 ∧ u.rd .RD_UNPROT = 1 ∧ u.timer .joinSend = none
      ∧ State.SameBut activeManagerParts ((activeHead s).to s) u := by
  have hs := State.wf_regs hwf
  have hhead := (activeHead_touches s).step s
  have hhwf := Act.to_wf (activeHead s) hwf
  have hhfits := Act.to_fits (activeHead s) hs hfits
  have hrole := activeHead_role hs hm
  have hhm : ((activeHead s).to s).mgrPair = true := (State.mgrPair_of ((activeHead_touches s).rd s)).trans hm
  have hhsalvo : ((activeHead s).to s).rd .RD_STATE_RASTER 0 ≠ 2 ∨ ((activeHead s).to s).cfg.bind CfgImage.startSalvo = none := by
    rw [(activeHead_touches s).rd, (activeHead_touches s).cfg]
    exact hsalvo
  simp only [firstActive_to, hm, if_true]
  generalize (activeHead s).to s = w at hhead hhwf hhfits hrole hhm hhsalvo
  have hvsalvo : (activeManager.to w).rd .RD_STATE_RASTER 0 ≠ 2 ∨ (activeManager.to w).cfg.bind CfgImage.startSalvo = none := by
    rw [activeManager_touches.rd, activeManager_touches.cfg]
    exact hhsalvo
  have hkeep := salvoIfLocked_waits hvsalvo
  refine ⟨?_, ?_, ?_, ?_, ?_, (activeManager_touches.step w).trans (hkeep.mono (by decide +kernel))⟩
  · rw [hkeep.rd (by decide +kernel)]; exact activeManager_next (State.wf_regs hhwf)
  · rw [hkeep.rd (by decide +kernel)]; exact activeManager_state (State.wf_regs hhwf) hhm
  · rw [hkeep.rd (by decide +kernel), activeManager_touches.rd]; exact hrole
  · rw [hkeep.rd (by decide +kernel)]; exact activeManager_unprotected hhwf hhfits hhm hrole
  · rw [hkeep.timer (by decide +kernel) (by decide)]; exact activeManager_joins hhwf hrole

/-- The fields that the active role of a pair moves, as O37 lists them. -/
abbrev pairRegs : List Fld := [.RD_COUNT_VALID, .RD_STATE_PAIR, .RD_EPOCH, .RD_ACTIVE_NODE, .SYS_MGR_ROLE, .ORD_NEXT, .RD_UNPROT, .ORD_STATE]

/-- A member in LISTEN becomes the first active one (R361). -/
theorem firstActive_facts {s : State} (hwf : s.wf = true) (hfits : s.fits)
    (hsalvo : s.rd .RD_ROLE = 1 → s.rd .RD_STATE_RASTER 0 ≠ 2 ∨ s.cfg.bind CfgImage.startSalvo = none) :
    let u := firstActive.to s
    u.rd .RD_STATE_PAIR = 5 ∧ u.rd .RD_EPOCH = 1 ∧ u.rd .RD_ACTIVE_NODE = s.node ∧ u.timer .listen = none
      ∧ (s.rd .RD_ROLE = 1 → u.rd .ORD_NEXT = 1 ∧ u.rd .ORD_STATE = 1 ∧ u.rd .SYS_MGR_ROLE = 1 ∧ u.rd .RD_UNPROT = 1 ∧ u.timer .joinSend = none)
      ∧ s.only (.SEC_ROUTER_START :: pairRegs) u ∧ u.mem = s.mem := by
  have hnode : s.node < 64 := hfits .SYS_NODE 0 0
  have hstate := activeHead_state (State.wf_regs hwf)
  have hepoch := activeHead_epoch hwf
  have hactive := activeHead_node hwf hnode
  have hlisten := activeHead_listen hwf
  have hhead := (activeHead_touches s).step s
  have hrest : State.SameBut activeManagerParts ((activeHead s).to s) (firstActive.to s)
      ∧ (s.rd .RD_ROLE = 1 → (firstActive.to s).rd .ORD_NEXT = 1 ∧ (firstActive.to s).rd .ORD_STATE = 1 ∧ (firstActive.to s).rd .SYS_MGR_ROLE = 1
        ∧ (firstActive.to s).rd .RD_UNPROT = 1 ∧ (firstActive.to s).timer .joinSend = none) := by
    by_cases hr : s.rd .RD_ROLE = 1
    · obtain ⟨hn, ho, hm, hu, hj, hsame⟩ := firstActive_manager hwf hfits (by simp [State.mgrPair, hr]) (hsalvo hr)
      exact ⟨hsame, fun _ => ⟨hn, ho, hm, hu, hj⟩⟩
    · have hm : s.mgrPair = false := by simp [State.mgrPair, hr]
      rw [firstActive_to, hm]
      exact ⟨.refl _, fun h => absurd h hr⟩
  obtain ⟨hsame, hmanager⟩ := hrest
  have hall : State.SameBut firstActiveParts s (firstActive.to s) := (hhead.mono (by decide +kernel)).trans (hsame.mono (by decide +kernel))
  exact ⟨(hsame.rd (by decide +kernel) 0 0).trans hstate, (hsame.rd (by decide +kernel) 0 0).trans hepoch, (hsame.rd (by decide +kernel) 0 0).trans hactive,
    (hsame.timer (by decide +kernel) (by decide)).trans hlisten, hmanager, hall.only (by decide +kernel), hall.part .mem (by decide +kernel)⟩

-- FENCE_EXPIRY --------------------------------------------------------------------------------------------------------------------------

/-- What joining again touches (R361). -/
def beginSyncParts : List Part :=
  [.tmr .listen, .tmr .fence, .hist, .img, .reg .ORD_STATE, .tmr .gap, .tmr .replay, .tmr .joinSend] ++ pairParts

theorem beginSync_touches : beginSync.Touches beginSyncParts :=
  touches_all ⟨touches_disarm, touches_disarm, (pairState_touches _).mono, touches_one rfl, touches_one rfl, touches_set, touches_disarm, touches_disarm, touches_arm⟩

section
variable {s : State} (hwf : s.wf = true)
include hwf

theorem beginSync_state : (beginSync.to s).rd .RD_STATE_PAIR = 2 := by
  have hrest : (all [one (.hist []), one (.img none), set .ORD_STATE osJoining, disarm .gap, disarm .replay, arm .joinSend 0]).Touches
      [.hist, .img, .reg .ORD_STATE, .tmr .gap, .tmr .replay, .tmr .joinSend] :=
    touches_all ⟨touches_one rfl, touches_one rfl, touches_set, touches_disarm, touches_disarm, touches_arm⟩
  rw [beginSync, all_cons_to, all_cons_to, all_cons_to, hrest.rd]
  exact pairState_rd (Act.to_regs_sorted _ (Act.to_regs_sorted _ (State.wf_regs hwf))) (by decide)

theorem beginSync_order : (beginSync.to s).rd .ORD_STATE = 0 := by
  have hrest : (all [disarm .gap, disarm .replay, arm .joinSend 0]).Touches [.tmr .gap, .tmr .replay, .tmr .joinSend] :=
    touches_all ⟨touches_disarm, touches_disarm, touches_arm⟩
  rw [beginSync, all_cons_to, all_cons_to, all_cons_to, all_cons_to, all_cons_to, all_cons_to, hrest.rd]
  exact set_regs_wf (Act.to_wf _ (Act.to_wf _ (Act.to_wf _ (Act.to_wf _ (Act.to_wf _ hwf))))) rfl (by decide)

theorem beginSync_fence : (beginSync.to s).timer .fence = none := by
  have hrest : (all [pairState rdSyncing, one (.hist []), one (.img none), set .ORD_STATE osJoining, disarm .gap, disarm .replay, arm .joinSend 0]).Touches
      ([.hist, .img, .reg .ORD_STATE, .tmr .gap, .tmr .replay, .tmr .joinSend] ++ pairParts) :=
    touches_all ⟨(pairState_touches _).mono, touches_one rfl, touches_one rfl, touches_set, touches_disarm, touches_disarm, touches_arm⟩
  rw [beginSync, all_cons_to, all_cons_to, hrest.timer]
  exact disarm_timer (Act.to_wf _ hwf) ..

end

theorem beginSync_hist (s : State) : (beginSync.to s).hist = [] := by
  have hrest : (all [one (.img none), set .ORD_STATE osJoining, disarm .gap, disarm .replay, arm .joinSend 0]).Touches
      [.img, .reg .ORD_STATE, .tmr .gap, .tmr .replay, .tmr .joinSend] :=
    touches_all ⟨touches_one rfl, touches_set, touches_disarm, touches_disarm, touches_arm⟩
  rw [beginSync, all_cons_to, all_cons_to, all_cons_to, all_cons_to, hrest.hist]
  rfl

theorem beginSync_img (s : State) : (beginSync.to s).img = none := by
  have hrest : (all [set .ORD_STATE osJoining, disarm .gap, disarm .replay, arm .joinSend 0]).Touches
      [.reg .ORD_STATE, .tmr .gap, .tmr .replay, .tmr .joinSend] :=
    touches_all ⟨touches_set, touches_disarm, touches_disarm, touches_arm⟩
  rw [beginSync, all_cons_to, all_cons_to, all_cons_to, all_cons_to, all_cons_to, hrest.img]
  rfl

theorem beginSync_joins (s : State) : (beginSync.to s).timer .joinSend = some s.now := by
  have hhead : (all [disarm .listen, disarm .fence, pairState rdSyncing, one (.hist []), one (.img none), set .ORD_STATE osJoining, disarm .gap,
      disarm .replay]).Touches beginSyncParts :=
    touches_all ⟨touches_disarm, touches_disarm, (pairState_touches _).mono, touches_one rfl, touches_one rfl, touches_set, touches_disarm, touches_disarm⟩
  have hsplit := all_concat_to [disarm .listen, disarm .fence, pairState rdSyncing, one (.hist []), one (.img none), set .ORD_STATE osJoining, disarm .gap,
    disarm .replay] (arm .joinSend 0) s
  rw [List.cons_append, List.cons_append, List.cons_append, List.cons_append, List.cons_append, List.cons_append, List.cons_append, List.cons_append,
    List.nil_append] at hsplit
  rw [beginSync, hsplit, arm_timer, hhead.now, Nat.add_zero]

-- TAKEBACK_ORDER ------------------------------------------------------------------------------------------------------------------------

/-- What ordering an action touches where a standby acknowledges it first (R27). -/
def awaitParts : List Part := [.reg .ORD_NEXT, .hist, .held, .senders, .lkQ, .qty .lkEnd, .tmr .standbyResend, .out, .txRecs, .media] ++ learnParts

section
variable (kind : Nat) (st : Stamp) (node : Nat) (body : List Nat) {s : State} (hw : s.awaitsAck = true)
include hw

/-- Where a standby acknowledges first, an action without an answer goes to it on both paths and is held (R27, R362). -/
theorem order_awaits_to : (order kind st node body fun _ => none).to s =
    (iff (s.timer .standbyResend).isNone (arm .standbyResend psMs)).to ((one (.held (s.held ++ [⟨s.rd .ORD_NEXT, none⟩]))).to
      ((toStandby (s.wholeRecord ⟨s.rd .ORD_NEXT, kind, st, node, body⟩)).to (s.withAction ⟨s.rd .ORD_NEXT, kind, st, node, body⟩))) := by
  have hp : s.hasPartner = true := by
    simp only [State.awaitsAck, Bool.and_eq_true] at hw
    exact hw.1
  rw [order_to, handle, hw, hp, if_pos rfl, all_cons_to, all_cons_to, all_cons_to, all_nil_to, all_cons_to, all_cons_to, all_nil_to, skip_to]
  rfl

theorem order_awaits_sameBut : State.SameBut awaitParts s ((order kind st node body fun _ => none).to s) := by
  rw [order_awaits_to kind st node body hw]
  have hstandby := (toStandby_touches (s.wholeRecord ⟨s.rd .ORD_NEXT, kind, st, node, body⟩)).mono (qs := awaitParts)
  have hheld : (one (.held (s.held ++ [⟨s.rd .ORD_NEXT, none⟩]))).Touches awaitParts := touches_one rfl
  have harm : (iff (s.timer .standbyResend).isNone (arm .standbyResend psMs)).Touches awaitParts := touches_iff fun _ => touches_arm
  exact ((withAction_sameBut _).mono (by decide +kernel)).trans ((hstandby.step _).trans ((hheld.step _).trans (harm.step _)))

theorem order_awaits_held : ((order kind st node body fun _ => none).to s).held = s.held ++ [⟨s.rd .ORD_NEXT, none⟩] := by
  have harm : (iff (s.timer .standbyResend).isNone (arm .standbyResend psMs)).Touches [.tmr .standbyResend] := touches_iff fun _ => touches_arm
  rw [order_awaits_to kind st node body hw, harm.held]
  rfl

theorem order_awaits_records : ((order kind st node body fun _ => none).to s).records
    = s.records ++ [(true, s.wholeRecord ⟨s.rd .ORD_NEXT, kind, st, node, body⟩), (false, s.wholeRecord ⟨s.rd .ORD_NEXT, kind, st, node, body⟩)] := by
  have harm : (iff (s.timer .standbyResend).isNone (arm .standbyResend psMs)).Within Eff.noRecord := within_iff fun _ => within_arm fun _ => trivial
  have hheld : (one (.held (s.held ++ [⟨s.rd .ORD_NEXT, none⟩]))).Within Eff.noRecord := within_one trivial
  have hrecs : (s.withAction ⟨s.rd .ORD_NEXT, kind, st, node, body⟩).records = s.records := by
    have := (withAction_sameBut (s := s) ⟨s.rd .ORD_NEXT, kind, st, node, body⟩).part .out (by decide +kernel)
    exact congrArg (List.filterMap _) this
  rw [order_awaits_to kind st node body hw, harm.records, hheld.records, toStandby_records, hrecs]

end

/-- The conditions of R367 for a takeback. -/
def State.takebackReady (s : State) : Prop :=
  s.rd .RD_ROLE = 1 ∧ s.rd .RD_STATE_PAIR = 5 ∧ s.rd .RD_PREFERRED = 0 ∧ s.q .partnerState = 4 ∧ s.q .healthRun ≠ 0
    ∧ s.qn .healthRun + s.view (s.rd .RD_PARTNER) .RD_HOLD_S * psS ≤ s.now + 1 ∧ s.rd .RD_REVERT_BLOCKED = 0 ∧ s.q .pendingTakeback = 0

theorem takebackReady_iff (s : State) : s.takebackReady ↔
    (s.mgrPair && s.rd .RD_STATE_PAIR == rdActive && s.rd .RD_PREFERRED == 0 && s.q .partnerState == 4
      && (s.q .healthRun != 0 && decide (s.qn .healthRun + s.view (s.rd .RD_PARTNER) .RD_HOLD_S * psS ≤ s.now + 1)) && s.rd .RD_REVERT_BLOCKED == 0
      && s.q .pendingTakeback == 0) = true := by
  simp only [State.takebackReady, State.mgrPair, Bool.and_eq_true, beq_iff_eq, bne_iff_ne, decide_eq_true_eq, and_assoc]

theorem takebackOrder_not_ready {s : State} (h : ¬ s.takebackReady) : takebackOrder.to s = s := by
  rw [takebackOrder, look_runs]
  exact congrArg (fun a : Act => a.to s) (if_neg fun hc => h ((takebackReady_iff s).mpr hc))

theorem takebackOrder_ready {s : State} {st : Stamp} (h : s.takebackReady) (hr : s.resolve ⟨0, 0, 0, false⟩ false = .ok st) :
    takebackOrder.to s = (order kWrite st s.node (encodeWrite takebackAddr [1]) fun _ => none).to ((put .pendingTakeback 1).to s) := by
  rw [takebackOrder, look_runs]
  refine (congrArg (fun a : Act => a.to s) (if_pos ((takebackReady_iff s).mp h))).trans ?_
  simp only [hr, all_cons_to, all_nil_to]

theorem exec_takebackOrder (s : State) (t : Nat) : exec (.takebackOrder t) s = .next (takebackOrder.to (s.since t)) := by
  simp only [exec, execTakebackOrder, run_eq, all_cons_to, all_nil_to, at_to_since]

/-- The takeback is ordered and held for the ACK (R27, R367). -/
theorem takebackOrder_facts {s : State} {st : Stamp} (hwf : s.wf = true) (h : s.takebackReady) (hr : s.resolve ⟨0, 0, 0, false⟩ false = .ok st) :
    let u := takebackOrder.to s
    ∃ r, u.rd .ORD_NEXT = succOrder (s.rd .ORD_NEXT) ∧ u.q .pendingTakeback = 1
      ∧ u.hist.getLast? = some ⟨s.rd .ORD_NEXT, 5, st, s.node, encodeWrite takebackAddr [1]⟩ ∧ u.held = s.held ++ [⟨s.rd .ORD_NEXT, none⟩]
      ∧ u.records = s.records ++ [(true, r), (false, r)] ∧ r.order = s.rd .ORD_NEXT ∧ r.kind = 5 ∧ r.stamp = st ∧ s.only [.ORD_NEXT] u ∧ u.mem = s.mem := by
  obtain ⟨hrole, -, -, hstandby, -⟩ := id h
  have hput : (put .pendingTakeback 1).Touches [.qty .pendingTakeback] := touches_put
  have hp := hput.step s
  have hq := put_q hwf .pendingTakeback 1 (i := 0) (j := 0)
  have hpwf := Act.to_wf (put .pendingTakeback 1) hwf
  have hawait : ((put .pendingTakeback 1).to s).awaitsAck = true := by
    rw [State.awaitsAck, State.hasPartner, hput.rd, hput.q, hrole, hstandby]
    rfl
  have hnext := hput.rd s (f := .ORD_NEXT)
  have hheld := hput.held s
  have hrecs : ((put .pendingTakeback 1).to s).records = s.records := congrArg (List.filterMap _) (hput.out s)
  simp only [takebackOrder_ready h hr]
  generalize (put .pendingTakeback 1).to s = w at hp hq hpwf hawait hnext hheld hrecs
  have hsame := order_awaits_sameBut kWrite st s.node (encodeWrite takebackAddr [1]) hawait
  have hall : State.SameBut (.qty .pendingTakeback :: awaitParts) s ((order kWrite st s.node (encodeWrite takebackAddr [1]) fun _ => none).to w) :=
    (hp.mono (by decide +kernel)).trans (hsame.mono (by decide +kernel))
  refine ⟨w.wholeRecord ⟨w.rd .ORD_NEXT, kWrite, st, s.node, encodeWrite takebackAddr [1]⟩, ?_, ?_, ?_, ?_, ?_, ?_, rfl, rfl, hall.only (by decide +kernel),
    hall.part .mem (by decide +kernel)⟩
  · rw [order_next _ _ _ _ _ (State.wf_regs hpwf), hnext]
  · rw [hsame.q (by decide +kernel) (by decide) (by decide), hq]
  · rw [order_hist, hnext]
  · rw [order_awaits_held _ _ _ _ hawait, hheld, hnext]
  · rw [order_awaits_records _ _ _ _ hawait, hrecs]
  · exact hnext

-- RD_REARM --------------------------------------------------------------------------------------------------------------------------------

/-- What clearing the failure history touches (R369). -/
def rearmParts : List Part := [.reg .RD_REVERT_BLOCKED, .reg .RD_PARTNER_FAILS, .qty .failAt]

theorem rearm_touches : rearm.Touches rearmParts := touches_all ⟨touches_set, touches_set, touches_put, touches_put, touches_put⟩

theorem rearm_facts {s : State} (hwf : s.wf = true) :
    let u := rearm.to s
    u.rd .RD_REVERT_BLOCKED = 0 ∧ u.rd .RD_PARTNER_FAILS = 0 ∧ u.q .failAt 0 = 0 ∧ u.q .failAt 1 = 0 ∧ u.q .failAt 2 = 0 := by
  have hputs : (all [put .failAt 0 0, put .failAt 0 1, put .failAt 0 2]).Touches [.qty .failAt] := touches_all ⟨touches_put, touches_put, touches_put⟩
  have hfails : (set .RD_PARTNER_FAILS 0).Touches [.reg .RD_PARTNER_FAILS] := touches_set
  have hwf' : ((set .RD_PARTNER_FAILS 0).to ((set .RD_REVERT_BLOCKED 0).to s)).wf = true := Act.to_wf _ (Act.to_wf _ hwf)
  simp only [rearm]
  rw [all_cons_to, all_cons_to]
  refine ⟨?_, ?_, ?_⟩
  · rw [hputs.rd, hfails.rd]
    exact set_regs_wf hwf rfl (by decide)
  · rw [hputs.rd]
    exact set_regs_wf (Act.to_wf _ hwf) rfl (by decide)
  · generalize (set .RD_PARTNER_FAILS 0).to ((set .RD_REVERT_BLOCKED 0).to s) = w at hwf'
    rw [all_cons_to, all_cons_to, all_cons_to, all_nil_to]
    refine ⟨?_, ?_, ?_⟩
    · rw [put_q_other _ _ _ (.inl (by decide)), put_q_other _ _ _ (.inl (by decide)), put_q hwf']
    · rw [put_q_other _ _ _ (.inl (by decide)), put_q (Act.to_wf _ hwf')]
    · rw [put_q (Act.to_wf _ (Act.to_wf _ hwf'))]

theorem exec_rdRearm (s : State) (t value : Nat) : exec (.rdRearm t value) s = .next (if value % 2 = 1 then rearm.to (s.since t) else s.since t) := by
  simp only [exec, execRdRearm, run_eq, all_cons_to, all_nil_to, at_to_since, iff_to, beq_iff_eq]

theorem exec_fenceExpiry (s : State) (t : Nat) : exec (.fenceExpiry t) s
    = .next (if (s.since t).due .fence = true ∧ s.rd .RD_STATE_PAIR = 6 then beginSync.to (s.since t) else s.since t) := by
  simp only [exec, execFenceExpiry, run_eq, all_cons_to, all_nil_to, look_runs, at_to_since, iff_to, State.rd_since, Bool.and_eq_true, beq_iff_eq]

/-- Settles O37: each of the four commands is its act at its time, and the facts about the act say what it leaves. -/
theorem pairMembersTakeTheActiveRole : Obligations.PairMembersTakeTheActiveRole := by
  unfold Obligations.PairMembersTakeTheActiveRole
  intro s t hwf hfits
  have hwf' : (s.since t).wf = true := hwf
  have hfits' : (s.since t).fits := hfits
  refine ⟨fun hdue hst hsalvo => ⟨_, exec_listenTimeout s t, ?_⟩, fun h => ?_, fun hdue hst => ⟨_, exec_fenceExpiry s t, ?_⟩, fun h => ?_,
    ⟨fun st h hr => ?_, fun h => ?_⟩, fun value => ⟨_, exec_rdRearm s t value, ?_⟩⟩
  · rw [if_pos ⟨hdue, hst⟩]
    exact firstActive_facts hwf' hfits' hsalvo
  · rw [exec_listenTimeout, if_neg]
    rintro ⟨hdue, hst⟩
    exact h.elim (fun hn => by simp [hn] at hdue) fun hn => hn hst
  · rw [if_pos ⟨hdue, hst⟩]
    have hsame := beginSync_touches.step (s.since t)
    exact ⟨beginSync_state hwf', beginSync_order hwf', beginSync_hist _, beginSync_img _, beginSync_fence hwf', beginSync_joins _,
      hsame.only (by decide +kernel), hsame.part .out (by decide +kernel), hsame.part .mem (by decide +kernel)⟩
  · rw [exec_fenceExpiry, if_neg]
    rintro ⟨hdue, hst⟩
    exact h.elim (fun hn => by simp [hn] at hdue) fun hn => hn hst
  · obtain ⟨r, hfacts⟩ := takebackOrder_facts (s := s.since t) hwf' h hr
    exact ⟨_, r, exec_takebackOrder s t, hfacts⟩
  · rw [exec_takebackOrder, takebackOrder_not_ready (s := s.since t) h]
  · split
    · have hsame := rearm_touches.step (s.since t)
      obtain ⟨hblocked, hfails, h0, h1, h2⟩ := rearm_facts hwf'
      exact ⟨hblocked, hfails, h0, h1, h2, hsame.only (by decide +kernel), hsame.part .out (by decide +kernel), hsame.part .mem (by decide +kernel)⟩
    · rfl

end Sys2Proof.Machine
end

section
/-! SUPPORT. The ordering messages TAKE, SALVO, LOCK, REALIGN, WRITE and the audio action at the active manager (R122, R134, R222, R302, R386): O22. -/
set_option Elab.async false
namespace Sys2Proof.Machine

-- A message that is taken -----------------------------------------------------------------------------------------------------------------

/-- What noting a message touches (R375, R378 to R380). -/
def notedParts : List Part := [.sessions, .reg .TS_SEQ_RX, .reg .TS_MSGS, .tmr .sessIdle, .tmr .updLock, .tmr .msgPart]

theorem noted_touches (m : Msg) (x : Session) (hm : m.sess < 34) : (noted m x).Touches notedParts := by
  have hi : m.sess < 2 ^ 40 := by omega
  exact touches_look fun _ => touches_all ⟨(putSession_touches _).mono, touches_set, touches_count,
    touches_look fun _ => touches_all ⟨touches_arm (by decide +kernel) hi, touches_iff fun _ => touches_arm⟩, touches_disarm (by decide +kernel) hi⟩

/-- What taking a message touches. -/
def metParts : List Part := .now :: notedParts

section
variable {s : State} {m : Msg} (h : s.takes m = true)
include h

theorem takes_sess : m.sess < 34 := by
  unfold State.takes at h
  cases hx : s.session m.sess with
  | none => simp [hx] at h
  | some x =>
    simp only [hx, Bool.and_eq_true, decide_eq_true_eq] at h
    obtain ⟨⟨⟨⟨⟨⟨⟨⟨hm, -⟩, -⟩, -⟩, -⟩, -⟩, -⟩, -⟩, -⟩ := h
    exact hm

/-- A message that is taken leaves `s.met m`, in which it is acted on. -/
theorem received_met (act : Act) : (received m act).to (s.since m.t) = act.to (s.met m) := by
  obtain ⟨x, -, hto⟩ := received_to h
  have hmet : s.met m = (noted m x).to (s.since m.t) := by
    have := hto skip
    rw [skip_to] at this
    rw [← this, State.met, ← at_to_since]
    exact (all_cons_to ..).trans (all_cons_to ..)
  rw [hto act, hmet]

theorem met_sameBut : State.SameBut metParts s (s.met m) := by
  obtain ⟨x, -, hto⟩ := received_to h
  have hat : (at_ m.t).Touches metParts := touches_at
  have hmet : s.met m = (noted m x).to ((at_ m.t).to s) := by rw [← skip_to (s.met m), ← received_met h, hto, skip_to, at_to_since]
  rw [hmet]
  exact (hat.step s).trans ((noted_touches m x (takes_sess h)).mono.step _)

end

theorem met_wf {s : State} (hwf : s.wf = true) (m : Msg) : (s.met m).wf = true := Act.to_wf (all [at_ m.t, received m skip]) hwf

/-- An ordering message that reaches the active manager from a session with the privilege is acted on as it is taken (R381). -/
theorem ordering_to {s : State} {m : Msg} {priv : Nat} (hwf : s.wf = true) (ho : s.orders m priv = true) (hlen : m.lenOk = true) (act : Act) :
    (all [at_ m.t, ordering m priv act]).to s = act.to (s.met m) := by
  simp only [State.orders, Bool.and_eq_true, Bool.not_eq_true', bne_iff_ne] at ho
  obtain ⟨⟨⟨⟨⟨ht, hclaim⟩, hsvc⟩, hmgr⟩, hpriv⟩, -⟩ := ho
  have hmet := met_sameBut ht
  have hclaim' : (s.met m).claimOnly m.sess = false := by
    obtain ⟨x, hx, hto⟩ := received_to ht
    have hm : s.met m = (noted m x).to (s.since m.t) := by rw [← skip_to (s.met m), ← received_met ht, hto, skip_to]
    rw [hm, noted_claimOnly m (State.wf_sessions (s := s.since m.t) hwf) hx]
    exact hclaim
  have hsvc' : (s.met m).onSvc m.sess = false := by
    rw [State.onSvc, hmet.rd (by decide +kernel)]
    exact hsvc
  have hmgr' : (s.met m).isManager = true := by
    rw [State.isManager, State.standAlone, hmet.rd (by decide +kernel), hmet.rd (by decide +kernel)]
    exact hmgr
  have hpriv' : bit ((s.met m).rd .TS_PRIV m.sess) priv = true := by
    rw [hmet.rd (by decide +kernel)]
    exact hpriv
  rw [all_cons_to, all_cons_to, all_nil_to, at_to_since, ordering, received_met ht, look_runs]
  simp only [hclaim', hsvc', hmgr', hlen, hpriv', Bool.false_eq_true, Bool.not_true, if_false]

-- Accepted, and refused ---------------------------------------------------------------------------------------------------------------------

/-- What O22 says of a message that is accepted. -/
def State.saysYes (s u : State) (m : Msg) (kind node : Nat) (st : Stamp) (body : List Nat) (status : Nat) : Prop :=
  u.rd .ORD_NEXT = succOrder (s.rd .ORD_NEXT) ∧ u.rd .ORD_APPLIED = s.rd .ORD_NEXT ∧ u.hist.getLast? = some ⟨s.rd .ORD_NEXT, kind, st, node, body⟩
    ∧ ∃ a, u.out.getLast? = some (.answer a) ∧ a.sess = m.sess ∧ a.seq = m.seq ∧ a.status = status ∧ a.order = s.rd .ORD_NEXT ∧ a.stamp = encodeStamp st

/-- What O22 says of a message that is refused. -/
def State.saysNo (s u : State) (m : Msg) (st : Status) (index : Nat) (fs : List Fld) : Prop :=
  u.out = (s.met m).out ++ [.answer { (s.met m).mkAnswer m st with index := index }] ∧ (s.met m).only (.TS_SEQ_TX :: fs) u ∧ u.hist = s.hist ∧ u.vOuts = s.vOuts
    ∧ u.mem = s.mem

section
variable {s : State} {m : Msg} {priv : Nat} (hwf : s.wf = true) (hfits : s.fits) (ho : s.orders m priv = true)

theorem orders_takes (ho : s.orders m priv = true) : s.takes m = true := by
  simp only [State.orders, Bool.and_eq_true] at ho
  obtain ⟨⟨⟨⟨⟨ht, -⟩, -⟩, -⟩, -⟩, -⟩ := ho
  exact ht

/-- Without a partner no acknowledgement is waited for (R27). -/
theorem orders_awaits (ho : s.orders m priv = true) : (s.met m).awaitsAck = false := by
  have hmet := met_sameBut (orders_takes ho)
  simp only [State.orders, Bool.and_eq_true, bne_iff_ne] at ho
  obtain ⟨-, hrole⟩ := ho
  rw [State.awaitsAck, State.hasPartner, hmet.rd (by decide +kernel), beq_eq_false_iff_ne.mpr hrole, Bool.false_and]

include hwf hfits ho in
theorem order_saysYes (kind : Nat) (st : Stamp) (node : Nat) (body : List Nat) (status : Status) (data : List Nat) :
    s.saysYes ((order kind st node body ((s.met m).accepted m st status data)).to (s.met m)) m kind node st body status.code := by
  have hs := State.wf_regs (met_wf hwf m)
  have hwait := orders_awaits ho
  have hnext := (met_sameBut (orders_takes ho)).rd (f := .ORD_NEXT) (by decide +kernel) 0 0
  have hlt : s.rd .ORD_NEXT < 2 ^ 48 := hfits .ORD_NEXT 0 0
  obtain ⟨b, hlast⟩ := order_answers kind st node body ((s.met m).accepted m st status data) hwait rfl
  refine ⟨?_, ?_, ?_, _, hlast, rfl, rfl, rfl, hnext, rfl⟩
  · rw [order_next _ _ _ _ _ hs, hnext]
  · rw [order_applied _ _ _ _ _ hs hwait, hnext, Nat.mod_eq_of_lt hlt]
  · rw [order_hist, hnext]

include ho in
/-- A refusal changes what an answer counts alone; `before` is what else is counted and reported with it. -/
theorem answerAt_saysNo {before : Act} {fs : List Fld} (hb : before.Touches (fs.map .reg ++ eventParts)) (st : Status) (index : Nat) (hfs : ∀ f ∈ fs, f ∈ [Fld.FAB_BLOCKED]) :
    s.saysNo ((answerAt m st index).to (before.to (s.met m))) m st index fs := by
  have hmet := met_sameBut (orders_takes ho)
  have hanswer : (answerAt m st index).Touches answerParts := touches_look fun _ => sendAnswer_touches _
  have hb' : before.Touches (.reg .FAB_BLOCKED :: eventParts) := hb.mono fun p hp => by
    rcases List.mem_append.mp hp with hp | hp
    · obtain ⟨f, hf, rfl⟩ := List.mem_map.mp hp
      rw [List.mem_singleton.mp (hfs f hf)]
      exact .head _
    · exact .tail _ hp
  have hnode : (before.to (s.met m)).activeNode = (s.met m).activeNode := by
    rw [State.activeNode, State.standAlone, State.node, State.qn, hb'.rd, hb'.rd, hb'.rd, hb'.rd, hb'.q]
    rfl
  refine ⟨?_, fun f i j hf hev => ?_, ?_, ?_, ?_⟩
  · simp only [answerAt, look_runs, sendAnswer_out, hb'.out, State.mkAnswer, hnode]
  · refine (hanswer.rd (f := f) _ (hf := fun hm => ?_) i j).trans (hb.rd (f := f) _ (hf := fun hm => ?_) i j)
    · simp only [answerParts, List.mem_cons, reduceCtorEq, Part.reg.injEq, false_or, List.not_mem_nil, or_false] at hm
      exact hf (hm ▸ .head _)
    · rcases List.mem_append.mp hm with hm | hm
      · exact hf (.tail _ (reg_mem_map.mp hm))
      · rcases List.mem_append.mp hm with hm | hm
        · exact hev (reg_mem_map.mp hm)
        · simp at hm
  · rw [hanswer.hist, hb'.hist]; exact hmet.part .hist (by decide +kernel)
  · exact ((hanswer.step _).part .vOuts (by decide +kernel)).trans (((hb'.step _).part .vOuts (by decide +kernel)).trans (hmet.part .vOuts (by decide +kernel)))
  · rw [hanswer.mem, hb'.mem]; exact hmet.part .mem (by decide +kernel)

include ho in
theorem answerAt_alone_saysNo (st : Status) (index : Nat) : s.saysNo ((answerAt m st index).to (s.met m)) m st index [] :=
  answerAt_saysNo (before := skip) ho touches_skip st index (by simp)

-- TAKE and SALVO ------------------------------------------------------------------------------------------------------------------------------

/-- What O22 says of a take or salvo. -/
def State.judged (s u : State) (m : Msg) (req : Stamp) (kind : Nat) (ds : List Dest) : Prop :=
  match (s.met m).judgeTakes kind req ds (some (s.rd .TS_CTRL_ID m.sess)) with
  | .accepted st body => s.saysYes u m kind 64 st body 0
  | .refused st i => s.saysNo u m st i []
  | .blocked _ i => s.saysNo u m .BLOCKED i [.FAB_BLOCKED] ∧ u.rd .FAB_BLOCKED = min (s.rd .FAB_BLOCKED + 1) 0xFFFFFFFF

include hwf hfits ho in
theorem takeMessage_judged (req : Stamp) (kind : Nat) (ds : List Dest) : s.judged ((takeMessage m kind req ds).to (s.met m)) m req kind ds := by
  have hmet := met_sameBut (orders_takes ho)
  have hctrl := hmet.rd (f := .TS_CTRL_ID) (by decide +kernel) m.sess 0
  simp only [State.judged, takeMessage, look_runs, hctrl]
  cases (s.met m).judgeTakes kind req ds (some (s.rd .TS_CTRL_ID m.sess)) with
  | accepted st body => exact order_saysYes hwf hfits ho ..
  | refused st i => exact answerAt_alone_saysNo ho st i
  | blocked out i =>
    dsimp only
    rw [all_cons_to, all_cons_to, all_nil_to]
    refine ⟨answerAt_saysNo ho ((pathBlocked_touches out).mono) .BLOCKED i (by simp), ?_⟩
    have hanswer : (answerAt m .BLOCKED i).Touches answerParts := touches_look fun _ => sendAnswer_touches _
    rw [hanswer.rd, pathBlocked, all_cons_to, all_cons_to, all_nil_to, raise_rd _ _ _ _ (by decide), count_to,
      State.rd_setReg_same _ (State.wf_regs (met_wf hwf m)) rfl, hmet.rd (by decide +kernel)]
    have hlt : s.rd .FAB_BLOCKED < 2 ^ 32 := hfits .FAB_BLOCKED 0 0
    exact Nat.mod_eq_of_lt (by simp only [show Fld.FAB_BLOCKED.desc.width = 32 from rfl]; omega)

end

end Sys2Proof.Machine
end

section
/-! SUPPORT. Each ordering message as one command, and O22. -/
set_option Elab.async false
namespace Sys2Proof.Machine

-- Destinations ----------------------------------------------------------------------------------------------------------------------------

theorem barOf_eq_none {ws : List Want} {f : Want → Option Status} (h : ∀ w ∈ ws, f w = none) : barOf ws f = none :=
  List.findSome?_eq_none_iff.mpr fun w hw => by rw [h w hw]; rfl

theorem dupBar_eq_none : ∀ {ws : List Want} {seen : List Nat}, (ws.map Want.dest).Nodup → (∀ w ∈ ws, w.dest ∉ seen) → dupBar ws seen = none
  | [], _, _, _ => rfl
  | w :: r, seen, hd, hs => by
    obtain ⟨hw, hr⟩ := List.nodup_cons.mp hd
    have hno : seen.contains w.dest = false := by simpa using hs w (.head _)
    rw [dupBar, hno, if_neg Bool.false_ne_true]
    refine dupBar_eq_none hr fun x hx hin => ?_
    rcases List.mem_cons.mp hin with h | h
    · exact hw (h ▸ List.mem_map_of_mem hx)
    · exact hs x (.tail _ hx) h

/-- The destinations of a LOCK message: each output at its position. -/
def lockWants (outs : List Nat) : List Want := (List.range outs.length).map fun i => ⟨i, outs.getD i 0, 0, true⟩

theorem lockWants_spores (outs : List Nat) (enc : Nat → Nat) :
    (lockWants outs).map (fun w => (w.pos, enc w.dest)) = (List.range outs.length).zip (outs.map enc) := by
  refine List.ext_getElem (by simp [lockWants]) fun i h _ => ?_
  have hi : i < outs.length := by simpa [lockWants] using h
  simp [lockWants, List.getD_eq_getElem?_getD, List.getElem?_eq_getElem hi]

theorem lockWants_dests (outs : List Nat) : (lockWants outs).map Want.dest = outs := by
  have h := congrArg (List.map Prod.snd) (lockWants_spores outs id)
  rwa [List.map_map, List.map_id, List.map_snd_zip (by simp)] at h

theorem lockWants_dest_mem {outs : List Nat} {w : Want} (hw : w ∈ lockWants outs) : w.dest ∈ outs :=
  lockWants_dests outs ▸ List.mem_map_of_mem hw

-- The commands ----------------------------------------------------------------------------------------------------------------------------

/-- A check of the length that holds leaves a message as it is. -/
theorem Msg.lenOk_and {m : Msg} (h : m.lenOk = true) {b : Bool} (hb : b = true) : { m with lenOk := m.lenOk && b } = m := by
  cases m
  subst hb
  simp only at h
  simp [h]

section
variable {s : State} {m : Msg} (hwf : s.wf = true) (hlen : m.lenOk = true)
include hwf hlen

theorem exec_take (ho : s.orders m 0 = true) (req : Stamp) (d : Dest) :
    exec (.take m req d) s = .next ((takeMessage m (if d.group then kSalvo else kTake) req [d]).to (s.met m)) :=
  (run_eq _ _).trans (congrArg _ (ordering_to hwf ho hlen _))

theorem exec_salvo (ho : s.orders m 0 = true) (req : Stamp) {ds : List Dest} (hpos : 0 < ds.length) (hmax : ds.length ≤ 4096) :
    exec (.salvo m req ds.length ds) s = .next ((takeMessage m kSalvo req ds).to (s.met m)) := by
  have hok : (ds.length != 0 && (decide (4096 < ds.length) || ds.length == ds.length)) = true := by simpa using List.ne_nil_of_length_pos hpos
  show run _ s = _
  rw [run_eq, Bool.and_assoc, Msg.lenOk_and hlen hok, if_neg (by omega), ordering_to hwf ho hlen]

theorem exec_lock (ho : s.orders m 0 = true) (req : Stamp) {mode : Nat} (hmode : mode < 3) (force : Bool) {outs : List Nat} (hpos : 0 < outs.length)
    (hmax : outs.length ≤ 4096) : exec (.lock m req mode force outs.length outs) s = .next ((lockMessage m req mode force outs).to (s.met m)) := by
  have hok : (outs.length != 0 && (decide (mode < 3) && (decide (4096 < outs.length) || outs.length == outs.length))) = true := by
    simpa [hmode] using List.ne_nil_of_length_pos hpos
  show run _ s = _
  rw [run_eq, Bool.and_assoc, Bool.and_assoc, Msg.lenOk_and hlen hok, if_neg (by omega), ordering_to hwf ho hlen]

theorem exec_realign (ho : s.orders m 0 = true) (req : Stamp) {mode : Nat} (hmode : mode < 2) :
    exec (.realign m req mode) s = .next ((realignMessage m req mode).to (s.met m)) := by
  show run _ s = _
  rw [run_eq, Msg.lenOk_and hlen (decide_eq_true hmode), ordering_to hwf ho hlen]

theorem exec_audioAction (ho : s.orders m 0 = true) (req : Stamp) (node : Nat) {es : List AudEntry} (hpos : 0 < es.length) :
    exec (.audioAction m req node (16 * es.length) es) s = .next ((audioMessage m req node es).to (s.met m)) := by
  have hbytes : (if 16 * es.length = 0 then 65536 else 16 * es.length) = 16 * es.length := if_neg (by omega)
  have hok : ((16 * es.length) % 16 != 0 || es.length == 16 * es.length / 16) = true := by simp
  show run _ s = _
  simp only [hbytes]
  rw [run_eq, Msg.lenOk_and hlen hok, if_neg (by omega), ordering_to hwf ho hlen]

theorem exec_write {addr : Nat} {data : List Nat} (ho : s.orders m (writePriv addr data) = true) (req : Stamp) (node : Nat) (haddr : addr ≠ amNodePort) :
    exec (.write m req node addr (4 * data.length) data) s = .next ((writeMessage m req node addr (4 * data.length) data).to (s.met m)) := by
  have hok : (data.length * 4 == 4 * data.length) = true := by simp [Nat.mul_comm]
  show execWrite _ _ _ _ _ _ s = _
  rw [execWrite, if_neg haddr, run_eq, Msg.lenOk_and hlen hok, ordering_to hwf ho hlen]

end

section
variable {s : State} {m : Msg} (hwf : s.wf = true) (hfits : s.fits)
include hwf hfits

/-- A LOCK on ports with room for it, of outputs that its controller may set, is ordered (R134, R135). -/
theorem lockMessage_saysYes (ho : s.orders m 0 = true) {req : Stamp} {mode : Nat} {force : Bool} {outs : List Nat} {st : Stamp} (hmax : outs.length ≤ 4096)
    (hports : ∀ o ∈ outs, (s.met m).hasPort o = true) (hres : (s.met m).resolve req false = .ok st) (hdup : outs.Nodup)
    (hroom : (s.met m).roomBar kLock st ((List.range outs.length).zip (outs.map fun o =>
      encodeLock o mode (if mode = 0 then 0 else s.rd .TS_CTRL_ID m.sess) force)) = none)
    (hhold : ∀ o ∈ outs, (s.met m).holdBar (s.rd .TS_CTRL_ID m.sess) force (bit (s.rd .TS_PRIV m.sess) 2) ⟨0, o, 0, true⟩ = none) :
    s.saysYes ((lockMessage m req mode force outs).to (s.met m)) m 3 64 st
      (outs.map fun o => encodeLock o mode (if mode = 0 then 0 else s.rd .TS_CTRL_ID m.sess) force) 0 := by
  have hmet := met_sameBut (orders_takes ho)
  have hctrl := hmet.rd (f := .TS_CTRL_ID) (by decide +kernel) m.sess 0
  have hpriv := hmet.rd (f := .TS_PRIV) (by decide +kernel) m.sess 0
  have hnames : barOf (lockWants outs) (fun w => if (s.met m).hasPort w.dest then none else some .NO_SUCH_OUTPUT) = none :=
    barOf_eq_none fun w hw => if_pos (hports _ (lockWants_dest_mem hw))
  have hdups : dupBar (lockWants outs) [] = none := dupBar_eq_none ((lockWants_dests outs).symm ▸ hdup) fun _ _ => List.not_mem_nil
  have hholds : barOf (lockWants outs) ((s.met m).holdBar (s.rd .TS_CTRL_ID m.sess) force (bit (s.rd .TS_PRIV m.sess) 2)) = none :=
    barOf_eq_none fun w hw => hhold _ (lockWants_dest_mem hw)
  have hsps := lockWants_spores outs fun o => encodeLock o mode (if mode = 0 then 0 else s.rd .TS_CTRL_ID m.sess) force
  have hto : (lockMessage m req mode force outs).to (s.met m)
      = (order kLock st 64 (outs.map fun o => encodeLock o mode (if mode = 0 then 0 else s.rd .TS_CTRL_ID m.sess) force)
          ((s.met m).accepted m st .ACCEPTED [])).to (s.met m) := by
    rw [lockMessage, look_runs]
    simp only [hctrl, hpriv]
    rw [if_neg (by omega), ← lockWants, hnames]
    simp only [hres, hdups, hsps, hroom, hholds]
    rw [List.map_snd_zip (by simp)]
  rw [hto]
  exact order_saysYes hwf hfits ho ..

/-- A REALIGN with a reference is ordered, unless it must slew more than a second (R302). -/
theorem realignMessage_judged (ho : s.orders m 0 = true) {req st : Stamp} {mode : Nat} (hres : (s.met m).resolve req false = .ok st)
    (href : s.rd .REF_STATE = 1 ∨ s.rd .REF_STATE = 2) {d : Int}
    (hd : (s.met m).offsetAt (if st.imm then (s.met m).house else ((s.met m).execFrame st st.dom).2.1) = d) :
    if mode = 0 ∧ psS < d.natAbs then s.saysNo ((realignMessage m req mode).to (s.met m)) m .REALIGN_RANGE 0 []
    else (s.met m).capacity ((s.met m).schedOf ⟨s.rd .ORD_NEXT, kRealign, st, 64, encodeRealign mode d⟩) = none →
      s.saysYes ((realignMessage m req mode).to (s.met m)) m 6 64 st (encodeRealign mode d) 0 := by
  have hmet := met_sameBut (orders_takes ho)
  have href' := hmet.rd (f := .REF_STATE) (by decide +kernel) 0 0
  have hnext := hmet.rd (f := .ORD_NEXT) (by decide +kernel) 0 0
  have hlocked : ¬ (s.rd .REF_STATE ≠ 1 ∧ s.rd .REF_STATE ≠ 2) := by omega
  simp only [realignMessage, look_runs, hres, href', hnext, hd, if_neg hlocked]
  by_cases hfar : mode = 0 ∧ psS < d.natAbs
  · simp only [if_pos hfar]
    exact answerAt_alone_saysNo ho .REALIGN_RANGE 0
  · simp only [if_neg hfar]
    intro hcap
    rw [hcap]
    exact order_saysYes hwf hfits ho ..

/-- An audio action is ordered or refused as it is judged (R222). -/
theorem audioMessage_judged (ho : s.orders m 0 = true) {req : Stamp} {node : Nat} {es : List AudEntry} (hnode : (s.met m).populated.contains node = true) :
    match (s.met m).judgeAudio req (es.map decodeWant) with
    | .ok (st, body) => s.saysYes ((audioMessage m req node es).to (s.met m)) m 4 64 st body (if (es.map decodeWant).any AWant.clamped then 1 else 0)
    | .error (st, k) => st ≠ .NODES_FULL → s.saysNo ((audioMessage m req node es).to (s.met m)) m st k [] := by
  simp only [audioMessage, look_runs, hnode, Bool.not_true, Bool.false_eq_true, if_false]
  cases (s.met m).judgeAudio req (es.map decodeWant) with
  | error e =>
    intro hst
    simp only [beq_eq_false_iff_ne.mpr hst]
    rw [all_cons_to, all_cons_to, all_nil_to, iff_to, if_neg Bool.false_ne_true]
    exact answerAt_alone_saysNo ho _ _
  | ok x =>
    have h := order_saysYes hwf hfits ho kAudio x.1 64 x.2 (if (es.map decodeWant).any AWant.clamped then .CLAMPED else .ACCEPTED)
      (if (es.map decodeWant).any AWant.clamped then es.flatMap storedEntry else [])
    rwa [apply_ite Status.code] at h

/-- A WRITE of fields that take their values is ordered, where the model has room for it (R386). -/
theorem writeMessage_saysYes {addr : Nat} {data : List Nat} (ho : s.orders m (writePriv addr data) = true) {req st : Stamp} {node : Nat} {ws : List FieldWrite}
    {clamped : Bool} (hnode : (s.met m).populated.contains node = true) (hrange : badRange addr (4 * data.length) = none)
    (hres : (s.met m).resolve req ((covered addr data).any fun x => pulseFields.contains x.fld) = .ok st)
    (hjudge : judgeWrite ((s.met m).viewOf node st.dom) (idleIn ((s.met m).roleOf node)) ((s.met m).orderedBar node) addr data = .ok (ws, clamped))
    (hremap : (ws.any fun x => x.fld == .SYS_REMAP) = false)
    (hcap : (s.met m).capacity ((s.met m).schedOf ⟨s.rd .ORD_NEXT, kWrite, st, node, encodeWrite addr data⟩) = none) :
    s.saysYes ((writeMessage m req node addr (4 * data.length) data).to (s.met m)) m 5 node st (encodeWrite addr data) (if clamped then 1 else 0) := by
  have hnext := (met_sameBut (orders_takes ho)).rd (f := .ORD_NEXT) (by decide +kernel) 0 0
  have h := order_saysYes hwf hfits ho kWrite st node (encodeWrite addr data) (if clamped then .CLAMPED else .ACCEPTED)
    (if clamped then storedWords addr data ws else [])
  rw [apply_ite Status.code] at h
  simp only [writeMessage, look_runs, hnode, hrange, hres, hjudge, hremap, hnext, hcap, Bool.not_true, Bool.false_eq_true, if_false]
  exact h

end

/-- Settles O22: a message that is taken is acted on in the state it leaves (`ordering_to`), where what judges it says which of the two endings
follows: it is ordered (`order_saysYes`) or answered (`answerAt_saysNo`). -/
theorem orderingMessagesAreJudgedAndOrdered : Obligations.OrderingMessagesAreJudgedAndOrdered := by
  intro s m req hwf hfits hlen
  refine ⟨fun ho => ⟨fun d => ?_, fun ds hpos hmax => ?_, fun mode force outs st hmode hpos hmax hports hres hdup hroom hhold => ?_,
    fun mode st hmode hres href => ?_, fun node es hpos _ hnode => ?_⟩, fun node addr data st ws clamped haddr ho _ hnode hrange hres hjudge hremap hcap => ?_⟩
  · exact ⟨_, exec_take hwf hlen ho req d, takeMessage_judged hwf hfits ho req _ [d]⟩
  · exact ⟨_, exec_salvo hwf hlen ho req hpos hmax, takeMessage_judged hwf hfits ho req _ ds⟩
  · exact ⟨_, exec_lock hwf hlen ho req hmode force hpos hmax, lockMessage_saysYes hwf hfits ho hmax hports hres hdup hroom hhold⟩
  · exact ⟨_, exec_realign hwf hlen ho req hmode, realignMessage_judged hwf hfits ho hres href rfl⟩
  · exact ⟨_, exec_audioAction hwf hlen ho req node hpos, audioMessage_judged hwf hfits ho hnode⟩
  · exact ⟨_, exec_write hwf hlen ho req node haddr, writeMessage_saysYes hwf hfits ho hnode hrange hres hjudge hremap hcap⟩

end Sys2Proof.Machine
end

section
/-! SUPPORT. Power-good and the reset input (R435, R437, R494): what a start and a fall of power-good keep and clear, and O60. -/
set_option Elab.async false
namespace Sys2Proof.Machine

-- The return to reset (R437) ----------------------------------------------------------------------------------------------------------------

/-- Writing fields of copy (0, 0) in turn leaves the others alone. -/
theorem rd_fold_other {f : Fld} (g : Fld → Nat) : ∀ {fs : List Fld} (r : State), f ∉ fs → ∀ i j, (fs.foldl (fun r f => r.setReg f 0 0 (g f)) r).rd f i j = r.rd f i j
  | [], _, _, _, _ => rfl
  | _ :: _, r, hf, i, j => by
    rw [List.foldl_cons, rd_fold_other g _ fun h => hf (.tail _ h)]
    exact State.rd_setReg_other r _ (.inl fun h => hf (h ▸ .head _))

theorem rd_fold_same {f : Fld} (g : Fld → Nat) (h0 : f.has 0 0 = true) :
    ∀ {fs : List Fld} {r : State}, SMap.sorted r.regs = true → f ∈ fs → (fs.foldl (fun r f => r.setReg f 0 0 (g f)) r).rd f = g f % 2 ^ f.desc.width
  | [], _, _, hf => absurd hf List.not_mem_nil
  | x :: fs, _, hr, hf => by
    rw [List.foldl_cons]
    by_cases hin : f ∈ fs
    · exact rd_fold_same g h0 (State.setReg_sorted _ _ _ _ hr) hin
    · rw [rd_fold_other g _ hin]
      obtain rfl : f = x := (List.mem_cons.mp hf).resolve_right hin
      exact State.rd_setReg_same _ hr h0

theorem State.fresh_rd_kept {s : State} {f : Fld} (hv : s.rd f < 2 ^ f.desc.width) (hf : f ∈ keptFields) (h0 : f.has 0 0 = true) : s.fresh.rd f = s.rd f :=
  (rd_fold_same s.rd h0 rfl hf).trans (Nat.mod_eq_of_lt hv)

theorem State.fresh_rd_other (s : State) {f : Fld} (hf : f ∉ keptFields) (i j : Nat) : s.fresh.rd f i j = State.reset.rd f i j := rd_fold_other s.rd _ hf i j

/-- Each quantity put reads what was put, and the others as before. -/
theorem each_put_q (g : Qty → Int) (x : Qty) : ∀ {xs : List Qty} {s : State}, SMap.sorted s.qty = true →
    ((each xs fun x => put x (g x)).to s).q x = if x ∈ xs then g x else s.q x
  | [], _, _ => rfl
  | y :: xs, s, hs => by
    rw [each_cons_to, put_to, each_put_q g x (State.setQ_sorted _ _ _ _ hs)]
    by_cases hxy : x = y
    · subst hxy
      rw [State.q_setQ_same _ hs (by decide) (by decide)]
      simp only [List.mem_cons, true_or, if_true, ite_self]
    · rw [State.q_setQ_other _ _ (by decide) (by decide) (.inl hxy)]
      simp only [List.mem_cons, hxy, false_or]

theorem each_put_rd (g : Qty → Int) (xs : List Qty) (s : State) (f : Fld) (i j : Nat) : ((each xs fun x => put x (g x)).to s).rd f i j = s.rd f i j :=
  each_put_get (·.rd f i j) (fun _ _ _ _ _ => State.rd_setQ ..) g xs s

theorem restartAll_to (s : State) :
    restartAll.to s = (set .PW_VIN_OK (b2n (s.q .vinOk == 1))).to ((put .refAcc s.now).to ((each heldThrough fun x => put x (s.q x)).to s.fresh)) := by
  rw [restartAll, look_runs, all_cons_to, all_cons_to, all_cons_to, all_cons_to, all_nil_to, one_to, State.app_restart]

theorem restartAll_get {α : Type} (get : State → α) (hr : ∀ s f i j v, get (State.setReg s f i j v) = get s) (hq : ∀ s x i j v, get (State.setQ s x i j v) = get s)
    (s : State) : get (restartAll.to s) = get s.fresh := by
  rw [restartAll_to, set_to, hr, put_to, hq, each_put_get get hq]

theorem restartAll_q_held (s : State) {x : Qty} (hx : x ∈ heldThrough) : (restartAll.to s).q x = s.q x := by
  have hne : x ≠ Qty.refAcc := by rintro rfl; exact absurd hx (by decide)
  rw [restartAll_to, set_to, State.q_setReg, put_to, State.q_setQ_other _ _ (by decide) (by decide) (.inl hne),
    each_put_q _ _ (s.fresh_qty.symm ▸ rfl), if_pos hx]

theorem restartAll_rd_other (s : State) {f : Fld} (hf : f ≠ .PW_VIN_OK) (i j : Nat) : (restartAll.to s).rd f i j = s.fresh.rd f i j := by
  rw [restartAll_to, set_to, State.rd_setReg_other _ _ (.inl hf), put_to, State.rd_setQ, each_put_rd]

-- What survives -----------------------------------------------------------------------------------------------------------------------------

/-- The fuses, the NVM, the clamp report and what waits stand as they did (R437). -/
structure State.Survives (s u : State) : Prop where
  owners : u.owners = s.owners
  nvm : u.nvm = s.nvm
  clampReport : u.clampReport = s.clampReport
  pending : u.pending = s.pending

theorem State.Survives.trans {s u v : State} (h : s.Survives u) (h' : u.Survives v) : s.Survives v :=
  ⟨h'.owners.trans h.owners, h'.nvm.trans h.nvm, h'.clampReport.trans h.clampReport, h'.pending.trans h.pending⟩

theorem State.SameBut.survives {ps : List Part} {s u : State} (h : State.SameBut ps s u) (hp : .owners ∉ ps ∧ .nvm ∉ ps ∧ .clampReport ∉ ps := by decide +kernel) :
    s.Survives u :=
  ⟨h.part .owners hp.1, h.part .nvm hp.2.1, h.part .clampReport hp.2.2, h.pending⟩

theorem State.fresh_survives (s : State) : s.Survives s.fresh := ⟨s.fresh_owners, s.fresh_nvm, s.fresh_clampReport, s.fresh_pending⟩

theorem restartAll_survives (s : State) : s.Survives (restartAll.to s) := by
  obtain ⟨ho, hn, hc, hp⟩ := s.fresh_survives
  exact ⟨(restartAll_get State.owners (fun _ _ _ _ _ => State.setReg_owners ..) (fun _ _ _ _ _ => State.setQ_owners ..) s).trans ho,
    (restartAll_get State.nvm (fun _ _ _ _ _ => State.setReg_nvm ..) (fun _ _ _ _ _ => State.setQ_nvm ..) s).trans hn,
    (restartAll_get State.clampReport (fun _ _ _ _ _ => State.setReg_clampReport ..) (fun _ _ _ _ _ => State.setQ_clampReport ..) s).trans hc,
    (restartAll_get State.pending (fun _ _ _ _ _ => State.setReg_pending ..) (fun _ _ _ _ _ => State.setQ_pending ..) s).trans hp⟩

/-- Nothing that was loaded stands: no configuration, no session, no byte of memory (R437). -/
structure State.Unloaded (u : State) : Prop where
  cfg : u.cfg = none
  sessions : u.sessions = []
  mem : u.mem = []

theorem restartAll_unloaded (s : State) : (restartAll.to s).Unloaded :=
  ⟨(restartAll_get State.cfg (fun _ _ _ _ _ => State.setReg_cfg ..) (fun _ _ _ _ _ => State.setQ_cfg ..) s).trans s.fresh_cfg,
    (restartAll_get State.sessions (fun _ _ _ _ _ => State.setReg_sessions ..) (fun _ _ _ _ _ => State.setQ_sessions ..) s).trans s.fresh_sessions,
    (restartAll_get State.mem (fun _ _ _ _ _ => State.setReg_mem ..) (fun _ _ _ _ _ => State.setQ_mem ..) s).trans s.fresh_mem⟩

theorem State.SameBut.unloaded {ps : List Part} {s u : State} (h : State.SameBut ps s u) (hs : s.Unloaded)
    (hp : .cfg ∉ ps ∧ .sessions ∉ ps ∧ .mem ∉ ps := by decide +kernel) : u.Unloaded :=
  ⟨(h.part .cfg hp.1).trans hs.cfg, (h.part .sessions hp.2.1).trans hs.sessions, (h.part .mem hp.2.2).trans hs.mem⟩

-- A start, and the fall of power-good -------------------------------------------------------------------------------------------------------

/-- What a start does after the return to reset. -/
def startParts : List Part := [.qty .powerGood, .reg .SU_STATE, .reg .SYS_NODE]

theorem beginStart_sameBut (s : State) : State.SameBut startParts (restartAll.to s) (beginStart.to s) := by
  have h : Act.Touches startParts (all [put .powerGood 1, set .SU_STATE 0, look fun s => set .SYS_NODE (s.qn .pinNid)]) :=
    touches_all ⟨touches_put, touches_set, touches_look fun _ => touches_set⟩
  rw [beginStart, all_cons_to]
  exact h.step _

theorem beginStart_survives (s : State) : s.Survives (beginStart.to s) := (restartAll_survives s).trans (beginStart_sameBut s).survives

theorem beginStart_unloaded (s : State) : (beginStart.to s).Unloaded := (beginStart_sameBut s).unloaded (restartAll_unloaded s)

theorem beginStart_q_held (s : State) {x : Qty} (hx : x ∈ heldThrough) (hp : .qty x ∉ startParts := by decide +kernel) : (beginStart.to s).q x = s.q x :=
  ((beginStart_sameBut s).q hp (by decide) (by decide)).trans (restartAll_q_held s hx)

/-- SYS_NODE holds what the straps read (R435). -/
theorem beginStart_node {s : State} (hs : SMap.sorted s.regs = true) : (beginStart.to s).rd .SYS_NODE = s.qn .pinNid % 64 := by
  have hpin : (restartAll.to s).q .pinNid = s.q .pinNid := restartAll_q_held s (by decide)
  have hs' : SMap.sorted (restartAll.to s).regs = true := Act.to_regs_sorted _ hs
  rw [beginStart, all_cons_to, all_cons_to, all_cons_to, all_cons_to, all_nil_to, look_runs]
  generalize restartAll.to s = r at hpin hs'
  have hr : SMap.sorted ((set .SU_STATE 0).to ((put .powerGood 1).to r)).regs = true := Act.to_regs_sorted _ (Act.to_regs_sorted _ hs')
  rw [set_to, State.rd_setReg_same _ hr (by decide), set_to, State.qn, State.q_setReg, put_to, State.q_setQ_other _ _ (by decide) (by decide) (.inl (by decide)), hpin]
  rfl

/-- While power-good has fallen the module is in POWER_UP, with nothing loaded, and the kept counters stand (R437, R494). -/
theorem powerLost_to {s : State} (hs : SMap.sorted s.qty = true) :
    (powerLost.to s).q .powerGood = 0 ∧ (powerLost.to s).rd .SU_STATE = 0 ∧ (powerLost.to s).Unloaded ∧ s.Survives (powerLost.to s) := by
  have hput : Act.Touches [.qty .powerGood] (put .powerGood 0) := touches_put
  have hstate : (restartAll.to s).rd .SU_STATE = 0 := (restartAll_rd_other s (by decide) 0 0).trans ((s.fresh_rd_other (by decide) 0 0).trans (by decide +kernel))
  have hsurv := restartAll_survives s
  have hun := restartAll_unloaded s
  have hs' := Act.to_qty_sorted restartAll hs
  rw [powerLost, all_cons_to, all_cons_to, all_nil_to]
  generalize restartAll.to s = r at hstate hsurv hun hs'
  exact ⟨State.q_setQ_same 0 hs' (by decide) (by decide), (hput.rd r).trans hstate, (hput.step r).unloaded hun, hsurv.trans (hput.step r).survives⟩

theorem powerLost_losses {s : State} (hv : s.rd .PW_PG_LOSSES < 2 ^ Fld.PW_PG_LOSSES.desc.width) : (powerLost.to s).rd .PW_PG_LOSSES = s.rd .PW_PG_LOSSES := by
  have hput : Act.Touches [.qty .powerGood] (put .powerGood 0) := touches_put
  have hkept := (restartAll_rd_other s (f := .PW_PG_LOSSES) (by decide) 0 0).trans (State.fresh_rd_kept hv (by decide) (by decide))
  rw [powerLost, all_cons_to, all_cons_to, all_nil_to]
  generalize restartAll.to s = r at hkept
  exact (hput.rd r).trans hkept

end Sys2Proof.Machine
end

section
/-! SUPPORT. O60: the edges of power-good and of RST_N, each a start or the fall of what stood before it. -/
set_option Elab.async false
namespace Sys2Proof.Machine

-- VIN and the lands (R493, R494) ------------------------------------------------------------------------------------------------------------

def vinParts : List Part := [.qty .vinOk, .reg .PW_VIN_OK, .qty .vinLowAt, .qty .vinHighAt, .qty .pwStatus] ++ eventParts

theorem pmLatch_touches : pmLatch.Touches [.qty .pwStatus] := touches_look fun _ => touches_put

theorem raisePerSecond_touches {ps : List Part} {e : Ev} {last : Qty} {i p : Nat} (hl : .qty last ∈ ps) (he : ∀ q ∈ eventParts, q ∈ ps := by decide +kernel) :
    (raisePerSecond e last i p).Touches ps :=
  touches_look fun _ => touches_ite (fun _ => touches_all ⟨touches_put hl, touches_raise he⟩) fun _ => touches_skip

theorem vinMoves_touches (v : Nat) : (vinMoves v).Touches vinParts :=
  touches_look fun _ => touches_all ⟨touches_put, touches_set, touches_iff fun _ => raisePerSecond_touches (by decide +kernel),
    touches_iff fun _ => raisePerSecond_touches (by decide +kernel), pmLatch_touches.mono⟩

/-- What clears when VIN rises above the lockout (R506), `first` from below it. -/
def vinRises (first : Bool) (vin : Nat) : Act :=
  iff (decide (3400 ≤ vin)) (all [put .vinUp 1,
    iff first (all [set .PW_TRIPS 0, set .PW_PG_LOSSES 0, put .tripped 0, put .vinOk 0, put .pwStatus 0, put .pwComm 0])])

def vinClears : List Part := [.reg .PW_TRIPS, .reg .PW_PG_LOSSES, .qty .tripped, .qty .vinOk, .qty .pwStatus, .qty .pwComm]

theorem vinClears_touches : (all [set .PW_TRIPS 0, set .PW_PG_LOSSES 0, put .tripped 0, put .vinOk 0, put .pwStatus 0, put .pwComm 0]).Touches vinClears :=
  touches_all ⟨touches_set, touches_set, touches_put, touches_put, touches_put, touches_put⟩

theorem vinRises_touches (first : Bool) (vin : Nat) : (vinRises first vin).Touches (.qty .vinUp :: vinClears) :=
  touches_iff fun _ => touches_all ⟨touches_put, touches_iff fun _ => vinClears_touches.mono⟩

/-- VIN stands above the lockout once it has risen to 34.0 V, or when it stood there. -/
theorem vinRises_vinUp {s : State} (hs : SMap.sorted s.qty = true) {first : Bool} {vin : Nat} (h : vin < 3400 → s.q .vinUp = 1) :
    ((vinRises first vin).to s).q .vinUp = 1 := by
  rw [vinRises, iff_to]
  split
  case isTrue =>
    have hclear : (iff first (all [set .PW_TRIPS 0, set .PW_PG_LOSSES 0, put .tripped 0, put .vinOk 0, put .pwStatus 0, put .pwComm 0])).Touches vinClears :=
      touches_iff fun _ => vinClears_touches
    rw [all_cons_to, all_cons_to, all_nil_to, hclear.q, put_to, State.q_setQ_same _ hs (by decide) (by decide)]
  case isFalse hv => exact h (by simpa using hv)

/-- A thermal trip ends when VIN rises from below the lockout (R496). -/
theorem vinRises_tripped {s : State} (hs : SMap.sorted s.qty = true) {first : Bool} {vin : Nat} (hup : first = true → 3400 ≤ vin)
    (h : first = false → s.q .tripped ≠ 1) : ((vinRises first vin).to s).q .tripped ≠ 1 := by
  have hput : Act.Touches [.qty .vinUp] (put .vinUp 1) := touches_put
  cases first with
  | false =>
    rw [vinRises, iff_to, all_cons_to, all_cons_to, all_nil_to, iff_to, if_neg Bool.false_ne_true]
    split
    · exact ((hput.q (x := .tripped) s).trans_ne (h rfl))
    · exact h rfl
  | true =>
    have hlast : Act.Touches [.qty .vinOk, .qty .pwStatus, .qty .pwComm] (all [put .vinOk 0, put .pwStatus 0, put .pwComm 0]) :=
      touches_all ⟨touches_put, touches_put, touches_put⟩
    have hto (r : State) (hr : SMap.sorted r.qty = true) : ((all [put .vinOk 0, put .pwStatus 0, put .pwComm 0]).to ((put .tripped 0).to r)).q .tripped = 0 :=
      (hlast.q _).trans (State.q_setQ_same 0 hr (by decide) (by decide))
    rw [vinRises, iff_to, if_pos (decide_eq_true (hup rfl)), all_cons_to, all_cons_to, all_nil_to, iff_to, if_pos rfl, all_cons_to, all_cons_to, all_cons_to]
    rw [hto _ (Act.to_qty_sorted _ (Act.to_qty_sorted _ (Act.to_qty_sorted _ hs)))]
    decide

-- POWER_GOOD_RISE ---------------------------------------------------------------------------------------------------------------------------

/-- What the lands show at POWER_GOOD_RISE, before it is judged. -/
def pinsSeen (pins : PowerPins) (first : Bool) (rails : Nat) : Act := all [put .pinNid (pins.nid % 64 : Nat), skip, vinRises first pins.vin, put .railsOk rails]

theorem pinsSeen_touches (pins : PowerPins) (first : Bool) (rails : Nat) : (pinsSeen pins first rails).Touches (.qty .pinNid :: .qty .railsOk :: .qty .vinUp :: vinClears) :=
  touches_all ⟨touches_put, touches_skip, (vinRises_touches first pins.vin).mono, touches_put⟩

theorem pinsSeen_q {s : State} (hs : SMap.sorted s.qty = true) (pins : PowerPins) (first : Bool) (rails : Nat) :
    ((pinsSeen pins first rails).to s).q .pinNid = (pins.nid % 64 : Nat) ∧
    ((pins.vin < 3400 → s.q .vinUp = 1) → ((pinsSeen pins first rails).to s).q .vinUp = 1) ∧
    ((first = true → 3400 ≤ pins.vin) → (first = false → s.q .tripped ≠ 1) → ((pinsSeen pins first rails).to s).q .tripped ≠ 1) := by
  have hnid : Act.Touches [.qty .pinNid] (put .pinNid (pins.nid % 64 : Nat)) := touches_put
  have hrails : Act.Touches [.qty .railsOk] (put .railsOk rails) := touches_put
  have hs' := Act.to_qty_sorted (put .pinNid (pins.nid % 64 : Nat)) hs
  have hpin : ((put .pinNid (pins.nid % 64 : Nat)).to s).q .pinNid = (pins.nid % 64 : Nat) := State.q_setQ_same _ hs (by decide) (by decide)
  rw [pinsSeen, all_cons_to, all_cons_to, all_cons_to, all_cons_to, all_nil_to, skip_to, hrails.q, hrails.q, hrails.q]
  refine ⟨((vinRises_touches first pins.vin).q _).trans hpin, fun h => vinRises_vinUp hs' ?_, fun hup h => vinRises_tripped hs' hup ?_⟩
  · rwa [hnid.q]
  · rwa [hnid.q]

/-- With every condition of R494 met, a start begins and VIN is looked at (R494, R495). -/
theorem exec_powerGoodRise {s : State} (hs : SMap.sorted s.qty = true) (t : Nat) {pins : PowerPins} (hnvm : pins.nvm = none) (hgood : s.q .powerGood = 0)
    (htrip : s.q .vinUp ≠ 0 → s.q .tripped ≠ 1) (hvin : s.q .vinUp = 0 → 3400 ≤ pins.vin)
    (hpins : pinsGood pins (decide (s.q .vinUp = 0)) (s.q .railsOk == 2) = true) :
    ∃ rails, exec (.powerGoodRise t pins) s = .next ((vinMoves pins.vin).to (beginStart.to ((pinsSeen pins (decide (s.q .vinUp = 0)) rails).to (s.since t)))) := by
  let rails := if vinOver (s.q .railsOk == 2) pins.vin then 2 else if !pins.railsOk then 3 else if !pins.loOk then 4 else 0
  obtain ⟨-, -, htripped⟩ := pinsSeen_q (s := s.since t) hs pins (decide (s.q .vinUp = 0)) rails
  have hgood' : ((pinsSeen pins (decide (s.q .vinUp = 0)) rails).to (s.since t)).q .powerGood = 0 := ((pinsSeen_touches ..).q _).trans hgood
  have hnot := htripped (fun h => hvin (of_decide_eq_true h)) fun h => htrip (of_decide_eq_false h)
  refine ⟨rails, ?_⟩
  show run (all [at_ t, look fun s => all ([_, match pins.nvm with | some x => one (.nvm x) | none => skip, _, _] ++ [_])]) s = _
  rw [run_eq, all_cons_to, all_cons_to, all_nil_to, at_to_since, look_runs, all_concat_to, hnvm]
  show Host.Outcome.next ((look _).to ((pinsSeen pins (decide (s.q .vinUp = 0)) rails).to (s.since t))) = _
  generalize (pinsSeen pins (decide (s.q .vinUp = 0)) rails).to (s.since t) = r at hgood' hnot
  have hcond : (r.q .powerGood == 0 && r.q .tripped != 1 && pinsGood pins (decide (s.q .vinUp = 0)) (s.q .railsOk == 2)) = true := by
    rw [hgood', hpins, bne_iff_ne.mpr hnot]
    rfl
  rw [look_runs]
  show Host.Outcome.next ((iff (r.q .powerGood == 0 && r.q .tripped != 1 && pinsGood pins (decide (s.q .vinUp = 0)) (s.q .railsOk == 2)) _).to r) = _
  rw [iff_to, if_pos hcond, all_cons_to, all_cons_to, all_nil_to]

/-- POWER_GOOD_RISE with every condition of R494 met begins a start (R435, R437). -/
theorem powerGoodRise_begins {s : State} (hwf : s.wf = true) (t : Nat) {pins : PowerPins} (hnvm : pins.nvm = none) (hgood : s.q .powerGood = 0)
    (hup : s.q .vinUp = 0 ∨ s.q .vinUp = 1) (htrip : s.q .vinUp = 1 → s.q .tripped ≠ 1) (hvin : (if s.q .vinUp = 0 then 3400 else 3200) ≤ pins.vin)
    (hpins : pinsGood pins (decide (s.q .vinUp = 0)) (s.q .railsOk == 2) = true) :
    ∃ u, exec (.powerGoodRise t pins) s = .next u ∧ u.q .powerGood = 1 ∧ u.rd .SU_STATE = 0 ∧ u.rd .SYS_NODE = pins.nid % 64 ∧ u.q .vinUp = 1 ∧ u.mem = []
      ∧ s.Survives u := by
  have hs : SMap.sorted (s.since t).qty = true := State.wf_qty hwf
  have hfirst : s.q .vinUp = 0 → 3400 ≤ pins.vin := fun h => by rwa [if_pos h] at hvin
  have hlow : pins.vin < 3400 → (s.since t).q .vinUp = 1 := fun h => hup.resolve_left fun h0 => by have := hfirst h0; omega
  obtain ⟨rails, hexec⟩ := exec_powerGoodRise (State.wf_qty hwf) t hnvm hgood (fun h => htrip (hup.resolve_left h)) hfirst hpins
  obtain ⟨hpin, hvinUp, -⟩ := pinsSeen_q hs pins (decide (s.q .vinUp = 0)) rails
  have hseen := (pinsSeen_touches pins (decide (s.q .vinUp = 0)) rails).step (s.since t)
  have hregs : SMap.sorted ((pinsSeen pins (decide (s.q .vinUp = 0)) rails).to (s.since t)).regs = true := Act.to_regs_sorted _ (State.wf_regs hwf)
  have hqty := Act.to_qty_sorted (pinsSeen pins (decide (s.q .vinUp = 0)) rails) hs
  have hsurv : s.Survives ((pinsSeen pins (decide (s.q .vinUp = 0)) rails).to (s.since t)) := by
    obtain ⟨ho, hn, hc, hp⟩ := hseen.survives
    exact ⟨ho, hn, hc, hp⟩
  refine ⟨_, hexec, ?_⟩
  generalize (pinsSeen pins (decide (s.q .vinUp = 0)) rails).to (s.since t) = r at *
  have hmoves := (vinMoves_touches pins.vin).step (beginStart.to r)
  refine ⟨(hmoves.q (by decide +kernel) (by decide) (by decide)).trans (beginStart_powerGood hqty), (hmoves.rd (by decide +kernel) 0 0).trans (beginStart_state hregs), ?_,
    (hmoves.q (by decide +kernel) (by decide) (by decide)).trans ((beginStart_q_held r (by decide)).trans (hvinUp hlow)),
    (hmoves.part .mem (by decide +kernel)).trans (beginStart_unloaded r).mem, hsurv.trans ((beginStart_survives r).trans hmoves.survives)⟩
  rw [hmoves.rd (by decide +kernel), beginStart_node hregs, State.qn, hpin]
  omega

-- POWER_GOOD_FALL and RST_N_RELEASE -----------------------------------------------------------------------------------------------------------

/-- What is counted and shown of a loss of power-good, before it falls (R494, R506). -/
def lossShown (why : PgLoss) : Act :=
  match why with
  | .lockout => all [put .vinUp 0, put .railsOk 1]
  | .overvoltage => all [count .PW_PG_LOSSES, put .railsOk 2, pmLatch]
  | .rail => all [count .PW_PG_LOSSES, put .railsOk 3, pmLatch]
  | .oscillator => all [count .PW_PG_LOSSES, put .railsOk 4, pmLatch]

def lossParts : List Part := [.reg .PW_PG_LOSSES, .qty .vinUp, .qty .railsOk, .qty .pwStatus]

theorem lossShown_touches (why : PgLoss) : (lossShown why).Touches lossParts :=
  match why with
  | .lockout => touches_all ⟨touches_put, touches_put⟩
  | .overvoltage => touches_all ⟨touches_count, touches_put, pmLatch_touches.mono⟩
  | .rail => touches_all ⟨touches_count, touches_put, pmLatch_touches.mono⟩
  | .oscillator => touches_all ⟨touches_count, touches_put, pmLatch_touches.mono⟩

/-- A loss counts, unless VIN fell to the lockout (R506). -/
theorem lossShown_losses {s : State} (hwf : s.wf = true) (hfits : s.fits) (why : PgLoss) :
    ((lossShown why).to s).rd .PW_PG_LOSSES = if why = .lockout then s.rd .PW_PG_LOSSES else min (s.rd .PW_PG_LOSSES + 1) 0xFFFFFFFF := by
  have hcount (n : Nat) : ((all [count .PW_PG_LOSSES, put .railsOk n, pmLatch]).to s).rd .PW_PG_LOSSES = min (s.rd .PW_PG_LOSSES + 1) 0xFFFFFFFF := by
    have hrails : Act.Touches [.qty .railsOk] (put .railsOk n) := touches_put
    have hlt : s.rd .PW_PG_LOSSES < 2 ^ 32 := hfits .PW_PG_LOSSES 0 0
    rw [all_cons_to, all_cons_to, all_cons_to, all_nil_to, pmLatch_touches.rd, hrails.rd, count_to, State.rd_setReg_same _ (State.wf_regs hwf) (by decide)]
    exact Nat.mod_eq_of_lt (by simp only [show Fld.PW_PG_LOSSES.desc.width = 32 from rfl]; omega)
  cases why with
  | lockout =>
    have hshown : Act.Touches [.qty .vinUp, .qty .railsOk] (all [put .vinUp 0, put .railsOk 1]) := touches_all ⟨touches_put, touches_put⟩
    exact hshown.rd s
  | overvoltage => exact hcount 2
  | rail => exact hcount 3
  | oscillator => exact hcount 4

theorem exec_powerGoodFall {s : State} (t : Nat) (why : PgLoss) (hgood : s.q .powerGood = 1) (hup : s.q .vinUp = 1) :
    exec (.powerGoodFall t why) s = .next (powerLost.to ((lossShown why).to (s.since t))) := by
  have hgood' : ((s.since t).q .powerGood == 1) = true := beq_iff_eq.mpr hgood
  have hup' : ((s.since t).q .vinUp == 1) = true := beq_iff_eq.mpr hup
  show run _ s = _
  rw [run_eq, all_cons_to, all_cons_to, all_nil_to, at_to_since, look_runs]
  simp only [hgood']
  rw [iff_to, if_pos hup']
  cases why <;> simp only [lossShown, all_cons_to, all_nil_to, iff_to, if_true, Nat.cast_ofNat]

theorem exec_rstNRelease {s : State} (t : Nat) {low : Nat} (hgood : s.q .powerGood = 1) (hlow : 10000000 ≤ low) :
    exec (.rstNRelease t low) s = .next (beginStart.to (s.since t)) := by
  have hcond : ((s.since t).q .powerGood == 1 && decide (10 * psUs ≤ low)) = true := by
    rw [show (s.since t).q .powerGood = 1 from hgood, decide_eq_true (show 10 * psUs ≤ low from hlow)]
    rfl
  show run _ s = _
  rw [run_eq, all_cons_to, all_cons_to, all_nil_to, at_to_since, look_runs, iff_to, if_pos hcond]

/-- POWER_GOOD_FALL ends what stood, and counts (R437, R494, R506). -/
theorem powerGoodFall_ends {s : State} (hwf : s.wf = true) (hfits : s.fits) (t : Nat) (why : PgLoss) (hgood : s.q .powerGood = 1) (hup : s.q .vinUp = 1) :
    ∃ u, exec (.powerGoodFall t why) s = .next u ∧ u.q .powerGood = 0 ∧ u.rd .SU_STATE = 0 ∧ u.Unloaded ∧ s.Survives u
      ∧ u.rd .PW_PG_LOSSES = if why = .lockout then s.rd .PW_PG_LOSSES else min (s.rd .PW_PG_LOSSES + 1) 0xFFFFFFFF := by
  have hlosses := lossShown_losses (s := s.since t) hwf hfits why
  have hshown : s.Survives ((lossShown why).to (s.since t)) := by
    obtain ⟨ho, hn, hc, hp⟩ := ((lossShown_touches why).step (s.since t)).survives
    exact ⟨ho, hn, hc, hp⟩
  have hlt : s.rd .PW_PG_LOSSES < 2 ^ 32 := hfits .PW_PG_LOSSES 0 0
  have hfit : ((lossShown why).to (s.since t)).rd .PW_PG_LOSSES < 2 ^ Fld.PW_PG_LOSSES.desc.width := by
    rw [hlosses, show Fld.PW_PG_LOSSES.desc.width = 32 from rfl, show (s.since t).rd .PW_PG_LOSSES = s.rd .PW_PG_LOSSES from rfl]
    split <;> omega
  obtain ⟨hpg, hst, hun, hsurv⟩ := powerLost_to (Act.to_qty_sorted (lossShown why) (State.wf_qty (s := s.since t) hwf))
  exact ⟨_, exec_powerGoodFall t why hgood hup, hpg, hst, hun, hshown.trans hsurv, (powerLost_losses hfit).trans hlosses⟩

/-- Settles O60: each edge is what it shows of the lands and the supply, and then a start (`beginStart_survives`, `beginStart_unloaded`) or the fall of
all that was loaded (`powerLost_to`). -/
theorem powerGoodEdgesAndReset : Obligations.PowerGoodEdgesAndReset := by
  intro s t hwf hfits
  have hsince : s.Survives (s.since t) := ⟨rfl, rfl, rfl, rfl⟩
  refine ⟨fun pins hgood htrip hvin hmax hover hrails hlo hcold hnvm hup => ?_, fun why hgood hup => ?_, fun low hgood hlow => ?_⟩
  · have hnot : vinOver (s.q .railsOk == 2) pins.vin = false := by
      simp only [vinOver, Bool.or_eq_false_iff, decide_eq_false_iff_not, Bool.and_eq_false_imp, beq_iff_eq]
      exact ⟨by omega, fun h => by have := hover h; omega⟩
    have hpins : pinsGood pins (decide (s.q .vinUp = 0)) (s.q .railsOk == 2) = true := by
      simp only [pinsGood, hnot, hrails, hlo, decide_eq_true_eq, hvin, Bool.and_true, Bool.not_false, Bool.or_eq_true, Bool.not_eq_true', decide_eq_false_iff_not,
        Bool.and_eq_true, true_and]
      exact (Decidable.em (s.q .vinUp = 0)).symm.imp_right hcold
    obtain ⟨u, hexec, hpg, hst, hnode, hvu, hmem, ⟨ho, hn, hc, hp⟩⟩ := powerGoodRise_begins hwf t hnvm hgood hup htrip hvin hpins
    exact ⟨u, hexec, hpg, hst, hnode, hvu, hmem, ho, hn, hc, hp⟩
  · obtain ⟨u, hexec, hpg, hst, hun, ⟨ho, hn, hc, hp⟩, hlosses⟩ := powerGoodFall_ends hwf hfits t why hgood hup
    exact ⟨u, hexec, hpg, hst, hun.cfg, hun.sessions, hun.mem, hlosses, ho, hn, hc, hp⟩
  · obtain ⟨ho, hn, hc, hp⟩ := hsince.trans (beginStart_survives (s.since t))
    have hun := beginStart_unloaded (s.since t)
    exact ⟨_, exec_rstNRelease t hgood hlow, beginStart_powerGood (s := s.since t) (State.wf_qty hwf), beginStart_state (s := s.since t) (State.wf_regs hwf),
      beginStart_node (s := s.since t) (State.wf_regs hwf), hun.cfg, hun.sessions, ho, hn, hc, hp⟩

end Sys2Proof.Machine
end

section
/-! SUPPORT. The order stream at a worker: its requests, its loss and its resynchronisation (R32, R33, R427), and O9. -/
set_option Elab.async false
namespace Sys2Proof.Machine

-- Parts that stand, by name -----------------------------------------------------------------------------------------------------------------

section
variable {ps : List Part} {s u : State}

theorem State.SameBut.mem (h : State.SameBut ps s u) (hp : .mem ∉ ps := by decide +kernel) : u.mem = s.mem := h.part .mem hp
theorem State.SameBut.now (h : State.SameBut ps s u) (hp : .now ∉ ps := by decide +kernel) : u.now = s.now := h.part .now hp
theorem State.SameBut.out (h : State.SameBut ps s u) (hp : .out ∉ ps := by decide +kernel) : u.out = s.out := h.part .out hp
theorem State.SameBut.cfg (h : State.SameBut ps s u) (hp : .cfg ∉ ps := by decide +kernel) : u.cfg = s.cfg := h.part .cfg hp
theorem State.SameBut.sessions (h : State.SameBut ps s u) (hp : .sessions ∉ ps := by decide +kernel) : u.sessions = s.sessions := h.part .sessions hp
theorem State.SameBut.buf (h : State.SameBut ps s u) (hp : .buf ∉ ps := by decide +kernel) : u.buf = s.buf := h.part .buf hp
theorem State.SameBut.hist (h : State.SameBut ps s u) (hp : .hist ∉ ps := by decide +kernel) : u.hist = s.hist := h.part .hist hp
theorem State.SameBut.held (h : State.SameBut ps s u) (hp : .held ∉ ps := by decide +kernel) : u.held = s.held := h.part .held hp
theorem State.SameBut.acts (h : State.SameBut ps s u) (hp : .acts ∉ ps := by decide +kernel) : u.acts = s.acts := h.part .acts hp
theorem State.SameBut.img (h : State.SameBut ps s u) (hp : .img ∉ ps := by decide +kernel) : u.img = s.img := h.part .img hp
theorem State.SameBut.shadows (h : State.SameBut ps s u) (hp : .shadows ∉ ps := by decide +kernel) : u.shadows = s.shadows := h.part .shadows hp
theorem State.SameBut.legs (h : State.SameBut ps s u) (hp : .legs ∉ ps := by decide +kernel) : u.legs = s.legs := h.part .legs hp
theorem State.SameBut.upd (h : State.SameBut ps s u) (hp : .upd ∉ ps := by decide +kernel) : u.upd = s.upd := h.part .upd hp
theorem State.SameBut.owners (h : State.SameBut ps s u) (hp : .owners ∉ ps := by decide +kernel) : u.owners = s.owners := h.part .owners hp
theorem State.SameBut.nvm (h : State.SameBut ps s u) (hp : .nvm ∉ ps := by decide +kernel) : u.nvm = s.nvm := h.part .nvm hp
theorem State.SameBut.clampReport (h : State.SameBut ps s u) (hp : .clampReport ∉ ps := by decide +kernel) : u.clampReport = s.clampReport := h.part .clampReport hp
theorem State.SameBut.vApplied (h : State.SameBut ps s u) (hp : .vApplied ∉ ps := by decide +kernel) : u.vApplied = s.vApplied := h.part .vApplied hp
theorem State.SameBut.vOpen (h : State.SameBut ps s u) (hp : .vOpen ∉ ps := by decide +kernel) : u.vOpen = s.vOpen := h.part .vOpen hp
theorem State.SameBut.nodes (h : State.SameBut ps s u) (hp : .nodes ∉ ps := by decide +kernel) : u.nodes = s.nodes := h.part .nodes hp
theorem State.SameBut.txRecs (h : State.SameBut ps s u) (hp : .txRecs ∉ ps := by decide +kernel) : u.txRecs = s.txRecs := h.part .txRecs hp
theorem State.SameBut.evq (h : State.SameBut ps s u) (hp : .evq ∉ ps := by decide +kernel) : u.evq = s.evq := h.part .evq hp

end

-- Counters, the active node -----------------------------------------------------------------------------------------------------------------

/-- A counter of 32 bits counts up to its largest number. -/
theorem count_rd {f : Fld} {i j : Nat} {s : State} (hs : SMap.sorted s.regs = true) (hh : f.has i j = true := by decide) (hw : f.desc.width = 32 := by decide) :
    ((count f 1 i j).to s).rd f i j = min (s.rd f i j + 1) 0xFFFFFFFF := by
  rw [count_to, State.rd_setReg_same _ hs hh, hw]
  exact Nat.mod_eq_of_lt (by omega)

/-- The fields and quantities that name the active manager (R365). -/
def activeParts : List Part := [.reg .SYS_ROLE, .reg .SYS_NODE, .reg .RD_ROLE, .reg .RD_ACTIVE_NODE, .qty .managerNode]

theorem State.SameBut.activeNode {ps : List Part} {s u : State} (h : State.SameBut ps s u) (hp : ∀ p ∈ activeParts, p ∉ ps := by decide +kernel) :
    u.activeNode = s.activeNode := by
  rw [State.activeNode, State.standAlone, State.node, State.qn, h.rd (hp _ (by decide)), h.rd (hp _ (by decide)), h.rd (hp _ (by decide)), h.rd (hp _ (by decide)),
    h.q (hp _ (by decide)) (by decide) (by decide)]
  rfl

-- Resynchronisation and loss (R33) ------------------------------------------------------------------------------------------------------------

/-- What a request for resynchronisation touches. -/
def resyncParts : List Part := [.reg .ORD_STATE, .img, .out]

theorem askResync_touches : askResync.Touches resyncParts := touches_look fun _ => touches_all ⟨touches_set, touches_one rfl, touches_emit⟩

theorem askResync_to {s : State} (hs : SMap.sorted s.regs = true) :
    (askResync.to s).rd .ORD_STATE = 4 ∧ (askResync.to s).img = none ∧ (askResync.to s).out = s.out ++ [.resyncReq s.activeNode] := by
  have himg : Act.Touches [.img] (one (.img none)) := touches_one rfl
  have hreq : Act.Touches [.out] (emit (.resyncReq s.activeNode)) := touches_emit
  rw [askResync, look_runs, all_cons_to, all_cons_to, all_cons_to, all_nil_to]
  exact ⟨((hreq.rd _).trans (himg.rd _)).trans (set_rd hs (by decide)), rfl, rfl⟩

/-- What the loss of the order stream touches. -/
def lostParts : List Part := [.qty .ordHeld, .tmr .gap, .tmr .replay, .reg .ORD_STATE, .reg .ORD_LOSSES, .buf, .img, .out] ++ eventParts

theorem orderLost_touches : orderLost.Touches lostParts :=
  touches_look fun _ => touches_all ⟨touches_put, touches_disarm, touches_disarm, touches_set, touches_count, touches_one rfl, touches_raise,
    touches_iff fun _ => askResync_touches.mono⟩

/-- From `s` to `u` the order stream has been lost (R33), and resynchronisation asked for where ORD_RESYNC_AUTO says so. -/
structure State.Lost (s u : State) : Prop where
  state : u.rd .ORD_STATE = if s.rd .ORD_RESYNC_AUTO = 1 then 4 else 3
  buf : u.buf = []
  losses : u.rd .ORD_LOSSES = min (s.rd .ORD_LOSSES + 1) 0xFFFFFFFF
  latched : u.latched .ORDER_LOST = true
  gap : u.timer .gap = none
  replay : u.timer .replay = none
  out : u.out = s.out ++ if s.rd .ORD_RESYNC_AUTO = 1 then [.resyncReq s.activeNode] else []
  same : State.SameBut lostParts s u

/-- What is done of a loss before it is reported. -/
def lostHead : Act := all [put .ordHeld 1, disarm .gap, disarm .replay, set .ORD_STATE osLost, count .ORD_LOSSES, one (.buf [])]

theorem lostHead_touches : lostHead.Touches [.qty .ordHeld, .tmr .gap, .tmr .replay, .reg .ORD_STATE, .reg .ORD_LOSSES, .buf] :=
  touches_all ⟨touches_put, touches_disarm, touches_disarm, touches_set, touches_count, touches_one rfl⟩

theorem lostHead_timers {s : State} (hwf : s.wf = true) : (lostHead.to s).timer .gap = none ∧ (lostHead.to s).timer .replay = none := by
  have hgap : Act.Touches [.tmr .replay, .reg .ORD_STATE, .reg .ORD_LOSSES, .buf] (all [disarm .replay, set .ORD_STATE osLost, count .ORD_LOSSES, one (.buf [])]) :=
    touches_all ⟨touches_disarm, touches_set, touches_count, touches_one rfl⟩
  have hreplay : Act.Touches [.reg .ORD_STATE, .reg .ORD_LOSSES, .buf] (all [set .ORD_STATE osLost, count .ORD_LOSSES, one (.buf [])]) :=
    touches_all ⟨touches_set, touches_count, touches_one rfl⟩
  have h1 := Act.to_wf (put .ordHeld 1) hwf
  rw [lostHead, all_cons_to, all_cons_to]
  refine ⟨(hgap.timer _).trans (disarm_timer h1 _ _), ?_⟩
  rw [all_cons_to]
  exact (hreplay.timer _).trans (disarm_timer (Act.to_wf _ h1) _ _)

theorem lostHead_regs {s : State} (hs : SMap.sorted s.regs = true) :
    (lostHead.to s).rd .ORD_STATE = 3 ∧ (lostHead.to s).rd .ORD_LOSSES = min (s.rd .ORD_LOSSES + 1) 0xFFFFFFFF
      ∧ (lostHead.to s).buf = [] := by
  have hfirst : Act.Touches [.qty .ordHeld, .tmr .gap, .tmr .replay] (all [put .ordHeld 1, disarm .gap, disarm .replay]) :=
    touches_all ⟨touches_put, touches_disarm, touches_disarm⟩
  have hset : Act.Touches [.reg .ORD_STATE] (set .ORD_STATE osLost) := touches_set
  have hcount : Act.Touches [.reg .ORD_LOSSES] (count .ORD_LOSSES) := touches_count
  have hbuf : Act.Touches [.buf] (one (.buf [])) := touches_one rfl
  have hs' := (hfirst.step s).sorted hs
  have hsame := hfirst.rd s (f := .ORD_LOSSES)
  have hto : lostHead.to s = (one (.buf [])).to ((count .ORD_LOSSES).to ((set .ORD_STATE osLost).to ((all [put .ordHeld 1, disarm .gap, disarm .replay]).to s))) := by
    rw [lostHead]
    repeat rw [all_cons_to]
    rw [all_nil_to, all_nil_to]
  rw [hto]
  generalize (all [put .ordHeld 1, disarm .gap, disarm .replay]).to s = r at hs' hsame
  refine ⟨((hbuf.rd _).trans (hcount.rd _)).trans (set_rd hs' (by decide)), ?_, rfl⟩
  rw [hbuf.rd, count_rd ((hset.step r).sorted hs'), hset.rd, hsame]

theorem orderLost_lost {s : State} (hwf : s.wf = true) : s.Lost (orderLost.to s) := by
  have hs := State.wf_regs hwf
  have hauto : (lostHead.to s).rd .ORD_RESYNC_AUTO = s.rd .ORD_RESYNC_AUTO := lostHead_touches.rd s
  have hout : (lostHead.to s).out = s.out := lostHead_touches.out s
  have hactive := (lostHead_touches.step s).activeNode
  obtain ⟨hgap, hreplay⟩ := lostHead_timers hwf
  obtain ⟨hstate, hlosses, hbuf⟩ := lostHead_regs hs
  have hs' := (lostHead_touches.step s).sorted hs
  have hto : orderLost.to s = (iff (s.rd .ORD_RESYNC_AUTO == 1) askResync).to ((raise .ORDER_LOST 0 (s.rd .ORD_APPLIED)).to (lostHead.to s)) := by
    rw [orderLost, look_runs, lostHead]
    repeat rw [all_cons_to]
    rw [all_nil_to, all_nil_to]
  have hsame := orderLost_touches.step s
  rw [hto] at hsame ⊢
  have hev := touches_raise_eventParts .ORDER_LOST 0 (s.rd .ORD_APPLIED)
  have hlatch := raise_latches .ORDER_LOST 0 (s.rd .ORD_APPLIED) hs' (State.idleBlock_zero _) (by decide)
  generalize lostHead.to s = r at *
  have hsr := (hev.step r).sorted hs'
  have hactive' := (hev.step r).activeNode.trans hactive
  rw [iff_to] at hsame ⊢
  by_cases h : s.rd .ORD_RESYNC_AUTO = 1
  · rw [if_pos (beq_iff_eq.mpr h)] at hsame ⊢
    obtain ⟨hst, -, ho⟩ := askResync_to hsr
    have hask := askResync_touches.step ((raise .ORDER_LOST 0 (s.rd .ORD_APPLIED)).to r)
    exact ⟨by rw [if_pos h]; exact hst, (hask.buf).trans ((hev.buf r).trans hbuf), (hask.rd (by decide +kernel) 0 0).trans ((hev.rd r).trans hlosses),
      hask.latched hsr _ hlatch, (hask.timer (by decide +kernel) (by decide)).trans ((hev.timer r).trans hgap),
      (hask.timer (by decide +kernel) (by decide)).trans ((hev.timer r).trans hreplay), by rw [if_pos h, ho, hev.out, hout, hactive'], hsame⟩
  · rw [if_neg (by simpa using h)] at hsame ⊢
    exact ⟨by rw [if_neg h, hev.rd, hstate], (hev.buf r).trans hbuf, (hev.rd r).trans hlosses, hlatch, (hev.timer r).trans hgap, (hev.timer r).trans hreplay,
      by rw [if_neg h, hev.out, hout, List.append_nil], hsame⟩

-- Requests for replay (R32, R427) -------------------------------------------------------------------------------------------------------------

theorem State.SameBut.isManager {ps : List Part} {s u : State} (h : State.SameBut ps s u)
    (hp : .reg .SYS_ROLE ∉ ps ∧ .reg .SYS_MGR_ROLE ∉ ps := by decide +kernel) : u.isManager = s.isManager := by
  rw [State.isManager, State.standAlone, h.rd hp.1, h.rd hp.2]
  rfl

/-- A record leaves, and the counter adds 1, while the counter is not spent (R427). -/
theorem sendPlain_sent {kind target : Nat} {body : List Nat} {s : State} (hs : SMap.sorted s.qty = true) (h : s.counterSpent = false) :
    (∃ r, ((sendPlain kind target body).to s).out = s.out ++ [.record false r] ∧ r.kind = kind ∧ r.target = target ∧ r.sender = s.node ∧ r.body = body)
      ∧ ((sendPlain kind target body).to s).q .msgCounter = s.q .msgCounter + 1 := by
  have hgive := giveRecord_touches (kind == kReplayAns || kind == kAck) target ⟨kind, s.msgOrder, s.node, target, ⟨0, 0, 0, false⟩, body⟩
  have hto : (sendPlain kind target body).to s = (giveRecord (kind == kReplayAns || kind == kAck) target
      ⟨kind, s.msgOrder, s.node, target, ⟨0, 0, 0, false⟩, body⟩).to ((addQ .msgCounter).to s) := by
    rw [sendPlain, look_runs, h, if_neg Bool.false_ne_true, all_cons_to, all_cons_to, all_nil_to]
  rw [hto]
  refine ⟨⟨_, giveRecord_out .., rfl, rfl, rfl, rfl⟩, ?_⟩
  rw [hgive.q, addQ_to, State.q_setQ_same _ hs (by decide) (by decide)]

/-- Nothing leaves once the counter is spent, and a JOIN is asked for (R427). -/
theorem sendPlain_spent {kind target : Nat} {body : List Nat} {s : State} (h : s.counterSpent = true) :
    ((sendPlain kind target body).to s).out = s.out ∧ ((sendPlain kind target body).to s).counterSpent = true
      ∧ (((sendPlain kind target body).to s).timer .joinSend).isSome = true := by
  have hto : (sendPlain kind target body).to s = (iff (s.timer .joinSend).isNone (arm .joinSend 0)).to s := by
    rw [sendPlain, look_runs, h, if_pos rfl]
  have harm : Act.Touches [.tmr .joinSend] (iff (s.timer .joinSend).isNone (arm .joinSend 0)) := touches_iff fun _ => touches_arm
  rw [hto]
  refine ⟨harm.out s, ?_, ?_⟩
  · rw [State.counterSpent, (harm.step s).isManager, harm.q]
    exact h
  · rw [iff_to]
    split
    · exact congrArg Option.isSome (arm_timer ..)
    case isFalse hn => simpa using Option.ne_none_iff_isSome.mp (by simpa using hn)

/-- Plain records to one node leave one for each of `xs`, as far as the counter goes. -/
theorem each_sendPlain_sent {α : Type} {kind target : Nat} {body : α → List Nat} :
    ∀ {xs : List α} {s : State}, SMap.sorted s.qty = true → s.q .msgCounter + xs.length ≤ 0x100000000 →
      ∃ sent, ((each xs fun x => sendPlain kind target (body x)).to s).out = s.out ++ sent ∧ sent.length = xs.length
  | [], s, _, _ => ⟨[], (List.append_nil _).symm, rfl⟩
  | x :: xs, s, hs, hroom => by
    simp only [List.length_cons, Nat.cast_add, Nat.cast_one] at hroom
    have h : s.counterSpent = false := by
      simp only [State.counterSpent, Bool.and_eq_false_imp, decide_eq_false_iff_not]
      omega
    obtain ⟨⟨r, hout, -⟩, hq⟩ := sendPlain_sent (kind := kind) (target := target) (body := body x) hs h
    have hs' := Act.to_qty_sorted (sendPlain kind target (body x)) hs
    rw [each_cons_to]
    generalize (sendPlain kind target (body x)).to s = u at hout hq hs'
    obtain ⟨sent, hsent, hlen⟩ := each_sendPlain_sent (kind := kind) (target := target) (body := body) (xs := xs) hs' (by rw [hq]; omega)
    exact ⟨.record false r :: sent, by rw [hsent, hout, List.append_assoc, List.singleton_append], by rw [List.length_cons, List.length_cons, hlen]⟩

/-- Once the counter is spent none of them leaves. -/
theorem each_sendPlain_spent {α : Type} {kind target : Nat} {body : α → List Nat} :
    ∀ {xs : List α} {s : State}, s.counterSpent = true → ((each xs fun x => sendPlain kind target (body x)).to s).out = s.out
      ∧ (xs ≠ [] → (((each xs fun x => sendPlain kind target (body x)).to s).timer .joinSend).isSome = true)
  | [], s, _ => ⟨rfl, fun h => absurd rfl h⟩
  | x :: xs, s, h => by
    obtain ⟨hout, hspent, htimer⟩ := sendPlain_spent (kind := kind) (target := target) (body := body x) h
    rw [each_cons_to]
    generalize (sendPlain kind target (body x)).to s = u at hout hspent htimer
    obtain ⟨houts, htimers⟩ := each_sendPlain_spent (kind := kind) (target := target) (body := body) (xs := xs) hspent
    refine ⟨houts.trans hout, fun _ => ?_⟩
    cases xs with
    | nil => exact htimer
    | cons y ys => exact htimers (List.cons_ne_nil y ys)

theorem askReplay_to (s : State) :
    askReplay.to s = (each s.missing fun x => sendPlain kReplayReq s.activeNode [x.1 % 2 ^ 48 + x.2 % 2 ^ 9 * 2 ^ 48]).to s := by
  rw [askReplay, look_runs]

theorem askReplay_touches : askReplay.Touches plainParts := touches_look fun _ => touches_each fun _ _ => sendPlain_touches ..

-- The commands of a gap ---------------------------------------------------------------------------------------------------------------------

/-- REPLAY_REPEAT repeats the requests in GAP (R32). -/
theorem replayRepeat_repeats {s : State} (hwf : s.wf = true) {t : Nat} (hst : s.rd .ORD_STATE = 2) (hdue : (s.since t).due .replay = true) :
    ∃ u sent, exec (.replayRepeat t) s = .next u ∧ u.out = s.out ++ sent ∧ u.regs = s.regs
        ∧ (s.counterSpent = false → s.q .msgCounter + s.missing.length ≤ 0x100000000 → sent.length = s.missing.length)
        ∧ (s.counterSpent = true → sent = [] ∧ (s.missing ≠ [] → (u.timer .joinSend).isSome = true))
        ∧ u.timer .replay = some (max s.now t + psMs) ∧ u.mem = s.mem := by
  have hexec : exec (.replayRepeat t) s = .next ((arm .replay psMs).to (askReplay.to (s.since t))) := by
    have hcond : ((s.since t).due .replay && (s.since t).rd .ORD_STATE == osGap) = true := by
      rw [hdue, show (s.since t).rd .ORD_STATE = 2 from hst]
      rfl
    show run _ s = _
    rw [run_eq, all_cons_to, all_cons_to, all_nil_to, at_to_since, look_runs, iff_to, if_pos hcond, all_cons_to, all_cons_to, all_nil_to]
  have hask := askReplay_touches.step (s.since t)
  have harm : Act.Touches [.tmr .replay] (arm .replay psMs) := touches_arm
  have hqty : SMap.sorted (s.since t).qty = true := State.wf_qty hwf
  have hmissing : (s.since t).missing = s.missing := rfl
  have hout : ∃ sent, (askReplay.to (s.since t)).out = s.out ++ sent
      ∧ (s.counterSpent = false → s.q .msgCounter + s.missing.length ≤ 0x100000000 → sent.length = s.missing.length)
      ∧ (s.counterSpent = true → sent = [] ∧ (s.missing ≠ [] → ((askReplay.to (s.since t)).timer .joinSend).isSome = true)) := by
    rw [askReplay_to, hmissing]
    cases hspent : s.counterSpent with
    | true =>
      obtain ⟨ho, htimer⟩ := each_sendPlain_spent (kind := kReplayReq) (target := (s.since t).activeNode) (body := fun x : Nat × Nat => [x.1 % 2 ^ 48 + x.2 % 2 ^ 9 * 2 ^ 48])
        (xs := s.missing) (s := s.since t) hspent
      exact ⟨[], by rw [ho, List.append_nil]; rfl, fun h => absurd h (by decide), fun _ => ⟨rfl, htimer⟩⟩
    | false =>
      by_cases hroom : s.q .msgCounter + s.missing.length ≤ 0x100000000
      · obtain ⟨sent, ho, hlen⟩ := each_sendPlain_sent (kind := kReplayReq) (target := (s.since t).activeNode)
          (body := fun x : Nat × Nat => [x.1 % 2 ^ 48 + x.2 % 2 ^ 9 * 2 ^ 48]) (xs := s.missing) hqty hroom
        exact ⟨sent, ho, fun _ _ => hlen, fun h => absurd h (by decide)⟩
      · obtain ⟨sent, ho⟩ := Act.to_out (each s.missing fun x => sendPlain kReplayReq (s.since t).activeNode [x.1 % 2 ^ 48 + x.2 % 2 ^ 9 * 2 ^ 48]) (s.since t)
        exact ⟨sent, ho.symm, fun _ h => absurd h hroom, fun h => absurd h (by decide)⟩
  obtain ⟨sent, ho, hsent, hnone⟩ := hout
  refine ⟨_, sent, hexec, (harm.out _).trans ho, ((harm.step _).regs rfl).trans (hask.regs rfl), hsent, fun h => ?_, (arm_timer ..).trans ?_,
    (harm.mem _).trans (hask.mem)⟩
  · obtain ⟨hn, htimer⟩ := hnone h
    exact ⟨hn, fun hm => by rw [harm.timer]; exact htimer hm⟩
  · rw [askReplay_touches.now]
    rfl

theorem since_sameBut (s : State) (t : Nat) : State.SameBut [.now] s (s.since t) := (at_to_since t s) ▸ (touches_at (t := t)).step s

/-- GAP_TIMEOUT at its time loses the order stream. -/
theorem exec_gapTimeout {s : State} {t : Nat} (hst : s.rd .ORD_STATE = 2) (hdue : (s.since t).due .gap = true) :
    exec (.gapTimeout t) s = .next (orderLost.to (s.since t)) := by
  have hcond : ((s.since t).due .gap && (s.since t).rd .ORD_STATE == osGap) = true := by
    rw [hdue, show (s.since t).rd .ORD_STATE = 2 from hst]
    rfl
  show run _ s = _
  rw [run_eq, all_cons_to, all_cons_to, all_nil_to, at_to_since, look_runs, iff_to, if_pos hcond]

theorem exec_replayAns_active {s : State} (t first count_ : Nat) (gone : Bool) :
    exec (.replayAns t s.activeNode first count_ gone) s
      = .next ((iff (gone && s.rd .ORD_STATE == osGap && decide (0 < count_) && decide (first < 2 ^ 48)) orderLost).to (s.since t)) := by
  have hactive : ¬ s.activeNode ≠ (s.since t).activeNode := fun h => h rfl
  show run _ s = _
  rw [run_eq, all_cons_to, all_cons_to, all_nil_to, at_to_since, look_runs, if_neg hactive]
  rfl

theorem exec_replayAns_other {s : State} (t : Nat) {sender : Nat} (h : sender ≠ s.activeNode) (first count_ : Nat) (gone : Bool) :
    exec (.replayAns t sender first count_ gone) s = .next ((count .RD_STALE_RECORDS).to (s.since t)) := by
  have hactive : sender ≠ (s.since t).activeNode := h
  show run _ s = _
  rw [run_eq, all_cons_to, all_cons_to, all_nil_to, at_to_since, look_runs, if_pos hactive]

theorem exec_ordResyncReq (s : State) (value : Nat) :
    exec (.ordResyncReq value) s = .next (if s.rd .ORD_STATE = 3 then (iff (value % 2 == 1) askResync).to s
      else { s with out := s.out ++ [.written 0x40000140 Status.REFUSED.code [0]] }) := by
  show run (if s.rd .ORD_STATE ≠ 3 then _ else _) s = _
  by_cases h : s.rd .ORD_STATE = 3
  · rw [if_neg (not_not.mpr h), if_pos h, run_eq]
  · rw [if_pos h, if_neg h, run_eq]
    rfl

-- The manager's answer to a request (R32, R389) ------------------------------------------------------------------------------------------------

theorem each_giveRecord_out {α : Type} {reply : Bool} {target : Nat} {f : α → Rec} :
    ∀ {xs : List α} {s : State}, ((each xs fun x => giveRecord reply target (f x)).to s).out = s.out ++ xs.map fun x => .record false (f x)
  | [], _ => (List.append_nil _).symm
  | x :: xs, s => by rw [each_cons_to, each_giveRecord_out, giveRecord_out, List.append_assoc, List.map_cons, List.singleton_append]

/-- The records held of the numbers asked for leave, and then a REPLAY_ANS. -/
theorem replayAnswer_answers {s : State} (hs : SMap.sorted s.qty = true) (hm : s.isManager = true) (ha : s.standAlone = false) {sender first count_ : Nat} (hc : 0 < count_) :
    let asked := (List.range (min count_ 256)).map fun k => (first + k - 1) % (2 ^ 48 - 1) + 1
    let held := s.hist.filter fun a => asked.contains a.order && !(s.held.any fun h => h.order == a.order)
    let gone := asked.any fun o => !later o s.lastOrder && !(s.hist.any fun a => a.order == o)
    ∃ r, ((replayAnswer sender first count_).to s).regs = s.regs ∧ ((replayAnswer sender first count_).to s).mem = s.mem
      ∧ ((replayAnswer sender first count_).to s).out = s.out ++ (held.map fun a => Sent.record false (s.recordFor a sender)) ++ [.record false r]
      ∧ r.kind = 9 ∧ r.target = sender ∧ r.sender = s.node ∧ r.body = [first % 2 ^ 48 + count_ % 2 ^ 9 * 2 ^ 48 + b2n gone * 2 ^ 57] := by
  intro asked held gone
  let records := each held fun a => giveRecord true sender (s.recordFor a sender)
  let body := [first % 2 ^ 48 + count_ % 2 ^ 9 * 2 ^ 48 + b2n gone * 2 ^ 57]
  have hto : (replayAnswer sender first count_).to s = (sendPlain kReplayAns sender body).to (records.to s) := by
    rw [replayAnswer, look_runs, if_neg (by simp [hm, ha]), if_neg (by omega), all_cons_to, all_cons_to, all_nil_to]
  have hrecords : records.Touches giveParts := touches_each fun _ _ => giveRecord_touches ..
  have hspent : (records.to s).counterSpent = false := by rw [State.counterSpent, (hrecords.step s).isManager, hm]; rfl
  have hplain := (sendPlain_touches kReplayAns sender body).step (records.to s)
  obtain ⟨⟨r, hout, hkind, htarget, hsender, hbody⟩, -⟩ := sendPlain_sent (kind := kReplayAns) (target := sender) (body := body) (Act.to_qty_sorted records hs) hspent
  rw [hto]
  exact ⟨r, (hplain.regs rfl).trans ((hrecords.step s).regs rfl), (hplain.mem).trans (hrecords.mem s),
    hout.trans (congrArg (· ++ _) each_giveRecord_out), hkind, htarget, hsender.trans (hrecords.rd s), hbody⟩

/-- Settles O9: the requests are `each_sendPlain_sent`, the loss is `orderLost_lost`, and the manager's side `replayAnswer_answers`. -/
theorem gapsAreReplayedOrLost : Obligations.GapsAreReplayedOrLost := by
  intro s t hwf hfits lost
  have hlost : lost (orderLost.to (s.since t)) := by
    have h := orderLost_lost (s := s.since t) hwf
    have hsame := (since_sameBut s t).mono (qs := .now :: lostParts) (by decide +kernel) |>.trans (h.same.mono (by decide +kernel))
    exact ⟨h.state, h.buf, h.losses, h.latched, h.gap, h.replay, h.out, hsame.only (by decide +kernel), hsame.mem⟩
  have hcount : Act.Touches [.reg .RD_STALE_RECORDS] (count .RD_STALE_RECORDS) := touches_count
  refine ⟨replayRepeat_repeats hwf, fun hst hdue => ⟨_, exec_gapTimeout hst hdue, hlost⟩, fun first c hst hc hf => ⟨_, ?_, hlost⟩, fun first c => ?_,
    fun sender first c gone h => ⟨_, exec_replayAns_other t h first c gone, count_rd (State.wf_regs hwf), (hcount.step _).only (by decide +kernel), hcount.mem _⟩,
    fun value => ⟨_, exec_ordResyncReq s value, ?_⟩, fun sender first c => ?_⟩
  · rw [exec_replayAns_active, iff_to, if_pos (by rw [hst, decide_eq_true hc, decide_eq_true hf]; rfl)]
  · rw [exec_replayAns_active, iff_to, if_neg (by simp)]
  · split
    case isTrue h =>
      have hask := askResync_touches.step s
      obtain ⟨h4, himg, hout⟩ := askResync_to (State.wf_regs hwf)
      rw [if_pos h.2, iff_to, if_pos (beq_iff_eq.mpr h.1)]
      exact ⟨h4, himg, hout, hask.only (by decide +kernel), hask.mem⟩
    case isFalse h =>
      by_cases h3 : s.rd .ORD_STATE = 3
      · rw [if_pos h3, if_pos h3, iff_to, if_neg (by simpa [h3] using h)]
      · rw [if_neg h3, if_neg h3]
  · have hexec : exec (.replayReq t sender first c) s = .next ((replayAnswer sender first c).to (s.since t)) := by
      show run _ s = _
      rw [run_eq, all_cons_to, all_cons_to, all_nil_to, at_to_since]
    split
    case isTrue h =>
      obtain ⟨hm, ha, hc⟩ := h
      obtain ⟨r, hr⟩ := replayAnswer_answers (s := s.since t) (State.wf_qty hwf) hm ha (sender := sender) (first := first) hc
      exact ⟨_, r, hexec, hr⟩
    case isFalse =>
      intro hm
      have hm' : ((s.since t).isManager) = false := hm
      rw [hexec, replayAnswer, look_runs, if_pos (by simp [hm']), skip_to]

end Sys2Proof.Machine
end

section
/-! SUPPORT. The arrival of an ordered record at a worker (R31, R33, R39, R53): O8. -/
set_option Elab.async false
namespace Sys2Proof.Machine

-- What an arrival does not change -------------------------------------------------------------------------------------------------------------

theorem State.SameBut.house {ps : List Part} {s u : State} (h : State.SameBut ps s u) (hp : .now ∉ ps ∧ .qty .houseOff ∉ ps := by decide +kernel) : u.house = s.house := by
  rw [State.house, h.part .now hp.1 |> (show u.now = s.now from ·), h.q hp.2 (by decide) (by decide)]
  rfl

theorem State.SameBut.domFormat {ps : List Part} {s u : State} (h : State.SameBut ps s u) (d : Nat) (hp : .reg .RD_FORMAT ∉ ps := by decide +kernel) :
    u.domFormat d = s.domFormat d := by
  rw [State.domFormat, h.rd hp]
  rfl

/-- The fields that say what an action does at this module (R21, R96). -/
def placeFields : List Fld := [.SYS_ROLE, .SYS_NODE, .SYS_GEOM, .RD_PARTNER]

theorem State.SameBut.itemsOf {ps : List Part} {s u : State} (h : State.SameBut ps s u) (r : Rec) (hp : ∀ f ∈ placeFields, .reg f ∉ ps := by decide +kernel) :
    u.itemsOf r = s.itemsOf r := by
  have hrd (f : Fld) (hf : f ∈ placeFields) : u.rd f 0 0 = s.rd f 0 0 := h.rd (hp f hf) 0 0
  have hown : u.ownNode = s.ownNode := by
    rw [State.ownNode, State.node, hrd .SYS_NODE (by decide), hrd .RD_PARTNER (by decide)]
    rfl
  have hhome : u.home = s.home := funext fun n => by
    rw [State.home, hrd .SYS_GEOM (by decide)]
    rfl
  have hports : u.ports = s.ports := by
    rw [State.ports, State.standAlone, State.isEdge, hrd .SYS_ROLE (by decide)]
    rfl
  have hlinks : u.links = s.links := by
    rw [State.links, State.isCentre, State.isEdge, hrd .SYS_ROLE (by decide)]
    rfl
  have htake : u.takeItems = s.takeItems := funext fun sp => by simp only [State.takeItems, hhome, hown, hports, hlinks]
  simp only [State.itemsOf, htake, hhome, hown, hports]

-- ORD_SEEN -----------------------------------------------------------------------------------------------------------------------------------

/-- ORD_SEEN follows the latest number that has arrived (R31). -/
def seeOrder (r : Rec) : Act := look fun s => iff (later r.order (s.rd .ORD_SEEN)) (set .ORD_SEEN r.order)

theorem seeOrder_touches (r : Rec) : (seeOrder r).Touches [.reg .ORD_SEEN] := touches_look fun _ => touches_iff fun _ => touches_set

theorem seeOrder_rd {r : Rec} {s : State} (hs : SMap.sorted s.regs = true) (hr : r.order < 2 ^ 48) :
    ((seeOrder r).to s).rd .ORD_SEEN = if later r.order (s.rd .ORD_SEEN) then r.order else s.rd .ORD_SEEN := by
  rw [seeOrder, look_runs, iff_to]
  split
  · exact (set_rd hs (by decide)).trans (Nat.mod_eq_of_lt hr)
  · rfl

-- Arrivals by order state -------------------------------------------------------------------------------------------------------------------

section
variable {s : State} {t : Nat} {r : Rec}

theorem exec_arrival_untagged : exec (.orderedRecordArrival t r false) s = .next ((all [count .FAB_TAG_FAILS, raise .SPORE_TAG_FAIL r.sender r.order]).to (s.since t)) := by
  show run _ s = _
  rw [run_eq, all_cons_to, all_cons_to, all_nil_to, at_to_since, recordArrives, look_runs]
  rfl

theorem exec_arrival_stale (h : r.sender ≠ s.activeNode) : exec (.orderedRecordArrival t r true) s = .next ((count .RD_STALE_RECORDS).to (s.since t)) := by
  have h' : r.sender ≠ (s.since t).activeNode := h
  show run _ s = _
  rw [run_eq, all_cons_to, all_cons_to, all_nil_to, at_to_since, recordArrives, look_runs, if_neg (by decide), if_pos h']

theorem exec_arrival (h : r.sender = s.activeNode) (hst : s.rd .SU_STATE = 3) : exec (.orderedRecordArrival t r true) s = .next ((orderArrive r).to (s.since t)) := by
  have h' : ¬ r.sender ≠ (s.since t).activeNode := not_not.mpr h
  have hst' : ¬ (s.since t).rd .SU_STATE ≠ 3 := not_not.mpr hst
  show run _ s = _
  rw [run_eq, all_cons_to, all_cons_to, all_nil_to, at_to_since, recordArrives, look_runs, if_neg (by decide), if_neg h', if_neg hst']

theorem orderArrive_inOrder (hst : s.rd .ORD_STATE = 1) : (orderArrive r).to s
    = (if r.order = s.nextOrder then all [applyNext r, drain 256, settle]
       else if later r.order s.nextOrder then
         if orderDiff r.order s.nextOrder < 256 then all [buffer r, look fun s => if s.rd .ORD_STATE = osGap then skip else settle]
         else all [orderLost, orderWriteNow r]
       else count .ORD_DUPLICATES : Act).to ((seeOrder r).to s) := by
  rw [orderArrive, look_runs]
  simp only [hst]
  rw [all_cons_to, all_cons_to, all_nil_to, seeOrder, look_runs]

theorem orderArrive_lost (hst : s.rd .ORD_STATE = 3) :
    (orderArrive r).to s = (if r.order = s.nextOrder ∨ later r.order s.nextOrder then orderWriteNow r else skip : Act).to ((seeOrder r).to s) := by
  rw [orderArrive, look_runs]
  simp only [hst]
  rw [all_cons_to, all_cons_to, all_nil_to, seeOrder, look_runs]

theorem orderWriteNow_skip (h : orderWrite r = false) : orderWriteNow r = skip := by rw [orderWriteNow, h, if_neg Bool.false_ne_true]

-- The next number -----------------------------------------------------------------------------------------------------------------------------

theorem drain_to (n : Nat) (h : s.buf = []) : (drain n).to s = s := by
  cases n with
  | zero => rfl
  | succ n => rw [drain, look_runs, h]; rfl

theorem settle_touches_timers (hbuf : s.buf = []) (hst : s.rd .ORD_STATE = 1) : State.SameBut [.tmr .gap, .tmr .replay] s (settle.to s) := by
  have h : Act.Touches [.tmr .gap, .tmr .replay] (all [iff (s.rd .ORD_STATE == osGap) (set .ORD_STATE osInOrder), disarm .gap, disarm .replay]) :=
    touches_all ⟨touches_iff fun h => absurd (beq_iff_eq.mp h) (by rw [hst]; decide), touches_disarm, touches_disarm⟩
  rw [settle, look_runs, hbuf, List.isEmpty_nil, if_pos rfl]
  exact h.step s

/-- The next number is applied, and nothing is left that waits (R30, R31). -/
theorem arrive_next (hst : s.rd .ORD_STATE = 1) (hbuf : s.buf = []) (hr : r.order = s.nextOrder) :
    State.SameBut [.tmr .gap, .tmr .replay] ((applyNext r).to ((seeOrder r).to s)) ((orderArrive r).to s) := by
  have hsame := ((seeOrder_touches r).mono.step s).trans ((applyNext_touches r).mono (qs := .reg .ORD_SEEN :: applyParts) |>.step ((seeOrder r).to s))
  have hbuf' : ((applyNext r).to ((seeOrder r).to s)).buf = [] := (hsame.buf).trans hbuf
  have hst' : ((applyNext r).to ((seeOrder r).to s)).rd .ORD_STATE = 1 := (hsame.rd (by decide +kernel) 0 0).trans hst
  rw [orderArrive_inOrder hst, if_pos hr, all_cons_to, all_cons_to, all_cons_to, all_nil_to, drain_to 256 hbuf']
  exact settle_touches_timers hbuf' hst'

end

-- What falls due ------------------------------------------------------------------------------------------------------------------------------

section
variable {s : State} {r : Rec} {out mode holder : Nat} {fm : Format}
  (hitems : s.itemsOf r = [.lock out mode holder]) (himm : r.stamp.imm = false) (hline : r.stamp.line = 0) (hfm : s.domFormat r.stamp.dom = some fm)
include hitems himm hline hfm

/-- The LOCK of an output here waits at its frame start, on time (R53). -/
theorem dueNow_lock_onTime (hacts : s.acts = []) (ht : s.house ≤ fm.frameStart r.stamp.frame) :
    (dueNow r).to s
      = (addPend ⟨r.order, r.kind, r.stamp, r.stamp.dom, r.stamp.frame, .frameStart, fm.frameStart r.stamp.frame, 0, 0, .lock out mode holder⟩).to s := by
  have hlate : lateBy fm r.stamp.frame .frameStart s.house = some 0 := by
    rw [lateBy, List.find?_cons_of_pos (by simpa [pointTime] using ht)]
  have hpushed : s.pushed r.stamp [.lock out mode holder] 0 = 0 := by
    simp only [State.pushed, hacts, List.filter_nil, List.any_nil]
    rfl
  have hpt : ([Item.lock out mode holder].any Item.lands) = false := rfl
  rw [dueNow, look_runs, hitems]
  simp only [List.isEmpty_cons, hfm, himm, hpt, hline, hlate, hpushed, Bool.false_eq_true, if_false, if_true]
  rw [all_cons_to, all_cons_to, all_nil_to, iff_to, if_neg (by decide), each_cons_to, each_nil_to, placeItem, placeAt, look_runs]
  · simp only [hfm]
    rfl
  · exact fun _ _ h => nomatch h

/-- A LOCK three frames late is refused (R53). -/
theorem dueNow_lock_late (h0 : fm.frameStart r.stamp.frame < s.house) (h1 : fm.frameStart (r.stamp.frame + 1) < s.house)
    (h2 : fm.frameStart (r.stamp.frame + 2) < s.house) : (dueNow r).to s = (refuseLate r.order r.stamp.dom).to s := by
  have hlate : lateBy fm r.stamp.frame .frameStart s.house = none := by
    simp only [lateBy, pointTime, List.find?_eq_none, List.mem_cons, List.not_mem_nil, or_false]
    rintro k (rfl | rfl | rfl)
    · exact fun h => Nat.not_le.mpr h0 (of_decide_eq_true h)
    · exact fun h => Nat.not_le.mpr h1 (of_decide_eq_true h)
    · exact fun h => Nat.not_le.mpr h2 (of_decide_eq_true h)
  have hpt : ([Item.lock out mode holder].any Item.lands) = false := rfl
  rw [dueNow, look_runs, hitems]
  simp only [List.isEmpty_cons, hfm, himm, hpt, hline, hlate, Bool.false_eq_true, if_false, if_true]

end

/-- The parts that a pending LOCK touches. -/
theorem addPend_lock {p : Pend} {s : State} {out mode holder : Nat} (hs : SMap.sorted s.regs = true) (hacts : s.acts = []) (hp : p.item = .lock out mode holder) :
    State.SameBut [.acts, .reg .SCHED_PENDING, .reg .SCHED_PENDING_PEAK] s ((addPend p).to s) ∧ ((addPend p).to s).acts = [p]
      ∧ ((addPend p).to s).rd .SCHED_PENDING = 1 := by
  have hto : (addPend p).to s = schedShow.to (s.app (.acts [p])) := by
    rw [addPend, look_runs, hp, hacts]
    dsimp only
    rw [all_cons_to, all_cons_to, all_nil_to, skip_to, setActs, all_cons_to, all_cons_to, all_nil_to, one_to, List.nil_append]
  have hpeak : Act.Touches [.reg .SCHED_PENDING_PEAK] (set .SCHED_PENDING_PEAK (max ((s.app (.acts [p])).rd .SCHED_PENDING_PEAK) 1)) := touches_set
  have hshow : schedShow.to (s.app (.acts [p])) = (set .SCHED_PENDING_PEAK (max ((s.app (.acts [p])).rd .SCHED_PENDING_PEAK) 1)).to
      ((set .SCHED_PENDING 1).to (s.app (.acts [p]))) := by
    rw [schedShow, look_runs, all_cons_to, all_cons_to, all_nil_to]
    rfl
  have htouch : schedShow.Touches [.acts, .reg .SCHED_PENDING, .reg .SCHED_PENDING_PEAK] := touches_look fun _ => touches_all ⟨touches_set, touches_set⟩
  have hone : Act.Touches [.acts, .reg .SCHED_PENDING, .reg .SCHED_PENDING_PEAK] (one (.acts [p])) := touches_one rfl
  rw [hto]
  refine ⟨(hone.step s).trans (htouch.step _), rfl, ?_⟩
  rw [hshow, hpeak.rd]
  exact set_rd hs (by decide)

/-- What a refusal as too late touches. -/
def refuseParts : List Part := [.reg .ORD_REFUSED_LATE, .reg .RD_REFUSED, .out] ++ eventParts

/-- A refusal as too late counts and is reported (R53). -/
theorem refuseLate_counts {s : State} (hs : SMap.sorted s.regs = true) (order dom : Nat) :
    State.SameBut refuseParts s ((refuseLate order dom).to s) ∧ ((refuseLate order dom).to s).rd .ORD_REFUSED_LATE = min (s.rd .ORD_REFUSED_LATE + 1) 0xFFFFFFFF
      ∧ ((refuseLate order dom).to s).latched .ACTION_REFUSED_LATE = true := by
  have hlate : Act.Touches [.reg .ORD_REFUSED_LATE] (count .ORD_REFUSED_LATE) := touches_count
  have hdom : Act.Touches [.reg .RD_REFUSED] (count .RD_REFUSED 1 dom) := touches_count
  have hev := touches_raise_eventParts .ACTION_REFUSED_LATE 0 order
  have hsay : Act.Touches [.out] (match s.senders.find? fun x => x.1 == order with | some x => emit (.refusal x.2 order) | none => skip) := by
    cases s.senders.find? fun x => x.1 == order with
    | none => exact touches_skip
    | some x => exact touches_emit
  have h1 := (hlate.step s).sorted hs
  have h2 := (hdom.step _).sorted h1
  have h3 := (hev.step _).sorted h2
  have hsame : State.SameBut refuseParts s ((refuseLate order dom).to s) := by
    rw [refuseLate, look_runs, all_cons_to, all_cons_to, all_cons_to, all_cons_to, all_nil_to]
    exact (hlate.mono.step s).trans ((hdom.mono.step _).trans ((hev.mono.step _).trans (hsay.mono.step _)))
  refine ⟨hsame, ?_⟩
  rw [refuseLate, look_runs, all_cons_to, all_cons_to, all_cons_to, all_cons_to, all_nil_to]
  refine ⟨?_, (hsay.step _).latched h3 _ (raise_latches _ _ _ h2 (State.idleBlock_zero _) (by decide))⟩
  exact (hsay.rd _).trans ((hev.rd _).trans ((hdom.rd _).trans (count_rd hs)))

-- A gap, and ORDER_LOST ---------------------------------------------------------------------------------------------------------------------

section
variable {s : State} {r : Rec}

/-- A record ahead joins an empty buffer. -/
theorem buffer_to (hbuf : s.buf = []) (hw : orderWrite r = false) : (buffer r).to s = (one (.buf [r])).to s := by
  rw [buffer, look_runs, hbuf, orderWriteNow_skip hw, hw]
  simp only [List.any_nil, List.length_nil, List.nil_append, Bool.false_eq_true, if_false, Nat.zero_lt_succ, if_true]
  rw [all_cons_to, all_cons_to, all_nil_to, skip_to]

/-- What GAP touches where it is entered (R31, R32). -/
def gapParts : List Part := [.reg .ORD_STATE, .reg .ORD_GAPS, .tmr .gap, .tmr .replay] ++ plainParts ++ eventParts

/-- GAP is entered with its two timers, counted and reported (R31, R32). -/
theorem settle_gap (hs : SMap.sorted s.regs = true) (hbuf : s.buf ≠ []) (hst : s.rd .ORD_STATE = 1) :
    State.SameBut gapParts s (settle.to s) ∧ (settle.to s).rd .ORD_STATE = 2 ∧ (settle.to s).rd .ORD_GAPS = min (s.rd .ORD_GAPS + 1) 0xFFFFFFFF
      ∧ (settle.to s).latched .ORDER_GAP = true ∧ (settle.to s).timer .gap = some (s.now + 64 * psMs) ∧ (settle.to s).timer .replay = some (s.now + psMs) := by
  have hset : Act.Touches [.reg .ORD_STATE] (set .ORD_STATE osGap) := touches_set
  have hcount : Act.Touches [.reg .ORD_GAPS] (count .ORD_GAPS) := touches_count
  have hev := touches_raise_eventParts .ORDER_GAP 0 s.nextOrder
  have hgap : Act.Touches [.tmr .gap] (arm .gap (64 * psMs)) := touches_arm
  have hreplay : Act.Touches [.tmr .replay] (arm .replay psMs) := touches_arm
  have hask := askReplay_touches
  have hto : settle.to s = askReplay.to ((arm .replay psMs).to ((arm .gap (64 * psMs)).to ((raise .ORDER_GAP 0 s.nextOrder).to
      ((count .ORD_GAPS).to ((set .ORD_STATE osGap).to s))))) := by
    rw [settle, look_runs, if_neg (by simpa using hbuf), if_neg (by rw [hst]; decide)]
    repeat rw [all_cons_to]
    rw [all_nil_to]
  have h1 := (hset.step s).sorted hs
  have h2 := (hcount.step _).sorted h1
  have h3 := (hev.step _).sorted h2
  have hlatch := raise_latches .ORDER_GAP 0 s.nextOrder h2 (State.idleBlock_zero _) (by decide)
  have hnow : ((raise .ORDER_GAP 0 s.nextOrder).to ((count .ORD_GAPS).to ((set .ORD_STATE osGap).to s))).now = s.now := by rw [hev.now, hcount.now, hset.now]
  have hstate : ((raise .ORDER_GAP 0 s.nextOrder).to ((count .ORD_GAPS).to ((set .ORD_STATE osGap).to s))).rd .ORD_STATE = 2 := by
    rw [hev.rd, hcount.rd]
    exact set_rd hs (by decide)
  have hgaps : ((raise .ORDER_GAP 0 s.nextOrder).to ((count .ORD_GAPS).to ((set .ORD_STATE osGap).to s))).rd .ORD_GAPS = min (s.rd .ORD_GAPS + 1) 0xFFFFFFFF := by
    rw [hev.rd, count_rd h1, hset.rd]
  have hhead : State.SameBut gapParts s ((raise .ORDER_GAP 0 s.nextOrder).to ((count .ORD_GAPS).to ((set .ORD_STATE osGap).to s))) :=
    (hset.mono.step s).trans ((hcount.mono.step _).trans (hev.mono.step _))
  rw [hto]
  generalize (raise .ORDER_GAP 0 s.nextOrder).to ((count .ORD_GAPS).to ((set .ORD_STATE osGap).to s)) = v at *
  have htail : Act.Touches (.tmr .gap :: .tmr .replay :: plainParts) (all [arm .gap (64 * psMs), arm .replay psMs, askReplay]) :=
    touches_all ⟨touches_arm, touches_arm, hask.mono⟩
  have htail' := htail.step v
  rw [all_cons_to, all_cons_to, all_cons_to, all_nil_to] at htail'
  refine ⟨hhead.trans (htail'.mono (by decide +kernel)), (htail'.rd (by decide +kernel) 0 0).trans hstate, (htail'.rd (by decide +kernel) 0 0).trans hgaps,
    htail'.latched h3 _ hlatch, ?_, ?_⟩
  · rw [hask.timer, hreplay.timer, arm_timer, hnow]
  · rw [hask.timer, arm_timer, hgap.now, hnow]

-- A WRITE of ORD_RESYNC_REQ -------------------------------------------------------------------------------------------------------------------

theorem covered_resyncReq : covered 0x40000140 [1] = [⟨.ORD_RESYNC_REQ, 0, 0, 1, true, 0x40000140 * 8⟩] :=
  covered_first (by decide +kernel) (by decide) (by decide)

/-- ORD_RESYNC_REQ takes a 1 in ORDER_LOST (R39). -/
theorem judgeHere_resyncReq (dom : Nat) (hst : s.rd .ORD_STATE = 3) :
    s.judgeHere dom true 0x40000140 [1] = .ok ([⟨.ORD_RESYNC_REQ, 0, 0, 1, true, 0x40000140 * 8⟩], false) :=
  State.judgeHere_plain covered_resyncReq (by decide) (by decide) (by decide) (State.idleBlock_zero s) (fun _ => rfl) (fun _ => rfl) (by decide)
    fun w => by simp [State.targetCheck, hst]

/-- In ORDER_LOST an ordered WRITE of 1 to ORD_RESYNC_REQ asks for resynchronisation (R33, R39). -/
theorem writeWords_resyncReq (dom order : Nat) (hst : s.rd .ORD_STATE = 3) : (writeWords 0x40000140 [1] dom order).to s = askResync.to s := by
  have hplain : ([⟨.ORD_RESYNC_REQ, 0, 0, 1, true, 0x40000140 * 8⟩] : List FieldWrite).any
      (fun x => x.fld == .SYS_REMAP || (x.fld == .SEC_DEBUG_TOKEN && s.tokenRefused x.v)) = false := rfl
  have hreq : (1 == 1 && s.rd .ORD_STATE == 3) = true := by rw [hst]; rfl
  have hno : (!Fld.ORD_RESYNC_REQ.counters.isEmpty) = false := rfl
  rw [writeWords, look_runs, judgeHere_resyncReq dom hst]
  simp only [hplain, Bool.false_eq_true, if_false]
  rw [storeAll_single _ _ _ (by decide)]
  show (woAct .ORD_RESYNC_REQ 0 0 1).to s = _
  rw [woAct, look_runs, hno, if_neg Bool.false_ne_true]
  simp only
  rw [iff_to, if_pos hreq, askResync, look_runs]

end

end Sys2Proof.Machine
end

section
/-! SUPPORT. O8: an ordered record at a worker, by the order state and the number that it carries. -/
set_option Elab.async false
namespace Sys2Proof.Machine

section
variable {s : State} {t : Nat} {r : Rec}

/-- ORD_SEEN once the number of a record has been seen. -/
def State.seenOf (s : State) (r : Rec) : Nat := if later r.order (s.rd .ORD_SEEN) then r.order else s.rd .ORD_SEEN

/-- The state in which a record has come and its number been seen. -/
def State.seeing (s : State) (t : Nat) (r : Rec) : State := (seeOrder r).to (s.since t)

/-- The state in which the next record's number is applied, before what it does here. -/
def State.applying (s : State) (t : Nat) (r : Rec) : State := (set .ORD_APPLIED r.order).to (s.seeing t r)

theorem seeing_sameBut (s : State) (t : Nat) (r : Rec) : State.SameBut [.now, .reg .ORD_SEEN] s (s.seeing t r) :=
  ((since_sameBut s t).mono (by decide +kernel)).trans ((seeOrder_touches r).mono.step (s.since t))

theorem seeing_sorted (hwf : s.wf = true) : SMap.sorted (s.seeing t r).regs = true := (seeing_sameBut s t r).sorted (State.wf_regs hwf)

theorem seeing_seen (hwf : s.wf = true) (hr : r.order < 2 ^ 48) : (s.seeing t r).rd .ORD_SEEN = s.seenOf r := seeOrder_rd (s := s.since t) (State.wf_regs hwf) hr

theorem applying_sameBut (s : State) (t : Nat) (r : Rec) : State.SameBut [.now, .reg .ORD_SEEN, .reg .ORD_APPLIED] s (s.applying t r) := by
  have hset : Act.Touches [.now, .reg .ORD_SEEN, .reg .ORD_APPLIED] (set .ORD_APPLIED r.order) := touches_set
  exact ((seeing_sameBut s t r).mono (by decide +kernel)).trans (hset.step _)

theorem applying_regs (hwf : s.wf = true) (hr : r.order < 2 ^ 48) : (s.applying t r).rd .ORD_APPLIED = r.order ∧ (s.applying t r).rd .ORD_SEEN = s.seenOf r := by
  have hset : Act.Touches [.reg .ORD_APPLIED] (set .ORD_APPLIED r.order) := touches_set
  exact ⟨(set_rd (seeing_sorted hwf) (by decide)).trans (Nat.mod_eq_of_lt hr), (hset.rd _).trans (seeing_seen hwf hr)⟩

theorem applying_house (s : State) (t : Nat) (r : Rec) : (s.applying t r).house = (s.since t).house := by
  have hset : Act.Touches [.reg .ORD_SEEN, .reg .ORD_APPLIED] (set .ORD_APPLIED r.order) := touches_set
  exact (((seeOrder_touches r).mono.step (s.since t)).trans (hset.step _)).house

/-- In IN_ORDER with nothing buffered the next number is applied (R31). -/
theorem arrival_next (hact : r.sender = s.activeNode) (hsu : s.rd .SU_STATE = 3) (hst : s.rd .ORD_STATE = 1) (hbuf : s.buf = []) (hx : r.order = s.nextOrder) :
    ∃ u, exec (.orderedRecordArrival t r true) s = .next u ∧ State.SameBut [.tmr .gap, .tmr .replay] ((dueNow r).to (s.applying t r)) u := by
  refine ⟨_, exec_arrival hact hsu, ?_⟩
  have h := arrive_next (s := s.since t) hst hbuf hx
  rwa [applyNext, all_cons_to, all_cons_to, all_nil_to] at h

/-- A record that does nothing at this module. -/
theorem dueNow_nothing {v : State} (h : v.itemsOf r = []) : (dueNow r).to v = v := by
  simp only [dueNow, look_runs, h, List.isEmpty_nil, if_true, skip_to]

/-- The next number of a record that does nothing here. -/
theorem arrival_idle (hwf : s.wf = true) (hr : r.order < 2 ^ 48) (hact : r.sender = s.activeNode) (hsu : s.rd .SU_STATE = 3) (hst : s.rd .ORD_STATE = 1) (hbuf : s.buf = [])
    (hx : r.order = s.nextOrder) (hitems : s.itemsOf r = []) : ∃ u, exec (.orderedRecordArrival t r true) s = .next u
      ∧ State.SameBut [.now, .reg .ORD_SEEN, .reg .ORD_APPLIED, .tmr .gap, .tmr .replay] s u ∧ u.rd .ORD_APPLIED = r.order ∧ u.rd .ORD_SEEN = s.seenOf r := by
  obtain ⟨u, hexec, hu⟩ := arrival_next (t := t) hact hsu hst hbuf hx
  have hsame := applying_sameBut s t r
  rw [dueNow_nothing ((hsame.itemsOf r).trans hitems)] at hu
  obtain ⟨happ, hseen⟩ := applying_regs (t := t) hwf hr
  exact ⟨u, hexec, (hsame.mono (by decide +kernel)).trans (hu.mono (by decide +kernel)), (hu.rd (by decide +kernel) 0 0).trans happ,
    (hu.rd (by decide +kernel) 0 0).trans hseen⟩

section
variable (hwf : s.wf = true) (hr : r.order < 2 ^ 48) (hact : r.sender = s.activeNode) (hsu : s.rd .SU_STATE = 3) (hst : s.rd .ORD_STATE = 1) (hbuf : s.buf = [])
  (hx : r.order = s.nextOrder) {out mode holder : Nat} {fm : Format} (hitems : s.itemsOf r = [.lock out mode holder]) (himm : r.stamp.imm = false)
  (hline : r.stamp.line = 0) (hfm : s.domFormat r.stamp.dom = some fm)
include hwf hr hact hsu hst hbuf hx hitems himm hline hfm

/-- A LOCK of an output here waits at its frame start (R53). -/
theorem arrival_lock_onTime (hacts : s.acts = []) (ht : (s.since t).house ≤ fm.frameStart r.stamp.frame) : ∃ u, exec (.orderedRecordArrival t r true) s = .next u
      ∧ State.SameBut [.now, .reg .ORD_SEEN, .reg .ORD_APPLIED, .tmr .gap, .tmr .replay, .acts, .reg .SCHED_PENDING, .reg .SCHED_PENDING_PEAK] s u
      ∧ u.rd .ORD_APPLIED = r.order ∧ u.rd .SCHED_PENDING = 1
      ∧ u.acts = [⟨r.order, r.kind, r.stamp, r.stamp.dom, r.stamp.frame, .frameStart, fm.frameStart r.stamp.frame, 0, 0, .lock out mode holder⟩] := by
  obtain ⟨u, hexec, hu⟩ := arrival_next (t := t) hact hsu hst hbuf hx
  obtain ⟨happ, -⟩ := applying_regs (t := t) hwf hr
  have hsame := applying_sameBut s t r
  have hhouse := applying_house s t r
  generalize s.applying t r = v at hu happ hsame hhouse
  have hacts' : v.acts = [] := (hsame.acts).trans hacts
  rw [dueNow_lock_onTime ((hsame.itemsOf r).trans hitems) himm hline ((hsame.domFormat _).trans hfm) hacts' (hhouse.trans_le ht)] at hu
  obtain ⟨hpend, hp, hone⟩ := addPend_lock (p := ⟨r.order, r.kind, r.stamp, r.stamp.dom, r.stamp.frame, .frameStart, fm.frameStart r.stamp.frame, 0, 0, .lock out mode holder⟩)
    (hsame.sorted (State.wf_regs hwf)) hacts' rfl
  generalize (addPend _).to v = w at hu hpend hp hone
  exact ⟨u, hexec, (hsame.mono (by decide +kernel)).trans ((hpend.mono (by decide +kernel)).trans (hu.mono (by decide +kernel))),
    (hu.rd (by decide +kernel) 0 0).trans ((hpend.rd (by decide +kernel) 0 0).trans happ), (hu.rd (by decide +kernel) 0 0).trans hone,
    (hu.acts).trans hp⟩

/-- One that comes three frames late is refused (R53). -/
theorem arrival_lock_late (h0 : fm.frameStart r.stamp.frame < (s.since t).house) (h1 : fm.frameStart (r.stamp.frame + 1) < (s.since t).house)
    (h2 : fm.frameStart (r.stamp.frame + 2) < (s.since t).house) : ∃ u, exec (.orderedRecordArrival t r true) s = .next u
      ∧ State.SameBut ([.now, .reg .ORD_SEEN, .reg .ORD_APPLIED, .tmr .gap, .tmr .replay] ++ refuseParts) s u
      ∧ u.rd .ORD_APPLIED = r.order ∧ u.rd .ORD_REFUSED_LATE = min (s.rd .ORD_REFUSED_LATE + 1) 0xFFFFFFFF ∧ u.latched .ACTION_REFUSED_LATE = true := by
  obtain ⟨u, hexec, hu⟩ := arrival_next (t := t) hact hsu hst hbuf hx
  obtain ⟨happ, -⟩ := applying_regs (t := t) hwf hr
  have hsame := applying_sameBut s t r
  have hhouse := applying_house s t r
  generalize s.applying t r = v at hu happ hsame hhouse
  rw [dueNow_lock_late ((hsame.itemsOf r).trans hitems) himm hline ((hsame.domFormat _).trans hfm) (hhouse ▸ h0) (hhouse ▸ h1) (hhouse ▸ h2)] at hu
  have hs := hsame.sorted (State.wf_regs hwf)
  obtain ⟨hrefuse, hcount, hlatch⟩ := refuseLate_counts hs r.order r.stamp.dom
  generalize (refuseLate _ _).to v = w at hu hrefuse hcount hlatch
  exact ⟨u, hexec, (hsame.mono (by decide +kernel)).trans ((hrefuse.mono (by decide +kernel)).trans (hu.mono (by decide +kernel))),
    (hu.rd (by decide +kernel) 0 0).trans ((hrefuse.rd (by decide +kernel) 0 0).trans happ),
    ((hu.rd (by decide +kernel) 0 0).trans hcount).trans (by rw [hsame.rd (by decide +kernel)]), hu.latched (hrefuse.sorted hs) _ hlatch⟩

end

/-- The next number, whatever its record does here: the order stream has gone on by it. -/
theorem arrival_any (hwf : s.wf = true) (hr : r.order < 2 ^ 48) (hact : r.sender = s.activeNode) (hsu : s.rd .SU_STATE = 3) (hst : s.rd .ORD_STATE = 1) (hbuf : s.buf = [])
    (hx : r.order = s.nextOrder) : ∃ u, exec (.orderedRecordArrival t r true) s = .next u
      ∧ State.SameBut (.now :: .reg .ORD_SEEN :: .reg .ORD_APPLIED :: .tmr .gap :: .tmr .replay :: dueParts) s u ∧ u.rd .ORD_APPLIED = r.order := by
  obtain ⟨u, hexec, hu⟩ := arrival_next (t := t) hact hsu hst hbuf hx
  obtain ⟨happ, -⟩ := applying_regs (t := t) hwf hr
  have hsame := applying_sameBut s t r
  generalize s.applying t r = v at hu happ hsame
  have hdue := (dueNow_touches r).step v
  generalize (dueNow r).to v = w at hu hdue
  exact ⟨u, hexec, (hsame.mono (by decide +kernel)).trans ((hdue.mono (by decide +kernel)).trans (hu.mono (by decide +kernel))),
    (hu.rd (by decide +kernel) 0 0).trans ((hdue.rd (by decide +kernel) 0 0).trans happ)⟩

theorem buffered_one (r : Rec) (v : State) : ((one (.buf [r])).to v).buf = [r] := rfl

section
variable (hact : r.sender = s.activeNode) (hsu : s.rd .SU_STATE = 3)
include hact hsu

/-- A number up to 255 further on is buffered, and GAP is entered (R31, R32). -/
theorem arrival_gap (hwf : s.wf = true) (hst : s.rd .ORD_STATE = 1) (hbuf : s.buf = []) (hx : r.order ≠ s.nextOrder) (hl : later r.order s.nextOrder = true)
    (hd : orderDiff r.order s.nextOrder < 256) (hw : orderWrite r = false) : ∃ u, exec (.orderedRecordArrival t r true) s = .next u
      ∧ State.SameBut (.now :: .reg .ORD_SEEN :: .buf :: gapParts) s u ∧ u.rd .ORD_STATE = 2 ∧ u.buf = [r]
      ∧ u.rd .ORD_GAPS = min (s.rd .ORD_GAPS + 1) 0xFFFFFFFF ∧ u.latched .ORDER_GAP = true ∧ u.timer .gap = some (max s.now t + 64 * psMs)
      ∧ u.timer .replay = some (max s.now t + psMs) := by
  have hsame := seeing_sameBut s t r
  have hnow : (s.seeing t r).now = max s.now t := (seeOrder_touches r).now (s.since t)
  have hsorted := seeing_sorted (t := t) (r := r) hwf
  have hto : (orderArrive r).to (s.since t) = (all [buffer r, look fun s => if s.rd .ORD_STATE = osGap then skip else settle]).to (s.seeing t r) := by
    rw [orderArrive_inOrder (s := s.since t) hst, if_neg (show r.order ≠ (s.since t).nextOrder from hx), if_pos (show later r.order (s.since t).nextOrder = true from hl),
      if_pos (show orderDiff r.order (s.since t).nextOrder < 256 from hd), State.seeing]
  refine ⟨_, exec_arrival hact hsu, ?_⟩
  rw [hto]
  generalize s.seeing t r = v at hsame hnow hsorted
  have hone : Act.Touches [.buf] (one (.buf [r])) := touches_one rfl
  have hone' := hone.step v
  have hst' : ((one (.buf [r])).to v).rd .ORD_STATE = 1 := (hone.rd v).trans ((hsame.rd (by decide +kernel) 0 0).trans hst)
  have hbufs := buffered_one r v
  have hnow' : ((one (.buf [r])).to v).now = max s.now t := (hone.now v).trans hnow
  rw [all_cons_to, all_cons_to, all_nil_to, buffer_to ((hsame.buf).trans hbuf) hw, look_runs, if_neg (by rw [hst']; decide)]
  generalize (one (.buf [r])).to v = w at hone' hst' hbufs hnow'
  obtain ⟨hgap, hstate, hgaps, hlatch, htg, htr⟩ := settle_gap (s := w) (hone'.sorted hsorted) (hbufs ▸ List.cons_ne_nil r []) hst'
  refine ⟨(hsame.mono (by decide +kernel)).trans ((hone'.mono (by decide +kernel)).trans (hgap.mono (by decide +kernel))), hstate,
    (hgap.buf).trans hbufs, ?_, hlatch, htg.trans (by rw [hnow']), htr.trans (by rw [hnow'])⟩
  rw [hgaps, hone'.rd (by decide +kernel), hsame.rd (by decide +kernel)]

/-- One further still loses the order stream (R31, R33). -/
theorem arrival_far (hwf : s.wf = true) (hst : s.rd .ORD_STATE = 1) (hx : r.order ≠ s.nextOrder) (hl : later r.order s.nextOrder = true)
    (hd : 256 ≤ orderDiff r.order s.nextOrder) (hw : orderWrite r = false) :
    ∃ u, exec (.orderedRecordArrival t r true) s = .next u ∧ (s.seeing t r).Lost u := by
  refine ⟨_, exec_arrival hact hsu, ?_⟩
  have hwf' : (s.seeing t r).wf = true := Act.to_wf (seeOrder r) (s := s.since t) hwf
  rw [orderArrive_inOrder (s := s.since t) hst, if_neg (show r.order ≠ (s.since t).nextOrder from hx), if_pos (show later r.order (s.since t).nextOrder = true from hl),
    if_neg (show ¬ orderDiff r.order (s.since t).nextOrder < 256 from Nat.not_lt.mpr hd), all_cons_to, all_cons_to, all_nil_to, orderWriteNow_skip hw, skip_to]
  exact orderLost_lost hwf'

/-- An earlier number counts as a duplicate (R31). -/
theorem arrival_duplicate (hwf : s.wf = true) (hst : s.rd .ORD_STATE = 1) (hx : r.order ≠ s.nextOrder) (hl : later r.order s.nextOrder = false) :
    ∃ u, exec (.orderedRecordArrival t r true) s = .next u ∧ State.SameBut [.now, .reg .ORD_SEEN, .reg .ORD_DUPLICATES] s u
      ∧ u.rd .ORD_DUPLICATES = min (s.rd .ORD_DUPLICATES + 1) 0xFFFFFFFF := by
  refine ⟨_, exec_arrival hact hsu, ?_⟩
  have hsame := seeing_sameBut s t r
  have hcount : Act.Touches [.now, .reg .ORD_SEEN, .reg .ORD_DUPLICATES] (count .ORD_DUPLICATES) := touches_count
  rw [orderArrive_inOrder (s := s.since t) hst, if_neg (show r.order ≠ (s.since t).nextOrder from hx),
    if_neg (show ¬ later r.order (s.since t).nextOrder = true from Bool.eq_false_iff.mp hl), ← State.seeing]
  refine ⟨(hsame.mono (by decide +kernel)).trans (hcount.step _), ?_⟩
  rw [count_rd (seeing_sorted hwf), hsame.rd (by decide +kernel)]

/-- In ORDER_LOST a record is discarded (R33). -/
theorem arrival_discarded (hst : s.rd .ORD_STATE = 3) (hw : orderWrite r = false) : exec (.orderedRecordArrival t r true) s = .next (s.seeing t r) := by
  rw [exec_arrival hact hsu, orderArrive_lost (s := s.since t) hst, orderWriteNow_skip hw, ite_self, skip_to, State.seeing]

/-- In ORDER_LOST the next record asks for resynchronisation where it is a WRITE of 1 to ORD_RESYNC_REQ (R33, R39). -/
theorem arrival_resyncReq (hst : s.rd .ORD_STATE = 3) (hx : r.order = s.nextOrder) (hkind : r.kind = 5) (hbody : r.body = [0x40000140 + 4 * 2 ^ 40, 1]) :
    exec (.orderedRecordArrival t r true) s = .next (askResync.to (s.seeing t r)) := by
  have hdecode : decodeWrite r.body = (0x40000140, [1]) := by rw [hbody]; decide
  have hw : orderWrite r = true := by
    rw [orderWrite, hdecode, hkind, covered_resyncReq]
    rfl
  have hst' : (s.seeing t r).rd .ORD_STATE = 3 := ((seeing_sameBut s t r).rd (by decide +kernel) 0 0).trans hst
  rw [exec_arrival hact hsu, orderArrive_lost (s := s.since t) hst, if_pos (.inl hx), ← State.seeing, orderWriteNow, hw, if_pos rfl, hdecode,
    writeWords_resyncReq _ _ hst']

end

end

/-- Settles O8: one lemma for each order state and number (`arrival_idle` to `arrival_resyncReq`). -/
theorem orderedRecordsApplyInOrder : Obligations.OrderedRecordsApplyInOrder := by
  intro s t r hwf hfits hsu hr hpos x order seen
  have hregs := State.wf_regs hwf
  refine ⟨?_, fun hact => ?_, fun hact hst hbuf => ⟨fun hx hitems => ?_, fun out mode holder fm hx _ hitems himm hline hfm hdom hacts => ?_, fun hx hl hd hw => ?_,
    fun hx hl hd hw => ?_, fun hx hl => ?_⟩, fun hact hst hx => ⟨fun hw => ?_, fun hkind hbody => ?_⟩⟩
  · have hev := touches_raise_eventParts .SPORE_TAG_FAIL r.sender r.order
    have hcount : Act.Touches [.reg .FAB_TAG_FAILS] (count .FAB_TAG_FAILS) := touches_count
    have hsame : State.SameBut (.reg .FAB_TAG_FAILS :: eventParts) (s.since t) ((all [count .FAB_TAG_FAILS, raise .SPORE_TAG_FAIL r.sender r.order]).to (s.since t)) := by
      rw [all_cons_to, all_cons_to, all_nil_to]
      exact (hcount.mono.step _).trans (hev.mono.step _)
    refine ⟨_, exec_arrival_untagged, ?_, ⟨hsame.rd (by decide +kernel) 0 0, hsame.rd (by decide +kernel) 0 0, hsame.buf,
      hsame.mem⟩, hsame.only (by decide +kernel), hsame.out⟩
    rw [all_cons_to, all_cons_to, all_nil_to, hev.rd]
    exact count_rd (s := s.since t) hregs
  · have hcount : Act.Touches [.reg .RD_STALE_RECORDS] (count .RD_STALE_RECORDS) := touches_count
    have hsame := hcount.step (s.since t)
    exact ⟨_, exec_arrival_stale hact, count_rd (s := s.since t) hregs, ⟨hsame.rd (by decide +kernel) 0 0, hsame.rd (by decide +kernel) 0 0, hsame.buf,
      hsame.mem⟩, hsame.only (by decide +kernel), hsame.out⟩
  · obtain ⟨u, hexec, hsame, happ, hseen⟩ := arrival_idle (t := t) hwf hr hact hsu hst hbuf hx hitems
    exact ⟨u, hexec, ⟨(hsame.rd (by decide +kernel) 0 0).trans hst, happ, (hsame.buf).trans hbuf, hsame.mem⟩, hseen,
      hsame.acts, hsame.only (by decide +kernel), hsame.out⟩
  · by_cases ht : (s.since t).house ≤ fm.frameStart r.stamp.frame
    · obtain ⟨u, hexec, hsame, happ, hone, hu⟩ := arrival_lock_onTime hwf hr hact hsu hst hbuf hx hitems himm hline hfm hacts ht
      exact ⟨u, hexec, ⟨(hsame.rd (by decide +kernel) 0 0).trans hst, happ, (hsame.buf).trans hbuf, hsame.mem⟩,
        fun _ => ⟨hu, hone, hsame.only (by decide +kernel)⟩, fun _ _ h0 => absurd ht (Nat.not_le.mpr h0)⟩
    · by_cases hlate : fm.frameStart (r.stamp.frame + 2) < (s.since t).house ∧ fm.frameStart (r.stamp.frame + 1) < (s.since t).house
          ∧ fm.frameStart r.stamp.frame < (s.since t).house
      · obtain ⟨h2, h1, h0⟩ := hlate
        obtain ⟨u, hexec, hsame, happ, hcount, hlatch⟩ := arrival_lock_late hwf hr hact hsu hst hbuf hx hitems himm hline hfm h0 h1 h2
        exact ⟨u, hexec, ⟨(hsame.rd (by decide +kernel) 0 0).trans hst, happ, (hsame.buf).trans hbuf, hsame.mem⟩,
          fun h => absurd h ht, fun _ _ _ => ⟨(hsame.acts).trans hacts, hcount, hlatch, hsame.only (by decide +kernel)⟩⟩
      · obtain ⟨u, hexec, hsame, happ⟩ := arrival_any (t := t) hwf hr hact hsu hst hbuf hx
        exact ⟨u, hexec, ⟨(hsame.rd (by decide +kernel) 0 0).trans hst, happ, (hsame.buf).trans hbuf, hsame.mem⟩,
          fun h => absurd h ht, fun h2 h1 h0 => absurd ⟨h2, h1, h0⟩ hlate⟩
  · obtain ⟨u, hexec, hsame, hstate, hb, hgaps, hlatch, htg, htr⟩ := arrival_gap (t := t) hact hsu hwf hst hbuf hx hl hd hw
    exact ⟨u, hexec, ⟨hstate, hsame.rd (by decide +kernel) 0 0, hb, hsame.mem⟩, hgaps, hlatch, htg, htr, hsame.only (by decide +kernel)⟩
  · obtain ⟨u, hexec, hlost⟩ := arrival_far (t := t) hact hsu hwf hst hx hl hd hw
    have hsee := seeing_sameBut s t r
    have hsame := (hsee.mono (qs := .now :: .reg .ORD_SEEN :: lostParts) (by decide +kernel)).trans (hlost.same.mono (by decide +kernel))
    have hauto : (s.seeing t r).rd .ORD_RESYNC_AUTO = s.rd .ORD_RESYNC_AUTO := hsee.rd (by decide +kernel) 0 0
    refine ⟨u, hexec, ⟨hauto ▸ hlost.state, hsame.rd (by decide +kernel) 0 0, hlost.buf, hsame.mem⟩, ?_, hlost.latched, ?_,
      hsame.only (by decide +kernel)⟩
    · rw [hlost.losses, hsee.rd (by decide +kernel)]
    · rw [hlost.out, hauto, hsee.activeNode, show (s.seeing t r).out = s.out from hsee.out]
  · obtain ⟨u, hexec, hsame, hdup⟩ := arrival_duplicate (t := t) hact hsu hwf hst hx hl
    exact ⟨u, hexec, ⟨(hsame.rd (by decide +kernel) 0 0).trans hst, hsame.rd (by decide +kernel) 0 0, (hsame.buf).trans hbuf,
      hsame.mem⟩, hdup, hsame.only (by decide +kernel), hsame.out⟩
  · have hsame := seeing_sameBut s t r
    exact ⟨_, arrival_discarded hact hsu hst hw, ⟨(hsame.rd (by decide +kernel) 0 0).trans hst, hsame.rd (by decide +kernel) 0 0, hsame.buf,
      hsame.mem⟩, seeing_seen hwf hr, hsame.only (by decide +kernel), hsame.out⟩
  · have hsee := seeing_sameBut s t r
    have hask := askResync_touches.step (s.seeing t r)
    have hsame := (hsee.mono (qs := .now :: .reg .ORD_SEEN :: resyncParts) (by decide +kernel)).trans (hask.mono (by decide +kernel))
    obtain ⟨h4, -, hout⟩ := askResync_to (seeing_sorted (t := t) (r := r) hwf)
    refine ⟨_, arrival_resyncReq hact hsu hst hx hkind hbody, ⟨h4, hsame.rd (by decide +kernel) 0 0, hsame.buf, hsame.mem⟩,
      (hask.rd (by decide +kernel) 0 0).trans (seeing_seen hwf hr), hsame.only (by decide +kernel), ?_⟩
    rw [hout, hsee.activeNode, show (s.seeing t r).out = s.out from hsee.out]

end Sys2Proof.Machine
end

section
/-! SUPPORT. What the arrival of an ordered record can touch (R31): the WRITEs that take effect out of order reach four fields of block 00h alone. -/
set_option Elab.async false
namespace Sys2Proof.Machine

-- The fields that an accepted write lands in ---------------------------------------------------------------------------------------------------

theorem mem_insertAt {x y : FieldWrite} : ∀ {l : List FieldWrite}, y ∈ insertAt x l → y = x ∨ y ∈ l
  | [], h => .inl (List.mem_singleton.mp h)
  | z :: r, h => by
    rw [insertAt] at h
    split at h
    · exact List.mem_cons.mp h
    · rcases List.mem_cons.mp h with rfl | h
      · exact .inr (.head _)
      · exact (mem_insertAt h).imp_right (.tail _)

theorem mem_foldl_insertAt {y : FieldWrite} : ∀ {xs l : List FieldWrite}, y ∈ xs.foldl (fun l x => insertAt x l) l → y ∈ xs ∨ y ∈ l
  | [], _, h => .inr h
  | x :: xs, l, h => by
    rcases mem_foldl_insertAt (xs := xs) h with h | h
    · exact .inl (.tail _ h)
    · rcases mem_insertAt h with rfl | h
      · exact .inl (.head _)
      · exact .inr h

/-- Words cover fields of one block: that of their address (R12). -/
theorem covered_fld {a : Nat} {data : List Nat} {x : FieldWrite} (h : x ∈ covered a data) : x.fld ∈ Fld.ofBlock (blockOf a) := by
  rw [covered_eq] at h
  have hx := (mem_foldl_insertAt h).resolve_right List.not_mem_nil
  obtain ⟨p, hp, rfl⟩ := List.mem_map.mp hx
  obtain ⟨f, hf, hp⟩ := List.mem_flatMap.mp hp
  obtain ⟨q, -, rfl⟩ := List.mem_map.mp hp
  exact hf

theorem verdicts_fld {chk : FieldWrite → Verdict} : ∀ {ws fs : List FieldWrite} {c : Bool}, verdicts chk ws = .ok (fs, c) → ∀ x ∈ fs, ∃ y ∈ ws, y.fld = x.fld
  | [], fs, c, h, x, hx => by
    cases h
    exact absurd hx List.not_mem_nil
  | w :: r, fs, c, h, x, hx => by
    have hrest (v : Nat) (b : Bool) (g : List FieldWrite × Bool → List FieldWrite × Bool) (hg : ∀ l c, (g (l, c)).1 = { w with v := v } :: l)
        (h : (verdicts chk r).map g = .ok (fs, b)) : ∃ y ∈ w :: r, y.fld = x.fld := by
      cases hv : verdicts chk r with
      | error e => rw [hv] at h; cases h
      | ok p =>
        rw [hv] at h
        have hfs : fs = { w with v := v } :: p.1 := by
          rw [← hg p.1 p.2]
          exact (congrArg Prod.fst (Except.ok.inj h)).symm
        rw [hfs] at hx
        rcases List.mem_cons.mp hx with rfl | hx
        · exact ⟨w, .head _, rfl⟩
        · obtain ⟨y, hy, hf⟩ := verdicts_fld hv x hx
          exact ⟨y, .tail _ hy, hf⟩
    rw [verdicts] at h
    split at h
    · cases h
    · split at h
      · cases h
      · exact hrest _ _ _ (fun _ _ => rfl) h
      · exact hrest _ _ _ (fun _ _ => rfl) h

/-- What an accepted write stores lies in fields that its words cover and that are not read-only (R386). -/
theorem judgeWrite_fld {w : View} {idle : Nat → Bool} {more : View → FieldWrite → Option Status} {a : Nat} {data : List Nat} {fs : List FieldWrite} {c : Bool}
    (h : judgeWrite w idle more a data = .ok (fs, c)) : ∀ x ∈ fs, x.fld ∈ Fld.ofBlock (blockOf a) ∧ x.fld.desc.acc ≠ .ro := by
  intro x hx
  rw [judgeWrite] at h
  simp only at h
  split at h
  · cases h
  · split at h
    · cases h
    · obtain ⟨y, hy, hf⟩ := verdicts_fld h x hx
      obtain ⟨hy, hacc⟩ := List.mem_filter.mp hy
      exact hf ▸ ⟨covered_fld hy, bne_iff_ne.mp hacc⟩

-- A WRITE of ORD_RESYNC_AUTO or ORD_RESYNC_REQ --------------------------------------------------------------------------------------------------

/-- The fields of block 00h that a write can change. -/
def systemFields : List Fld := [.ORD_RESYNC_AUTO, .ORD_RESYNC_REQ, .SYS_REMAP, .SYS_RESTART]

theorem systemFields_of {f : Fld} (h : f ∈ Fld.ofBlock 0) (hacc : f.desc.acc ≠ .ro) : f ∈ systemFields := by
  have all : ∀ f ∈ Fld.ofBlock 0, f.desc.acc ≠ .ro → f ∈ systemFields := by decide +kernel
  exact all f h hacc

theorem ofBlock_resync {b : Nat} {f : Fld} (hf : f = .ORD_RESYNC_AUTO ∨ f = .ORD_RESYNC_REQ) (h : f ∈ Fld.ofBlock b) : b = 0 := by
  have low : ∀ b < 20, Fld.ORD_RESYNC_AUTO ∈ Fld.ofBlock b ∨ Fld.ORD_RESYNC_REQ ∈ Fld.ofBlock b → b = 0 := by decide +kernel
  by_cases hb : b < 20
  · exact low b hb (by rcases hf with rfl | rfl; exacts [.inl h, .inr h])
  · have hnil : Fld.ofBlock b = [] := by
      unfold Fld.ofBlock
      split <;> first | omega | rfl
    rw [hnil] at h
    exact absurd h List.not_mem_nil

/-- What such a WRITE can touch where it takes effect out of order (R39). -/
def resyncWriteParts : List Part := [.reg .ORD_RESYNC_AUTO, .reg .ORD_STATE, .img, .out, .tmr .restart, .reg .TC_WRITE_REFUSED] ++ eventParts

theorem restartAsked_touches : restartAsked.Touches [.tmr .restart] := touches_look fun _ => touches_arm

theorem woAct_resyncReq_touches (i j v : Nat) : (woAct .ORD_RESYNC_REQ i j v).Touches resyncWriteParts := by
  refine touches_look fun s => ?_
  rw [if_neg (by decide)]
  exact touches_iff fun _ => touches_all ⟨touches_set, touches_one rfl, touches_emit⟩

theorem woAct_restart_touches (i j v : Nat) : (woAct .SYS_RESTART i j v).Touches resyncWriteParts := by
  refine touches_look fun s => ?_
  rw [if_neg (by decide)]
  exact touches_iff fun _ => restartAsked_touches.mono

theorem storeField_touches {x : FieldWrite} (from_ : Nat) (h : x.fld ∈ systemFields) : (storeField from_ x).Touches resyncWriteParts := by
  obtain ⟨f, i, j, v, whole, b⟩ := x
  simp only [systemFields, List.mem_cons, List.not_mem_nil, or_false] at h
  have hset : (set .ORD_RESYNC_AUTO v i j).Touches resyncWriteParts := touches_set
  rcases h with rfl | rfl | rfl | rfl
  · exact touches_look fun _ => hset
  · exact woAct_resyncReq_touches i j v
  · exact touches_look fun _ => touches_skip
  · exact woAct_restart_touches i j v

theorem valueOf_none {fs : List FieldWrite} {f : Fld} (i : Nat) (h : ∀ x ∈ fs, x.fld ≠ f) : valueOf fs f i = none := by
  have hfind : fs.find? (fun x => x.fld == f && x.i == i) = none := List.find?_eq_none.mpr fun x hx => by simp [h x hx]
  rw [valueOf, hfind, Option.map_none]

theorem writeGroups_touches {ps : List Part} {fs : List FieldWrite} (order dom : Nat) (h : ∀ x ∈ fs, x.fld ∉ groupFields) : (writeGroups order dom fs).Touches ps := by
  have hnone (f : Fld) (hf : f ∈ groupFields) (i : Nat) : valueOf fs f i = none := valueOf_none i fun x hx he => h x hx (he ▸ hf)
  have htrig : trigWords fs = none := by rw [trigWords, hnone .TT_PORTS (by decide)]
  simp only [writeGroups, hnone .PD_INCR (by decide), hnone .PD_OFFSET (by decide), htrig, hnone .SEC_DEBUG_TOKEN (by decide), hnone .GP_PULSE_LINES (by decide)]
  exact touches_all ⟨touches_each fun _ _ => touches_iff fun hc => absurd hc (by decide), touches_skip, touches_skip, touches_skip⟩

theorem orderWriteNow_touches (r : Rec) : (orderWriteNow r).Touches resyncWriteParts := by
  refine touches_ite (fun hw => ?_) fun _ => touches_skip
  have hblock : blockOf (decodeWrite r.body).1 = 0 := by
    rw [orderWrite, Bool.and_eq_true, List.any_eq_true] at hw
    obtain ⟨-, x, hx, hf⟩ := hw
    simp only [Bool.or_eq_true, beq_iff_eq] at hf
    exact ofBlock_resync hf (covered_fld hx)
  refine touches_look fun s => ?_
  cases hj : s.judgeHere r.stamp.dom true (decodeWrite r.body).1 (decodeWrite r.body).2 with
  | error st => exact touches_all ⟨touches_count, touches_raise⟩
  | ok p =>
    obtain ⟨fs, c⟩ := p
    have hfs (x : FieldWrite) (hx : x ∈ fs) : x.fld ∈ systemFields := by
      obtain ⟨hin, hacc⟩ := judgeWrite_fld hj x hx
      exact systemFields_of (hblock ▸ hin) hacc
    have hgroup (x : FieldWrite) (hx : x ∈ fs) : x.fld ∉ groupFields := by
      have all : ∀ f ∈ systemFields, f ∉ groupFields := by decide
      exact all _ (hfs x hx)
    exact touches_ite (fun _ => touches_all ⟨touches_count, touches_raise⟩) fun _ =>
      touches_all ⟨touches_each fun x hx => storeField_touches 0 (hfs x hx), writeGroups_touches _ _ hgroup⟩

-- The arrival -------------------------------------------------------------------------------------------------------------------------------

/-- What the arrival of an ordered record can touch (R31). -/
def arriveParts : List Part :=
  [.reg .ORD_SEEN, .reg .ORD_DUPLICATES, .buf] ++ resyncWriteParts ++ lostParts ++ gapParts ++ applyParts

theorem drain_touches (n : Nat) : (drain n).Touches (.buf :: applyParts) := by
  induction n with
  | zero => exact touches_skip
  | succ n ih =>
    refine touches_look fun s => ?_
    cases s.buf.find? fun r => r.order == s.nextOrder with
    | none => exact touches_skip
    | some r => exact touches_all ⟨touches_one rfl, (applyNext_touches r).mono, ih⟩

theorem settle_touches : settle.Touches gapParts :=
  touches_look fun _ => touches_ite (fun _ => touches_all ⟨touches_iff fun _ => touches_set, touches_disarm, touches_disarm⟩) fun _ =>
    touches_ite (fun _ => touches_skip) fun _ =>
      touches_all ⟨touches_set, touches_count, touches_raise, touches_arm, touches_arm, askReplay_touches.mono⟩

theorem buffer_touches (r : Rec) : (buffer r).Touches ([.reg .ORD_DUPLICATES, .buf] ++ resyncWriteParts) :=
  touches_look fun _ => touches_ite (fun _ => touches_count) fun _ => touches_all ⟨touches_one rfl, (orderWriteNow_touches r).mono⟩

theorem orderArrive_touches (r : Rec) : (orderArrive r).Touches arriveParts := by
  have hbuffer := (buffer_touches r).mono (qs := arriveParts)
  have hsettle := settle_touches.mono (qs := arriveParts)
  have hwrite := (orderWriteNow_touches r).mono (qs := arriveParts)
  have hdup : Act.Touches arriveParts (count .ORD_DUPLICATES) := touches_count
  refine touches_look fun s => ?_
  have hseen : Act.Touches arriveParts (iff (later r.order (s.rd .ORD_SEEN)) (set .ORD_SEEN r.order)) := touches_iff fun _ => touches_set
  have hinOrder : Act.Touches arriveParts (if r.order = s.nextOrder then all [applyNext r, drain 256, settle]
      else if later r.order s.nextOrder then
        if orderDiff r.order s.nextOrder < 256 then all [buffer r, look fun s => if s.rd .ORD_STATE = osGap then skip else settle]
        else all [orderLost, orderWriteNow r]
      else count .ORD_DUPLICATES) :=
    touches_ite (fun _ => touches_all ⟨(applyNext_touches r).mono, (drain_touches 256).mono, hsettle⟩) fun _ =>
      touches_ite (fun _ => touches_ite (fun _ => touches_all ⟨hbuffer, touches_look fun _ => touches_ite (fun _ => touches_skip) fun _ => hsettle⟩) fun _ =>
        touches_all ⟨orderLost_touches.mono, hwrite⟩) fun _ => hdup
  dsimp only
  split
  · exact touches_all ⟨hseen, hbuffer⟩
  · refine touches_all ⟨hseen, ?_⟩
    cases s.img with
    | none => exact hbuffer
    | some im => exact touches_ite (fun _ => touches_ite (fun _ => askResync_touches.mono) fun _ => hbuffer) fun _ => hdup
  · exact touches_all ⟨hseen, hinOrder⟩
  · exact touches_all ⟨hseen, hinOrder⟩
  · exact touches_all ⟨hseen, touches_ite (fun _ => hwrite) fun _ => touches_skip⟩

end Sys2Proof.Machine
end

section
/-! SUPPORT. The standby's copy, the ACK, and the Lichen receiver (R27, R359, R362, R363, R399): O38. -/
set_option Elab.async false
namespace Sys2Proof.Machine

theorem State.records_congr {s u : State} (h : u.out = s.out) : u.records = s.records := by rw [State.records, h]; rfl

/-- Records that have left stay. -/
theorem Act.to_records (a : Act) (s : State) : ∃ rest, (a.to s).records = s.records ++ rest := by
  obtain ⟨rest, hrest⟩ := Act.to_out a s
  exact ⟨_, by rw [State.records, ← hrest, List.filterMap_append]; rfl⟩

-- Records to the partner --------------------------------------------------------------------------------------------------------------------

/-- The parts from which a record without an order number takes its number and its sender (R427). -/
def plainHeadParts : List Part := [.reg .SEC_INCARNATION, .qty .msgCounter, .reg .SYS_NODE, .reg .RD_PARTNER, .reg .SYS_ROLE, .reg .SYS_MGR_ROLE]

theorem State.SameBut.msgOrder {ps : List Part} {s u : State} (h : State.SameBut ps s u) (hp : ∀ p ∈ plainHeadParts, p ∉ ps := by decide +kernel) :
    u.msgOrder = s.msgOrder := by
  rw [State.msgOrder, State.qn, h.rd (hp _ (by decide)), h.q (hp _ (by decide)) (by decide) (by decide)]
  rfl

theorem State.SameBut.counterSpent {ps : List Part} {s u : State} (h : State.SameBut ps s u) (hp : ∀ p ∈ plainHeadParts, p ∉ ps := by decide +kernel) :
    u.counterSpent = s.counterSpent := by
  rw [State.counterSpent, h.isManager ⟨hp _ (by decide), hp _ (by decide)⟩, h.q (hp _ (by decide)) (by decide) (by decide)]
  rfl

/-- The record of `kind` that leaves in state `s` without an order number (R95, R427). -/
def State.plainRec (s : State) (kind target : Nat) (body : List Nat) : Rec := ⟨kind, s.msgOrder, s.node, target, ⟨0, 0, 0, false⟩, body⟩

theorem State.SameBut.plainRec {ps : List Part} {s u : State} (h : State.SameBut ps s u) (kind target : Nat) (body : List Nat)
    (hp : ∀ p ∈ plainHeadParts, p ∉ ps := by decide +kernel) : u.plainRec kind target body = s.plainRec kind target body := by
  rw [State.plainRec, h.msgOrder hp, State.node, h.rd (hp _ (by decide))]
  rfl

theorem sendPlain_records {kind target : Nat} {body : List Nat} {s : State} (h : s.counterSpent = false) :
    ((sendPlain kind target body).to s).records = s.records ++ [(false, s.plainRec kind target body)] := by
  have hadd : Act.Touches [.qty .msgCounter] (addQ .msgCounter) := touches_addQ
  have hrecords : ((addQ .msgCounter).to s).records = s.records := State.records_congr (hadd.out s)
  rw [sendPlain, look_runs, h, if_neg Bool.false_ne_true, all_cons_to, all_cons_to, all_nil_to, giveRecord_records, hrecords]
  rfl

/-- A record to the partner leaves on both paths while the counter is not spent (R362). -/
theorem toPartner_records {urgent : Bool} {kind : Nat} {body : List Nat} {s : State} (h : s.counterSpent = false) : ((toPartner urgent kind body).to s).records
    = s.records ++ [(true, s.plainRec kind (s.rd .RD_PARTNER) body), (false, s.plainRec kind (s.rd .RD_PARTNER) body)] := by
  have hgive := giveLichen_touches urgent (s.plainRec kind (s.rd .RD_PARTNER) body)
  have hsame := hgive.step s
  have hto : (toPartner urgent kind body).to s
      = (sendPlain kind (s.rd .RD_PARTNER) body).to ((giveLichen urgent (s.plainRec kind (s.rd .RD_PARTNER) body)).to s) := by
    rw [toPartner, look_runs, h, all_cons_to, all_cons_to, all_nil_to, iff_to, if_pos (by decide), State.plainRec]
  rw [hto, sendPlain_records (hsame.counterSpent.trans h), giveLichen_records, hsame.plainRec, List.append_assoc]
  rfl

theorem toPartner_touches (urgent : Bool) (kind : Nat) (body : List Nat) : (toPartner urgent kind body).Touches (lichenParts ++ plainParts) :=
  touches_look fun _ => touches_all ⟨touches_iff fun _ => (giveLichen_touches ..).mono, (sendPlain_touches ..).mono⟩

-- The standby's copy (R362) -------------------------------------------------------------------------------------------------------------------

section
variable {s : State} {t : Nat} {r : Rec}

theorem tagFails_touches (sender order : Nat) : (tagFails sender order).Touches (.reg .FAB_TAG_FAILS :: eventParts) := touches_all ⟨touches_count, touches_raise⟩

theorem tagFails_counts (sender order : Nat) (hs : SMap.sorted s.regs = true) :
    ((tagFails sender order).to s).rd .FAB_TAG_FAILS = min (s.rd .FAB_TAG_FAILS + 1) 0xFFFFFFFF := by
  have hev := touches_raise_eventParts .SPORE_TAG_FAIL sender order
  rw [tagFails, all_cons_to, all_cons_to, all_nil_to, hev.rd]
  exact count_rd hs

theorem exec_standbyRecordStore (ok : Bool) :
    exec (.standbyRecordStore t r ok) s = .next ((if ok then standbyStore r else tagFails r.sender r.order : Act).to (s.since t)) := by
  show run _ s = _
  rw [run_eq, all_cons_to, all_cons_to, all_nil_to, at_to_since]

theorem standbyStore_alone (h : s.rd .RD_ROLE ≠ 1) : (standbyStore r).to s = s := by
  rw [standbyStore, look_runs, if_pos (.inl (by simp [State.mgrPair, h])), skip_to]

theorem standbyStore_stale (hm : s.rd .RD_ROLE = 1) (hst : s.rd .RD_STATE_PAIR = 3) (h : r.sender ≠ s.rd .RD_PARTNER) :
    (standbyStore r).to s = (count .RD_STALE_RECORDS).to s := by
  rw [standbyStore, look_runs, if_neg (by simp [State.mgrPair, hm, hst]), if_pos h]

/-- The action of a record that comes from the partner. -/
def actionOf (r : Rec) : Action := ⟨r.order, r.kind, r.stamp, r.target, r.body⟩

/-- The state in which an action of the partner has been stored and learnt, before it is acknowledged. -/
def State.storing (s : State) (r : Rec) : State := (learn (actionOf r)).to (s.app (.hist (insertAction (actionOf r) s.hist)))

theorem standbyStore_new (hm : s.rd .RD_ROLE = 1) (hst : s.rd .RD_STATE_PAIR = 3) (h : r.sender = s.rd .RD_PARTNER) (hnew : ∀ b ∈ s.hist, b.order ≠ r.order) :
    ∃ act, (standbyStore r).to s = (orderArrive act).to ((toPartner r.stamp.imm kAck [(s.storing r).heldRun % 2 ^ 48]).to (s.storing r)) := by
  have hany : (!s.hist.any fun b => b.order == r.order) = true := by
    rw [Bool.not_eq_true', List.any_eq_false]
    exact fun b hb => by simpa using hnew b hb
  refine ⟨let v := (toPartner r.stamp.imm kAck [(s.storing r).heldRun % 2 ^ 48]).to (s.storing r); { v.recordFor (actionOf r) v.node with sender := r.sender }, ?_⟩
  rw [standbyStore, look_runs, if_neg (by simp [State.mgrPair, hm, hst]), if_neg (not_not.mpr h), all_cons_to, all_cons_to, all_cons_to, all_nil_to, look_runs, look_runs,
    iff_to, if_pos hany, all_cons_to, all_cons_to, all_nil_to, iff_to, if_pos (by rw [hst]; decide), one_to]
  rfl

theorem storing_sameBut (s : State) (r : Rec) : State.SameBut (.hist :: learnParts) s (s.storing r) := by
  have hone : Act.Touches (.hist :: learnParts) (one (.hist (insertAction (actionOf r) s.hist))) := touches_one rfl
  exact (hone.step s).trans ((learn_touches (actionOf r)).mono.step _)

theorem storing_hist (s : State) (r : Rec) : (s.storing r).hist = (s.app (.hist (insertAction (actionOf r) s.hist))).hist := (learn_touches (actionOf r)).hist _

/-- The highest unbroken number held is read from the actions and ORD_APPLIED alone (R358). -/
theorem State.heldRun_congr {u v : State} (hh : u.hist = v.hist) (ha : u.rd .ORD_APPLIED = v.rd .ORD_APPLIED) : u.heldRun = v.heldRun := by
  rw [State.heldRun, hh, ha]
  rfl

/-- A standby stores an action that it does not hold and acknowledges it on both paths (R362). -/
theorem standbyStore_stores (hm : s.rd .RD_ROLE = 1) (hst : s.rd .RD_STATE_PAIR = 3) (hspent : s.counterSpent = false) (h : r.sender = s.rd .RD_PARTNER)
    (hnew : ∀ b ∈ s.hist, b.order ≠ r.order) :
    let k := (s.app (.hist (insertAction (actionOf r) s.hist))).heldRun
    ∃ rest, ((standbyStore r).to s).hist = (s.app (.hist (insertAction (actionOf r) s.hist))).hist
      ∧ ((standbyStore r).to s).records = s.records ++ [(true, s.plainRec 13 (s.rd .RD_PARTNER) [k % 2 ^ 48]), (false, s.plainRec 13 (s.rd .RD_PARTNER) [k % 2 ^ 48])] ++ rest := by
  intro k
  obtain ⟨act, hto⟩ := standbyStore_new hm hst h hnew
  have hsame := storing_sameBut s r
  have hhist := storing_hist s r
  have hk : (s.storing r).heldRun = k := State.heldRun_congr hhist ((learn_touches (actionOf r)).rd _)
  rw [hto, hk]
  generalize s.storing r = v at hsame hhist
  have hack := toPartner_touches r.stamp.imm kAck [k % 2 ^ 48]
  have hrecords := toPartner_records (urgent := r.stamp.imm) (kind := kAck) (body := [k % 2 ^ 48]) (hsame.counterSpent.trans hspent)
  have hout : v.records = s.records := State.records_congr hsame.out
  rw [hsame.plainRec, hsame.rd (by decide +kernel), hout] at hrecords
  obtain ⟨rest, hrest⟩ := Act.to_records (orderArrive act) ((toPartner r.stamp.imm kAck [k % 2 ^ 48]).to v)
  exact ⟨rest, ((orderArrive_touches act).hist _).trans ((hack.hist v).trans hhist), hrest.trans (congrArg (· ++ rest) hrecords)⟩

end

section
variable {s : State} {t : Nat} {r : Rec}

theorem storing_since (s : State) (t : Nat) (x : List Action) : ((s.since t).app (.hist x)).hist = (s.app (.hist x)).hist := by
  rw [State.app_hist, State.app_hist]

/-- STANDBY_RECORD_STORE of an action that the standby does not hold (R362). -/
theorem standbyRecordStore_stores (hm : s.rd .RD_ROLE = 1) (hst : s.rd .RD_STATE_PAIR = 3) (hspent : s.counterSpent = false) (h : r.sender = s.rd .RD_PARTNER)
    (hnew : ∀ b ∈ s.hist, b.order ≠ r.order) :
    let h := s.app (.hist (insertAction (actionOf r) s.hist))
    ∃ u rest, exec (.standbyRecordStore t r true) s = .next u ∧ u.hist = h.hist
      ∧ u.records = s.records ++ [(true, s.plainRec 13 (s.rd .RD_PARTNER) [h.heldRun % 2 ^ 48]), (false, s.plainRec 13 (s.rd .RD_PARTNER) [h.heldRun % 2 ^ 48])] ++ rest := by
  intro v
  obtain ⟨rest, hhist, hrecs⟩ := standbyStore_stores (s := s.since t) hm hst hspent h hnew
  have hv := storing_since s t (insertAction (actionOf r) s.hist)
  have hrun : ((s.since t).app (.hist (insertAction (actionOf r) s.hist))).heldRun = v.heldRun := State.heldRun_congr hv rfl
  have hplain (body : List Nat) : (s.since t).plainRec 13 (s.rd .RD_PARTNER) body = s.plainRec 13 (s.rd .RD_PARTNER) body := (since_sameBut s t).plainRec ..
  rw [show (s.since t).hist = s.hist from rfl] at hhist hrecs
  rw [hrun, show (s.since t).rd .RD_PARTNER = s.rd .RD_PARTNER from rfl, hplain, State.records_congr (show (s.since t).out = s.out from rfl)] at hrecs
  exact ⟨_, rest, exec_standbyRecordStore true, hhist.trans hv, hrecs⟩

end

-- The ACK (R27, R362, R363) -----------------------------------------------------------------------------------------------------------------------

section
variable {s : State} {t : Nat}

theorem ackReceive_alone (sender upTo : Nat) (h : s.rd .RD_ROLE ≠ 1) : (ackReceive sender upTo).to s = s := by
  rw [ackReceive, look_runs, if_pos (by simp [State.mgrPair, h]), skip_to]

theorem ackReceive_to (upTo : Nat) (hm : s.rd .RD_ROLE = 1) (hst : s.rd .RD_STATE_PAIR = 5) :
    (ackReceive (s.rd .RD_PARTNER) upTo).to s = (iff (s.q .partnerState == 4) (set .RD_UNPROT 0)).to ((releaseHeld upTo).to s) := by
  rw [ackReceive, look_runs, if_neg (by simp [State.mgrPair, hm, hst]), all_cons_to, all_cons_to, all_nil_to]

theorem exec_ack (sender upTo : Nat) : exec (.ack t sender upTo true) s = .next ((ackReceive sender upTo).to (s.since t)) := by
  show run _ s = _
  rw [run_eq, all_cons_to, all_cons_to, all_nil_to, at_to_since, if_pos rfl]

/-- An ACK below what is held releases nothing (R27). -/
theorem releaseHeld_none {upTo : Nat} (hall : ∀ h ∈ s.held, later h.order upTo = true) (hne : s.held ≠ []) : (releaseHeld upTo).to s = s := by
  have hkeep : s.held.filter (fun h => later h.order upTo) = s.held := List.filter_eq_self.mpr hall
  have hgo : s.held.filter (fun h => !later h.order upTo) = [] := List.filter_eq_nil_iff.mpr fun h hh => by simp [hall h hh]
  have hsame : s.app (.held s.held) = s := rfl
  rw [releaseHeld, look_runs, hkeep, hgo, all_cons_to, all_cons_to, all_cons_to, all_nil_to, each_nil_to, one_to, hsame, look_runs, iff_to, if_neg (by simpa using hne)]

/-- What the release of one held action does: it is sent and answered, and nothing is left to send again (R27, R363). -/
theorem releaseHeld_one {upTo : Nat} {a : Action} {x : Answer} (hheld : s.held = [⟨a.order, some x⟩]) (hl : later a.order upTo = false)
    (hfind : (s.hist.find? fun b => b.order == a.order) = some a) :
    (releaseHeld upTo).to s = (disarm .standbyResend).to ((answerNow x).to ((releaseAction a).to (s.app (.held [])))) := by
  have hempty : ((answerNow x).to ((releaseAction a).to (s.app (.held [])))).held = [] :=
    ((answerNow_touches x).held _).trans ((releaseAction_touches a).held (s.app (.held [])))
  have hfind' : ((s.app (.held [])).hist.find? fun b => b.order == a.order) = some a := hfind
  have hkeep : s.held.filter (fun h => later h.order upTo) = [] := by rw [hheld]; simp [hl]
  have hgo : s.held.filter (fun h => !later h.order upTo) = [⟨a.order, some x⟩] := by rw [hheld]; simp [hl]
  rw [releaseHeld, look_runs, hkeep, hgo, all_cons_to, all_cons_to, all_cons_to, all_nil_to, each_cons_to, each_nil_to, one_to, look_runs, look_runs]
  generalize s.app (.held []) = v at hempty hfind'
  simp only [hfind']
  rw [all_cons_to, all_cons_to, all_nil_to, hempty, iff_to, if_pos List.isEmpty_nil]

/-- The release of the only held action (R27, R363). -/
theorem releaseHeld_releases (hwf : s.wf = true) {upTo : Nat} {a : Action} {x : Answer} (hheld : s.held = [⟨a.order, some x⟩]) (hl : later a.order upTo = false)
    (ho : a.order < 2 ^ 48) (hfind : (s.hist.find? fun b => b.order == a.order) = some a) :
    ∃ sent, ((releaseHeld upTo).to s).held = [] ∧ ((releaseHeld upTo).to s).rd .ORD_APPLIED = a.order
      ∧ ((releaseHeld upTo).to s).out = s.out ++ sent ++ [.answer { x with flags := x.flags / 2 * 2 + s.rd .RD_UNPROT }]
      ∧ ((releaseHeld upTo).to s).timer .standbyResend = none := by
  rw [releaseHeld_one hheld hl hfind]
  have hone : Act.Touches [.held] (one (.held [])) := touches_one rfl
  have hheld0 : ((one (.held [])).to s).held = [] := rfl
  have hsame := hone.step s
  have hwf0 : ((one (.held [])).to s).wf = true := Act.to_wf _ hwf
  rw [← one_to]
  generalize (one (.held [])).to s = v at *
  have hrel := releaseAction_touches a
  have hans := answerNow_touches x
  have hdis : Act.Touches [.tmr .standbyResend] (disarm .standbyResend) := touches_disarm
  obtain ⟨sent, hsent⟩ := Act.to_out (releaseAction a) v
  refine ⟨sent, (hdis.held _).trans ((hans.held _).trans ((hrel.held v).trans hheld0)), ?_, ?_, disarm_timer (Act.to_wf _ (Act.to_wf _ hwf0)) _ _⟩
  · rw [hdis.rd, hans.rd, releaseAction_applied a (State.wf_regs hwf0), Nat.mod_eq_of_lt ho]
  · rw [hdis.out, answerNow, look_runs, sendAnswer_out, hrel.rd, hsame.rd (by decide +kernel), ← hsent, hsame.out]

end

-- Sending again (R362) ----------------------------------------------------------------------------------------------------------------------------

/-- A held action that is in the store leaves again. -/
def resendHeld (s : State) (h : Held) : Act :=
  match s.hist.find? fun a => a.order == h.order with | some a => toStandby (s.wholeRecord a) | none => skip

theorem resendHeld_touches (s : State) (h : Held) : (resendHeld s h).Touches (.txRecs :: lichenParts) := by
  unfold resendHeld
  split
  · exact toStandby_touches _
  · exact touches_skip

theorem resendHeld_records (s : State) (h : Held) (v : State) : ∃ sent, ((resendHeld s h).to v).records = v.records ++ sent
    ∧ sent.length = if s.hist.any (fun a => a.order == h.order) then 2 else 0 := by
  unfold resendHeld
  split
  case h_1 a hfind =>
    have hp := List.find?_some hfind
    have hany : s.hist.any (fun a => a.order == h.order) = true := List.any_eq_true.mpr ⟨a, List.mem_of_find?_eq_some hfind, hp⟩
    exact ⟨_, toStandby_records .., by rw [hany]; rfl⟩
  case h_2 hfind =>
    have hany : s.hist.any (fun a => a.order == h.order) = false := List.any_eq_false.mpr (List.find?_eq_none.mp hfind)
    exact ⟨[], (List.append_nil _).symm, by rw [hany]; rfl⟩

theorem each_resendHeld_records (s : State) : ∀ (xs : List Held) (v : State), ∃ sent, ((each xs (resendHeld s)).to v).records = v.records ++ sent
    ∧ sent.length = 2 * (xs.filter fun h => s.hist.any fun a => a.order == h.order).length
  | [], _ => ⟨[], (List.append_nil _).symm, rfl⟩
  | h :: xs, v => by
    obtain ⟨one, hone, hlen1⟩ := resendHeld_records s h v
    obtain ⟨rest, hrest, hlen⟩ := each_resendHeld_records s xs ((resendHeld s h).to v)
    refine ⟨one ++ rest, by rw [each_cons_to, hrest, hone, List.append_assoc], ?_⟩
    rw [List.length_append, hlen1, hlen, List.filter_cons]
    split
    · rw [List.length_cons]
      omega
    · omega

theorem exec_standbyResend {s : State} {t : Nat} (hdue : (s.since t).due .standbyResend = true) (hne : s.held ≠ []) :
    exec (.standbyResend t) s = .next ((arm .standbyResend psMs).to ((each s.held (resendHeld (s.since t))).to (s.since t))) := by
  have hcond : ((s.since t).due .standbyResend && !(s.since t).held.isEmpty) = true := by
    rw [hdue, show (s.since t).held = s.held from rfl]
    simpa using hne
  show run _ s = _
  rw [run_eq, all_cons_to, all_cons_to, all_nil_to, at_to_since, look_runs, iff_to, if_pos hcond, all_cons_to, all_cons_to, all_nil_to]
  rfl

-- The Lichen receiver (R359, R399) ----------------------------------------------------------------------------------------------------------------

section
variable {s : State}

def commaParts : List Part := [.tmr .lkComma, .qty .lkRun, .reg .RD_LK_UP]

theorem lichenComma_touches : lichenComma.Touches commaParts := touches_look fun _ => touches_all ⟨touches_arm, touches_put, touches_iff fun _ => touches_set⟩

/-- A good frame or a comma more (R359). -/
theorem lichenComma_counts (hwf : s.wf = true) : (lichenComma.to s).q .lkRun = s.qn .lkRun + 1
    ∧ (lichenComma.to s).rd .RD_LK_UP = (if 16 ≤ s.qn .lkRun + 1 then 1 else s.rd .RD_LK_UP) ∧ (lichenComma.to s).timer .lkComma = some (s.now + 10 * psUs) := by
  have harm : Act.Touches [.tmr .lkComma] (arm .lkComma (10 * psUs)) := touches_arm
  have hput : Act.Touches [.qty .lkRun] (put .lkRun (s.qn .lkRun + 1 : Nat)) := touches_put
  have hup : Act.Touches [.reg .RD_LK_UP] (iff (decide (16 ≤ s.qn .lkRun + 1)) (set .RD_LK_UP 1)) := touches_iff fun _ => touches_set
  have hwf1 := Act.to_wf (arm .lkComma (10 * psUs)) hwf
  have hwf2 := Act.to_wf (put .lkRun (s.qn .lkRun + 1 : Nat)) hwf1
  rw [lichenComma, look_runs, all_cons_to, all_cons_to, all_cons_to, all_nil_to]
  refine ⟨?_, ?_, ?_⟩
  · rw [hup.q, put_q hwf1]
    rfl
  · have hold : ((put .lkRun (s.qn .lkRun + 1 : Nat)).to ((arm .lkComma (10 * psUs)).to s)).rd .RD_LK_UP = s.rd .RD_LK_UP := by rw [hput.rd, harm.rd]
    rw [iff_to]
    by_cases h : 16 ≤ s.qn .lkRun + 1
    · rw [if_pos (decide_eq_true h), if_pos h]
      exact set_rd (State.wf_regs hwf2) (by decide)
    · rw [if_neg (by simpa using h), if_neg h, hold]
  · rw [hup.timer, hput.timer, arm_timer]

def badParts : List Part := [.reg .RD_LK_CRC_ERRS, .tmr .lkComma, .qty .lkRun, .qty .lkBad, .reg .RD_LK_UP]

theorem lichenBad_touches : lichenBad.Touches badParts :=
  touches_look fun _ => touches_all ⟨touches_count, touches_arm, touches_put, touches_put, touches_iff fun _ => touches_set⟩

/-- A frame more that fails its CRC (R359). -/
theorem lichenBad_counts (hwf : s.wf = true) : (lichenBad.to s).rd .RD_LK_CRC_ERRS = min (s.rd .RD_LK_CRC_ERRS + 1) 0xFFFFFFFF
    ∧ (lichenBad.to s).rd .RD_LK_UP = (if 4 ≤ s.qn .lkBad + 1 then 0 else s.rd .RD_LK_UP) ∧ (lichenBad.to s).q .lkRun = 0
    ∧ (lichenBad.to s).q .lkBad = s.qn .lkBad + 1 := by
  have hcount : Act.Touches [.reg .RD_LK_CRC_ERRS] (count .RD_LK_CRC_ERRS) := touches_count
  have harm : Act.Touches [.tmr .lkComma] (arm .lkComma (10 * psUs)) := touches_arm
  have hrun : Act.Touches [.qty .lkRun] (put .lkRun 0) := touches_put
  have hbad : Act.Touches [.qty .lkBad] (put .lkBad (s.qn .lkBad + 1 : Nat)) := touches_put
  have hup : Act.Touches [.reg .RD_LK_UP] (iff (decide (4 ≤ s.qn .lkBad + 1)) (set .RD_LK_UP 0)) := touches_iff fun _ => touches_set
  have hwf1 := Act.to_wf (arm .lkComma (10 * psUs)) (Act.to_wf (count .RD_LK_CRC_ERRS) hwf)
  have hwf2 := Act.to_wf (put .lkRun 0) hwf1
  have hwf3 := Act.to_wf (put .lkBad (s.qn .lkBad + 1 : Nat)) hwf2
  rw [lichenBad, look_runs, all_cons_to, all_cons_to, all_cons_to, all_cons_to, all_cons_to, all_nil_to]
  refine ⟨?_, ?_, ?_, ?_⟩
  · rw [hup.rd, hbad.rd, hrun.rd, harm.rd, count_rd (State.wf_regs hwf)]
  · rw [iff_to]
    by_cases h : 4 ≤ s.qn .lkBad + 1
    · rw [if_pos (decide_eq_true h), if_pos h]
      exact set_rd (State.wf_regs hwf3) (by decide)
    · rw [if_neg (by simpa using h), if_neg h, hbad.rd, hrun.rd, harm.rd, hcount.rd]
  · rw [hup.q, hbad.q, put_q hwf1]
  · rw [hup.q, put_q hwf2]
    rfl

/-- What waits for the Lichen link goes on, and no record leaves again (R399). -/
theorem lichenOn_touches : (look fun s => lichenRun (s.lkQ.length + 1)).Touches lichenParts := touches_look fun _ => lichenRun_touches _

theorem lichenOn_records (s : State) : ((look fun s => lichenRun (s.lkQ.length + 1)).to s).records = s.records :=
  (within_look fun _ => lichenRun_noRecord _ : (look fun s => lichenRun (s.lkQ.length + 1)).Within Eff.noRecord).records s

theorem recordTest_touches (among : List Nat) (named : Nat) (got : List Nat) : (recordTest among named got).Touches (.reg .FAB_TAG_FAILS :: .qty .msgRx :: eventParts) := by
  refine touches_look fun s => touches_ite (fun _ => touches_skip) fun _ => ?_
  cases s.senderOf got among with
  | none => exact (tagFails_touches ..).mono
  | some n => exact touches_iff fun _ => touches_ite (fun _ => touches_count) fun _ => touches_put

end

-- The commands ----------------------------------------------------------------------------------------------------------------------------------

section
variable {s : State} {t : Nat}

/-- The state in which a frame or a comma is looked at: what waited for the link has gone on. -/
def State.lichenOn (s : State) (t : Nat) : State := (look fun s => lichenRun (s.lkQ.length + 1)).to (s.since t)

theorem lichenOn_sameBut (s : State) (t : Nat) : State.SameBut (.now :: lichenParts) s (s.lichenOn t) :=
  ((since_sameBut s t).mono (by decide +kernel)).trans (lichenOn_touches.mono.step _)

theorem lichenOn_now (s : State) (t : Nat) : (s.lichenOn t).now = max s.now t := lichenOn_touches.now (s.since t)

theorem exec_lichenFrame (f : LichenIn) : exec (.lichenFrameReceive t f) s = .next ((lichenFrame f.spores f.crc f.cut).to (s.lichenOn t)) := by
  show run _ s = _
  rw [run_eq, all_cons_to, all_cons_to, all_cons_to, all_nil_to, at_to_since, State.lichenOn]

theorem exec_lichenComma : exec (.lichenCommaReceive t) s = .next (lichenComma.to (s.lichenOn t)) := by
  show run _ s = _
  rw [run_eq, all_cons_to, all_cons_to, all_cons_to, all_nil_to, at_to_since, State.lichenOn]

theorem lichenFrame_cut (spores : List Nat) (crc : Nat) : (lichenFrame spores crc true).to s = (arm .lkComma (10 * psUs)).to s := by
  rw [lichenFrame, look_runs, if_pos rfl]

theorem lichenFrame_bad {spores : List Nat} {crc : Nat} (h : spores = [] ∨ 66 < spores.length ∨ lichenCrc spores ≠ crc) :
    (lichenFrame spores crc false).to s = lichenBad.to s := by
  rw [lichenFrame, look_runs, if_neg Bool.false_ne_true, if_pos (h.imp_left List.isEmpty_iff.mpr)]

theorem lichenFrame_good {spores : List Nat} (hne : spores ≠ []) (hmax : spores.length ≤ 66) : (lichenFrame spores (lichenCrc spores) false).to s
    = (recordTest [s.rd .RD_PARTNER] (s.rd .RD_PARTNER) spores).to (lichenComma.to ((put .lkBad 0).to s)) := by
  have hgood : ¬ (spores.isEmpty = true ∨ 66 < spores.length ∨ lichenCrc spores ≠ lichenCrc spores) := by
    rintro (h | h | h)
    · exact hne (List.isEmpty_iff.mp h)
    · omega
    · exact h rfl
  rw [lichenFrame, look_runs, if_neg Bool.false_ne_true, if_neg hgood, all_cons_to, all_cons_to, all_nil_to, lichenGood, all_cons_to, all_cons_to, all_nil_to]

theorem lichenOn_wf (hwf : s.wf = true) : (s.lichenOn t).wf = true := Act.to_wf _ (s := s.since t) hwf

theorem lichenOn_recordsOf (s : State) (t : Nat) : (s.lichenOn t).records = s.records := lichenOn_records (s.since t)

end

/-- From `s` to `u` one good frame or comma more has come at `t` (R359). -/
structure State.LichenHeard (s : State) (t : Nat) (u : State) : Prop where
  run : u.q .lkRun = s.qn .lkRun + 1
  up : u.rd .RD_LK_UP = if 16 ≤ s.qn .lkRun + 1 then 1 else s.rd .RD_LK_UP
  comma : u.timer .lkComma = some (max s.now t + 10 * psUs)
  records : u.records = s.records
  mem : u.mem = s.mem

theorem lichenComma_heard {s w : State} {t : Nat} (hw : State.SameBut (.now :: .qty .lkBad :: lichenParts) s w) (hwf : w.wf = true) (hnow : w.now = max s.now t)
    (hrec : w.records = s.records) : s.LichenHeard t (lichenComma.to w) := by
  obtain ⟨hrun, hup, htimer⟩ := lichenComma_counts hwf
  have hqn : w.qn .lkRun = s.qn .lkRun := by
    rw [State.qn, hw.q (by decide +kernel) (by decide) (by decide)]
    rfl
  rw [hqn] at hrun hup
  exact ⟨hrun, by rw [hup, hw.rd (by decide +kernel)], by rw [htimer, hnow], (State.records_congr (lichenComma_touches.out w)).trans hrec,
    (lichenComma_touches.mem w).trans hw.mem⟩

theorem State.LichenHeard.same {s u v : State} {t : Nat} {ps : List Part} (h : s.LichenHeard t u) (hv : State.SameBut ps u v)
    (hp : .qty .lkRun ∉ ps ∧ .reg .RD_LK_UP ∉ ps ∧ .tmr .lkComma ∉ ps ∧ .out ∉ ps ∧ .mem ∉ ps := by decide +kernel) : s.LichenHeard t v := by
  obtain ⟨h1, h2, h3, h4, h5⟩ := hp
  exact ⟨(hv.q h1 (by decide) (by decide)).trans h.run, (hv.rd h2 0 0).trans h.up, (hv.timer h3 (by decide)).trans h.comma,
    (State.records_congr (hv.out h4)).trans h.records, (hv.mem h5).trans h.mem⟩

/-- A good frame counts as a comma does, ends a run of bad ones, and its record is tested (R98, R359). -/
theorem lichenFrame_heard {s : State} (hwf : s.wf = true) (t : Nat) {spores : List Nat} (hne : spores ≠ []) (hmax : spores.length ≤ 66) :
    ∃ u, exec (.lichenFrameReceive t ⟨spores, lichenCrc spores, false⟩) s = .next u ∧ s.LichenHeard t u ∧ u.q .lkBad = 0 ∧ s.only [.RD_LK_UP, .FAB_TAG_FAILS] u := by
  have hon := lichenOn_sameBut s t
  have hrec := lichenOn_recordsOf s t
  have hnow := lichenOn_now s t
  have hwf' := lichenOn_wf (t := t) hwf
  have hexec := exec_lichenFrame (s := s) (t := t) ⟨spores, lichenCrc spores, false⟩
  rw [lichenFrame_good hne hmax] at hexec
  refine ⟨_, hexec, ?_⟩
  generalize s.lichenOn t = v at hon hrec hnow hwf'
  have hbad : Act.Touches [.qty .lkBad] (put .lkBad 0) := touches_put
  have hzero : ((put .lkBad 0).to v).q .lkBad = 0 := put_q hwf' ..
  have hheard := lichenComma_heard (t := t) ((hon.mono (by decide +kernel)).trans (hbad.mono.step v)) (Act.to_wf _ hwf') ((hbad.now v).trans hnow)
    ((State.records_congr (hbad.out v)).trans hrec)
  have htest := recordTest_touches [v.rd .RD_PARTNER] (v.rd .RD_PARTNER) spores
  have hcomma := lichenComma_touches
  refine ⟨hheard.same (htest.step _), by rw [htest.q, hcomma.q, hzero], ?_⟩
  have hsame := (hon.mono (qs := .now :: .qty .lkBad :: .reg .FAB_TAG_FAILS :: .qty .msgRx :: (lichenParts ++ commaParts ++ eventParts)) (by decide +kernel)).trans
    ((hbad.mono.step v).trans ((hcomma.mono.step _).trans (htest.mono.step _)))
  exact hsame.only (by decide +kernel)

theorem lichenComma_receives {s : State} (hwf : s.wf = true) (t : Nat) :
    ∃ u, exec (.lichenCommaReceive t) s = .next u ∧ s.LichenHeard t u ∧ u.q .lkBad = s.q .lkBad ∧ s.only [.RD_LK_UP] u := by
  have hon := lichenOn_sameBut s t
  have hheard := lichenComma_heard (t := t) (hon.mono (by decide +kernel)) (lichenOn_wf (t := t) hwf) (lichenOn_now s t) (lichenOn_recordsOf s t)
  have hsame := (hon.mono (qs := .now :: (lichenParts ++ commaParts)) (by decide +kernel)).trans (lichenComma_touches.mono.step _)
  exact ⟨_, exec_lichenComma, hheard, hsame.q (by decide +kernel) (by decide) (by decide), hsame.only (by decide +kernel)⟩

/-- 10 us without a comma take the receiver DOWN (R359). -/
theorem lichenCommaTimeout_ends {s : State} (hwf : s.wf = true) (t : Nat) : ∃ u, exec (.lichenCommaTimeout t) s = .next u
    ∧ (if (s.since t).due .lkComma = true then u.rd .RD_LK_UP = 0 ∧ u.q .lkRun = 0 ∧ u.timer .lkComma = none ∧ s.only [.RD_LK_UP] u ∧ u.out = s.out ∧ u.mem = s.mem
       else u = s.since t) := by
  have hexec : exec (.lichenCommaTimeout t) s
      = .next ((iff ((s.since t).due .lkComma) (all [disarm .lkComma, put .lkRun 0, set .RD_LK_UP 0])).to (s.since t)) := by
    show run _ s = _
    rw [run_eq, all_cons_to, all_cons_to, all_nil_to, at_to_since, look_runs]
  refine ⟨_, hexec, ?_⟩
  rw [iff_to]
  have hwf' : (s.since t).wf = true := hwf
  have hsince := since_sameBut s t
  generalize s.since t = v at hwf' hsince
  split
  · have hdis : Act.Touches [.tmr .lkComma] (disarm .lkComma) := touches_disarm
    have hput : Act.Touches [.qty .lkRun] (put .lkRun 0) := touches_put
    have hset : Act.Touches [.reg .RD_LK_UP] (set .RD_LK_UP 0) := touches_set
    have hwf1 := Act.to_wf (disarm .lkComma) hwf'
    rw [all_cons_to, all_cons_to, all_cons_to, all_nil_to]
    have hsame := (hsince.mono (qs := [.now, .tmr .lkComma, .qty .lkRun, .reg .RD_LK_UP]) (by decide +kernel)).trans
      ((hdis.mono.step v).trans ((hput.mono.step _).trans (hset.mono.step _)))
    exact ⟨set_rd (State.wf_regs (Act.to_wf _ hwf1)) (by decide), (hset.q _).trans (put_q hwf1 ..), (hset.timer _).trans ((hput.timer _).trans (disarm_timer hwf' _ _)),
      hsame.only (by decide +kernel), hsame.out, hsame.mem⟩
  · rfl

/-- Settles O38: the records to the partner are `toPartner_records` and `each_resendHeld_records`, the store is `standbyRecordStore_stores`, the release
`releaseHeld_releases`, and the receiver `lichenComma_counts` and `lichenBad_counts`. -/
theorem standbyStoresAndLichenCounts : Obligations.StandbyStoresAndLichenCounts := by
  intro s t hwf hfits s' mgr
  have hregs := State.wf_regs hwf
  have hon := lichenOn_sameBut s t
  have honw := lichenOn_wf (t := t) hwf
  have honr := lichenOn_recordsOf s t
  have hnow := lichenOn_now s t
  refine ⟨fun r => ?_, fun r hm hst => ⟨fun h => ?_, fun hspent h hnew => ?_⟩, fun hm r => ?_, fun hm hst => ⟨fun upTo hall hne => ?_, fun upTo a x hheld hl ho _ hfind => ?_⟩,
    fun hm sender upTo => ?_, fun hdue hne => ?_, ⟨fun spores hne hmax => ?_, ?_, fun spores crc => ?_⟩, fun spores crc h => ?_, ?_⟩
  · have hsame := (tagFails_touches r.sender r.order).step (s.since t)
    exact ⟨_, exec_standbyRecordStore false, tagFails_counts (s := s.since t) _ _ hregs, hsame.only (by decide +kernel), hsame.hist, hsame.out, hsame.mem⟩
  · have hcount : Act.Touches [.reg .RD_STALE_RECORDS] (count .RD_STALE_RECORDS) := touches_count
    have hsame := hcount.step (s.since t)
    have hto := standbyStore_stale (s := s.since t) hm hst h
    exact ⟨_, (exec_standbyRecordStore true).trans (congrArg _ hto), count_rd (s := s.since t) hregs, hsame.only (by decide +kernel), hsame.hist, hsame.out, hsame.mem⟩
  · exact standbyRecordStore_stores hm hst hspent h hnew
  · exact (exec_standbyRecordStore true).trans (congrArg _ (standbyStore_alone (s := s.since t) hm))
  · have hto := (ackReceive_to (s := s.since t) upTo hm hst).trans (congrArg _ (releaseHeld_none (s := s.since t) hall hne))
    have hset : Act.Touches [.reg .RD_UNPROT] (iff ((s.since t).q .partnerState == 4) (set .RD_UNPROT 0)) := touches_iff fun _ => touches_set
    have hsame := hset.step (s.since t)
    refine ⟨_, (exec_ack _ _).trans (congrArg _ hto), hsame.held, hsame.out, ?_, hsame.only (by decide +kernel), hsame.mem⟩
    by_cases h4 : s.q .partnerState = 4
    · rw [if_pos h4, iff_to, if_pos (beq_iff_eq.mpr (show (s.since t).q .partnerState = 4 from h4))]
      exact set_rd (s := s.since t) hregs (by decide)
    · rw [if_neg h4, iff_to, if_neg (mt beq_iff_eq.mp (show (s.since t).q .partnerState ≠ 4 from h4))]
      rfl
  · have hto := ackReceive_to (s := s.since t) upTo hm hst
    obtain ⟨sent, hh, happ, hout, htimer⟩ := releaseHeld_releases (s := s.since t) hwf hheld hl ho hfind
    have hset : Act.Touches [.reg .RD_UNPROT] (iff ((s.since t).q .partnerState == 4) (set .RD_UNPROT 0)) := touches_iff fun _ => touches_set
    have hsame := hset.step ((releaseHeld upTo).to (s.since t))
    exact ⟨_, sent, (exec_ack _ _).trans (congrArg _ hto), hsame.held.trans hh, (hsame.rd (by decide +kernel) 0 0).trans happ, hsame.out.trans hout,
      (hsame.timer (by decide +kernel) (by decide)).trans htimer⟩
  · exact (exec_ack _ _).trans (congrArg _ (ackReceive_alone (s := s.since t) sender upTo hm))
  · have hresend : (each s.held (resendHeld (s.since t))).Touches (.txRecs :: lichenParts) := touches_each fun _ _ => resendHeld_touches ..
    have harm : Act.Touches [.tmr .standbyResend] (arm .standbyResend psMs) := touches_arm
    obtain ⟨sent, hsent, hlen⟩ := each_resendHeld_records (s.since t) s.held (s.since t)
    have hsame := hresend.step (s.since t)
    have hnow' : ((each s.held (resendHeld (s.since t))).to (s.since t)).now = max s.now t := hresend.now (s.since t)
    refine ⟨_, sent, exec_standbyResend hdue hne, (State.records_congr (harm.out _)).trans hsent, ((harm.step _).regs rfl).trans (hsame.regs rfl),
      (harm.mem _).trans hsame.mem, hlen, (arm_timer ..).trans (by rw [hnow'])⟩
  · obtain ⟨u, hexec, hheard, hbad, honly⟩ := lichenFrame_heard hwf t hne hmax
    exact ⟨u, hexec, ⟨hheard.run, hheard.up, hheard.comma, hheard.records, hheard.mem⟩, hbad, honly⟩
  · obtain ⟨u, hexec, hheard, hbad, honly⟩ := lichenComma_receives hwf t
    exact ⟨u, hexec, ⟨hheard.run, hheard.up, hheard.comma, hheard.records, hheard.mem⟩, hbad, honly⟩
  · have harm : Act.Touches [.tmr .lkComma] (arm .lkComma (10 * psUs)) := touches_arm
    refine ⟨_, (exec_lichenFrame _).trans (congrArg _ (lichenFrame_cut spores crc)), ((harm.step _).regs rfl).trans (hon.regs rfl), (harm.mem _).trans hon.mem,
      (State.records_congr (harm.out _)).trans honr, (arm_timer ..).trans (by rw [hnow])⟩
  · obtain ⟨herrs, hup, hrun, hbad⟩ := lichenBad_counts honw
    have hqn : (s.lichenOn t).qn .lkBad = s.qn .lkBad := by
      rw [State.qn, hon.q (by decide +kernel) (by decide) (by decide)]
      rfl
    rw [hqn] at hup hbad
    have hsame := (hon.mono (qs := .now :: (lichenParts ++ badParts)) (by decide +kernel)).trans (lichenBad_touches.mono.step _)
    refine ⟨_, (exec_lichenFrame _).trans (congrArg _ (lichenFrame_bad h)), ?_, ?_, hrun, hbad, hsame.only (by decide +kernel),
      (State.records_congr (lichenBad_touches.out _)).trans honr, hsame.mem⟩
    · rw [herrs, hon.rd (by decide +kernel)]
    · rw [hup, hon.rd (by decide +kernel)]
  · exact lichenCommaTimeout_ends hwf t

end Sys2Proof.Machine
end

section
/-! SUPPORT. What a fabric link's change of state does where nothing runs on the link (R114), and what the acts of its admission touch (R428, R429). -/
set_option Elab.async false
namespace Sys2Proof.Machine

-- A link changes state --------------------------------------------------------------------------------------------------------------------------

/-- What the module shows of its links after one has changed (R112, R114, R374). -/
def linkReports : Act := all [look fun s => set .LINK_MAP_FAULTS (((List.range s.links).filter fun k => s.rd .FL_STATE k == flMiswired).length),
  guarantee, planesFollow]

def planeParts : List Part := [.reg .RD_PLANES, .qty .planesSeen] ++ eventParts

theorem planesFollow_touches : planesFollow.Touches planeParts :=
  touches_look fun _ => touches_all ⟨touches_set, touches_put, touches_each fun _ _ => touches_iff fun _ => touches_raise⟩

def reportParts : List Part := .reg .LINK_MAP_FAULTS :: (guaranteeParts ++ planeParts)

theorem linkReports_touches : linkReports.Touches reportParts :=
  touches_all ⟨touches_look fun _ => touches_set, guarantee_touches.mono, planesFollow_touches.mono⟩

/-- The parts that a link's change of state touches where nothing ran on the link. -/
def quietLinkParts : List Part := [.reg .FL_STATE, .tmr .flHold, .tmr .flAdmit, .tmr .flNew] ++ reportParts

section
variable {s : State} {l : Nat}

/-- A training link is admitted (R114). -/
theorem linkState_admitting (h : s.rd .FL_STATE l = flTraining) : (linkState l flAdmitting).to s
    = linkReports.to ((disarm .flHold l).to ((moveState .FL_STATE .LINK_STATE_CHANGE l flAdmitting).to s)) := by
  simp [linkState, linkReports, all_cons_to, all_nil_to, iff_to, h, State.inService]

/-- An admitting link goes into service, and opens to new paths a second later (R114). -/
theorem linkState_inService (h : s.rd .FL_STATE l = flAdmitting) : (linkState l flInService).to s
    = linkReports.to ((arm .flNew psS l).to ((disarm .flAdmit l).to ((disarm .flHold l).to ((moveState .FL_STATE .LINK_STATE_CHANGE l flInService).to s)))) := by
  simp [linkState, linkReports, all_cons_to, all_nil_to, iff_to, h, State.inService]

/-- An admitting link is found miswired (R23). -/
theorem linkState_miswired (h : s.rd .FL_STATE l = flAdmitting) : (linkState l flMiswired).to s
    = linkReports.to ((disarm .flAdmit l).to ((disarm .flHold l).to ((moveState .FL_STATE .LINK_STATE_CHANGE l flMiswired).to s))) := by
  simp [linkState, linkReports, all_cons_to, all_nil_to, iff_to, h, State.inService]

/-- An admitting link is held down for FAB_HOLDDOWN_S (R114). -/
theorem linkState_heldDown (h : s.rd .FL_STATE l = flAdmitting) : (linkState l flHeldDown).to s
    = linkReports.to ((disarm .flAdmit l).to ((arm .flHold (s.rd .FAB_HOLDDOWN_S * psS) l).to ((raise .LINK_HELD_DOWN l).to
        ((moveState .FL_STATE .LINK_STATE_CHANGE l flHeldDown).to s)))) := by
  simp [linkState, linkReports, all_cons_to, all_nil_to, iff_to, h, State.inService]

end

/-- From `s` to `u` link `l` has moved to state `new`, and nothing but what shows it has changed. -/
structure State.LinkMoved (s : State) (l new : Nat) (u : State) : Prop where
  state : u.rd .FL_STATE l = new
  same : State.SameBut quietLinkParts s u

section
variable {s : State} {l : Nat}

theorem linkIndex_small (hl : l < 256) : l < 2 ^ 40 := hl.trans (by decide)

theorem moveLink_moved (hs : SMap.sorted s.regs = true) (hl : l < 256) {new : Nat} (hn : new < 8) :
    s.LinkMoved l new ((moveState .FL_STATE .LINK_STATE_CHANGE l new).to s) where
  state := moveState_rd hs ((Fld.has_iff ..).mpr ⟨hl, by decide⟩) (by decide) hn
  same := (touches_moveState (f := .FL_STATE)).step s

/-- What does not touch FL_STATE leaves the link where it moved. -/
theorem State.LinkMoved.and {new : Nat} {u : State} {ps : List Part} {a : Act} (h : s.LinkMoved l new u) (ha : a.Touches ps)
    (hf : .reg .FL_STATE ∉ ps := by decide +kernel) (hp : ∀ p ∈ ps, p ∈ quietLinkParts := by decide +kernel) : s.LinkMoved l new (a.to u) where
  state := (ha.rd u hf l).trans h.state
  same := h.same.trans ((ha.step u).mono hp)

theorem armLink_touches (x : Tmr) (d : Nat) (hl : l < 256) : (arm x d l).Touches [.tmr x] := touches_arm (List.mem_singleton.mpr rfl) (linkIndex_small hl)
theorem disarmLink_touches (x : Tmr) (hl : l < 256) : (disarm x l).Touches [.tmr x] := touches_disarm (List.mem_singleton.mpr rfl) (linkIndex_small hl)

section
variable (hwf : s.wf = true) (hl : l < 256)
include hwf hl

theorem linkState_admitting_moved (h : s.rd .FL_STATE l = flTraining) : s.LinkMoved l flAdmitting ((linkState l flAdmitting).to s) := by
  rw [linkState_admitting h]
  exact ((moveLink_moved (State.wf_regs hwf) hl (by decide)).and (disarmLink_touches .flHold hl)).and linkReports_touches

theorem linkState_inService_moved (h : s.rd .FL_STATE l = flAdmitting) : s.LinkMoved l flInService ((linkState l flInService).to s)
    ∧ ((linkState l flInService).to s).timer .flAdmit l = none := by
  rw [linkState_inService h]
  constructor
  · exact ((((moveLink_moved (State.wf_regs hwf) hl (by decide)).and (disarmLink_touches .flHold hl)).and (disarmLink_touches .flAdmit hl)).and
      (armLink_touches .flNew psS hl)).and linkReports_touches
  · rw [linkReports_touches.timer _ (by decide +kernel) (linkIndex_small hl), (armLink_touches .flNew psS hl).timer _ (by decide) (linkIndex_small hl)]
    exact disarm_timer (Act.to_wf _ (Act.to_wf _ hwf)) _ _

theorem linkState_miswired_moved (h : s.rd .FL_STATE l = flAdmitting) : s.LinkMoved l flMiswired ((linkState l flMiswired).to s)
    ∧ ((linkState l flMiswired).to s).timer .flAdmit l = none := by
  rw [linkState_miswired h]
  constructor
  · exact (((moveLink_moved (State.wf_regs hwf) hl (by decide)).and (disarmLink_touches .flHold hl)).and (disarmLink_touches .flAdmit hl)).and linkReports_touches
  · rw [linkReports_touches.timer _ (by decide +kernel) (linkIndex_small hl)]
    exact disarm_timer (Act.to_wf _ (Act.to_wf _ hwf)) _ _

theorem linkState_heldDown_moved (h : s.rd .FL_STATE l = flAdmitting) : s.LinkMoved l flHeldDown ((linkState l flHeldDown).to s)
    ∧ ((linkState l flHeldDown).to s).timer .flHold l = some (s.now + s.rd .FAB_HOLDDOWN_S * psS) := by
  have hmove := moveLink_moved (State.wf_regs hwf) hl (new := flHeldDown) (by decide)
  have hraise := hmove.and (touches_raise_eventParts .LINK_HELD_DOWN l 0)
  rw [linkState_heldDown h]
  constructor
  · exact ((hraise.and (armLink_touches .flHold _ hl)).and (disarmLink_touches .flAdmit hl)).and linkReports_touches
  · rw [linkReports_touches.timer _ (by decide +kernel) (linkIndex_small hl), (disarmLink_touches .flAdmit hl).timer _ (by decide) (linkIndex_small hl), arm_timer,
      hraise.same.now]

end
end

-- The far end ------------------------------------------------------------------------------------------------------------------------------------

/-- What tells a link's far end, and which one the wiring expects (R22, R23). -/
def farParts : List Part := [.reg .SYS_ROLE, .reg .SYS_NODE, .reg .SYS_GEOM, .reg .SYS_EDGE_COUNT, .reg .RD_FAB_POS, .reg .FL_FAR_VALID, .reg .FL_FAR_NODE,
  .reg .FL_FAR_LINK, .qty .flFarPR, .qty .flChFar, .cfg]

section
variable {ps : List Part} {s u : State} (h : State.SameBut ps s u) (hp : ∀ p ∈ farParts, p ∉ ps)
include h hp

theorem State.SameBut.far_rd (f : Fld) (hf : .reg f ∈ farParts) (i : Nat) : u.rd f i = s.rd f i := h.rd (hp _ hf) i 0

theorem State.SameBut.isCentre : u.isCentre = s.isCentre := congrArg (· == 3) (h.far_rd hp .SYS_ROLE (by decide) 0)

theorem State.SameBut.linksPer : u.linksPer = s.linksPer := by
  unfold State.linksPer State.centres
  rw [h.far_rd hp .SYS_GEOM (by decide)]

theorem State.SameBut.planeOf (l : Nat) : u.planeOf l = s.planeOf l := by
  unfold State.planeOf State.node
  rw [h.isCentre hp, h.far_rd hp .SYS_NODE (by decide)]

theorem State.SameBut.farEnd {l : Nat} (hl : l < 256) : u.farEnd l = s.farEnd l := by
  have hq (x : Qty) (hx : Part.qty x ∈ farParts) : u.qn x l = s.qn x l := congrArg Int.toNat (h.q (hp _ hx) (linkIndex_small hl) (by decide))
  unfold State.farEnd
  rw [h.planeOf hp, h.isCentre hp, h.far_rd hp .FL_FAR_VALID (by decide), h.far_rd hp .FL_FAR_NODE (by decide), h.far_rd hp .FL_FAR_LINK (by decide),
    hq .flFarPR (by decide), hq .flChFar (by decide)]

theorem State.SameBut.farOf (l : Nat) : u.farOf l = s.farOf l := by
  unfold State.farOf State.node
  rw [h.linksPer hp, h.isCentre hp, h.cfg (hp .cfg (by decide)), h.far_rd hp .SYS_NODE (by decide), h.far_rd hp .SYS_EDGE_COUNT (by decide),
    h.far_rd hp .RD_FAB_POS (by decide)]

end

-- Admission ----------------------------------------------------------------------------------------------------------------------------------------

/-- The parts that the admission of a link touches. -/
def admitParts : List Part := [.out, .qty .admitMine, .qty .admitFar, .reg .SEC_ADMIT_OK, .reg .SEC_ADMIT_REFUSED] ++ quietLinkParts

theorem State.idleBlock_security (s : State) : s.idleBlock 16 = false := by
  simp [State.idleBlock, idleIn]
  split <;> simp

section
variable {s : State} {l : Nat} (hwf : s.wf = true) (hl : l < 256) (h : s.rd .FL_STATE l = flAdmitting)
include hwf hl h

/-- A refusal goes out in RESULT, is counted and reported, and the link is held down (R429). -/
theorem refuseLink_refuses (why : Nat) : ((refuseLink l why).to s).rd .FL_STATE l = flHeldDown
    ∧ ((refuseLink l why).to s).rd .SEC_ADMIT_REFUSED = min (s.rd .SEC_ADMIT_REFUSED + 1) 0xFFFFFFFF
    ∧ ((refuseLink l why).to s).latched .SEC_ADMIT_REFUSED = true ∧ ((refuseLink l why).to s).out = s.out ++ [.admission l 4 why]
    ∧ State.SameBut admitParts s ((refuseLink l why).to s) := by
  have hemit : Act.Touches [.out] (emit (.admission l 4 why)) := touches_emit
  have hcount : Act.Touches [.reg .SEC_ADMIT_REFUSED] (count .SEC_ADMIT_REFUSED) := touches_count
  have hraise := touches_raise_eventParts .SEC_ADMIT_REFUSED l why
  have hout : ((emit (.admission l 4 why)).to s).out = s.out ++ [.admission l 4 why] := rfl
  have hwf1 := Act.to_wf (emit (.admission l 4 why)) hwf
  have hsame1 := hemit.step s
  rw [refuseLink, all_cons_to, all_cons_to, all_cons_to, all_cons_to, all_nil_to]
  generalize (emit (.admission l 4 why)).to s = v at *
  have hwf2 := Act.to_wf (count .SEC_ADMIT_REFUSED) hwf1
  have hwf3 := Act.to_wf (raise .SEC_ADMIT_REFUSED l why) hwf2
  have hsame2 := (hsame1.mono (qs := .out :: .reg .SEC_ADMIT_REFUSED :: eventParts) (by decide +kernel)).trans ((hcount.mono.step v).trans (hraise.mono.step _))
  have hlatch := raise_latches .SEC_ADMIT_REFUSED l why (State.wf_regs hwf2)
    (State.idleBlock_security _) (by decide)
  have hn : ((raise .SEC_ADMIT_REFUSED l why).to ((count .SEC_ADMIT_REFUSED).to v)).rd .SEC_ADMIT_REFUSED = min (s.rd .SEC_ADMIT_REFUSED + 1) 0xFFFFFFFF := by
    rw [hraise.rd, count_rd (State.wf_regs hwf1), hsame1.rd (by decide)]
  have hout2 := (hraise.out _).trans ((hcount.out v).trans hout)
  obtain ⟨hmoved, -⟩ := linkState_heldDown_moved hwf3 hl ((hsame2.rd (by decide +kernel) l 0).trans h)
  exact ⟨hmoved.state, (hmoved.same.rd (by decide +kernel) 0 0).trans hn, hmoved.same.latched (State.wf_regs hwf3) _ hlatch, hmoved.same.out.trans hout2,
    (hsame2.mono (by decide +kernel)).trans (hmoved.same.mono (by decide +kernel))⟩

/-- With both results 0 the link goes into service where the far end is the one expected, and is miswired otherwise (R23, R428). -/
theorem admitted_into (hmine : s.q .admitMine l = 1) (hfar : s.q .admitFar l = 1) :
    ((admitted l).to s).rd .SEC_ADMIT_OK = min (s.rd .SEC_ADMIT_OK + 1) 0xFFFFFFFF
    ∧ ((admitted l).to s).rd .FL_STATE l = (if s.farEnd l = s.farOf l then flInService else flMiswired)
    ∧ ((admitted l).to s).timer .flAdmit l = none ∧ State.SameBut (.reg .SEC_ADMIT_OK :: quietLinkParts) s ((admitted l).to s) := by
  have hcount : Act.Touches [.reg .SEC_ADMIT_OK] (count .SEC_ADMIT_OK) := touches_count
  have hsame := hcount.step s
  have hok := count_rd (f := .SEC_ADMIT_OK) (i := 0) (j := 0) (State.wf_regs hwf)
  have hwf1 := Act.to_wf (count .SEC_ADMIT_OK) hwf
  have hst := (hcount.rd s (by decide) l 0).trans h
  rw [admitted, look_runs, if_pos ⟨hmine, hfar⟩, all_cons_to, all_cons_to, all_nil_to]
  generalize (count .SEC_ADMIT_OK).to s = v at *
  by_cases hw : s.farEnd l = s.farOf l
  · obtain ⟨hmoved, htimer⟩ := linkState_inService_moved hwf1 hl hst
    rw [if_pos hw, if_pos hw]
    exact ⟨(hmoved.same.rd (by decide +kernel) 0 0).trans hok, hmoved.state, htimer, (hsame.mono (by decide +kernel)).trans (hmoved.same.mono (by decide +kernel))⟩
  · obtain ⟨hmoved, htimer⟩ := linkState_miswired_moved hwf1 hl hst
    have hraise := touches_raise_eventParts .LINK_MISWIRED l 0
    have hmoved' := hmoved.and hraise
    rw [if_neg hw, if_neg hw, all_cons_to, all_cons_to, all_nil_to]
    exact ⟨(hmoved'.same.rd (by decide +kernel) 0 0).trans hok, hmoved'.state, (hraise.timer _ (by decide +kernel) (linkIndex_small hl)).trans htimer,
      (hsame.mono (by decide +kernel)).trans (hmoved'.same.mono (by decide +kernel))⟩

end
end Sys2Proof.Machine
end

section
/-! SUPPORT. Cell lock, the exchange of an admission and its end (R114, R428, R429): O16. -/
set_option Elab.async false
namespace Sys2Proof.Machine

-- Cell lock (R114) ---------------------------------------------------------------------------------------------------------------------------------

/-- The quantities of a link that begin anew at cell lock (R92, R114). -/
def cellQty : List Qty := [.flTxCtrl, .flTxAud, .flRxCtrl, .flRxAud, .flFreedCtrl, .flFreedAud, .flNewCtrl, .flNewAud, .flFreeAt, .flCtrlSeq, .flCtrlSeqRx, .flCalPos,
  .flGood, .flBad, .flUncSince, .flFarPR, .flChFar]

/-- What a link begins to be admitted with: both results open, full credits, nothing counted yet (R92, R428). -/
def beginAdmission (l : Nat) : Act :=
  all [put .admitMine 0 l, put .admitFar 0 l, set .FL_CREDITS_CTRL 8 l, set .FL_CREDITS_AUD 32 l, each cellQty (fun q => put q 0 l)]

def beginAdmissionParts : List Part := [.reg .FL_CREDITS_CTRL, .reg .FL_CREDITS_AUD, .qty .admitMine, .qty .admitFar] ++ cellQty.map .qty

theorem cellQtyClear_touches (l : Nat) : (each cellQty (fun q => put q 0 l)).Touches (cellQty.map .qty) :=
  touches_each fun _ hq => touches_put (List.mem_map_of_mem hq)

theorem beginAdmission_touches (l : Nat) : (beginAdmission l).Touches beginAdmissionParts :=
  touches_all ⟨touches_put, touches_put, touches_set, touches_set, (cellQtyClear_touches l).mono⟩

theorem beginAdmission_credits {s : State} (hs : SMap.sorted s.regs = true) {l : Nat} (hl : l < 256) :
    ((beginAdmission l).to s).rd .FL_CREDITS_CTRL l = 8 ∧ ((beginAdmission l).to s).rd .FL_CREDITS_AUD l = 32 := by
  have haud : Act.Touches [.reg .FL_CREDITS_AUD] (set .FL_CREDITS_AUD 32 l) := touches_set
  have hclear := cellQtyClear_touches l
  rw [beginAdmission, all_cons_to, all_cons_to, all_cons_to, all_cons_to, all_cons_to, all_nil_to]
  have hs2 := Act.to_regs_sorted (put .admitFar 0 l) (Act.to_regs_sorted (put .admitMine 0 l) hs)
  generalize (put .admitFar 0 l).to ((put .admitMine 0 l).to s) = v at *
  constructor
  · rw [hclear.rd _ (by decide +kernel) l, haud.rd _ (by decide) l]
    exact set_rd hs2 ((Fld.has_iff ..).mpr ⟨hl, by decide⟩)
  · rw [hclear.rd _ (by decide +kernel) l]
    exact set_rd (Act.to_regs_sorted _ hs2) ((Fld.has_iff ..).mpr ⟨hl, by decide⟩)

theorem emit_out (m : Sent) (s : State) : ((emit m).to s).out = s.out ++ [m] := rfl

theorem sendLocal_txRecs (l x : Nat) (s : State) : ((sendLocal l x).to s).txRecs = s.txRecs ++ [⟨l, 1, 0, 0, 0, 0, false, [x]⟩] := rfl

/-- The LINK_STATUS word of a link (R96). -/
def State.linkStatusWord (s : State) (l : Nat) : Nat := s.node % 64 + l % 256 * 2 ^ 8 + s.planeOf l % 2 * 2 ^ 16 + s.rd .SYS_ROLE % 4 * 2 ^ 17 + 15 * 2 ^ 48

theorem linkStatusWord_bits (s : State) {l : Nat} (hl : l < 256) :
    bits (s.linkStatusWord l) 48 4 = 15 ∧ bits (s.linkStatusWord l) 0 6 = s.node % 64 ∧ bits (s.linkStatusWord l) 8 8 = l := by
  simp only [bits, State.linkStatusWord]
  omega

section
variable {s : State} {t l : Nat}

theorem cellLock_locks (h : s.rd .FL_STATE l = 1) (hrx : s.rd .LN_RX_STATE (s.linkLane l) = 4) (htx : s.rd .LN_TX_STATE (s.linkLane l) < 2) :
    (cellLock l).to s = (arm .flAdmit (50 * psMs) l).to ((emit (.admission l 1 0)).to ((sendLocal l (s.linkStatusWord l)).to
      ((emit (.linkStatus l s.node l (s.planeOf l) (s.rd .SYS_ROLE))).to ((beginAdmission l).to ((linkState l flAdmitting).to s))))) := by
  have hgo : ¬ (s.rd .FL_STATE l ≠ flTraining ∨ s.rd .LN_RX_STATE (s.linkLane l) ≠ 4 ∨ 2 ≤ s.rd .LN_TX_STATE (s.linkLane l)) := by
    rw [h, hrx]
    simpa using htx
  rw [cellLock, look_runs, if_neg hgo]
  simp only [beginAdmission, all_cons_to, all_nil_to]
  rfl

theorem exec_linkCellLock : exec (.linkCellLock t l) s = .next ((cellLock l).to (s.since t)) := by
  show run _ s = _
  rw [run_eq, all_cons_to, all_cons_to, all_nil_to, at_to_since]

def lockParts : List Part := [.out, .txRecs] ++ beginAdmissionParts ++ quietLinkParts

/-- A link that has cell lock sends its LINK_STATUS and its CHALLENGE, with full credits, and waits 50 ms for the far RESULT (R114, R428, R429). -/
theorem cellLock_facts (hwf : s.wf = true) (hl : l < 256) (h : s.rd .FL_STATE l = 1) (hrx : s.rd .LN_RX_STATE (s.linkLane l) = 4)
    (htx : s.rd .LN_TX_STATE (s.linkLane l) < 2) :
    let u := (cellLock l).to s
    u.rd .FL_STATE l = 2 ∧ u.rd .FL_CREDITS_CTRL l = 8 ∧ u.rd .FL_CREDITS_AUD l = 32
    ∧ u.out = s.out ++ [.linkStatus l s.node l (s.planeOf l) (s.rd .SYS_ROLE), .admission l 1 0]
    ∧ u.txRecs = s.txRecs ++ [⟨l, 1, 0, 0, 0, 0, false, [s.linkStatusWord l]⟩]
    ∧ u.timer .flAdmit l = some (s.now + 50 * psMs) ∧ State.SameBut lockParts s u := by
  have hmoved := linkState_admitting_moved hwf hl h
  have hwf1 := Act.to_wf (linkState l flAdmitting) hwf
  have hbegin := beginAdmission_touches l
  have hstatus : Act.Touches [.out] (emit (.linkStatus l s.node l (s.planeOf l) (s.rd .SYS_ROLE))) := touches_emit
  have hsend : Act.Touches [.txRecs] (sendLocal l (s.linkStatusWord l)) := pushSpores_touches _
  have hchallenge : Act.Touches [.out] (emit (.admission l 1 0)) := touches_emit
  have harm := armLink_touches .flAdmit (50 * psMs) hl
  intro u
  rw [show u = _ from cellLock_locks h hrx htx]
  clear u
  generalize (linkState l flAdmitting).to s = v at *
  have hcredits := beginAdmission_credits (State.wf_regs hwf1) hl
  have hsame := (hmoved.same.mono (qs := lockParts) (by decide +kernel)).trans (hbegin.mono.step v)
  have hst := (hbegin.rd v (by decide +kernel) l).trans hmoved.state
  have hout0 := (hbegin.out v).trans hmoved.same.out
  have htx0 : ((beginAdmission l).to v).txRecs = s.txRecs := ((hbegin.step v).txRecs).trans hmoved.same.txRecs
  have hnow0 := (hbegin.now v).trans hmoved.same.now
  generalize (beginAdmission l).to v = w at *
  have hrest := ((hstatus.mono (qs := [.out, .txRecs, .tmr .flAdmit])).step w).trans ((hsend.mono.step _).trans ((hchallenge.mono.step _).trans (harm.mono.step _)))
  refine ⟨(hrest.rd (by decide) l 0).trans hst, (hrest.rd (by decide) l 0).trans hcredits.1, (hrest.rd (by decide) l 0).trans hcredits.2, ?_, ?_, ?_,
    hsame.trans (hrest.mono (by decide +kernel))⟩
  · rw [harm.out, emit_out, hsend.out, emit_out, hout0, List.append_assoc]
    rfl
  · rw [(harm.step _).txRecs, (hchallenge.step _).txRecs, sendLocal_txRecs, (hstatus.step w).txRecs, htx0]
  · rw [arm_timer, hchallenge.now, hsend.now, hstatus.now, hnow0]

end

-- The exchange (R428, R429) ---------------------------------------------------------------------------------------------------------------------------

section
variable {s : State} {t l : Nat}

/-- What a command does on a link that is being admitted. -/
theorem run_admitting (h : s.rd .FL_STATE l = 2) (a : Act) :
    run (all [at_ t, look fun s => iff (s.rd .FL_STATE l == flAdmitting) a]) s = .next (a.to (s.since t)) := by
  rw [run_eq, all_cons_to, all_cons_to, all_nil_to, at_to_since, look_runs, iff_to, if_pos (beq_iff_eq.mpr (show (s.since t).rd .FL_STATE l = 2 from h))]

theorem run_proof_true (h : s.rd .FL_STATE l = 2) {owner : Nat} {a : Act}
    (ha : (if s.rd .SEC_STATE = 0 ∨ owner ≠ s.rd .SEC_OWNER_DIGEST then refuseLink l 3
      else all [emit (.admission l 4 0), put .admitMine 1 l, admitted l] : Act) = a) : exec (.proof t l true owner) s = .next (a.to (s.since t)) := by
  subst ha
  show run _ s = _
  rw [run_eq, all_cons_to, all_cons_to, all_nil_to, at_to_since, look_runs, iff_to, if_pos (beq_iff_eq.mpr (show (s.since t).rd .FL_STATE l = 2 from h))]
  rfl

theorem challengeAnswer (known : Bool) : (if known then emit (.admission l 3 0) else emit (.admission l 2 0)) = emit (.admission l (if known then 3 else 2) 0) := by
  cases known <;> rfl

theorem run_admissionTimeout (h : s.rd .FL_STATE l = 2) (hdue : (s.since t).due .flAdmit l = true) :
    exec (.admissionTimeout t l) s = .next ((refuseLink l 4).to (s.since t)) := by
  have hst : ((s.since t).rd .FL_STATE l == flAdmitting) = true := beq_iff_eq.mpr h
  show run _ s = _
  rw [run_eq, all_cons_to, all_cons_to, all_nil_to, at_to_since, look_runs, iff_to, hdue, hst, if_pos (by decide)]

/-- A refusal by this side, from a command at `t` (R429). -/
theorem refusal (hwf : s.wf = true) (hl : l < 256) (h : s.rd .FL_STATE l = 2) {c : Instr} {why : Nat} (hexec : exec c s = .next ((refuseLink l why).to (s.since t))) :
    ∃ u, exec c s = .next u ∧ u.rd .FL_STATE l = 7 ∧ u.rd .SEC_ADMIT_REFUSED = min (s.rd .SEC_ADMIT_REFUSED + 1) 0xFFFFFFFF
      ∧ u.latched .SEC_ADMIT_REFUSED = true ∧ u.out = s.out ++ [.admission l 4 why]
      ∧ s.outside [0x00, 0x03, 0x04, 0x0E, 0x0F, 0x10] u ∧ u.mem = s.mem := by
  obtain ⟨hst, hn, hlatch, hout, hsame⟩ := refuseLink_refuses (s := s.since t) hwf hl h why
  exact ⟨_, hexec, hst, hn, hlatch, hout, hsame.outside (by decide +kernel), hsame.mem⟩

/-- The link has been admitted by both sides, and is in service or miswired (R23, R428). -/
def State.Into (s : State) (l : Nat) (u : State) : Prop := u.rd .SEC_ADMIT_OK = min (s.rd .SEC_ADMIT_OK + 1) 0xFFFFFFFF
  ∧ u.rd .FL_STATE l = (if s.farEnd l = s.farOf l then 4 else 3)

/-- From a state that is `s` but for the results, the admission ends when both results are 0, and goes on otherwise (R428). -/
theorem admitted_facts {ps : List Part} {v : State} (hwf : v.wf = true) (hl : l < 256) (h : s.rd .FL_STATE l = 2) (hv : State.SameBut ps s v)
    (hp : ps.all (fun p => decide (p ∈ [.now, .out, .tmr .flAdmit, .qty .admitMine, .qty .admitFar])) = true) :
    (v.timer .flAdmit l = none → ((admitted l).to v).timer .flAdmit l = none)
    ∧ (if v.q .admitMine l = 1 ∧ v.q .admitFar l = 1 then s.Into l ((admitted l).to v) else ((admitted l).to v).rd .FL_STATE l = 2)
    ∧ State.SameBut (.reg .SEC_ADMIT_OK :: quietLinkParts) v ((admitted l).to v) := by
  have hv' := hv.mono fun p hm => of_decide_eq_true (List.all_eq_true.mp hp p hm)
  have hst := (hv'.rd (by decide) l 0).trans h
  split
  case isTrue hboth =>
    obtain ⟨hok, hinto, htimer, hsame⟩ := admitted_into hwf hl hst hboth.1 hboth.2
    rw [hv'.farEnd (by decide +kernel) hl, hv'.farOf (by decide +kernel)] at hinto
    exact ⟨fun _ => htimer, ⟨hok.trans (by rw [hv'.rd (by decide)]), hinto⟩, hsame⟩
  case isFalse hnot =>
    rw [admitted, look_runs, if_neg hnot, skip_to]
    exact ⟨id, hst, .refl v⟩

/-- What an admission leaves alone: memory, and the registers outside the blocks of links, of outputs, of redundancy, of events and of security. -/
theorem admission_near {u : State} (h : State.SameBut (.now :: .tmr .flAdmit :: admitParts) s u) : s.outside [0x00, 0x03, 0x04, 0x0E, 0x0F, 0x10] u ∧ u.mem = s.mem :=
  ⟨h.outside (by decide +kernel), h.mem⟩

/-- CHALLENGE names the far end, and is answered with the own proof, or the chain where the far side does not know it (R428). -/
theorem challenge_answered (hwf : s.wf = true) (hl : l < 256) (h : s.rd .FL_STATE l = 2) (t node index : Nat) (known : Bool) :
    ∃ u, exec (.challenge t l node index known) s = .next u ∧ u.qn .flChFar l = node % 64 + index % 256 * 64
      ∧ u.out = s.out ++ [.admission l (if known then 3 else 2) 0] ∧ u.regs = s.regs ∧ u.mem = s.mem := by
  have hi := linkIndex_small hl
  have hput : Act.Touches [.qty .flChFar] (put .flChFar (node % 64 + index % 256 * 64 : Nat) l) := touches_put
  have hemit : Act.Touches [.out] (emit (.admission l (if known then 3 else 2) 0)) := touches_emit
  have hq : ((put .flChFar (node % 64 + index % 256 * 64 : Nat) l).to (s.since t)).q .flChFar l = (node % 64 + index % 256 * 64 : Nat) :=
    put_q (s := s.since t) hwf _ _ hi
  have hsame := hput.step (s.since t)
  have hout : ((put .flChFar (node % 64 + index % 256 * 64 : Nat) l).to (s.since t)).out = s.out := hsame.out
  have hregs : ((put .flChFar (node % 64 + index % 256 * 64 : Nat) l).to (s.since t)).regs = s.regs := hsame.regs rfl
  have hmem : ((put .flChFar (node % 64 + index % 256 * 64 : Nat) l).to (s.since t)).mem = s.mem := hsame.mem
  refine ⟨_, run_admitting h _, ?_⟩
  rw [all_cons_to, all_cons_to, all_nil_to, challengeAnswer]
  generalize (put .flChFar (node % 64 + index % 256 * 64 : Nat) l).to (s.since t) = v at *
  exact ⟨congrArg Int.toNat ((hemit.q v (by decide) hi).trans hq), by rw [emit_out, hout], ((hemit.step v).regs rfl).trans hregs, (hemit.mem v).trans hmem⟩

/-- A good PROOF of the same owner is answered with RESULT 0, which ends the admission where the far RESULT 0 has come (R428). -/
theorem proof_accepted (hwf : s.wf = true) (hl : l < 256) (h : s.rd .FL_STATE l = 2) (t : Nat) (hsec : s.rd .SEC_STATE ≠ 0) :
    ∃ u, exec (.proof t l true (s.rd .SEC_OWNER_DIGEST)) s = .next u ∧ u.out = s.out ++ [.admission l 4 0] ∧ u.q .admitMine l = 1
      ∧ (s.outside [0x00, 0x03, 0x04, 0x0E, 0x0F, 0x10] u ∧ u.mem = s.mem) ∧ (if s.q .admitFar l = 1 then s.Into l u else u.rd .FL_STATE l = 2) := by
  have hi := linkIndex_small hl
  have hemit : Act.Touches [.out] (emit (.admission l 4 0)) := touches_emit
  have hput : Act.Touches [.qty .admitMine] (put .admitMine 1 l) := touches_put
  have hexec := run_proof_true (t := t) (owner := s.rd .SEC_OWNER_DIGEST) h (if_neg (by rintro (h0 | hne); exacts [hsec h0, hne rfl]))
  have hsame : State.SameBut [.now, .out, .qty .admitMine] s ((put .admitMine 1 l).to ((emit (.admission l 4 0)).to (s.since t))) :=
    ((since_sameBut s t).mono (by decide)).trans ((hemit.mono.step _).trans (hput.mono.step _))
  have hmine : ((put .admitMine 1 l).to ((emit (.admission l 4 0)).to (s.since t))).q .admitMine l = 1 := put_q (Act.to_wf _ (s := s.since t) hwf) _ _ hi
  have hout : ((put .admitMine 1 l).to ((emit (.admission l 4 0)).to (s.since t))).out = s.out ++ [.admission l 4 0] := hput.out _
  have hwf' : ((put .admitMine 1 l).to ((emit (.admission l 4 0)).to (s.since t))).wf = true := Act.to_wf _ (Act.to_wf _ (s := s.since t) hwf)
  rw [all_cons_to, all_cons_to, all_cons_to, all_nil_to] at hexec
  refine ⟨_, hexec, ?_⟩
  generalize (put .admitMine 1 l).to ((emit (.admission l 4 0)).to (s.since t)) = v at *
  obtain ⟨-, hend, hend'⟩ := admitted_facts hwf' hl h hsame (by decide)
  have hfar : v.q .admitFar l = s.q .admitFar l := hsame.q (by decide) hi (by decide)
  simp only [hmine, hfar, true_and] at hend
  exact ⟨hend'.out.trans hout, (hend'.q (by decide +kernel) hi (by decide)).trans hmine,
    admission_near ((hsame.mono (by decide +kernel)).trans (hend'.mono (by decide +kernel))), hend⟩

/-- RESULT 0 ends the wait for it, and the admission where the own RESULT 0 has left (R428). -/
theorem result_accepted (hwf : s.wf = true) (hl : l < 256) (h : s.rd .FL_STATE l = 2) (t : Nat) :
    ∃ u, exec (.result t l 0) s = .next u ∧ u.q .admitFar l = 1 ∧ u.timer .flAdmit l = none ∧ u.out = s.out
      ∧ (s.outside [0x00, 0x03, 0x04, 0x0E, 0x0F, 0x10] u ∧ u.mem = s.mem) ∧ (if s.q .admitMine l = 1 then s.Into l u else u.rd .FL_STATE l = 2) := by
  have hi := linkIndex_small hl
  have hdis := disarmLink_touches .flAdmit hl
  have hput : Act.Touches [.qty .admitFar] (put .admitFar 1 l) := touches_put
  have hexec : exec (.result t l 0) s = _ := run_admitting h _
  have hsame : State.SameBut [.now, .tmr .flAdmit, .qty .admitFar] s ((put .admitFar 1 l).to ((disarm .flAdmit l).to (s.since t))) :=
    ((since_sameBut s t).mono (by decide)).trans ((hdis.mono.step _).trans (hput.mono.step _))
  have hfar : ((put .admitFar 1 l).to ((disarm .flAdmit l).to (s.since t))).q .admitFar l = 1 := put_q (Act.to_wf _ (s := s.since t) hwf) _ _ hi
  have htimer : ((put .admitFar 1 l).to ((disarm .flAdmit l).to (s.since t))).timer .flAdmit l = none :=
    (hput.timer _ (by decide) hi).trans (disarm_timer (s := s.since t) hwf _ _)
  have hwf' : ((put .admitFar 1 l).to ((disarm .flAdmit l).to (s.since t))).wf = true := Act.to_wf _ (Act.to_wf _ (s := s.since t) hwf)
  rw [if_pos rfl, all_cons_to, all_cons_to, all_cons_to, all_nil_to] at hexec
  refine ⟨_, hexec, ?_⟩
  generalize (put .admitFar 1 l).to ((disarm .flAdmit l).to (s.since t)) = v at *
  obtain ⟨hnone, hend, hend'⟩ := admitted_facts hwf' hl h hsame (by decide)
  have hmine : v.q .admitMine l = s.q .admitMine l := hsame.q (by decide) hi (by decide)
  simp only [hmine, hfar, and_true] at hend
  exact ⟨(hend'.q (by decide +kernel) hi (by decide)).trans hfar, hnone htimer, hend'.out.trans hsame.out,
    admission_near ((hsame.mono (by decide +kernel)).trans (hend'.mono (by decide +kernel))), hend⟩

/-- A RESULT with a reason holds the link down (R114, R429). -/
theorem result_refused (hwf : s.wf = true) (hl : l < 256) (h : s.rd .FL_STATE l = 2) (t : Nat) {reason : Nat} (hr : reason ≠ 0) :
    ∃ u, exec (.result t l reason) s = .next u ∧ u.rd .FL_STATE l = 7 ∧ u.timer .flHold l = some (max s.now t + s.rd .FAB_HOLDDOWN_S * psS) ∧ u.out = s.out
      ∧ s.outside [0x00, 0x03, 0x04, 0x0E, 0x0F, 0x10] u ∧ u.mem = s.mem := by
  have hexec : exec (.result t l reason) s = _ := run_admitting h _
  rw [if_neg hr] at hexec
  obtain ⟨hmoved, htimer⟩ := linkState_heldDown_moved (s := s.since t) hwf hl h
  have hsame := ((since_sameBut s t).mono (by decide +kernel)).trans (hmoved.same.mono (qs := .now :: .tmr .flAdmit :: admitParts) (by decide +kernel))
  exact ⟨_, hexec, hmoved.state, htimer, hmoved.same.out, admission_near hsame⟩

end

/-- Settles O16: cell lock is `cellLock_facts`, the exchange `challenge_answered`, `proof_accepted` and `result_accepted`, its ends `admitted_facts`, `refusal`
and `result_refused`. -/
theorem linkAdmission : Obligations.LinkAdmission := by
  intro s t link hwf hfits hl near refused into
  refine ⟨fun h hrx htx => ?_, fun h => ⟨challenge_answered hwf hl h t, ⟨_, run_admitting h _, rfl, rfl, rfl⟩, refusal hwf hl h (run_admitting h _),
    fun _ => refusal hwf hl h (run_admitting h _), fun owner ho => ?_, proof_accepted hwf hl h t, result_accepted hwf hl h t,
    fun reason hr => result_refused hwf hl h t hr, fun hdue => refusal hwf hl h (run_admissionTimeout h hdue)⟩⟩
  · obtain ⟨hst, hctrl, haud, hout, htxr, htimer, hsame⟩ := cellLock_facts (s := s.since t) hwf hl h hrx htx
    exact ⟨_, exec_linkCellLock, hst, hctrl, haud, hout, ⟨_, htxr, linkStatusWord_bits _ hl⟩, htimer, hsame.outside (by decide +kernel), hsame.mem⟩
  · have hexec : exec (.proof t link true owner) s = .next ((refuseLink link 3).to (s.since t)) := run_proof_true h (if_pos ho)
    exact refusal hwf hl h hexec

end Sys2Proof.Machine
end

section
/-! SUPPORT. What the acts of a field update touch: its answers, its lock, its images, its fall-back and the relay (R457 to R467). -/
set_option Elab.async false
namespace Sys2Proof.Machine
open Host

/-- No act brings a command or takes one from what waits. -/
theorem Act.to_pending (a : Act) (s : State) : (a.to s).pending = s.pending :=
  (show a.Within fun _ => True from fun _ _ _ => trivial).keeps (P := fun t => t.pending = s.pending) (fun t e _ h => (State.app_pending t e).trans h) rfl

-- Answers ---------------------------------------------------------------------------------------------------------------------------------------------

theorem updReply_touches (m : Msg) (sub code : Nat) (data : List Nat) (index : Nat) : (updReply m sub code data index).Touches answerParts :=
  touches_look fun _ => touches_ite (fun _ => touches_emit) fun _ => sendAnswer_touches _

theorem updSay_touches (m : Msg) (sub : Nat) (st : Status) : (updSay m sub st).Touches answerParts := updReply_touches ..

theorem withFree_touches {ps : List Part} {f : Nat → Act} (h : ∀ v, (f v).Touches ps) (hf : .freed ∈ ps := by decide +kernel) : (withFree f).Touches ps :=
  touches_look fun _ => touches_all ⟨touches_one rfl ⟨hf, by simp⟩, h _⟩

def freeAnswerParts : List Part := .freed :: answerParts

theorem freeRefusal_touches (m : Msg) (sub : Nat) (data : List Nat) (index : Nat) : (freeRefusal fun c => updReply m sub c data index).Touches freeAnswerParts :=
  withFree_touches fun _ => (updReply_touches ..).mono

/-- The answer to a record of the relay is an ANSWER record to the active manager (R467). -/
theorem updReply_relay (t sub code : Nat) (data : List Nat) (index : Nat) (s : State) :
    ((updReply (relayMsg t) sub code data index).to s) = (emit (.relay s.activeNode 0xF3 [code, sub, data.headD 0])).to s := by
  rw [updReply, look_runs, if_pos (show (relayMsg t).sess = relaySess from rfl)]

theorem updSay_relay_out (t sub : Nat) (st : Status) (s : State) : ((updSay (relayMsg t) sub st).to s).out = s.out ++ [.relay s.activeNode 0xF3 [st.code, sub, 0]] := by
  rw [updSay, updReply_relay, emit_out]
  rfl

theorem updSay_relay_touches (t sub : Nat) (st : Status) : (updSay (relayMsg t) sub st).Touches [.out] where
  step s := by
    have hemit : Act.Touches [.out] (emit (.relay s.activeNode 0xF3 [st.code, sub, 0])) := touches_emit
    rw [updSay, updReply_relay]
    exact hemit.step s

-- The lock (R458) ---------------------------------------------------------------------------------------------------------------------------------------

def unlockParts : List Part := [.upd, .reg .UP_STATE, .reg .UP_SOURCE, .reg .UP_HOLDER, .reg .UP_CONTENT, .reg .UP_RELAY_TARGETS, .qty .upVerified,
  .qty .upConflict, .tmr .updLock, .tmr .updHealth, .tmr .updWindow, .tmr .relay]

theorem relayTimers_touches : (each (List.range 64) fun n => disarm .relay n).Touches [.tmr .relay] :=
  touches_each fun n hn => touches_disarm (List.mem_singleton.mpr rfl) ((List.mem_range.mp hn).trans (by decide))

theorem updRelease_touches : updRelease.Touches unlockParts :=
  touches_all ⟨touches_one rfl, touches_set, touches_set, touches_set, touches_set, touches_set, touches_put, touches_put, touches_disarm, touches_disarm,
    touches_disarm, relayTimers_touches.mono⟩

/-- Disarming the timers of the relay arms none. -/
theorem relayTimers_none {s : State} (hwf : s.wf = true) {n : Nat} (hn : n < 64) (h : s.timer .relay n = none) {xs : List Nat} (hxs : ∀ k ∈ xs, k < 64) :
    ((each xs fun k => disarm .relay k).to s).timer .relay n = none := by
  induction xs generalizing s with
  | nil => exact h
  | cons k xs ih =>
    rw [each_cons_to]
    refine ih (Act.to_wf _ hwf) ?_ fun j hj => hxs j (.tail _ hj)
    by_cases hk : n = k
    · exact hk ▸ disarm_timer hwf _ _
    · have hk64 := hxs k (.head _)
      exact (SMap.find_del_other _ (Tmr.key_ne (by omega) (by omega) (.inr hk))).trans h

/-- The release of the lock, but for the timers of the relay. -/
def unlockHead : Act := all [one (.upd none), set .UP_STATE 0, set .UP_SOURCE 0, set .UP_HOLDER 0, set .UP_CONTENT 0, set .UP_RELAY_TARGETS 0,
  put .upVerified 0, put .upConflict 0, disarm .updLock, disarm .updHealth, disarm .updWindow]

theorem unlockHead_touches : unlockHead.Touches (unlockParts.erase (.tmr .relay)) :=
  touches_all ⟨touches_one rfl, touches_set, touches_set, touches_set, touches_set, touches_set, touches_put, touches_put, touches_disarm, touches_disarm,
    touches_disarm⟩

theorem updRelease_to (s : State) : updRelease.to s = (each (List.range 64) fun n => disarm .relay n).to (unlockHead.to s) := by
  rw [updRelease, all_cons_to, all_cons_to, all_cons_to, all_cons_to, all_cons_to, all_cons_to, all_cons_to, all_cons_to, all_cons_to, all_cons_to, all_cons_to, all_cons_to, all_nil_to,
    unlockHead, all_cons_to, all_cons_to, all_cons_to, all_cons_to, all_cons_to, all_cons_to, all_cons_to, all_cons_to, all_cons_to, all_cons_to, all_cons_to, all_nil_to]

theorem updRelease_relay {s : State} (hwf : s.wf = true) {n : Nat} (hn : n < 64) (h : s.timer .relay n = none) : (updRelease.to s).timer .relay n = none := by
  rw [updRelease_to]
  exact relayTimers_none (Act.to_wf _ hwf) hn ((unlockHead_touches.timer s (by decide +kernel) (by omega)).trans h) fun k hk => List.mem_range.mp hk

/-- The lock that is released holds nothing, and UP_STATE is IDLE (R458). -/
theorem updRelease_idle {s : State} (hs : SMap.sorted s.regs = true) : (updRelease.to s).upd = none ∧ (updRelease.to s).rd .UP_STATE = 0 := by
  have hrest : Act.Touches ((unlockParts.erase .upd).erase (.reg .UP_STATE)) (all [set .UP_SOURCE 0, set .UP_HOLDER 0, set .UP_CONTENT 0, set .UP_RELAY_TARGETS 0,
      put .upVerified 0, put .upConflict 0, disarm .updLock, disarm .updHealth, disarm .updWindow, each (List.range 64) fun n => disarm .relay n]) :=
    touches_all ⟨touches_set, touches_set, touches_set, touches_set, touches_put, touches_put, touches_disarm, touches_disarm, touches_disarm,
      relayTimers_touches.mono⟩
  have hstate : Act.Touches [.reg .UP_STATE] (set .UP_STATE 0) := touches_set
  rw [updRelease, all_cons_to, all_cons_to]
  constructor
  · exact ((hrest.step _).upd).trans ((hstate.step _).upd)
  · rw [hrest.rd]
    exact set_rd (Act.to_regs_sorted (one (.upd none)) hs) (by decide)

-- Fall-back, conflict (R460, R465) ----------------------------------------------------------------------------------------------------------------------

def fallParts : List Part := [.nvm, .qty .upFallback, .tmr .updHealth, .tmr .updWindow, .tmr .restart] ++ eventParts

theorem fallBack_touches (result : Nat) : (fallBack result).Touches fallParts :=
  touches_look fun _ => touches_iff fun _ => touches_all ⟨touches_look fun _ => touches_one rfl, touches_put, touches_disarm, touches_disarm, touches_raise,
    touches_look fun _ => touches_arm⟩

def conflictParts : List Part := [.reg .UP_CONFLICTS, .freed] ++ unlockParts ++ fallParts

theorem conflict_touches : conflict.Touches conflictParts :=
  touches_look fun _ => touches_all ⟨touches_count, withFree_touches fun _ => touches_raise,
    touches_ite (fun _ => updRelease_touches.mono) fun _ => touches_all ⟨touches_put, (fallBack_touches 5).mono⟩⟩

-- OPEN (R459) -------------------------------------------------------------------------------------------------------------------------------------------

/-- The act of an offer that takes the lock, but for what holds it and its answer. -/
def showOffer (m : Msg) (o : Offer) (s : State) : Act :=
  all [set .UP_CONTENT o.content, set .UP_SET_ID o.setId, set .UP_CONFIRM_S (clampNat 60 86400 o.confirmS), set .UP_HEALTH_S (clampNat 10 900 o.healthS),
    set .UP_FW_BLOCKS 0, set .UP_FW_TOTAL (if hasFw o.content then blocksOf o.fwLen else 0),
    set .UP_CFG_BLOCKS 0, set .UP_CFG_TOTAL (if hasCfg o.content then blocksOf o.cfgLen else 0),
    set .UP_RELAY_TARGETS ((s.relayNodes o.targets).map fun n => 2 ^ n).sum, each (List.range 64) (fun n => set .UP_RELAY_STATE 0 n),
    iff (s.takesSelf o.targets) (emptySlots m o (clampNat 60 86400 o.confirmS) (clampNat 10 900 o.healthS)), arm .updLock (60 * psS), raise .UPDATE_OPENED]

def offerParts : List Part := [.reg .UP_CONTENT, .reg .UP_SET_ID, .reg .UP_CONFIRM_S, .reg .UP_HEALTH_S, .reg .UP_FW_BLOCKS, .reg .UP_FW_TOTAL,
  .reg .UP_CFG_BLOCKS, .reg .UP_CFG_TOTAL, .reg .UP_RELAY_TARGETS, .reg .UP_RELAY_STATE, .nvm, .tmr .updLock] ++ eventParts

theorem showOffer_touches (m : Msg) (o : Offer) (s : State) : (showOffer m o s).Touches offerParts :=
  touches_all ⟨touches_set, touches_set, touches_set, touches_set, touches_set, touches_set, touches_set, touches_set, touches_set,
    touches_each fun _ _ => touches_set, touches_iff fun _ => touches_look fun _ => touches_one rfl, touches_arm, touches_raise⟩

/-- The lock as an offer takes it (R459). -/
def lockOf (m : Msg) (o : Offer) : Upd := ⟨o.content % 4, o.fwLen, o.cfgLen, o.setId, o.fwSvn, o.cfgSvn, o.format, o.targets, o.fwDigest, o.cfgDigest,
  clampNat 60 86400 o.confirmS, clampNat 10 900 o.healthS, 0, 0, m.sess, []⟩

/-- What holds the lock after an offer of the relay. -/
def holdLock (m : Msg) (o : Offer) (holder : Nat) : Act := all [one (.upd (some (lockOf m o))), set .UP_STATE 1, set .UP_SOURCE 2, set .UP_HOLDER holder]

theorem takeLock_relay (t : Nat) (o : Offer) (s : State) : (takeLock (relayMsg t) o).to s
    = (updSay (relayMsg t) 0xF0 (if clampNat 60 86400 o.confirmS = o.confirmS ∧ clampNat 10 900 o.healthS = o.healthS then .ACCEPTED else .CLAMPED)).to
        ((showOffer (relayMsg t) o s).to ((holdLock (relayMsg t) o s.activeNode).to s)) := by
  have hr : (relayMsg t).sess = relaySess := rfl
  rw [takeLock, look_runs]
  dsimp only
  rw [if_pos hr, if_pos hr, all_cons_to, all_cons_to, all_cons_to, all_cons_to, all_cons_to, all_cons_to, all_cons_to, all_cons_to,
    all_cons_to, all_cons_to, all_cons_to, all_cons_to, all_cons_to, all_cons_to, all_cons_to, all_cons_to, all_cons_to, all_cons_to, all_nil_to, holdLock, all_cons_to, all_cons_to, all_cons_to, all_cons_to, all_nil_to,
    showOffer, all_cons_to, all_cons_to, all_cons_to, all_cons_to, all_cons_to, all_cons_to, all_cons_to, all_cons_to, all_cons_to, all_cons_to, all_cons_to, all_cons_to, all_cons_to, all_nil_to, lockOf]

def openParts : List Part := [.out, .upd, .reg .UP_STATE, .reg .UP_SOURCE, .reg .UP_HOLDER, .reg .UP_BUSY_REFUSED] ++ offerParts ++ conflictParts

theorem holdLock_touches (m : Msg) (o : Offer) (holder : Nat) :
    (holdLock m o holder).Touches [.upd, .reg .UP_STATE, .reg .UP_SOURCE, .reg .UP_HOLDER] :=
  touches_all ⟨touches_one rfl, touches_set, touches_set, touches_set⟩

theorem holdLock_rd (m : Msg) (o : Offer) (holder : Nat) {s : State} (hs : SMap.sorted s.regs = true) : ((holdLock m o holder).to s).rd .UP_STATE = 1
    ∧ ((holdLock m o holder).to s).rd .UP_SOURCE = 2 ∧ ((holdLock m o holder).to s).rd .UP_HOLDER = holder % 64 := by
  have hsource : Act.Touches [.reg .UP_SOURCE] (set .UP_SOURCE 2) := touches_set
  have hholder : Act.Touches [.reg .UP_HOLDER] (set .UP_HOLDER holder) := touches_set
  rw [holdLock, all_cons_to, all_cons_to, all_cons_to, all_cons_to, all_nil_to]
  have hs1 := Act.to_regs_sorted (one (.upd (some (lockOf m o)))) hs
  generalize (one (.upd (some (lockOf m o)))).to s = v at hs1
  have hs2 := Act.to_regs_sorted (set .UP_STATE 1) hs1
  exact ⟨(hholder.rd _).trans ((hsource.rd _).trans (set_rd hs1 (by decide))), (hholder.rd _).trans (set_rd hs2 (by decide)),
    set_rd (Act.to_regs_sorted _ hs2) (by decide)⟩

section
variable {s : State} {t : Nat} {o : Offer}

theorem takeLock_touches (t : Nat) (o : Offer) : (takeLock (relayMsg t) o).Touches openParts where
  step s := by
    rw [takeLock_relay]
    exact ((holdLock_touches ..).mono.step s).trans (((showOffer_touches ..).mono.step _).trans ((updSay_relay_touches ..).mono.step _))

/-- What follows the answer of an offer that is refused. -/
def afterRefusal (st : Status) : Act :=
  all [iff (st == .BUSY) (count .UP_BUSY_REFUSED), iff (st == .ROLLBACK) (raise .SEC_ROLLBACK_REFUSED), iff (st == .CONFLICT) conflict]

theorem afterRefusal_touches (st : Status) : (afterRefusal st).Touches (.reg .UP_BUSY_REFUSED :: conflictParts) :=
  touches_all ⟨touches_iff fun _ => touches_count, touches_iff fun _ => touches_raise, touches_iff fun _ => conflict_touches.mono⟩

theorem updOpen_refused_to {st : Status} (h : s.openStatus o = some st) :
    (updOpen (relayMsg t) o).to s = (afterRefusal st).to ((updSay (relayMsg t) 0xF0 st).to s) := by
  rw [updOpen, look_runs, h, all_cons_to]
  rfl

theorem updOpen_taken_to (h : s.openStatus o = none) : (updOpen (relayMsg t) o).to s = (takeLock (relayMsg t) o).to s := by rw [updOpen, look_runs, h]

theorem updOpen_touches (t : Nat) (o : Offer) : (updOpen (relayMsg t) o).Touches openParts where
  step s := by
    cases h : s.openStatus o with
    | none =>
      rw [updOpen_taken_to h]
      exact (takeLock_touches t o).step s
    | some st =>
      rw [updOpen_refused_to h]
      exact ((updSay_relay_touches ..).mono.step s).trans ((afterRefusal_touches st).mono.step _)

/-- An offer of the relay that is refused is answered with the status (R459, R467). -/
theorem updOpen_refused {st : Status} (h : s.openStatus o = some st) :
    ((updOpen (relayMsg t) o).to s).out = s.out ++ [.relay s.activeNode 0xF3 [st.code, 0xF0, 0]] := by
  rw [updOpen_refused_to h, (afterRefusal_touches st).out, updSay_relay_out]

/-- An offer of the relay that nothing refuses takes the lock for the active manager (R459, R467). -/
theorem updOpen_taken (hs : SMap.sorted s.regs = true) (h : s.openStatus o = none) : let u := (updOpen (relayMsg t) o).to s
    u.out = s.out ++ [.relay s.activeNode 0xF3 [if clampNat 60 86400 o.confirmS = o.confirmS ∧ clampNat 10 900 o.healthS = o.healthS then 0 else 1, 0xF0, 0]]
    ∧ u.rd .UP_STATE = 1 ∧ u.rd .UP_SOURCE = 2 ∧ u.rd .UP_HOLDER = s.activeNode % 64 := by
  intro u
  rw [show u = _ from (updOpen_taken_to h).trans (takeLock_relay ..)]
  clear u
  have hhold := holdLock_touches (relayMsg t) o s.activeNode
  have hshow := showOffer_touches (relayMsg t) o s
  have hcode : (if clampNat 60 86400 o.confirmS = o.confirmS ∧ clampNat 10 900 o.healthS = o.healthS then Status.ACCEPTED else .CLAMPED).code
      = if clampNat 60 86400 o.confirmS = o.confirmS ∧ clampNat 10 900 o.healthS = o.healthS then 0 else 1 := by split <;> rfl
  have hsay := updSay_relay_touches t 0xF0 (if clampNat 60 86400 o.confirmS = o.confirmS ∧ clampNat 10 900 o.healthS = o.healthS then Status.ACCEPTED else .CLAMPED)
  have hactive : ((showOffer (relayMsg t) o s).to ((holdLock (relayMsg t) o s.activeNode).to s)).activeNode = s.activeNode :=
    ((hshow.step _).activeNode).trans ((hhold.step s).activeNode)
  have hrd (f : Fld) (hf : .reg f ∉ offerParts) : ((showOffer (relayMsg t) o s).to ((holdLock (relayMsg t) o s.activeNode).to s)).rd f
      = ((holdLock (relayMsg t) o s.activeNode).to s).rd f := hshow.rd _ hf
  obtain ⟨hstate, hsource, hholder⟩ := holdLock_rd (relayMsg t) o s.activeNode hs
  refine ⟨?_, ?_, ?_, ?_⟩
  · rw [updSay_relay_out, hcode, hactive, hshow.out, hhold.out]
  · rw [hsay.rd, hrd _ (by decide +kernel), hstate]
  · rw [hsay.rd, hrd _ (by decide +kernel), hsource]
  · rw [hsay.rd, hrd _ (by decide +kernel), hholder]

end

-- BLOCKS (R462, R467) -------------------------------------------------------------------------------------------------------------------------------------

def blockParts : List Part := [.upd, .reg .UP_FW_BLOCKS, .reg .UP_CFG_BLOCKS]

theorem haveBlock_touches (img index : Nat) : (haveBlock img index).Touches blockParts := by
  refine touches_look fun s => ?_
  cases s.upd with
  | none => exact touches_skip
  | some u => exact touches_ite (fun _ => touches_iff fun _ => touches_all ⟨touches_one rfl, touches_count⟩) fun _ =>
      touches_iff fun _ => touches_all ⟨touches_one rfl, touches_count⟩

theorem blockTaken_touches (m : Msg) (img index : Nat) : (blockTaken m img index skip).Touches blockParts := by
  refine touches_look fun s => ?_
  cases s.upd with
  | none => exact touches_skip
  | some u => exact touches_ite (fun _ => touches_one rfl) fun _ => touches_all ⟨haveBlock_touches .., touches_skip⟩

/-- The act of one block of a BLOCKS record: it is taken, or counted as bad. -/
def takeBlock (m : Msg) (img : Nat) (b : Nat × Bool) : Act := if b.2 then count .UP_BAD_BLOCKS else blockTaken m img b.1 skip

/-- The blocks of a BLOCKS record, each with what makes it bad. -/
def blocksNamed (u : Upd) (img first : Nat) (crcs : List Bool) : List (Nat × Bool) := crcs.mapIdx fun k ok => (first + k, blockBad u img (first + k) ok)

theorem blocksNamed_good {u : Upd} {img first : Nat} {crcs : List Bool} (h : ∀ k c, crcs[k]? = some c → blockBad u img (first + k) c = false) :
    blocksNamed u img first crcs = (List.range crcs.length).map fun k => (first + k, false) := by
  apply List.ext_getElem
  · simp [blocksNamed]
  · intro k h1 h2
    have hk : k < crcs.length := by simpa [blocksNamed] using h1
    simp [blocksNamed, h k crcs[k] (List.getElem?_eq_getElem hk)]

def blocksParts : List Part := [.qty .relayStatus, .reg .UP_BAD_BLOCKS, .out] ++ blockParts

section
variable {s : State} {t : Nat}

theorem relayBlocks_open {img first : Nat} {crcs : List Bool} (h : s.isHolder relaySess = false) :
    (relayBlocks (relayMsg t) img first crcs).to s = (updSay (relayMsg t) 0xF1 .NOT_OPEN).to s := by
  rw [relayBlocks, look_runs]
  cases hu : s.upd with
  | none => rfl
  | some u => exact congrFun (congrArg Act.to (if_pos (by rw [show (relayMsg t).sess = relaySess from rfl, h]; rfl))) s

/-- What the relay answers once every block has been looked at: where none of its blocks waits to be written. -/
def blocksReply (m : Msg) (st : Status) : Act :=
  look fun s => iff (match s.upd with | some v => !relayWrites v | none => true) (updSay m 0xF1 st)

theorem blocksReply_touches (t : Nat) (st : Status) : (blocksReply (relayMsg t) st).Touches [.out] :=
  touches_look fun _ => touches_iff fun _ => updSay_relay_touches ..

theorem blocksReply_waits {m : Msg} {st : Status} {u : Upd} (hu : s.upd = some u) (hw : relayWrites u = true) : (blocksReply m st).to s = s := by
  rw [blocksReply, look_runs, hu]
  dsimp only
  rw [hw, iff_to, if_neg (by decide)]

/-- The status of a BLOCKS record (R467). -/
def blocksStatus (bs : List (Nat × Bool)) : Status := if bs.any Prod.snd then .BAD_BLOCK else .ACCEPTED

theorem relayBlocks_holder {img first : Nat} {crcs : List Bool} {u : Upd} (h : s.isHolder relaySess = true) (hu : s.upd = some u) :
    (relayBlocks (relayMsg t) img first crcs).to s = (blocksReply (relayMsg t) (blocksStatus (blocksNamed u img first crcs))).to
      ((each (blocksNamed u img first crcs) (takeBlock (relayMsg t) img)).to
        ((put .relayStatus (blocksStatus (blocksNamed u img first crcs)).code relaySess).to s)) := by
  have hnot : ¬ ((!s.isHolder (relayMsg t).sess) = true) := by
    rw [show (relayMsg t).sess = relaySess from rfl, h]
    decide
  rw [relayBlocks, look_runs, hu]
  dsimp only
  rw [if_neg hnot, all_cons_to, all_cons_to, all_cons_to, all_nil_to]
  rfl

theorem takeBlocks_touches (m : Msg) (img : Nat) (bs : List (Nat × Bool)) : (each bs (takeBlock m img)).Touches (.reg .UP_BAD_BLOCKS :: blockParts) :=
  touches_each fun _ _ => touches_ite (fun _ => touches_count) fun _ => (blockTaken_touches ..).mono

theorem relayBlocks_touches (img first : Nat) (crcs : List Bool) : (relayBlocks (relayMsg t) img first crcs).Touches blocksParts where
  step s := by
    cases h : s.isHolder relaySess with
    | false =>
      rw [relayBlocks_open h]
      exact (updSay_relay_touches t 0xF1 .NOT_OPEN).mono.step s
    | true =>
      cases hu : s.upd with
      | none => simp [State.isHolder, hu] at h
      | some u =>
        have hput : Act.Touches [.qty .relayStatus] (put .relayStatus (blocksStatus (blocksNamed u img first crcs)).code relaySess) := touches_put
        rw [relayBlocks_holder h hu]
        exact (hput.mono.step s).trans (((takeBlocks_touches ..).mono.step _).trans ((blocksReply_touches ..).mono.step _))

/-- Good blocks of an offer that this module writes wait for the NVM, in their order (R462). -/
theorem takeBlocks_good {img : Nat} {m : Msg} {ks : List Nat} {first : Nat} {x : Upd} (ht : x.targets = 0) (hx : s.upd = some x) :
    ((each (ks.map fun k => (first + k, false)) (takeBlock m img)).to s).upd
      = some { x with writing := x.writing ++ ks.map fun k => (img, first + k, m.sess, m.seq) } := by
  induction ks generalizing s x with
  | nil => simpa using hx
  | cons k ks ih =>
    have hself : s.takesSelf x.targets = true := by simp [State.takesSelf, ht]
    have hone : (takeBlock m img (first + k, false)).to s = (one (.upd (some { x with writing := x.writing ++ [(img, first + k, m.sess, m.seq)] }))).to s := by
      rw [takeBlock, if_neg Bool.false_ne_true, blockTaken, look_runs, hx]
      dsimp only
      rw [if_pos hself]
    rw [List.map_cons, each_cons_to, hone, ih (x := { x with writing := x.writing ++ [(img, first + k, m.sess, m.seq)] }) ht rfl]
    simp

/-- A BLOCKS record whose blocks all fit hands them to the NVM, and is not yet answered (R467). -/
theorem relayBlocks_good {img first : Nat} {crcs : List Bool} {x : Upd} (h : s.isHolder relaySess = true) (hx : s.upd = some x) (ht : x.targets = 0) (hne : crcs ≠ [])
    (hgood : ∀ k c, crcs[k]? = some c → blockBad x img (first + k) c = false) :
    ((relayBlocks (relayMsg t) img first crcs).to s).upd = some { x with writing := x.writing ++ (List.range crcs.length).map fun k => (img, first + k, 64, 0) }
    ∧ ((relayBlocks (relayMsg t) img first crcs).to s).out = s.out := by
  have hput : Act.Touches [.qty .relayStatus] (put .relayStatus (blocksStatus (blocksNamed x img first crcs)).code relaySess) := touches_put
  have htake := takeBlocks_touches (relayMsg t) img (blocksNamed x img first crcs)
  have hout := (htake.out _).trans (hput.out s)
  have hupd := takeBlocks_good (m := relayMsg t) (img := img) (ks := List.range crcs.length) (first := first) ht (((hput.step s).upd).trans hx)
  rw [← blocksNamed_good hgood] at hupd
  rw [relayBlocks_holder h hx]
  generalize (each (blocksNamed x img first crcs) (takeBlock (relayMsg t) img)).to _ = v at *
  have hwaits : relayWrites { x with writing := x.writing ++ (List.range crcs.length).map fun k => (img, first + k, 64, 0) } = true := by
    have h0 : 0 ∈ List.range crcs.length := List.mem_range.mpr (List.length_pos_iff.mpr hne)
    exact List.any_eq_true.mpr ⟨(img, first + 0, 64, 0), List.mem_append_right _ (List.mem_map.mpr ⟨0, h0, rfl⟩), rfl⟩
  rw [blocksReply_waits hupd hwaits]
  exact ⟨hupd, hout⟩

end

-- COMMAND (R463, R464, R466) --------------------------------------------------------------------------------------------------------------------------

/-- What an image that is refused counts and raises touches. -/
theorem imageRefused_touches (st : Option Status) : (imageRefused st).Touches (.reg .SEC_IMAGE_REJECTED :: eventParts) := by
  unfold imageRefused
  split
  · exact touches_all ⟨touches_count, touches_raise⟩
  · exact touches_raise
  · exact touches_skip

-- The relay at the manager (R467) --------------------------------------------------------------------------------------------------------------------------

def sendParts : List Part := [.qty .upSends, .tmr .relay, .out]

theorem relayIndex_small {n : Nat} (hn : n < 64) : n < 2 ^ 40 := hn.trans (by decide)

theorem sendRelay_touches {n : Nat} (hn : n < 64) : (sendRelay n).Touches sendParts := by
  refine touches_look fun s => touches_all ⟨touches_addQ, touches_arm (by decide) (relayIndex_small hn), ?_⟩
  split
  · exact touches_emit
  · exact touches_emit
  · exact touches_emit

def stageParts : List Part := [.qty .relayCmd, .qty .relayNext] ++ sendParts

theorem relayStage_touches {n : Nat} (hn : n < 64) (cmd : Nat) : (relayStage n cmd).Touches stageParts :=
  touches_all ⟨touches_put, touches_put, touches_put, (sendRelay_touches hn).mono⟩

def doneParts : List Part := [.qty .relayReply] ++ freeAnswerParts ++ unlockParts

theorem relayDone_touches : relayDone.Touches doneParts := by
  refine touches_look fun s => touches_ite (fun _ => touches_skip) fun _ => touches_all ⟨touches_put, ?_⟩
  split
  · exact touches_all ⟨(updSay_touches ..).mono, touches_iff fun _ => updRelease_touches.mono⟩
  · exact touches_ite (fun _ => (freeRefusal_touches ..).mono) fun _ => (updReply_touches ..).mono

def failedParts : List Part := [.qty .relayStatus, .reg .UP_RELAY_STATE] ++ doneParts

theorem relayFailed_touches {n : Nat} (hn : n < 64) (status : Nat) (failed : Bool) : (relayFailed n status failed).Touches failedParts :=
  touches_all ⟨touches_disarm (by decide +kernel) (relayIndex_small hn), touches_put, touches_iff fun _ => touches_set, relayDone_touches.mono⟩

def answeredParts : List Part := stageParts ++ failedParts

theorem relayAnswered_touches {n : Nat} (hn : n < 64) (status sub : Nat) : (relayAnswered n status sub).Touches answeredParts := by
  refine touches_look fun s => touches_ite (fun _ => touches_skip) fun _ => touches_ite (fun _ => (relayFailed_touches hn ..).mono) fun _ => ?_
  split
  · exact (relayStage_touches hn _).mono
  · exact touches_ite (fun _ => (relayStage_touches hn _).mono) fun _ => touches_all ⟨touches_addQ, touches_put, (sendRelay_touches hn).mono⟩
  · exact touches_all ⟨touches_disarm (by decide +kernel) (relayIndex_small hn), touches_iff fun _ => touches_set, relayDone_touches.mono⟩

end Sys2Proof.Machine
end

section
/-! SUPPORT. The relay's records at a target and at the manager (R467): O53. -/
set_option Elab.async false
namespace Sys2Proof.Machine
open Host

-- Memory ------------------------------------------------------------------------------------------------------------------------------------------------

/-- The act leaves memory as it is. -/
structure Act.KeepsMem (a : Act) : Prop where
  step : ∀ s, (a.to s).mem = s.mem

theorem Act.Touches.keepsMem {ps : List Part} {a : Act} (h : a.Touches ps) (hp : .mem ∉ ps := by decide +kernel) : a.KeepsMem := ⟨fun s => h.mem s hp⟩
theorem keepsMem_one {e : Eff} (h : e.storesNot) : (one e).KeepsMem := ⟨fun _ => State.app_mem h⟩
theorem keepsMem_skip : skip.KeepsMem := ⟨fun _ => rfl⟩
theorem keepsMem_look {f : State → Act} (h : ∀ s, (f s).KeepsMem) : (look f).KeepsMem := ⟨fun s => (h s).step s⟩
theorem keepsMem_iff {c : Bool} {a : Act} (h : a.KeepsMem) : (iff c a).KeepsMem where
  step s := by
    rw [iff_to]
    split
    · exact h.step s
    · rfl
theorem keepsMem_ite {c : Prop} [Decidable c] {a b : Act} (ha : a.KeepsMem) (hb : b.KeepsMem) : (if c then a else b : Act).KeepsMem := by
  split
  · exact ha
  · exact hb
theorem keepsMem_all {as : List Act} (h : as.Forall Act.KeepsMem) : (all as).KeepsMem := by
  induction as with
  | nil => exact keepsMem_skip
  | cons a as ih =>
    rw [List.forall_cons] at h
    exact ⟨fun s => by rw [all_cons_to, (ih h.2).step, h.1.step]⟩
theorem keepsMem_each {α : Type} {xs : List α} {f : α → Act} (h : ∀ x, (f x).KeepsMem) : (each xs f).KeepsMem :=
  keepsMem_all (List.forall_iff_forall_mem.mpr fun a ha => by
    obtain ⟨x, -, rfl⟩ := List.mem_map.mp ha
    exact h x)

theorem keepsMem_put (x : Qty) (v : Int) (i j : Nat) : (put x v i j).KeepsMem := ⟨fun _ => State.setQ_mem ..⟩
theorem keepsMem_raise (e : Ev) (i p : Nat) : (raise e i p).KeepsMem := (touches_raise_eventParts e i p).keepsMem
theorem keepsMem_set (f : Fld) (v i j : Nat) : (set f v i j).KeepsMem := ⟨fun _ => State.setReg_mem ..⟩

-- Commands of the relay at a target --------------------------------------------------------------------------------------------------------------------------

theorem sendRelay_mem (n : Nat) : (sendRelay n).KeepsMem := by
  refine keepsMem_look fun s => keepsMem_all ⟨(touches_addQ (ps := [.qty .upSends])).keepsMem, ⟨fun _ => rfl⟩, ?_⟩
  split
  · exact keepsMem_one trivial
  · exact keepsMem_one trivial
  · exact keepsMem_one trivial

theorem relayOut_mem (m : Msg) (ns : List Nat) (cmd : Nat) : (relayOut m ns cmd).KeepsMem :=
  keepsMem_all ⟨keepsMem_put .., keepsMem_put .., keepsMem_put .., keepsMem_each fun n => keepsMem_all ⟨keepsMem_put .., keepsMem_iff (keepsMem_set ..),
    keepsMem_all ⟨keepsMem_put .., keepsMem_put .., keepsMem_put .., sendRelay_mem n⟩⟩⟩

theorem updSay_mem (m : Msg) (sub : Nat) (st : Status) : (updSay m sub st).KeepsMem := (updSay_touches m sub st).keepsMem

/-- The reply of a command that may go on to the targets. -/
theorem relayReply_mem {c : Prop} [Decidable c] (m : Msg) (ns : List Nat) (sub cmd : Nat) (st : Status) :
    (if c then updSay m sub st else relayOut m ns cmd : Act).KeepsMem := keepsMem_ite (updSay_mem ..) (relayOut_mem ..)

theorem verifyAll_mem (m : Msg) (targets : Nat) (fw : Option FwImage) (cfg : Option CfgImage) : (verifyAll m targets fw cfg).KeepsMem := by
  unfold verifyAll updVerify
  refine keepsMem_look fun s => ?_
  cases s.upd with
  | none => exact updSay_mem ..
  | some u =>
    refine keepsMem_ite (updSay_mem ..) ?_
    cases missingBlock u with
    | some k => exact (updReply_touches ..).keepsMem
    | none =>
      cases s.pairStatus u fw cfg with
      | some st => exact keepsMem_all ⟨(imageRefused_touches _).keepsMem, updSay_mem ..⟩
      | none => exact keepsMem_ite (updSay_mem ..) (keepsMem_all ⟨keepsMem_iff (keepsMem_look fun _ => keepsMem_one trivial), keepsMem_set .., keepsMem_raise ..,
          keepsMem_look fun _ => relayReply_mem ..⟩)

theorem activateHere_mem {reply : Act} (h : reply.KeepsMem) : (activateHere reply).KeepsMem :=
  keepsMem_look fun _ => keepsMem_all ⟨keepsMem_one trivial, keepsMem_put .., keepsMem_raise .., h, restartAsked_touches.keepsMem⟩

theorem activateAll_mem (m : Msg) (targets : Nat) : (activateAll m targets).KeepsMem :=
  keepsMem_look fun _ => keepsMem_ite (updSay_mem ..) (keepsMem_ite
    (keepsMem_ite (activateHere_mem (relayReply_mem ..)) (freeRefusal_touches ..).keepsMem)
    (keepsMem_all ⟨keepsMem_put .., (touches_disarm (ps := [.tmr .updLock])).keepsMem, relayReply_mem ..⟩))

theorem burn_mem (cfg : Bool) (v : Nat) : (burn cfg v).KeepsMem :=
  keepsMem_look fun _ => keepsMem_iff (keepsMem_all ⟨keepsMem_one trivial, keepsMem_look fun _ => keepsMem_raise ..⟩)

theorem confirmHere_mem : confirmHere.KeepsMem :=
  keepsMem_look fun _ => keepsMem_all ⟨keepsMem_one trivial, burn_mem .., burn_mem .., updRelease_touches.keepsMem, keepsMem_raise ..⟩

theorem confirmAll_mem (m : Msg) (targets : Nat) : (confirmAll m targets).KeepsMem := by
  refine keepsMem_look fun s => keepsMem_ite ?_ (relayReply_mem ..)
  cases s.confirmStatus with
  | some st => exact updSay_mem ..
  | none => exact keepsMem_all ⟨confirmHere_mem, relayReply_mem ..⟩

theorem healthJudge_mem : healthJudge.KeepsMem :=
  keepsMem_look fun _ => keepsMem_iff (keepsMem_all ⟨keepsMem_set .., keepsMem_iff (keepsMem_all ⟨keepsMem_set .., (touches_disarm (ps := [.tmr .updHealth])).keepsMem⟩)⟩)

theorem abortAll_mem (m : Msg) (targets : Nat) : (abortAll m targets).KeepsMem :=
  keepsMem_look fun _ => keepsMem_ite (updSay_mem ..) (keepsMem_all ⟨updRelease_touches.keepsMem, relayReply_mem ..⟩)

/-- What a COMMAND asks for (R467): VERIFY, ACTIVATE, CONFIRM or ABORT. -/
def relayOrder (t op : Nat) (fw : Option FwImage) (cfg : Option CfgImage) : Act := match op with
  | 3 => verifyAll (relayMsg t) 0 fw cfg
  | 4 => activateAll (relayMsg t) 0
  | 5 => all [healthJudge, confirmAll (relayMsg t) 0]
  | 6 => abortAll (relayMsg t) 0
  | _ => skip

theorem relayOrder_mem (t op : Nat) (fw : Option FwImage) (cfg : Option CfgImage) : (relayOrder t op fw cfg).KeepsMem := by
  unfold relayOrder
  split
  · exact verifyAll_mem ..
  · exact activateAll_mem ..
  · exact keepsMem_all ⟨healthJudge_mem, confirmAll_mem ..⟩
  · exact abortAll_mem ..
  · exact keepsMem_skip

-- A record of the relay arrives (R457, R467) ---------------------------------------------------------------------------------------------------------

section
variable {s : State} {t : Nat}

/-- The state in which a record of the relay is acted on: a holder that is heard keeps the lock for 60 s (R458). -/
def State.relayHeard (s : State) (t : Nat) : State := (iff ((s.since t).holdsOpen relaySess) (arm .updLock (60 * psS))).to (s.since t)

theorem relayHeard_sameBut (s : State) (t : Nat) : State.SameBut [.now, .tmr .updLock] s (s.relayHeard t) := by
  have hiff : Act.Touches [.tmr .updLock] (iff ((s.since t).holdsOpen relaySess) (arm .updLock (60 * psS))) := touches_iff fun _ => touches_arm
  exact ((since_sameBut s t).mono (by decide)).trans (hiff.mono.step _)

theorem relayHeard_wf (hwf : s.wf = true) : (s.relayHeard t).wf = true := Act.to_wf _ (s := s.since t) hwf

theorem arm_openStatus (s : State) (x : Tmr) (d i : Nat) (o : Offer) : ((arm x d i).to s).openStatus o = s.openStatus o := rfl

/-- A timer has no say in what refuses an offer. -/
theorem relayHeard_openStatus (s : State) (t : Nat) (o : Offer) : (s.relayHeard t).openStatus o = (s.since t).openStatus o := by
  rw [State.relayHeard, iff_to]
  split
  · exact arm_openStatus ..
  · rfl

theorem fromRelay_off {sender : Nat} {ok : Bool} {a : Act} (h : ¬ (s.rd .SU_STATE = 3 ∨ s.rd .SU_STATE = 5)) : (fromRelay sender ok a).to s = s := by
  rw [fromRelay, look_runs, if_pos (by simpa using h), skip_to]

theorem fromRelay_forged {sender : Nat} {a : Act} (h : s.rd .SU_STATE = 3 ∨ s.rd .SU_STATE = 5) : (fromRelay sender false a).to s = (tagFails sender 0).to s := by
  rw [fromRelay, look_runs, if_neg (by omega), if_pos (by decide)]

theorem fromRelay_stale {sender : Nat} {a : Act} (h : s.rd .SU_STATE = 3 ∨ s.rd .SU_STATE = 5) (hs : sender ≠ s.activeNode) :
    (fromRelay sender true a).to s = (count .RD_STALE_RECORDS).to s := by
  rw [fromRelay, look_runs, if_neg (by omega), if_neg (by decide), if_pos hs]

theorem fromRelay_heard {a : Act} (h : s.rd .SU_STATE = 3 ∨ s.rd .SU_STATE = 5) : (fromRelay s.activeNode true a).to (s.since t) = a.to (s.relayHeard t) := by
  have hon : ¬ ((s.since t).rd .SU_STATE ≠ 3 ∧ (s.since t).rd .SU_STATE ≠ 5) := by
    show ¬ (s.rd .SU_STATE ≠ 3 ∧ s.rd .SU_STATE ≠ 5)
    omega
  rw [fromRelay, look_runs, if_neg hon, if_neg (by decide), if_neg (not_not.mpr (since_sameBut s t).activeNode.symm), all_cons_to, all_cons_to, all_nil_to,
    State.relayHeard]

theorem fromRelay_mem (sender : Nat) (ok : Bool) {a : Act} (h : a.KeepsMem) : (fromRelay sender ok a).KeepsMem :=
  keepsMem_look fun _ => keepsMem_ite keepsMem_skip (keepsMem_ite (tagFails_touches ..).keepsMem (keepsMem_ite
    (touches_count (f := .RD_STALE_RECORDS) (ps := [.reg .RD_STALE_RECORDS])).keepsMem
    (keepsMem_all ⟨keepsMem_iff (touches_arm (ps := [.tmr .updLock])).keepsMem, h⟩)))

/-- What every record of the relay does that comes too early, forged, or from another node than the active manager (R98, R365, R467). -/
structure State.RelayTurned (s : State) (t sender : Nat) (ok : Bool) (u : State) : Prop where
  kept : u.mem = s.mem ∧ u.pending = s.pending
  off : ¬ (s.rd .SU_STATE = 3 ∨ s.rd .SU_STATE = 5) → u = s.since t
  forged : s.rd .SU_STATE = 3 ∨ s.rd .SU_STATE = 5 → ok = false → u.rd .FAB_TAG_FAILS = min (s.rd .FAB_TAG_FAILS + 1) 0xFFFFFFFF ∧ u.out = s.out ∧ u.upd = s.upd
  stale : s.rd .SU_STATE = 3 ∨ s.rd .SU_STATE = 5 → ok = true → sender ≠ s.activeNode →
    u.rd .RD_STALE_RECORDS = min (s.rd .RD_STALE_RECORDS + 1) 0xFFFFFFFF ∧ u.out = s.out ∧ u.upd = s.upd

theorem fromRelay_turned (hwf : s.wf = true) (t sender : Nat) (ok : Bool) {a : Act} (h : a.KeepsMem) :
    s.RelayTurned t sender ok ((fromRelay sender ok a).to (s.since t)) := by
  have hregs := State.wf_regs hwf
  refine ⟨⟨(fromRelay_mem sender ok h).step (s.since t), Act.to_pending _ (s.since t)⟩, fun hoff => fromRelay_off (s := s.since t) hoff,
    fun hon hok => ?_, fun hon hok hne => ?_⟩
  · subst hok
    have htouch := (tagFails_touches sender 0).step (s.since t)
    rw [fromRelay_forged (s := s.since t) hon]
    exact ⟨tagFails_counts (s := s.since t) _ _ hregs, htouch.out, htouch.upd⟩
  · subst hok
    have hcount : Act.Touches [.reg .RD_STALE_RECORDS] (count .RD_STALE_RECORDS) := touches_count
    have hsame := hcount.step (s.since t)
    rw [fromRelay_stale (s := s.since t) hon hne]
    exact ⟨count_rd (s := s.since t) hregs, hsame.out, hsame.upd⟩

/-- Who holds the lock is read from the lock, UP_STATE and whether ACTIVATE has been accepted. -/
theorem State.SameBut.isHolder {ps : List Part} {u : State} (h : State.SameBut ps s u) (n : Nat)
    (hp : .upd ∉ ps ∧ .reg .UP_STATE ∉ ps ∧ .qty .upVerified ∉ ps := by decide +kernel) : u.isHolder n = s.isHolder n := by
  obtain ⟨h1, h2, h3⟩ := hp
  unfold State.isHolder
  rw [h.upd h1, h.rd h2, h.q h3 (by decide) (by decide)]

-- COMMAND -------------------------------------------------------------------------------------------------------------------------------------------------

theorem relayNodes_worker (h : s.isManager = false) (targets : Nat) : s.relayNodes targets = [] := by simp [State.relayNodes, h]

/-- A COMMAND other than CONFIRM where the relay holds no lock (R461, R467). -/
theorem relayOrder_open {op : Nat} (fw : Option FwImage) (cfg : Option CfgImage) (h : s.isHolder relaySess = false) (hop : op = 3 ∨ op = 4 ∨ op = 6) :
    (relayOrder t op fw cfg).to s = (updSay (relayMsg t) 0xF2 .NOT_OPEN).to s := by
  have hnot : (!s.isHolder (relayMsg t).sess) = true := by
    rw [show (relayMsg t).sess = relaySess from rfl, h]
    decide
  rcases hop with rfl | rfl | rfl
  · rw [relayOrder, verifyAll, updVerify, look_runs]
    cases hu : s.upd with
    | none => rfl
    | some u => exact congrFun (congrArg Act.to (if_pos hnot)) s
  · rw [relayOrder, activateAll, look_runs]
    exact congrFun (congrArg Act.to (if_pos hnot)) s
  · rw [relayOrder, abortAll, look_runs]
    exact congrFun (congrArg Act.to (if_pos hnot)) s

/-- ABORT of the holder at a target (R458). -/
theorem relayOrder_abort (fw : Option FwImage) (cfg : Option CfgImage) (h : s.isHolder relaySess = true) (hm : s.isManager = false) :
    (relayOrder t 6 fw cfg).to s = (updSay (relayMsg t) 0xF2 .ACCEPTED).to (updRelease.to s) := by
  have hnot : ¬ ((!s.isHolder (relayMsg t).sess) = true) := by
    rw [show (relayMsg t).sess = relaySess from rfl, h]
    decide
  rw [relayOrder, abortAll, look_runs, relayNodes_worker hm]
  dsimp only
  rw [if_neg hnot, all_cons_to, all_cons_to, all_nil_to, if_pos (by decide)]

/-- ACTIVATE of a verified pair at a target (R464). -/
theorem relayOrder_activate (fw : Option FwImage) (cfg : Option CfgImage) {x : Upd} (h : s.isHolder relaySess = true) (hm : s.isManager = false)
    (hx : s.upd = some x) (ht : x.targets = 0) (hst : s.rd .UP_STATE = 2) :
    (relayOrder t 4 fw cfg).to s = (activateHere (updSay (relayMsg t) 0xF2 .ACCEPTED)).to s := by
  have hnot : ¬ ((!s.isHolder (relayMsg t).sess) = true) := by
    rw [show (relayMsg t).sess = relaySess from rfl, h]
    decide
  have hself (k : Nat) (hk : k = 0) : s.takesSelf k = true := by simp [State.takesSelf, hk]
  have hgo : (s.rd .UP_STATE == 2 && s.upd.any fun u => s.takesSelf u.targets) = true := by
    rw [hst, hx]
    simpa using hself _ ht
  rw [relayOrder, activateAll, look_runs, relayNodes_worker hm]
  dsimp only
  rw [if_neg hnot, if_pos (hself 0 rfl), if_pos hgo, if_pos (by decide)]

theorem State.idleBlock_update (s : State) : s.idleBlock 17 = false := by
  simp [State.idleBlock, idleIn]
  split <;> simp

/-- The accepted ACTIVATE: the pair is taken up, the event is latched, the answer leaves, and the restart is scheduled (R464). -/
theorem activateHere_facts (hwf : s.wf = true) (t : Nat) : let u := (activateHere (updSay (relayMsg t) 0xF2 .ACCEPTED)).to s
    u.out = s.out ++ [.relay s.activeNode 0xF3 [0, 0xF2, 0]] ∧ u.q .upVerified = 1 ∧ (u.timer .restart).isSome = true ∧ u.latched .UPDATE_ACTIVATED = true := by
  have hnvm : Act.Touches [.nvm] (one (.nvm (writeDirectory s.nvm s.idlePair (withPair s.directory s.idlePair slotUnconfirmed)))) := touches_one rfl
  have hput : Act.Touches [.qty .upVerified] (put .upVerified 1) := touches_put
  have hraise := touches_raise_eventParts .UPDATE_ACTIVATED 0 0
  have hsay := updSay_relay_touches t 0xF2 .ACCEPTED
  have hrestart := restartAsked_touches
  intro u
  rw [show u = (activateHere (updSay (relayMsg t) 0xF2 .ACCEPTED)).to s from rfl, activateHere, look_runs, all_cons_to, all_cons_to, all_cons_to, all_cons_to,
    all_cons_to, all_nil_to]
  clear u
  have hsame := hnvm.step s
  have hwf1 := Act.to_wf (one (.nvm (writeDirectory s.nvm s.idlePair (withPair s.directory s.idlePair slotUnconfirmed)))) hwf
  generalize (one (.nvm (writeDirectory s.nvm s.idlePair (withPair s.directory s.idlePair slotUnconfirmed)))).to s = v at *
  have hwf2 := Act.to_wf (put .upVerified 1) hwf1
  have hwf3 := Act.to_wf (raise .UPDATE_ACTIVATED) hwf2
  have hlatch := raise_latches .UPDATE_ACTIVATED 0 0 (State.wf_regs hwf2) (State.idleBlock_update _) (by decide)
  have hq : ((put .upVerified 1).to v).q .upVerified = 1 := put_q hwf1 ..
  refine ⟨?_, ?_, ?_, ?_⟩
  · rw [hrestart.out, updSay_relay_out, (hraise.step _).activeNode, (hput.step v).activeNode, hsame.activeNode, hraise.out, hput.out, hsame.out]
    rfl
  · rw [hrestart.q, hsay.q, hraise.q, hq]
  · exact Option.isSome_iff_exists.mpr ⟨_, arm_timer ..⟩
  · exact (hrestart.step _).latched (State.wf_regs (Act.to_wf _ hwf3)) _ ((hsay.step _).latched (State.wf_regs hwf3) _ hlatch)

-- The manager (R467) --------------------------------------------------------------------------------------------------------------------------------------

/-- What leaves to a target: in BLOCKS, a BLOCKS record (R467). -/
theorem sendRelay_to (s : State) (n : Nat) : ∃ sub ds, (sendRelay n).to s
    = (emit (.relay n sub ds)).to ((arm .relay (200 * psMs) n).to ((addQ .upSends 1 n).to s)) ∧ (s.upd.isSome = true → s.qn .relayCmd n = 2 → sub = 0xF1) := by
  rw [sendRelay, look_runs, all_cons_to, all_cons_to, all_cons_to, all_nil_to]
  cases hu : s.upd with
  | none => exact ⟨_, _, rfl, fun h => by cases h⟩
  | some x =>
    match hc : s.qn .relayCmd n with
    | 0 => exact ⟨_, _, rfl, fun _ h => by cases h⟩
    | 1 => exact ⟨_, _, rfl, fun _ h => by cases h⟩
    | 2 => exact ⟨_, _, rfl, fun _ _ => rfl⟩
    | k + 3 => exact ⟨_, _, rfl, fun _ h => by omega⟩

/-- The record that is due to a target leaves, counted, and its answer is awaited for 200 ms (R467). -/
theorem sendRelay_sends {n : Nat} (hn : n < 64) (hwf : s.wf = true) : ∃ sub ds, ((sendRelay n).to s).out = s.out ++ [.relay n sub ds]
    ∧ (s.upd.isSome = true → s.qn .relayCmd n = 2 → sub = 0xF1)
    ∧ ((sendRelay n).to s).q .upSends n = s.q .upSends n + 1 ∧ ((sendRelay n).to s).timer .relay n = some (s.now + 200 * psMs) := by
  obtain ⟨sub, ds, hto, hsub⟩ := sendRelay_to s n
  have hi := relayIndex_small hn
  have hadd : Act.Touches [.qty .upSends] (addQ .upSends 1 n) := touches_addQ
  have harm : Act.Touches [.tmr .relay] (arm .relay (200 * psMs) n) := touches_arm (List.mem_singleton.mpr rfl) hi
  have hemit : Act.Touches [.out] (emit (.relay n sub ds)) := touches_emit
  rw [hto]
  refine ⟨sub, ds, ?_, hsub, ?_, ?_⟩
  · rw [emit_out, harm.out, hadd.out]
  · rw [hemit.q _ (by decide) hi, harm.q _ (by decide) hi, addQ_to, State.q_setQ_same _ (State.wf_qty hwf) hi (by decide)]
  · rw [hemit.timer _ (by decide) hi, arm_timer, hadd.now]

/-- The stage of BLOCKS begins with its first record (R467). -/
theorem relayStage_blocks {n : Nat} (hn : n < 64) (hwf : s.wf = true) {x : Upd} (hx : s.upd = some x) :
    ((relayStage n 2).to s).qn .relayCmd n = 2 ∧ ((relayStage n 2).to s).q .upSends n = 1
    ∧ ((relayStage n 2).to s).timer .relay n = some (s.now + 200 * psMs) ∧ ∃ ds, ((relayStage n 2).to s).out = s.out ++ [.relay n 0xF1 ds] := by
  have hi := relayIndex_small hn
  have hcmd : Act.Touches [.qty .relayCmd] (put .relayCmd 2 n) := touches_put
  have hnext : Act.Touches [.qty .relayNext] (put .relayNext 0 n) := touches_put
  have hsends : Act.Touches [.qty .upSends] (put .upSends 0 n) := touches_put
  have hsend := sendRelay_touches hn
  rw [relayStage, all_cons_to, all_cons_to, all_cons_to, all_cons_to, all_nil_to]
  have hwf1 := Act.to_wf (put .relayNext 0 n) (Act.to_wf (put .relayCmd 2 n) hwf)
  have hwf2 := Act.to_wf (put .upSends 0 n) hwf1
  have hqcmd : ((put .upSends 0 n).to ((put .relayNext 0 n).to ((put .relayCmd 2 n).to s))).q .relayCmd n = 2 := by
    rw [hsends.q _ (by decide) hi, hnext.q _ (by decide) hi, put_q hwf _ _ hi]
  have hqsends : ((put .upSends 0 n).to ((put .relayNext 0 n).to ((put .relayCmd 2 n).to s))).q .upSends n = 0 := put_q hwf1 _ _ hi
  have hsame : State.SameBut [.qty .relayCmd, .qty .relayNext, .qty .upSends] s ((put .upSends 0 n).to ((put .relayNext 0 n).to ((put .relayCmd 2 n).to s))) :=
    (hcmd.mono.step s).trans ((hnext.mono.step _).trans (hsends.mono.step _))
  generalize (put .upSends 0 n).to ((put .relayNext 0 n).to ((put .relayCmd 2 n).to s)) = v at *
  obtain ⟨sub, ds, hout, hsub, hq, htimer⟩ := sendRelay_sends (s := v) hn hwf2
  have hcmd2 : v.qn .relayCmd n = 2 := congrArg Int.toNat hqcmd
  have hsome : v.upd.isSome = true := by rw [hsame.upd, hx]; rfl
  rw [hsub hsome hcmd2, hsame.out] at hout
  refine ⟨congrArg Int.toNat ((hsend.q v (by decide) hi).trans hqcmd), hq.trans (by rw [hqsends]; rfl), htimer.trans (by rw [hsame.now]), ds, hout⟩

theorem relayDone_timer {n : Nat} (hn : n < 64) (hwf : s.wf = true) (h : s.timer .relay n = none) : (relayDone.to s).timer .relay n = none := by
  have hi := relayIndex_small hn
  have hput : Act.Touches [.qty .relayReply] (put .relayReply 0 0) := touches_put
  have hwf1 := Act.to_wf (put .relayReply 0 0) hwf
  have h1 := (hput.timer s (by decide) hi).trans h
  rw [relayDone, look_runs]
  split
  · exact h
  · rw [all_cons_to, all_cons_to, all_nil_to]
    generalize (put .relayReply 0 0).to s = v at hwf1 h1
    have hanswer (m : Msg) : ((updSay m 0xF2 .ACCEPTED).to v).timer .relay n = none :=
      ((updSay_touches m 0xF2 .ACCEPTED).timer v (by decide) hi).trans h1
    have hrelease (c : Bool) (m : Msg) : ((iff c updRelease).to ((updSay m 0xF2 .ACCEPTED).to v)).timer .relay n = none := by
      rw [iff_to]
      split
      · exact updRelease_relay (Act.to_wf _ hwf1) hn (hanswer m)
      · exact hanswer m
    have hsay (m : Msg) (code : Nat) (data : List Nat) (k : Nat) : ((updReply m 0xF2 code data k).to v).timer .relay n = none :=
      ((updReply_touches m 0xF2 code data k).timer v (by decide) hi).trans h1
    have hfree (m : Msg) (k : Nat) : ((freeRefusal fun c => updReply m 0xF2 c [] k).to v).timer .relay n = none :=
      ((freeRefusal_touches m 0xF2 [] k).timer v (by decide) hi).trans h1
    split
    · rw [all_cons_to, all_cons_to, all_nil_to]
      exact hrelease _ _
    · split
      · exact hfree _ _
      · exact hsay _ _ _ _

/-- A target's part that fails up to VERIFY ends with UP_RELAY_STATE FAILED, and no timer runs for it (R467). -/
theorem relayFailed_ends {n : Nat} (hn : n < 64) (hwf : s.wf = true) (status : Nat) :
    ((relayFailed n status true).to s).rd .UP_RELAY_STATE n = 3 ∧ ((relayFailed n status true).to s).timer .relay n = none := by
  have hi := relayIndex_small hn
  have hput : Act.Touches [.qty .relayStatus] (put .relayStatus status n) := touches_put
  have hset : Act.Touches [.reg .UP_RELAY_STATE] (set .UP_RELAY_STATE 3 n) := touches_set
  rw [relayFailed, all_cons_to, all_cons_to, all_cons_to, all_cons_to, all_nil_to, iff_to, if_pos rfl]
  have hwf1 := Act.to_wf (put .relayStatus status n) (Act.to_wf (disarm .relay n) hwf)
  have htimer : ((put .relayStatus status n).to ((disarm .relay n).to s)).timer .relay n = none := (hput.timer _ (by decide) hi).trans (disarm_timer hwf _ _)
  generalize (put .relayStatus status n).to ((disarm .relay n).to s) = v at *
  constructor
  · rw [relayDone_touches.rd _ (by decide +kernel) n]
    exact set_rd (State.wf_regs hwf1) ((Fld.has_iff ..).mpr ⟨hn, by decide⟩)
  · exact relayDone_timer hn (Act.to_wf _ hwf1) ((hset.timer v (by decide) hi).trans htimer)

end

end Sys2Proof.Machine
end

section
/-! SUPPORT. The relay's commands (R467): O53. -/
set_option Elab.async false
namespace Sys2Proof.Machine
open Host

section
variable {s : State} {t : Nat}

theorem run_fromRelay (sender : Nat) (ok : Bool) (a : Act) : run (all [at_ t, fromRelay sender ok a]) s = .next ((fromRelay sender ok a).to (s.since t)) := by
  rw [run_eq, all_cons_to, all_cons_to, all_nil_to, at_to_since]

theorem exec_relayCommand (sender op : Nat) (fw : Option FwImage) (cfg : Option CfgImage) (ok : Bool) :
    exec (.relayCommand t sender op fw cfg ok) s = .next ((fromRelay sender ok (relayOrder t op fw cfg)).to (s.since t)) := by
  have hexec : exec (.relayCommand t sender op fw cfg ok) s = run (all [at_ t, fromRelay sender ok (relayOrder t op fw cfg)]) s := rfl
  exact hexec.trans (run_fromRelay ..)

/-- A target's ANSWER at the module (R467). -/
theorem exec_relayAnswer (sender status sub missing : Nat) : exec (.relayAnswer t sender status sub missing true) s
    = .next ((if !s.isManager then skip else relayAnswered sender status sub : Act).to (s.since t)) := by
  show run _ s = _
  rw [run_eq, all_cons_to, all_cons_to, all_nil_to, at_to_since, look_runs]
  rfl

theorem exec_relayResendTimeout (node : Nat) : exec (.relayResendTimeout t node) s
    = .next ((iff ((s.since t).due .relay node) (if 10 ≤ s.q .upSends node then relayFailed node 0x10000 true else sendRelay node)).to (s.since t)) := by
  show run _ s = _
  rw [run_eq, all_cons_to, all_cons_to, all_nil_to, at_to_since, look_runs]
  rfl

/-- A target that is awaited by no timer says nothing (R467). -/
theorem relayAnswered_unawaited {n status sub : Nat} (h : s.timer .relay n = none) : (relayAnswered n status sub).to s = s := by
  rw [relayAnswered, look_runs]
  dsimp only
  rw [if_pos (.inl (by rw [h]; rfl)), skip_to]

/-- The ANSWER to the OFFER fails the target's part, or leads to its BLOCKS (R467). -/
theorem relayAnswered_offer {n status : Nat} (h : (s.timer .relay n).isSome = true) (hc : s.qn .relayCmd n = 1) :
    (1 < status → (relayAnswered n status 0xF0).to s = (relayFailed n status true).to s)
    ∧ (∀ x, s.upd = some x → status ≤ 1 → (relayAnswered n status 0xF0).to s = (relayStage n 2).to s) := by
  have hno : ¬ ((s.timer .relay n).isNone = true ∨ 0xF0 ≠ if (1 : Nat) = 1 then 0xF0 else if (1 : Nat) = 2 then 0xF1 else 0xF2) := by
    rintro (hn | hne)
    · rw [Option.isNone_iff_eq_none] at hn
      simp [hn] at h
    · exact hne rfl
  constructor
  · intro hs
    have hfails : status ≠ Status.ACCEPTED.code ∧ status ≠ Status.CLAMPED.code := ⟨by simp only [Status.code]; omega, by simp only [Status.code]; omega⟩
    rw [relayAnswered, look_runs, hc]
    dsimp only
    rw [if_neg hno, if_pos hfails]
    rfl
  · intro x hx hs
    have hgood : ¬ (status ≠ Status.ACCEPTED.code ∧ status ≠ Status.CLAMPED.code) := by simp only [Status.code]; omega
    rw [relayAnswered, look_runs, hc, hx]
    dsimp only
    rw [if_neg hno, if_neg hgood]
    rfl

end

/-- Settles O53: what comes too early, forged or from elsewhere is `fromRelay_turned`; the target's side is `updOpen_taken`, `relayBlocks_good` and the
`relayOrder` lemmas, the manager's `relayAnswered_offer`, `sendRelay_sends` and `relayFailed_ends`. -/
theorem theRelayReachesTheTargets : Obligations.TheRelayReachesTheTargets := by
  intro s t hwf hfits s' on kept told turned
  have hheard := relayHeard_sameBut s t
  have hwf' := relayHeard_wf (t := t) hwf
  have hactive := hheard.activeNode
  have hout := hheard.out
  have hsay (sub : Nat) (st : Status) : told ((updSay (relayMsg t) sub st).to (s.relayHeard t)) sub st.code := by
    show _ = _
    rw [updSay_relay_out, hout, hactive]
  have hmgr : (s.relayHeard t).isManager = s.isManager := State.isManager_congr (hheard.regs rfl)
  have hholder := hheard.isHolder 64
  refine ⟨fun sender o ok => ?_, fun sender img first crcs ok => ?_, fun sender op fw cfg ok => ?_, fun sender status sub missing hsender => ?_, fun node hnode => ?_⟩
  · have h := fromRelay_turned hwf t sender ok (updOpen_touches t { o with targets := 0 }).keepsMem
    refine ⟨_, run_fromRelay (s := s) sender ok (updOpen (relayMsg t) { o with targets := 0 }), h.kept, ⟨h.off, h.forged, h.stale⟩, fun hon hok hs => ?_⟩
    subst hok hs
    rw [fromRelay_heard hon, ← relayHeard_openStatus]
    cases hst : (s.relayHeard t).openStatus { o with targets := 0 } with
    | some st =>
      show _ = _
      rw [updOpen_refused hst, hout, hactive]
    | none =>
      obtain ⟨h1, h2, h3, h4⟩ := updOpen_taken (t := t) (State.wf_regs hwf') hst
      rw [hout, hactive] at h1
      rw [hactive] at h4
      exact ⟨h1, h2, h3, h4⟩
  · have h := fromRelay_turned hwf t sender ok (relayBlocks_touches (t := t) img first crcs).keepsMem
    refine ⟨_, run_fromRelay (s := s) sender ok (relayBlocks (relayMsg t) img first crcs), h.kept, ⟨h.off, h.forged, h.stale⟩, fun hon hok hs hno => ?_,
      fun x hon hok hs hyes hx ht hne hgood => ?_⟩
    · subst hok hs
      rw [fromRelay_heard hon, relayBlocks_open (hholder.trans hno)]
      exact ⟨hsay 0xF1 .NOT_OPEN, ((updSay_relay_touches t 0xF1 .NOT_OPEN).step _).upd.trans hheard.upd⟩
    · subst hok hs
      rw [fromRelay_heard hon]
      obtain ⟨h1, h2⟩ := relayBlocks_good (t := t) (hholder.trans hyes) (hheard.upd.trans hx) ht hne hgood
      exact ⟨h1, h2.trans hout⟩
  · have h := fromRelay_turned hwf t sender ok (relayOrder_mem t op fw cfg)
    refine ⟨_, exec_relayCommand sender op fw cfg ok, h.kept, ⟨h.off, h.forged, h.stale⟩, fun hon hok hs hno hop => ?_, fun hon hok hs hyes hm hop => ?_,
      fun x hon hok hs hyes hm hx ht hst hop => ?_⟩
    · subst hok hs
      rw [fromRelay_heard hon, relayOrder_open fw cfg (hholder.trans hno) hop]
      exact ⟨hsay 0xF2 .NOT_OPEN, ((updSay_relay_touches t 0xF2 .NOT_OPEN).step _).upd.trans hheard.upd⟩
    · subst hok hs hop
      have hrel := updRelease_touches
      have hanswer := updSay_relay_touches t 0xF2 .ACCEPTED
      obtain ⟨hupd, hstate⟩ := updRelease_idle (State.wf_regs hwf')
      rw [fromRelay_heard hon, relayOrder_abort fw cfg (hholder.trans hyes) (hmgr.trans hm)]
      refine ⟨?_, (hanswer.step _).upd.trans hupd, (hanswer.rd _).trans hstate⟩
      show _ = _
      rw [updSay_relay_out, (hrel.step _).activeNode, hrel.out, hout, hactive]
      rfl
    · subst hok hs hop
      have hstate : (s.relayHeard t).rd .UP_STATE = 2 := (hheard.rd (by decide) 0 0).trans hst
      rw [fromRelay_heard hon, relayOrder_activate fw cfg (hholder.trans hyes) (hmgr.trans hm) (hheard.upd.trans hx) ht hstate]
      obtain ⟨h1, h2, h3, h4⟩ := activateHere_facts hwf' t
      rw [hout, hactive] at h1
      exact ⟨h1, h2, h3, h4⟩
  · have htouch : (if !s.isManager then skip else relayAnswered sender status sub : Act).Touches answeredParts :=
      touches_ite (fun _ => touches_skip) fun _ => relayAnswered_touches hsender ..
    refine ⟨_, exec_relayAnswer sender status sub missing, ⟨htouch.mem s', Act.to_pending _ s'⟩, fun h => ?_, fun hm haw hc hsub hbad => ?_,
      fun x hx hm haw hc hsub hgood => ?_⟩
    · cases hm : s.isManager with
      | false => rfl
      | true => exact relayAnswered_unawaited (s := s') (h.resolve_left (by simp [hm]))
    · subst hsub
      rw [hm]
      have hto := (relayAnswered_offer (s := s') haw hc).1 hbad
      have hend := relayFailed_ends (s := s') hsender hwf status
      rw [← hto] at hend
      exact hend
    · subst hsub
      rw [hm]
      have hto := (relayAnswered_offer (s := s') haw hc).2 x hx hgood
      have hstage := relayStage_blocks (s := s') hsender hwf hx
      rw [← hto] at hstage
      exact hstage
  · have htouch : (iff (s'.due .relay node) (if 10 ≤ s.q .upSends node then relayFailed node 0x10000 true else sendRelay node)).Touches answeredParts :=
      touches_iff fun _ => touches_ite (fun _ => (relayFailed_touches hnode ..).mono) fun _ => (sendRelay_touches hnode).mono
    refine ⟨_, exec_relayResendTimeout node, ⟨htouch.mem s', Act.to_pending _ s'⟩, fun hdue => ?_, fun x hx hdue hlt => ?_, fun hdue hge => ?_⟩
    · rw [iff_to, if_neg (by rw [hdue]; decide)]
    · rw [iff_to, if_pos hdue, if_neg (by omega)]
      obtain ⟨sub, ds, h1, -, h2, h3⟩ := sendRelay_sends (s := s') hnode hwf
      exact ⟨h2, h3, sub, ds, h1⟩
    · rw [iff_to, if_pos hdue, if_pos hge]
      exact (relayFailed_ends (s := s') hnode hwf 0x10000).symm

end Sys2Proof.Machine
end

section
/-! SUPPORT. State images and joining at a worker and at the manager (R33 to R35, R427, R449 to R451). -/
set_option Elab.async false
namespace Sys2Proof.Machine
open Host

-- What the acts touch -----------------------------------------------------------------------------------------------------------------------------------

/-- The fields and notes of an output that follow its causes (R145, R151). -/
def followParts : List Part := [.qty .voIfChange, .qty .voChFrame, .reg .VO_CHARCOAL, .reg .VO_CHARCOAL_WHY, .media] ++ eventParts

theorem segMark_touches (n : Nat) : (segMark n).Touches followParts := touches_look fun _ => touches_ite (fun _ => touches_skip) fun _ => touches_one rfl

theorem outputFollow_touches (n : Nat) : (outputFollow n).Touches followParts := by
  unfold outputFollow outputFollowAt
  exact touches_look fun _ => touches_ite (fun _ => touches_skip) fun _ => touches_all ⟨touches_put, touches_set, touches_set,
    touches_iff fun _ => touches_put, touches_iff fun _ => touches_raise, touches_iff fun _ => touches_raise, segMark_touches n⟩

theorem outputsFollow_touches : outputsFollow.Touches followParts := touches_look fun _ => touches_each fun n _ => outputFollow_touches n

theorem sendImage_touches (n : Nat) : (sendImage n).Touches [.out] := touches_look fun _ => touches_all ⟨touches_iff fun _ => touches_emit, touches_emit⟩

/-- An image leaves whenever one is sent. -/
theorem sendImage_out (n : Nat) (s : State) : ∃ sent, ((sendImage n).to s).out = s.out ++ sent ∧ sent ≠ [] := by
  rw [sendImage, look_runs, all_cons_to, all_cons_to, all_nil_to, emit_out, iff_to]
  split
  · exact ⟨_, List.append_assoc .., by simp⟩
  · exact ⟨_, rfl, by simp⟩

-- A part of an image (R34) --------------------------------------------------------------------------------------------------------------------------------

section
variable {s : State} {t : Nat}

/-- The image as it stands with one part more (R34). -/
def State.imageWith (s : State) (k : Nat) (stamp : Stamp) (objs : List ImgObj) (last : Bool) : ImgBuf :=
  match s.img with
  | some im => if im.k = k then { im with objs := im.objs ++ objs, complete := last } else ⟨k, stamp, objs, last⟩
  | none => ⟨k, stamp, objs, last⟩

/-- A buffered record lies outside the window of the image's number (R34). -/
def outOfWindow (k : Nat) (rs : List Rec) : Bool := rs.any fun r => later r.order k && decide (256 ≤ orderDiff r.order (succOrder k))

/-- A part of an image opens RESYNC outside JOINING (R34). -/
def openResync (st : Nat) : Act := iff (st != osJoining && st != osResync) (all [set .ORD_STATE osResync, disarm .gap, disarm .replay])

/-- The part is held, unless what is buffered lies outside its window. -/
def holdPart (k : Nat) (stamp : Stamp) (objs : List ImgObj) (last : Bool) : Act := look fun s =>
  all [one (.img (some (s.imageWith k stamp objs last))), iff (s.rd .ORD_STATE == osResync && outOfWindow k s.buf) (all [one (.buf []), askResync])]

theorem imagePart_to {k : Nat} {stamp : Stamp} {objs : List ImgObj} {last : Bool} (hsu : s.rd .SU_STATE = 3) (hst : s.rd .ORD_STATE ≠ 5) :
    (imagePart s.activeNode k stamp objs last).to s = (holdPart k stamp objs last).to ((openResync (s.rd .ORD_STATE)).to s) := by
  have hgo : ¬ (s.rd .ORD_STATE = osMismatch ∨ s.rd .SU_STATE ≠ 3) := by simp [hst, hsu]
  rw [imagePart, look_runs]
  dsimp only
  rw [if_neg hgo, if_neg (not_not.mpr rfl), all_cons_to, all_cons_to, all_nil_to]
  rfl

theorem openResync_touches (st : Nat) : (openResync st).Touches [.reg .ORD_STATE, .tmr .gap, .tmr .replay] :=
  touches_iff fun _ => touches_all ⟨touches_set, touches_disarm, touches_disarm⟩

theorem openResync_state (hs : SMap.sorted s.regs = true) : ((openResync (s.rd .ORD_STATE)).to s).rd .ORD_STATE = if s.rd .ORD_STATE = 0 then 0 else 4 := by
  have hgap : Act.Touches [.tmr .gap] (disarm .gap) := touches_disarm
  have hreplay : Act.Touches [.tmr .replay] (disarm .replay) := touches_disarm
  rw [openResync, iff_to]
  by_cases h0 : s.rd .ORD_STATE = 0
  · rw [if_neg (by rw [h0]; decide), if_pos h0, h0]
  · by_cases h4 : s.rd .ORD_STATE = 4
    · rw [if_neg (by rw [h4]; decide), if_neg h0, h4]
    · rw [if_pos (by simp [h0, h4]), if_neg h0, all_cons_to, all_cons_to, all_cons_to, all_nil_to, hreplay.rd, hgap.rd]
      exact set_rd hs (by decide)

def partParts : List Part := [.img, .buf, .out, .reg .ORD_STATE]

theorem holdPart_touches (k : Nat) (stamp : Stamp) (objs : List ImgObj) (last : Bool) : (holdPart k stamp objs last).Touches partParts :=
  touches_look fun _ => touches_all ⟨touches_one rfl, touches_iff fun _ => touches_all ⟨touches_one rfl, askResync_touches.mono⟩⟩

/-- A part of an image is held, or resynchronisation is asked for again where what is buffered lies outside its window (R34). -/
theorem holdPart_facts (hs : SMap.sorted s.regs = true) (k : Nat) (stamp : Stamp) (objs : List ImgObj) (last : Bool) : let u := (holdPart k stamp objs last).to s
    if s.rd .ORD_STATE = 4 ∧ outOfWindow k s.buf = true then u.rd .ORD_STATE = 4 ∧ u.img = none ∧ u.buf = [] ∧ u.out = s.out ++ [.resyncReq s.activeNode]
    else u.rd .ORD_STATE = s.rd .ORD_STATE ∧ u.img = some (s.imageWith k stamp objs last) ∧ u.buf = s.buf ∧ u.out = s.out := by
  have himg : Act.Touches [.img] (one (.img (some (s.imageWith k stamp objs last)))) := touches_one rfl
  have hbuf : Act.Touches [.buf] (one (.buf [])) := touches_one rfl
  have hresync := askResync_touches
  have hempty (v : State) : ((one (.buf [])).to v).buf = [] := rfl
  intro u
  rw [show u = (holdPart k stamp objs last).to s from rfl, holdPart, look_runs, all_cons_to, all_cons_to, all_nil_to, iff_to]
  clear u
  have hheld : ((one (.img (some (s.imageWith k stamp objs last)))).to s).img = some (s.imageWith k stamp objs last) := rfl
  have hsame := himg.step s
  generalize (one (.img (some (s.imageWith k stamp objs last)))).to s = v at *
  split
  case isTrue h =>
    have hcond : (s.rd .ORD_STATE == osResync && outOfWindow k s.buf) = true := by simpa using h
    obtain ⟨h1, h2, h3⟩ := askResync_to (s := (one (.buf [])).to v) (Act.to_regs_sorted _ (hsame.sorted hs))
    rw [if_pos hcond, all_cons_to, all_cons_to, all_nil_to]
    exact ⟨h1, h2, (hresync.buf _).trans (hempty v), by rw [h3, hbuf.out, hsame.out, (hbuf.step v).activeNode, hsame.activeNode]⟩
  case isFalse h =>
    have hcond : ¬ (s.rd .ORD_STATE == osResync && outOfWindow k s.buf) = true := by simpa using h
    rw [if_neg hcond]
    exact ⟨hsame.rd (by decide) 0 0, hheld, hsame.buf, hsame.out⟩

/-- IMAGE of the active manager (R34). -/
theorem exec_image {k : Nat} {stamp : Stamp} {objs : List ImgObj} {last : Bool} (hsu : s.rd .SU_STATE = 3) (hst : s.rd .ORD_STATE ≠ 5) :
    exec (.image t s.activeNode k stamp objs last) s = .next ((holdPart k stamp objs last).to ((openResync (s.rd .ORD_STATE)).to (s.since t))) := by
  have hto := imagePart_to (s := s.since t) (k := k) (stamp := stamp) (objs := objs) (last := last) hsu hst
  rw [(since_sameBut s t).activeNode] at hto
  show run _ s = _
  rw [run_eq, all_cons_to, all_cons_to, all_nil_to, at_to_since]
  exact congrArg _ hto

theorem imageWith_none (h : s.img = none) (k : Nat) (stamp : Stamp) (objs : List ImgObj) (last : Bool) : s.imageWith k stamp objs last = ⟨k, stamp, objs, last⟩ := by
  rw [State.imageWith, h]

theorem imageWith_same {im : ImgBuf} (h : s.img = some im) (stamp : Stamp) (objs : List ImgObj) (last : Bool) :
    s.imageWith im.k stamp objs last = { im with objs := im.objs ++ objs, complete := last } := by
  rw [State.imageWith, h]
  exact if_pos rfl

/-- A part of a state image from the active manager (R34). -/
theorem image_part (hwf : s.wf = true) (t : Nat) (hsu : s.rd .SU_STATE = 3) (k : Nat) (stamp : Stamp) (objs : List ImgObj) (last : Bool) (hst : s.rd .ORD_STATE ≠ 5) :
    ∃ u, exec (.image t s.activeNode k stamp objs last) s = .next u ∧ u.rd .ORD_STATE = (if s.rd .ORD_STATE = 0 then 0 else 4)
      ∧ (if s.rd .ORD_STATE ≠ 0 ∧ outOfWindow k s.buf = true then u.img = none ∧ u.buf = [] ∧ u.out = s.out ++ [.resyncReq s.activeNode]
         else u.img = some (s.imageWith k stamp objs last) ∧ u.buf = s.buf ∧ u.out = s.out)
      ∧ s.only [.ORD_STATE] u ∧ u.mem = s.mem := by
  have hopen := openResync_touches (s.rd .ORD_STATE)
  have hsame : State.SameBut [.now, .reg .ORD_STATE, .tmr .gap, .tmr .replay] s ((openResync (s.rd .ORD_STATE)).to (s.since t)) :=
    ((since_sameBut s t).mono (by decide)).trans (hopen.mono.step _)
  have hstate : ((openResync (s.rd .ORD_STATE)).to (s.since t)).rd .ORD_STATE = if s.rd .ORD_STATE = 0 then 0 else 4 :=
    openResync_state (s := s.since t) (State.wf_regs hwf)
  have hs : SMap.sorted ((openResync (s.rd .ORD_STATE)).to (s.since t)).regs = true := hsame.sorted (State.wf_regs hwf)
  have hexec := exec_image (s := s) (t := t) (k := k) (stamp := stamp) (objs := objs) (last := last) hsu hst
  have hwith : ((openResync (s.rd .ORD_STATE)).to (s.since t)).imageWith k stamp objs last = s.imageWith k stamp objs last := by
    rw [State.imageWith, hsame.img]
    rfl
  refine ⟨_, hexec, ?_⟩
  generalize (openResync (s.rd .ORD_STATE)).to (s.since t) = v at *
  have hhold := (holdPart_touches k stamp objs last).step v
  have hfacts := holdPart_facts hs k stamp objs last
  have hall : State.SameBut ([.now, .tmr .gap, .tmr .replay] ++ partParts) s ((holdPart k stamp objs last).to v) :=
    (hsame.mono (by decide)).trans (hhold.mono (by decide))
  rw [hsame.buf, hsame.out, hsame.activeNode, hwith, hstate] at hfacts
  by_cases h : s.rd .ORD_STATE ≠ 0 ∧ outOfWindow k s.buf = true
  · rw [if_neg h.1, if_pos ⟨rfl, h.2⟩] at hfacts
    obtain ⟨h1, h2, h3, h4⟩ := hfacts
    rw [if_neg h.1, if_pos h]
    exact ⟨h1, ⟨h2, h3, h4⟩, hall.only (by decide), hall.mem⟩
  · have hno : ¬ ((if s.rd .ORD_STATE = 0 then 0 else 4) = 4 ∧ outOfWindow k s.buf = true) := by
      rintro ⟨h4, hw⟩
      refine h ⟨fun h0 => ?_, hw⟩
      rw [if_pos h0] at h4
      exact absurd h4 (by decide)
    rw [if_neg hno] at hfacts
    obtain ⟨h1, h2, h3, h4⟩ := hfacts
    rw [if_neg h]
    exact ⟨h1, ⟨h2, h3, h4⟩, hall.only (by decide), hall.mem⟩

end

-- JOIN_SEND (R449) ------------------------------------------------------------------------------------------------------------------------------------------

section
variable {s : State} {t : Nat}

/-- Acts that only send one message each send them in order. -/
theorem each_emit_out {α : Type} (f : α → Sent) : ∀ (xs : List α) (s : State), ((each xs fun x => emit (f x)).to s).out = s.out ++ xs.map f
  | [], s => (List.append_nil _).symm
  | x :: xs, s => by rw [each_cons_to, each_emit_out f xs, emit_out, List.map_cons, List.append_assoc, List.singleton_append]

/-- A joining module sends JOIN, to its partner on the Lichen link too where it is in LISTEN (R427, R449). -/
theorem joinSend_sends (hsu : s.rd .SU_STATE = 3) (ha : s.standAlone = false) (hdue : s.due .joinSend = true) : (joinSend.to s).out = s.out
      ++ (if s.rd .RD_ROLE ≠ 0 ∧ s.rd .RD_STATE_PAIR = 1 then [.join true (s.rd .RD_PARTNER) (s.rd .SU_SET_ID) (s.rd .SYS_TOPO_DIGEST)] else [])
      ++ s.joinTargets.map (fun n => .join false n (s.rd .SU_SET_ID) (s.rd .SYS_TOPO_DIGEST))
    ∧ (joinSend.to s).timer .joinSend = some (s.now + 10 * psMs) ∧ State.SameBut [.out, .tmr .joinSend] s (joinSend.to s) := by
  let join (lichen : Bool) (n : Nat) : Sent := .join lichen n (s.rd .SU_SET_ID) (s.rd .SYS_TOPO_DIGEST)
  have hgo : ¬ (s.standAlone = true ∨ s.rd .SU_STATE ≠ 3 ∨ (!s.due .joinSend) = true) := by simp [ha, hsu, hdue]
  have hpartner : Act.Touches [.out] (iff (s.inPair && s.rd .RD_STATE_PAIR == rdListen) (emit (join true (s.rd .RD_PARTNER)))) := touches_iff fun _ => touches_emit
  have hmanagers : Act.Touches [.out] (each s.joinTargets fun n => emit (join false n)) := touches_each fun _ _ => touches_emit
  have harm : Act.Touches [.tmr .joinSend] (arm .joinSend (10 * psMs)) := touches_arm
  have hto : joinSend.to s = (arm .joinSend (10 * psMs)).to ((each s.joinTargets fun n => emit (join false n)).to
      ((iff (s.inPair && s.rd .RD_STATE_PAIR == rdListen) (emit (join true (s.rd .RD_PARTNER)))).to s)) := by
    rw [joinSend, look_runs, if_neg hgo, all_cons_to, all_cons_to, all_cons_to, all_nil_to]
  rw [hto]
  refine ⟨?_, ?_, (hpartner.mono.step s).trans ((hmanagers.mono.step _).trans (harm.mono.step _))⟩
  · rw [harm.out, each_emit_out, iff_to]
    by_cases h : s.rd .RD_ROLE ≠ 0 ∧ s.rd .RD_STATE_PAIR = 1
    · rw [if_pos (by simpa [State.inPair] using h), if_pos h, emit_out]
    · rw [if_neg (by simpa [State.inPair] using h), if_neg h, List.append_nil]
  · rw [arm_timer, hmanagers.now, hpartner.now]

theorem exec_joinSend : exec (.joinSend t) s = .next (joinSend.to (s.since t)) := by
  show run _ s = _
  rw [run_eq, all_cons_to, all_cons_to, all_nil_to, at_to_since]

-- JOIN at the active manager (R35, R449, R450, R451) ------------------------------------------------------------------------------------------------------

/-- The releases that the module's firmware has been tested with (R449). -/
def State.testedPeers (s : State) : List Nat := match s.fwRun with | some f => f.peers | none => []

theorem exec_join {node setId digest : Nat} {ok : Bool} : exec (.join t node setId digest ok) s = .next ((joinArrives node setId digest ok).to (s.since t)) := by
  show run _ s = _
  rw [run_eq, all_cons_to, all_cons_to, all_nil_to, at_to_since]

theorem joinArrives_forged {node setId digest : Nat} (hsu : s.rd .SU_STATE = 3) : (joinArrives node setId digest false).to s = (tagFails node 0).to s := by
  rw [joinArrives, look_runs]
  dsimp only
  rw [if_neg (not_not.mpr hsu), if_pos (by decide)]

/-- What the manager answers a good JOIN with, by the set and the digest it names (R449 to R451). -/
def welcome (s : State) (node setId digest : Nat) : Act :=
  if !s.testedPeers.contains setId then emit (.joinAnswer node (.peerUntested (s.rd .SU_SET_ID)))
  else if digest ≠ s.rd .SYS_TOPO_DIGEST then emit (.joinAnswer node .mismatch)
  else all [put .joinCount (((s.qn .joinCount node 0 + 1) % 2 ^ 16 : Nat) : Int) node 0,
    emit (.joinAnswer node (.admitted (s.rd .SEC_ROUTER_START) (s.rd .SEC_FABRIC_GEN) ((s.qn .joinCount node 0 + 1) % 2 ^ 16))), sendImage node,
    iff (s.inPair && node == s.rd .RD_PARTNER) (each s.hist fun a => toStandby (s.wholeRecord a))]

theorem joinArrives_good {node setId digest : Nat} (hsu : s.rd .SU_STATE = 3) (ha : s.standAlone = false) (hm : s.isManager = true) :
    (joinArrives node setId digest true).to s = (welcome s node setId digest).to ((put .joinCount (setId + 1 : Nat) node 1).to s) := by
  have hgo : ¬ (s.standAlone = true ∨ (!s.isManager) = true) := by simp [ha, hm]
  rw [joinArrives, look_runs]
  dsimp only
  rw [if_neg (not_not.mpr hsu), if_neg (by decide), if_neg hgo, all_cons_to, all_cons_to, all_nil_to]
  rfl

def welcomeParts : List Part := [.qty .joinCount, .out, .txRecs] ++ lichenParts

theorem welcome_touches (s : State) (node setId digest : Nat) : (welcome s node setId digest).Touches welcomeParts :=
  touches_ite (fun _ => touches_emit) fun _ => touches_ite (fun _ => touches_emit) fun _ => touches_all ⟨touches_put, touches_emit, (sendImage_touches node).mono,
    touches_iff fun _ => touches_each fun _ _ => (toStandby_touches _).mono⟩

/-- A module that is admitted hears so, with its incarnation, before its image leaves (R35, R427). -/
theorem welcome_admits {v : State} (hwf : v.wf = true) {node setId digest : Nat} (hn : node < 64) (h1 : s.testedPeers.contains setId = true) (h2 : digest = s.rd .SYS_TOPO_DIGEST) :
    let u := (welcome s node setId digest).to v
    let inc := (s.qn .joinCount node 0 + 1) % 2 ^ 16
    ∃ rest, u.out = v.out ++ .joinAnswer node (.admitted (s.rd .SEC_ROUTER_START) (s.rd .SEC_FABRIC_GEN) inc) :: rest ∧ rest ≠ [] ∧ u.qn .joinCount node 0 = inc := by
  intro u inc
  have hi : node < 2 ^ 40 := hn.trans (by decide)
  have hput : Act.Touches [.qty .joinCount] (put .joinCount (inc : Int) node 0) := touches_put
  have hcopies : (iff (s.inPair && node == s.rd .RD_PARTNER) (each s.hist fun a => toStandby (s.wholeRecord a))).Touches (.txRecs :: lichenParts) :=
    touches_iff fun _ => touches_each fun _ _ => toStandby_touches _
  have himage := sendImage_touches node
  have hanswer : Act.Touches [.out] (emit (.joinAnswer node (.admitted (s.rd .SEC_ROUTER_START) (s.rd .SEC_FABRIC_GEN) inc))) := touches_emit
  have hto : u = (iff (s.inPair && node == s.rd .RD_PARTNER) (each s.hist fun a => toStandby (s.wholeRecord a))).to ((sendImage node).to
      ((emit (.joinAnswer node (.admitted (s.rd .SEC_ROUTER_START) (s.rd .SEC_FABRIC_GEN) inc))).to ((put .joinCount (inc : Int) node 0).to v))) := by
    show (welcome s node setId digest).to v = _
    rw [welcome, if_neg (by rw [h1]; decide), if_neg (not_not.mpr h2), all_cons_to, all_cons_to, all_cons_to, all_cons_to, all_nil_to]
  rw [hto]
  clear hto u
  have hq : ((put .joinCount (inc : Int) node 0).to v).q .joinCount node 0 = inc := put_q hwf _ _ hi
  have hout := hput.out v
  generalize (put .joinCount (inc : Int) node 0).to v = w at *
  obtain ⟨sent, hsent, hne⟩ := sendImage_out node ((emit (.joinAnswer node (.admitted (s.rd .SEC_ROUTER_START) (s.rd .SEC_FABRIC_GEN) inc))).to w)
  obtain ⟨copies, hrest⟩ := Act.to_out (iff (s.inPair && node == s.rd .RD_PARTNER) (each s.hist fun a => toStandby (s.wholeRecord a)))
    ((sendImage node).to ((emit (.joinAnswer node (.admitted (s.rd .SEC_ROUTER_START) (s.rd .SEC_FABRIC_GEN) inc))).to w))
  refine ⟨sent ++ copies, ?_, by simp [hne], ?_⟩
  · rw [← hrest, hsent, emit_out, hout]
    simp
  · refine congrArg Int.toNat (((hcopies.q _ (by decide) hi).trans ((himage.q _ (by decide) hi).trans ((hanswer.q w (by decide) hi).trans hq))))

/-- JOIN at the active manager (R35, R449 to R451). -/
theorem join_answered (hwf : s.wf = true) (t : Nat) (hsu : s.rd .SU_STATE = 3) (ha : s.standAlone = false) (hm : s.isManager = true) {node : Nat} (hn : node < 64)
    (setId digest : Nat) : ∃ u rest, exec (.join t node setId digest true) s = .next u ∧ u.regs = s.regs ∧ u.mem = s.mem
      ∧ (if s.testedPeers.contains setId = false then u.out = s.out ++ [.joinAnswer node (.peerUntested (s.rd .SU_SET_ID))]
         else if digest ≠ s.rd .SYS_TOPO_DIGEST then u.out = s.out ++ [.joinAnswer node .mismatch]
         else u.out = s.out ++ .joinAnswer node (.admitted (s.rd .SEC_ROUTER_START) (s.rd .SEC_FABRIC_GEN) ((s.qn .joinCount node 0 + 1) % 2 ^ 16)) :: rest
           ∧ rest ≠ [] ∧ u.qn .joinCount node 0 = (s.qn .joinCount node 0 + 1) % 2 ^ 16) := by
  have hput : Act.Touches [.qty .joinCount] (put .joinCount (setId + 1 : Nat) node 1) := touches_put
  have hwel := welcome_touches (s.since t) node setId digest
  have hexec := (exec_join (s := s) (t := t) (node := node) (setId := setId) (digest := digest) (ok := true)).trans
    (congrArg _ (joinArrives_good (s := s.since t) hsu ha hm))
  have hsame := hput.step (s.since t)
  have hwf' : ((put .joinCount (setId + 1 : Nat) node 1).to (s.since t)).wf = true := Act.to_wf _ (s := s.since t) hwf
  have hpeers : (s.since t).testedPeers = s.testedPeers := rfl
  have hout : ((put .joinCount (setId + 1 : Nat) node 1).to (s.since t)).out = s.out := hsame.out
  have hregs : ((put .joinCount (setId + 1 : Nat) node 1).to (s.since t)).regs = s.regs := hsame.regs rfl
  have hmem : ((put .joinCount (setId + 1 : Nat) node 1).to (s.since t)).mem = s.mem := hsame.mem
  generalize (put .joinCount (setId + 1 : Nat) node 1).to (s.since t) = v at *
  have hr := ((hwel.step v).regs rfl).trans hregs
  have hme := (hwel.step v).mem.trans hmem
  by_cases h1 : s.testedPeers.contains setId = true
  · by_cases h2 : digest = s.rd .SYS_TOPO_DIGEST
    · obtain ⟨rest, h3, h4, h5⟩ := welcome_admits (s := s.since t) hwf' hn h1 h2
      rw [hout] at h3
      refine ⟨_, rest, hexec, hr, hme, ?_⟩
      rw [if_neg (by rw [h1]; decide), if_neg (not_not.mpr h2)]
      exact ⟨h3, h4, h5⟩
    · refine ⟨_, [], hexec, hr, hme, ?_⟩
      rw [if_neg (by rw [h1]; decide), if_pos h2, welcome, hpeers, if_neg (by rw [h1]; decide), if_pos (show digest ≠ (s.since t).rd .SYS_TOPO_DIGEST from h2), emit_out, hout]
  · refine ⟨_, [], hexec, hr, hme, ?_⟩
    rw [if_pos (by simpa using h1), welcome, hpeers, if_pos (by simpa using h1), emit_out, hout]
    rfl

end
end Sys2Proof.Machine
end

section
/-! SUPPORT. The answer to a JOIN, the load of a state image at a centre, and OCCUPANCY (R34, R35, R113, R450, R451): O10. -/
set_option Elab.async false
namespace Sys2Proof.Machine
open Host

-- JOIN_ANSWER (R35, R450, R451) -----------------------------------------------------------------------------------------------------------------------------

section
variable {s : State} {t : Nat}

/-- What the answer does at a module that knows its manager. -/
def answered (s : State) : JoinAns → Act
  | .peerUntested setId => enterRestricted setId
  | .mismatch => iff (s.rd .ORD_STATE == osJoining) (all [set .ORD_STATE osMismatch, one (.buf []), disarm .joinSend, raise .TOPOLOGY_MISMATCH, outputsFollow])
  | .admitted start _ inc => all [set .SEC_ROUTER_START start, set .SEC_INCARNATION inc, put .msgCounter 0, disarm .joinSend]

theorem exec_joinAnswer {sender : Nat} {a : JoinAns} (hsu : s.rd .SU_STATE = 3) (hm : s.isManager = false) (hp : s.rd .RD_STATE_PAIR ≠ 1) (he : s.q .managerEpoch ≠ 0) :
    exec (.joinAnswer t sender a true) s = .next ((answered s a).to (s.since t)) := by
  have hgo : ¬ ((s.since t).rd .SU_STATE ≠ 3 ∨ (s.since t).isManager = true) := by
    rintro (h | h)
    · exact h hsu
    · exact absurd (hm.symm.trans h) (by decide)
  have hlisten : ((s.since t).inPair && (s.since t).rd .RD_STATE_PAIR == rdListen && sender == (s.since t).rd .RD_PARTNER) = false := by
    have h : ((s.since t).rd .RD_STATE_PAIR == rdListen) = false := beq_false_of_ne hp
    rw [h, Bool.and_false, Bool.false_and]
  have hknown : ((s.since t).q .managerEpoch == 0 && !((s.since t).rd .RD_ROLE == 2 && sender == (s.since t).rd .RD_PARTNER)) = false := by
    have h : ((s.since t).q .managerEpoch == 0) = false := beq_false_of_ne he
    rw [h, Bool.false_and]
  show run _ s = _
  rw [run_eq, all_cons_to, all_cons_to, all_nil_to, at_to_since, joinAnswered, look_runs, if_neg hgo, if_neg (by decide), hlisten, hknown, all_cons_to, all_cons_to,
    all_cons_to, all_nil_to, iff_to, if_neg (by decide), iff_to, if_neg (by decide)]
  cases a <;> rfl

/-- An admission (R35, R427). -/
theorem answered_admitted (hwf : s.wf = true) (start gen inc : Nat) {v : State} : let u := (answered v (.admitted start gen inc)).to s
    u.rd .SEC_ROUTER_START = start % 2 ^ 64 ∧ u.rd .SEC_INCARNATION = inc % 2 ^ 16 ∧ u.q .msgCounter = 0 ∧ u.timer .joinSend = none
    ∧ State.SameBut [.reg .SEC_ROUTER_START, .reg .SEC_INCARNATION, .qty .msgCounter, .tmr .joinSend] s u := by
  have hstart : Act.Touches [.reg .SEC_ROUTER_START] (set .SEC_ROUTER_START start) := touches_set
  have hinc : Act.Touches [.reg .SEC_INCARNATION] (set .SEC_INCARNATION inc) := touches_set
  have hput : Act.Touches [.qty .msgCounter] (put .msgCounter 0) := touches_put
  have hdis : Act.Touches [.tmr .joinSend] (disarm .joinSend) := touches_disarm
  intro u
  rw [show u = (answered v (.admitted start gen inc)).to s from rfl, answered, all_cons_to, all_cons_to, all_cons_to, all_cons_to, all_nil_to]
  clear u
  have hregs := State.wf_regs hwf
  have hwf1 := Act.to_wf (set .SEC_INCARNATION inc) (Act.to_wf (set .SEC_ROUTER_START start) hwf)
  refine ⟨?_, ?_, ?_, disarm_timer (Act.to_wf _ hwf1) _ _, (hstart.mono.step s).trans ((hinc.mono.step _).trans ((hput.mono.step _).trans (hdis.mono.step _)))⟩
  · rw [hdis.rd, hput.rd, hinc.rd]
    exact set_rd hregs (by decide)
  · rw [hdis.rd, hput.rd]
    exact set_rd (Act.to_regs_sorted _ hregs) (by decide)
  · rw [hdis.q, put_q hwf1]

def mismatchParts : List Part := [.reg .ORD_STATE, .buf, .tmr .joinSend] ++ followParts

/-- A mismatch of the topology digest while joining (R35). -/
theorem answered_mismatch (hwf : s.wf = true) {v : State} (hst : v.rd .ORD_STATE = 0) : let u := (answered v .mismatch).to s
    u.rd .ORD_STATE = 5 ∧ u.buf = [] ∧ u.latched .TOPOLOGY_MISMATCH = true ∧ u.timer .joinSend = none ∧ State.SameBut mismatchParts s u := by
  have hset : Act.Touches [.reg .ORD_STATE] (set .ORD_STATE osMismatch) := touches_set
  have hbuf : Act.Touches [.buf] (one (.buf [])) := touches_one rfl
  have hdis : Act.Touches [.tmr .joinSend] (disarm .joinSend) := touches_disarm
  have hraise := touches_raise_eventParts .TOPOLOGY_MISMATCH 0 0
  have hfollow := outputsFollow_touches
  intro u
  rw [show u = (answered v .mismatch).to s from rfl, answered, iff_to, if_pos (by rw [hst]; decide), all_cons_to, all_cons_to, all_cons_to, all_cons_to, all_cons_to, all_nil_to]
  clear u
  have hstate : ((set .ORD_STATE osMismatch).to s).rd .ORD_STATE = 5 := set_rd (State.wf_regs hwf) (by decide)
  have hsame := hset.step s
  have hwf1 : ((set .ORD_STATE osMismatch).to s).wf = true := Act.to_wf _ hwf
  generalize (set .ORD_STATE osMismatch).to s = w at *
  have hempty : ((one (.buf [])).to w).buf = [] := rfl
  have hsame2 := (hsame.mono (qs := mismatchParts) (by decide +kernel)).trans (hbuf.mono.step w)
  have hstate2 := (hbuf.rd w (f := .ORD_STATE)).trans hstate
  have hwf2 : ((one (.buf [])).to w).wf = true := Act.to_wf _ hwf1
  generalize (one (.buf [])).to w = x at *
  have hwf3 := Act.to_wf (disarm .joinSend) hwf2
  have hwf4 := Act.to_wf (raise .TOPOLOGY_MISMATCH 0 0) hwf3
  have htimer := disarm_timer hwf2 .joinSend 0
  have hlatch := raise_latches .TOPOLOGY_MISMATCH 0 0 (State.wf_regs hwf3) (State.idleBlock_zero _) (by decide)
  refine ⟨?_, ?_, (hfollow.step _).latched (State.wf_regs hwf4) _ hlatch, ?_, hsame2.trans ((hdis.mono.step x).trans ((hraise.mono.step _).trans (hfollow.mono.step _)))⟩
  · rw [hfollow.rd, hraise.rd, hdis.rd, hstate2]
  · rw [hfollow.buf, hraise.buf, hdis.buf, hempty]
  · rw [hfollow.timer, hraise.timer, htimer]

/-- What RESTRICTED drops before it is reported (R450). -/
def restrictHead (setId : Nat) : Act := all [set .SU_STATE 5, set .SU_PEER_SET setId, set .ORD_STATE osJoining, one (.buf []), one (.img none), setActs []]

/-- What follows it. -/
def restrictTail : Act := all [disarm .joinSend, disarm .gap, disarm .replay, look fun s => each (List.range s.ports) pendShow]

theorem enterRestricted_to (setId : Nat) : (enterRestricted setId).to s
    = (fallBack 3).to (outputsFollow.to ((raise .RESTRICTED_ENTERED).to (restrictTail.to ((restrictHead setId).to s)))) := by
  rw [enterRestricted, all_cons_to, all_cons_to, all_cons_to, all_cons_to, all_cons_to, all_cons_to, all_cons_to, all_cons_to, all_cons_to, all_cons_to,
    all_cons_to, all_cons_to, all_cons_to, all_nil_to, restrictHead, all_cons_to, all_cons_to, all_cons_to, all_cons_to, all_cons_to, all_cons_to, all_nil_to,
    restrictTail, all_cons_to, all_cons_to, all_cons_to, all_cons_to, all_nil_to]

def restrictTailParts : List Part := [.tmr .joinSend, .tmr .gap, .tmr .replay] ++ pendFields.map .reg

theorem pendShow_fields (n : Nat) : (pendShow n).Touches (pendFields.map .reg) := by
  refine touches_look fun s => touches_all ⟨?_, touches_set, touches_look fun _ => touches_set⟩
  cases s.takesOf n with
  | nil => exact touches_all ⟨touches_set, touches_set, touches_set, touches_set, touches_set⟩
  | cons p ps => exact touches_all ⟨touches_set, touches_set, touches_set, touches_set, touches_set⟩

theorem restrictTail_touches : restrictTail.Touches restrictTailParts :=
  touches_all ⟨touches_disarm, touches_disarm, touches_disarm, touches_look fun _ => touches_each fun n _ => (pendShow_fields n).mono⟩

def restrictParts : List Part := [.reg .SU_STATE, .reg .SU_PEER_SET, .reg .ORD_STATE, .buf, .img, .acts] ++ restrictTailParts

theorem restrictHead_touches (setId : Nat) : (restrictHead setId).Touches restrictParts :=
  touches_all ⟨touches_set, touches_set, touches_set, touches_one rfl, touches_one rfl, (setActs_touches []).mono⟩

theorem restrictHead_facts (hs : SMap.sorted s.regs = true) (setId : Nat) : let u := (restrictHead setId).to s
    u.rd .SU_STATE = 5 ∧ u.rd .SU_PEER_SET = setId % 2 ^ 32 ∧ u.rd .ORD_STATE = 0 ∧ u.buf = [] ∧ u.acts = [] := by
  have hpeer : Act.Touches [.reg .SU_PEER_SET] (set .SU_PEER_SET setId) := touches_set
  have hstate : Act.Touches [.reg .ORD_STATE] (set .ORD_STATE osJoining) := touches_set
  have hbuf : Act.Touches [.buf] (one (.buf [])) := touches_one rfl
  have himg : Act.Touches [.img] (one (.img none)) := touches_one rfl
  have hacts := setActs_touches []
  have hempty (v : State) : ((one (.buf [])).to v).buf = [] := rfl
  intro u
  rw [show u = (restrictHead setId).to s from rfl, restrictHead, all_cons_to, all_cons_to, all_cons_to, all_cons_to, all_cons_to, all_cons_to, all_nil_to]
  clear u
  have hs1 := Act.to_regs_sorted (set .SU_STATE 5) hs
  refine ⟨?_, ?_, ?_, ?_, setActs_acts ..⟩
  · rw [hacts.rd, himg.rd, hbuf.rd, hstate.rd, hpeer.rd]
    exact set_rd hs (by decide)
  · rw [hacts.rd, himg.rd, hbuf.rd, hstate.rd]
    exact set_rd hs1 (by decide)
  · rw [hacts.rd, himg.rd, hbuf.rd]
    exact set_rd (Act.to_regs_sorted _ hs1) (by decide)
  · rw [hacts.buf, himg.buf, hempty]

/-- RESTRICTED is entered (R450). -/
theorem enterRestricted_facts (hwf : s.wf = true) (setId : Nat) : let u := (enterRestricted setId).to s
    u.rd .SU_STATE = 5 ∧ u.rd .SU_PEER_SET = setId % 2 ^ 32 ∧ u.rd .ORD_STATE = 0 ∧ u.acts = [] ∧ u.buf = [] ∧ u.latched .RESTRICTED_ENTERED = true
    ∧ u.mem = s.mem := by
  have hhead := (restrictHead_touches setId).mem s
  have htail := restrictTail_touches
  have hraise := touches_raise_eventParts .RESTRICTED_ENTERED 0 0
  have hfollow := outputsFollow_touches
  have hfall := fallBack_touches 3
  obtain ⟨h1, h2, h3, h4, h5⟩ := restrictHead_facts (State.wf_regs hwf) setId
  have hwf1 := Act.to_wf (restrictHead setId) hwf
  intro u
  rw [show u = _ from enterRestricted_to setId]
  clear u
  generalize (restrictHead setId).to s = v at *
  have hwf2 := Act.to_wf restrictTail hwf1
  have hlatch := raise_latches .RESTRICTED_ENTERED 0 0 (State.wf_regs hwf2) (State.idleBlock_zero _) (by decide)
  have hs3 := Act.to_regs_sorted (raise .RESTRICTED_ENTERED 0 0) (State.wf_regs hwf2)
  have hend : State.SameBut (restrictTailParts ++ followParts ++ fallParts) v ((fallBack 3).to (outputsFollow.to ((raise .RESTRICTED_ENTERED).to (restrictTail.to v)))) :=
    (htail.mono.step v).trans ((hraise.mono.step _).trans ((hfollow.mono.step _).trans (hfall.mono.step _)))
  exact ⟨(hend.rd (by decide +kernel) 0 0).trans h1, (hend.rd (by decide +kernel) 0 0).trans h2, (hend.rd (by decide +kernel) 0 0).trans h3, hend.acts.trans h5,
    hend.buf.trans h4, (hfall.step _).latched (Act.to_regs_sorted _ hs3) _ ((hfollow.step _).latched hs3 _ hlatch), hend.mem.trans hhead⟩

end

-- OCCUPANCY (R113) --------------------------------------------------------------------------------------------------------------------------------------------

section
variable {s : State} {t : Nat}

theorem exec_occupancy {node applied digest openLinks : Nat} :
    exec (.occupancy t node applied digest openLinks) s = .next ((occupancyHear node applied digest openLinks).to (s.since t)) := by
  show run _ s = _
  rw [run_eq, all_cons_to, all_cons_to, all_nil_to, at_to_since]

/-- The manager's answer to what a node reports: an image where it is ahead, or where it is quiet and differs (R113, R366). -/
def judgeOccupancy (node applied digest : Nat) : Act := look fun s =>
  if !s.isManager then skip
  else if later applied s.lastOrder then superseded node applied
  else if s.quietAt node applied && digest != digestOf s.liveLegs (s.ownerOf node) then
    all [count .FAB_MODEL_DIVERGE, raise .FAB_MODEL_DIVERGE node, sendImage node] else skip

def judgeParts : List Part := [.reg .FAB_MODEL_DIVERGE, .out] ++ eventParts

theorem judgeOccupancy_touches (node applied digest : Nat) : (judgeOccupancy node applied digest).Touches judgeParts :=
  touches_look fun _ => touches_ite (fun _ => touches_skip) fun _ => touches_ite
    (fun _ => touches_look fun _ => touches_all ⟨touches_raise, (sendImage_touches node).mono⟩) fun _ =>
    touches_ite (fun _ => touches_all ⟨touches_count, touches_raise, (sendImage_touches node).mono⟩) fun _ => touches_skip

theorem occupancyHear_to {node applied digest openLinks : Nat} (hsu : s.rd .SU_STATE = 3) (ha : s.standAlone = false) (hm : s.rd .SYS_MGR_ROLE ≠ 0)
    (hopen : Nat.land (s.vOpen.get 0 node) openLinks = s.vOpen.get 0 node) : (occupancyHear node applied digest openLinks).to s
    = (judgeOccupancy node applied digest).to ((iff (s.isManager && s.vOpen.get 0 node != openLinks) guarantee).to
        ((one (.vOpen node openLinks)).to ((one (.vApplied node applied)).to s))) := by
  have hgo : ¬ (s.standAlone = true ∨ s.rd .SYS_MGR_ROLE = 0 ∨ s.rd .SU_STATE ≠ 3) := by simp [ha, hm, hsu]
  have hfell : (s.isManager && s.vOpen.get 0 node - Nat.land (s.vOpen.get 0 node) openLinks != 0) = false := by
    rw [hopen, Nat.sub_self]
    simp
  rw [occupancyHear, look_runs]
  dsimp only
  rw [if_neg hgo, all_cons_to, all_cons_to, all_cons_to, all_cons_to, all_cons_to, all_nil_to, hfell, iff_to (c := false), if_neg (by decide)]
  rfl

/-- What a node's report is judged by (R113, R366): the model, house time and the numbers given. -/
def quietParts : List Part := [.now, .qty .houseOff, .reg .RD_FORMAT, .reg .SYS_GEOM, .reg .SYS_ROLE, .reg .SYS_MGR_ROLE, .reg .ORD_NEXT, .cfg, .hist, .vSched, .vLegs]

section
variable {ps : List Part} {u : State} (h : State.SameBut ps s u) (hp : ∀ p ∈ quietParts, p ∉ ps)
include h hp

theorem State.SameBut.judgedHouse : u.house = s.house := h.house ⟨hp _ (by decide), hp _ (by decide)⟩

theorem State.SameBut.ownerOf (n : Nat) : u.ownerOf n = s.ownerOf n := by
  rw [State.ownerOf, h.cfg (hp _ (by decide))]
  rfl

theorem State.SameBut.liveLegs : u.liveLegs = s.liveLegs := by
  have hdom (d : Nat) : u.domFormat d = s.domFormat d := h.domFormat d (hp _ (by decide))
  unfold State.liveLegs
  rw [show u.vLegs = s.vLegs from h.part .vLegs (hp _ (by decide)), h.judgedHouse hp, funext hdom]

theorem State.SameBut.lastOrder : u.lastOrder = s.lastOrder := by
  rw [State.lastOrder, h.rd (hp _ (by decide)), h.hist (hp _ (by decide))]
  rfl

theorem State.SameBut.quietAt (n applied : Nat) : u.quietAt n applied = s.quietAt n applied := by
  have hhome (k : Nat) : u.home k = s.home k := by
    unfold State.home
    rw [h.rd (hp (.reg .SYS_GEOM) (by decide))]
  have hnodes (x : TakeSpore) : u.sporeNodes x = s.sporeNodes x := by
    unfold State.sporeNodes
    rw [hhome, hhome]
  have hwaits : u.waits = s.waits := funext fun x => congrArg (fun k => decide (k < x.point)) (h.judgedHouse hp)
  have hleg (g : Leg) : u.legAt n g = s.legAt n g := by
    unfold State.legAt
    rw [h.ownerOf hp]
  unfold State.quietAt
  rw [h.ownerOf hp, h.liveLegs hp, hwaits, h.hist (hp _ (by decide)), show u.vSched = s.vSched from h.part .vSched (hp _ (by decide)), funext hnodes, funext hleg]

end

/-- At the active manager, a node that is quiet and whose digest differs diverges from the model (R113). -/
theorem judgeOccupancy_diverges {node applied digest : Nat} (hs : SMap.sorted s.regs = true) (hm : s.isManager = true) (hl : later applied s.lastOrder = false) :
    ((judgeOccupancy node applied digest).to s).rd .FAB_MODEL_DIVERGE = if s.quietAt node applied = true ∧ digest ≠ digestOf s.liveLegs (s.ownerOf node)
      then min (s.rd .FAB_MODEL_DIVERGE + 1) 0xFFFFFFFF else s.rd .FAB_MODEL_DIVERGE := by
  have hraise := touches_raise_eventParts .FAB_MODEL_DIVERGE node 0
  rw [judgeOccupancy, look_runs, if_neg (by rw [hm]; decide), if_neg (by rw [hl]; decide)]
  by_cases h : s.quietAt node applied = true ∧ digest ≠ digestOf s.liveLegs (s.ownerOf node)
  · rw [if_pos h, if_pos (by simpa using h), all_cons_to, all_cons_to, all_cons_to, all_nil_to, (sendImage_touches node).rd, hraise.rd]
    exact count_rd hs
  · rw [if_neg h, if_neg (by simpa using h), skip_to]

def occupancyParts : List Part := [.vApplied, .vOpen] ++ guaranteeParts

/-- OCCUPANCY of a node whose links have not closed (R113, R366). -/
theorem occupancy_heard (hwf : s.wf = true) (t : Nat) (hsu : s.rd .SU_STATE = 3) {node applied digest openLinks : Nat} (ha : s.standAlone = false)
    (hm : s.rd .SYS_MGR_ROLE ≠ 0) (hopen : Nat.land (s.vOpen.get 0 node) openLinks = s.vOpen.get 0 node) :
    ∃ u, exec (.occupancy t node applied digest openLinks) s = .next u ∧ u.vApplied.get 0 node = applied ∧ u.vOpen.get 0 node = openLinks
      ∧ (s.isManager = true → later applied s.lastOrder = false → u.rd .FAB_MODEL_DIVERGE = (if (s.since t).quietAt node applied = true
          ∧ digest ≠ digestOf (s.since t).liveLegs ((s.since t).ownerOf node) then min (s.rd .FAB_MODEL_DIVERGE + 1) 0xFFFFFFFF else s.rd .FAB_MODEL_DIVERGE)
        ∧ s.outside [0x03, 0x04, 0x0F] u)
      ∧ u.mem = s.mem := by
  have hexec := (exec_occupancy (s := s) (t := t) (node := node) (applied := applied) (digest := digest) (openLinks := openLinks)).trans
    (congrArg _ (occupancyHear_to (s := s.since t) hsu ha hm hopen))
  have hwf' : (s.since t).wf = true := hwf
  have hsince := since_sameBut s t
  have hmgr : (s.since t).isManager = s.isManager := rfl
  have hlast : (s.since t).lastOrder = s.lastOrder := rfl
  refine ⟨_, hexec, ?_⟩
  generalize s.since t = v at *
  obtain ⟨hs, -, -, -, -, -, -, hsa, hso⟩ := (State.stores_iff v).mp ((State.wf_iff v).mp hwf').1
  have happlied : Act.Touches [.vApplied] (one (.vApplied node applied)) := touches_one rfl
  have hopens : Act.Touches [.vOpen] (one (.vOpen node openLinks)) := touches_one rfl
  have hguar : (iff (v.isManager && v.vOpen.get 0 node != openLinks) guarantee).Touches guaranteeParts := touches_iff fun _ => guarantee_touches
  have hgetA : ((one (.vApplied node applied)).to v).vApplied.get 0 node = applied := SMap.get_put_same 0 node applied v.vApplied hsa
  have hgetO : ((one (.vOpen node openLinks)).to ((one (.vApplied node applied)).to v)).vOpen.get 0 node = openLinks :=
    SMap.get_put_same 0 node openLinks v.vOpen hso
  have hsame : State.SameBut occupancyParts v ((iff (v.isManager && v.vOpen.get 0 node != openLinks) guarantee).to
      ((one (.vOpen node openLinks)).to ((one (.vApplied node applied)).to v))) :=
    (happlied.mono.step v).trans ((hopens.mono.step _).trans (hguar.mono.step _))
  have hA := (hguar.step ((one (.vOpen node openLinks)).to ((one (.vApplied node applied)).to v))).vApplied.trans ((hopens.step _).vApplied)
  have hO := (hguar.step ((one (.vOpen node openLinks)).to ((one (.vApplied node applied)).to v))).vOpen
  generalize (iff (v.isManager && v.vOpen.get 0 node != openLinks) guarantee).to ((one (.vOpen node openLinks)).to ((one (.vApplied node applied)).to v)) = w at *
  have hjudge := (judgeOccupancy_touches node applied digest).step w
  have hquiet : ∀ p ∈ quietParts, p ∉ occupancyParts := by decide +kernel
  refine ⟨by rw [hjudge.vApplied, hA, hgetA], by rw [hjudge.vOpen, hO, hgetO], fun hman hl => ⟨?_, ?_⟩, hjudge.mem.trans (hsame.mem.trans hsince.mem)⟩
  · have hman' : w.isManager = true := (hsame.isManager).trans (hmgr.trans hman)
    have hl' : later applied w.lastOrder = false := by rw [hsame.lastOrder hquiet, hlast, hl]
    rw [judgeOccupancy_diverges (hsame.sorted hs) hman' hl', hsame.quietAt hquiet, hsame.liveLegs hquiet, hsame.ownerOf hquiet, hsame.rd (by decide +kernel), hsince.rd (by decide)]
  · exact ((hsince.mono (qs := .now :: (occupancyParts ++ judgeParts)) (by decide +kernel)).trans
      ((hsame.mono (by decide +kernel)).trans (hjudge.mono (by decide +kernel)))).outside (by decide +kernel)

end
end Sys2Proof.Machine
end

section
/-! SUPPORT. The load of a state image at a centre (R34, R35): O10. -/
set_option Elab.async false
namespace Sys2Proof.Machine
open Host

section
variable {s : State} {t : Nat}

/-- The legs that an image names for this module (R34). -/
def State.legsOf (s : State) (im : ImgBuf) : List Leg := im.objs.filterMap fun o => match o with | .slot g => if s.myLeg g then some g else none | _ => none

theorem setLegs_legs (x : List Leg) (s : State) : ((setLegs x).to s).legs = x := by
  have hshow (xs : List Nat) : (each xs linkShow).Touches [.reg .FL_SLOT_FMT, .reg .FL_SUB_BUSY] :=
    touches_each fun _ _ => touches_look fun _ => touches_all ⟨touches_set, touches_set⟩
  rw [setLegs, look_runs, all_cons_to, all_cons_to, all_cons_to, all_nil_to, (guarantee_touches.step _).legs, ((hshow _).step _).legs]
  rfl

/-- A stream of an image changes nothing more: the legs have been set as a whole. -/
theorem loadObj_slots {im : ImgBuf} {os : List ImgObj} (h : ∀ o ∈ os, ∃ g, o = .slot g) : (each os (loadObj im)).to s = s := by
  induction os generalizing s with
  | nil => exact each_nil_to ..
  | cons o os ih =>
    obtain ⟨g, rfl⟩ := h _ (.head _)
    have hone : (loadObj im (.slot g)).to s = s := rfl
    rw [each_cons_to, hone, ih fun o ho => h o (.tail _ ho)]

/-- At a module without outputs and audio nodes, what an image does not name is at its start but for bundles. -/
theorem loadRest_bare (im : ImgBuf) (hp : s.ports = 0) (hn : s.nodes = []) : State.SameBut [.qty .auRelease] s ((loadRest im).to s) := by
  have hput {α : Type} (xs : List α) (i j : α → Nat) : (each xs fun x => put .auRelease 1 (i x) (j x)).Touches [.qty .auRelease] := touches_each fun _ _ => touches_put
  rw [loadRest, look_runs, hp, hn]
  dsimp only
  rw [all_cons_to, all_cons_to, all_cons_to, all_cons_to, all_nil_to, List.range_zero, List.filter_nil, List.filter_nil, each_nil_to, each_nil_to]
  exact ((hput _ _ _).step s).trans ((hput _ _ _).step _)

theorem State.SameBut.ports {ps : List Part} {u : State} (h : State.SameBut ps s u) (hp : .reg .SYS_ROLE ∉ ps := by decide +kernel) : u.ports = s.ports := by
  unfold State.ports State.standAlone State.isEdge
  rw [h.rd hp]

/-- The first half of a load: what waits and the legs are replaced (R34). -/
def loadHead (im : ImgBuf) (s : State) : Act := all [put .ordHeld 0, setActs [], each (List.range s.ports) pendShow, setLegs (s.legsOf im)]

/-- The second half: the stream goes on from the image's number (R35). -/
def loadTail (im : ImgBuf) (s : State) : Act := all [set .ORD_APPLIED im.k, set .ORD_STATE osInOrder, one (.img none), disarm .joinSend,
  iff (!decide (s.rd .ORD_STATE = osJoining)) (raise .ORDER_RESYNC_DONE 0 im.k), count .ORD_DUPLICATES (s.buf.filter fun r => !later r.order im.k).length]

/-- What was buffered goes on. -/
def loadOn (im : ImgBuf) : Act := all [look fun s => one (.buf (s.buf.filter fun r => later r.order im.k)), drain 256,
  look fun s => if s.buf.any fun r => decide (256 ≤ orderDiff r.order s.nextOrder) then orderLost else settle]

theorem imageLoad_to {im : ImgBuf} (him : s.img = some im) (hr : s.imageReady = true) : imageLoad.to s
    = (loadOn im).to ((loadTail im s).to ((loadRest im).to ((each im.objs (loadObj im)).to ((loadHead im s).to s)))) := by
  rw [imageLoad, look_runs, him]
  dsimp only
  rw [if_neg (by rw [hr]; decide)]
  rw [loadHead, loadTail, loadOn]
  generalize drain 256 = d
  rw [all_cons_to, all_cons_to, all_cons_to, all_cons_to, all_cons_to, all_cons_to, all_cons_to, all_cons_to, all_cons_to, all_cons_to,
    all_cons_to, all_cons_to, all_cons_to, all_cons_to, all_cons_to, all_cons_to, all_cons_to, all_cons_to, all_cons_to, all_cons_to,
    all_cons_to, all_cons_to, all_cons_to, all_cons_to, all_cons_to, all_cons_to, all_cons_to, all_cons_to, all_nil_to, all_nil_to, all_nil_to, all_nil_to]
  rfl

def headParts : List Part := [.qty .ordHeld, .acts, .reg .SCHED_PENDING, .reg .SCHED_PENDING_PEAK] ++ legParts

theorem loadHead_bare (im : ImgBuf) (hp : s.ports = 0) : ((loadHead im s).to s).acts = [] ∧ ((loadHead im s).to s).legs = s.legsOf im
    ∧ State.SameBut headParts s ((loadHead im s).to s) := by
  have hput : Act.Touches [.qty .ordHeld] (put .ordHeld 0) := touches_put
  have hacts := setActs_touches []
  have hlegs := setLegs_touches (s.legsOf im)
  rw [loadHead, hp, all_cons_to, all_cons_to, all_cons_to, all_cons_to, all_nil_to, List.range_zero, each_nil_to]
  exact ⟨(hlegs.acts _).trans (setActs_acts ..), setLegs_legs .., (hput.mono.step s).trans ((hacts.mono.step _).trans (hlegs.mono.step _))⟩

def tailParts : List Part := [.reg .ORD_APPLIED, .reg .ORD_STATE, .img, .tmr .joinSend, .reg .ORD_DUPLICATES] ++ eventParts

theorem loadTail_facts {v : State} (hwf : v.wf = true) {im : ImgBuf} (hk : im.k < 2 ^ 48) : let u := (loadTail im s).to v
    u.rd .ORD_APPLIED = im.k ∧ u.rd .ORD_STATE = 1 ∧ u.img = none ∧ u.timer .joinSend = none ∧ State.SameBut tailParts v u := by
  have hdone : Act.Touches eventParts (iff (!decide (s.rd .ORD_STATE = osJoining)) (raise .ORDER_RESYNC_DONE 0 im.k)) := touches_iff fun _ => touches_raise_eventParts ..
  have hcount : Act.Touches [.reg .ORD_DUPLICATES] (count .ORD_DUPLICATES (s.buf.filter fun r => !later r.order im.k).length) := touches_count
  have happ : Act.Touches [.reg .ORD_APPLIED] (set .ORD_APPLIED im.k) := touches_set
  have hstate : Act.Touches [.reg .ORD_STATE] (set .ORD_STATE osInOrder) := touches_set
  have himg : Act.Touches [.img] (one (.img none)) := touches_one rfl
  have hdis : Act.Touches [.tmr .joinSend] (disarm .joinSend) := touches_disarm
  have hnone (w : State) : ((one (.img none)).to w).img = none := rfl
  intro u
  rw [show u = (loadTail im s).to v from rfl, loadTail, all_cons_to, all_cons_to, all_cons_to, all_cons_to, all_cons_to, all_cons_to, all_nil_to]
  clear u
  have hwf1 := Act.to_wf (set .ORD_STATE osInOrder) (Act.to_wf (set .ORD_APPLIED im.k) hwf)
  have happlied : ((set .ORD_STATE osInOrder).to ((set .ORD_APPLIED im.k).to v)).rd .ORD_APPLIED = im.k := by
    rw [hstate.rd, set_rd (State.wf_regs hwf) (by decide)]
    exact Nat.mod_eq_of_lt hk
  have horder : ((set .ORD_STATE osInOrder).to ((set .ORD_APPLIED im.k).to v)).rd .ORD_STATE = 1 := set_rd (Act.to_regs_sorted _ (State.wf_regs hwf)) (by decide)
  have hsame : State.SameBut tailParts v ((set .ORD_STATE osInOrder).to ((set .ORD_APPLIED im.k).to v)) := (happ.mono.step v).trans (hstate.mono.step _)
  generalize (set .ORD_STATE osInOrder).to ((set .ORD_APPLIED im.k).to v) = w at *
  refine ⟨?_, ?_, ?_, ?_, hsame.trans ((himg.mono.step w).trans ((hdis.mono.step _).trans ((hdone.mono.step _).trans (hcount.mono.step _))))⟩
  · rw [hcount.rd, hdone.rd, hdis.rd, himg.rd, happlied]
  · rw [hcount.rd, hdone.rd, hdis.rd, himg.rd, horder]
  · rw [hcount.img, hdone.img, hdis.img, hnone]
  · rw [hcount.timer, hdone.timer, disarm_timer (Act.to_wf _ hwf1)]

/-- With nothing buffered, nothing follows an image. -/
theorem loadOn_bare (im : ImgBuf) (hbuf : s.buf = []) (hst : s.rd .ORD_STATE = 1) : State.SameBut [.buf, .tmr .gap, .tmr .replay] s ((loadOn im).to s) := by
  have hone : Act.Touches [.buf] (one (.buf [])) := touches_one rfl
  have hempty : ((one (.buf [])).to s).buf = [] := rfl
  have hto : (loadOn im).to s = (look fun s => if s.buf.any fun r => decide (256 ≤ orderDiff r.order s.nextOrder) then orderLost else settle).to
      ((drain 256).to ((one (.buf [])).to s)) := by
    rw [loadOn, all_cons_to, all_cons_to, all_cons_to, all_nil_to, look_runs (fun s => one (.buf (s.buf.filter fun r => later r.order im.k))), hbuf, List.filter_nil]
  rw [hto]
  have hsame := hone.step s
  generalize (one (.buf [])).to s = v at *
  have hsettle := settle_touches_timers hempty ((hsame.rd (by decide) 0 0).trans hst)
  rw [drain_to 256 hempty, look_runs, hempty, if_neg (by rw [List.any_nil]; decide)]
  exact (hsame.mono (by decide)).trans (hsettle.mono (by decide))

/-- The load of an image of streams alone at a centre with nothing buffered (R34, R35). -/
theorem imageLoad_bare (hwf : s.wf = true) {im : ImgBuf} (him : s.img = some im) (hr : s.imageReady = true) (hp : s.ports = 0) (hn : s.nodes = []) (hbuf : s.buf = [])
    (hobjs : ∀ o ∈ im.objs, ∃ g, o = .slot g) (hk : im.k < 2 ^ 48) : let u := imageLoad.to s
    u.rd .ORD_APPLIED = im.k ∧ u.rd .ORD_STATE = 1 ∧ u.img = none ∧ u.acts = [] ∧ u.legs = s.legsOf im ∧ u.timer .joinSend = none
    ∧ State.SameBut ([.qty .auRelease, .buf, .tmr .gap, .tmr .replay] ++ headParts ++ tailParts) s u := by
  have hobj : ∀ v : State, (each im.objs (loadObj im)).to v = v := fun _ => loadObj_slots hobjs
  obtain ⟨hacts, hlegs, hhead⟩ := loadHead_bare im hp
  have hwf1 := Act.to_wf (loadHead im s) hwf
  intro u
  rw [show u = _ from imageLoad_to him hr, hobj]
  clear u
  generalize (loadHead im s).to s = v at *
  have hrest := loadRest_bare im ((hhead.ports).trans hp) (hhead.nodes.trans hn)
  have hwf2 := Act.to_wf (loadRest im) hwf1
  generalize (loadRest im).to v = w at *
  obtain ⟨happ, hst, himg, htimer, htail⟩ := loadTail_facts (s := s) hwf2 hk
  have hbuf' : ((loadTail im s).to w).buf = [] := htail.buf.trans (hrest.buf.trans (hhead.buf.trans hbuf))
  have hon := loadOn_bare im hbuf' hst
  exact ⟨(hon.rd (by decide) 0 0).trans happ, (hon.rd (by decide) 0 0).trans hst, hon.img.trans himg, hon.acts.trans (htail.acts.trans (hrest.acts.trans hacts)),
    hon.legs.trans (htail.legs.trans (hrest.legs.trans hlegs)), (hon.timer (by decide) (by decide)).trans htimer,
    (hhead.mono (by decide +kernel)).trans ((hrest.mono (by decide +kernel)).trans ((htail.mono (by decide +kernel)).trans (hon.mono (by decide +kernel))))⟩

end

/-- STATE_IMAGE_LOAD where the module is in no pair (R34). -/
theorem imageStep_alone {s : State} (hr : s.imageReady = true) (hrole : s.rd .RD_ROLE = 0) (hst : (imageLoad.to s).rd .RD_STATE_PAIR = 0) :
    imageStep.to s = imageLoad.to s := by
  have hsync : syncCheck.to (imageLoad.to s) = imageLoad.to s := by
    rw [syncCheck, look_runs, hst, iff_to, if_neg (by simp)]
  have hlearn : (match s.img with | some im => iff s.mgrPair (learnImage im) | none => skip : Act).to s = s := by
    have hm : s.mgrPair = false := by simp [State.mgrPair, hrole]
    split
    · rw [hm, iff_to, if_neg (by decide)]
    · rfl
  rw [imageStep, look_runs, if_neg (by rw [hr]; decide), all_cons_to, all_cons_to, all_cons_to, all_nil_to]
  exact (congrArg (fun v => syncCheck.to (imageLoad.to v)) hlearn).trans hsync

theorem exec_stateImageLoad {s : State} {t : Nat} : exec (.stateImageLoad t) s = .next (imageStep.to (s.since t)) := by
  show run _ s = _
  rw [run_eq, all_cons_to, all_cons_to, all_nil_to, at_to_since]

/-- STATE_IMAGE_LOAD of an image of streams alone at a centre (R34, R35). -/
theorem stateImage_loaded {s : State} (hwf : s.wf = true) (t : Nat) {im : ImgBuf} (him : s.img = some im) (hr : (s.since t).imageReady = true)
    (hcentre : s.rd .SYS_ROLE = 3) (hrole : s.rd .RD_ROLE = 0) (hpair : s.rd .RD_STATE_PAIR = 0) (hbuf : s.buf = []) (hn : s.nodes = [])
    (hobjs : ∀ o ∈ im.objs, ∃ g, o = .slot g) (hk : im.k < 2 ^ 48) :
    ∃ u, exec (.stateImageLoad t) s = .next u ∧ u.rd .ORD_APPLIED = im.k ∧ u.rd .ORD_STATE = 1 ∧ u.img = none ∧ u.acts = [] ∧ u.legs = s.legsOf im
      ∧ u.timer .joinSend = none ∧ u.mem = s.mem ∧ u.out = s.out := by
  have hports : (s.since t).ports = 0 := by
    rw [(since_sameBut s t).ports]
    simp [State.ports, State.standAlone, State.isEdge, hcentre]
  obtain ⟨happ, hst, himg, hacts, hlegs, htimer, hsame⟩ := imageLoad_bare (s := s.since t) hwf him hr hports hn hbuf hobjs hk
  have halone := imageStep_alone (s := s.since t) hr hrole ((hsame.rd (by decide +kernel) 0 0).trans hpair)
  exact ⟨_, exec_stateImageLoad.trans (congrArg _ halone), happ, hst, himg, hacts, hlegs, htimer, hsame.mem, hsame.out⟩

/-- Settles O10: the part of an image is `image_part`, the load `stateImage_loaded`, joining `joinSend_sends`, `join_answered` and the lemmas about
`answered`, and the report of a node `occupancy_heard`. -/
theorem imagesJoiningAndOccupancy : Obligations.ImagesJoiningAndOccupancy := by
  intro s t hwf hfits hsu
  refine ⟨fun k stamp objs last hst => ?_, fun im him hr hcentre hrole hpair hbuf hn hobjs hk => ?_, fun ha hdue => ?_, fun node setId digest ha hm hn => ⟨?_, ?_⟩,
    fun sender hm hp he => ⟨fun start gen inc => ?_, fun hst => ?_, fun setId => ?_⟩, fun node applied digest openLinks ha hm hopen => ?_⟩
  · obtain ⟨u, hexec, hstate, hpart, honly, hmem⟩ := image_part hwf t hsu k stamp objs last hst
    refine ⟨u, hexec, hstate, ?_, honly, hmem⟩
    by_cases h : s.rd .ORD_STATE ≠ 0 ∧ outOfWindow k s.buf = true
    · rw [if_pos h] at hpart
      exact (if_pos h).mpr hpart
    · rw [if_neg h] at hpart
      obtain ⟨himg, hbuf, hout⟩ := hpart
      refine (if_neg h).mpr ⟨fun hn => himg.trans (congrArg some (imageWith_none hn ..)), fun im him hk => ?_, hbuf, hout⟩
      subst hk
      exact himg.trans (congrArg some (imageWith_same him ..))
  · exact stateImage_loaded hwf t him hr hcentre hrole hpair hbuf hn hobjs hk
  · obtain ⟨hout, htimer, hsame⟩ := joinSend_sends (s := s.since t) hsu ha hdue
    exact ⟨_, exec_joinSend, hout, htimer, hsame.regs rfl, hsame.mem⟩
  · have htag := (tagFails_touches node 0).step (s.since t)
    exact ⟨_, exec_join.trans (congrArg _ (joinArrives_forged (s := s.since t) hsu)), tagFails_counts (s := s.since t) _ _ (State.wf_regs hwf), htag.out,
      htag.only (by decide +kernel), htag.mem⟩
  · exact join_answered hwf t hsu ha hm hn setId digest
  · obtain ⟨h1, h2, h3, h4, hsame⟩ := answered_admitted (s := s.since t) (v := s) hwf start gen inc
    exact ⟨_, exec_joinAnswer hsu hm hp he, h1, h2, h3, h4, hsame.only (by decide +kernel), hsame.mem, hsame.out⟩
  · obtain ⟨h1, h2, h3, h4, hsame⟩ := answered_mismatch (s := s.since t) (v := s) hwf hst
    exact ⟨_, exec_joinAnswer hsu hm hp he, h1, h2, h3, h4, hsame.outside (by decide +kernel), hsame.mem, hsame.out⟩
  · obtain ⟨h1, h2, h3, h4, h5, h6, h7⟩ := enterRestricted_facts (s := s.since t) hwf setId
    exact ⟨_, exec_joinAnswer hsu hm hp he, h1, h2, h3, h4, h5, h6, h7⟩
  · exact occupancy_heard hwf t hsu ha hm hopen

end Sys2Proof.Machine
end

section
/-! SUPPORT. The release of a path and the write of an output's timing offset (R108, R147 to R149). -/
set_option Elab.async false
namespace Sys2Proof.Machine
open Host

-- PATH_RELEASE (R108) -------------------------------------------------------------------------------------------------------------------------------------

section
variable {s : State} {t : Nat}

/-- An output of this module still carries the stream of router input `src` that comes to router output `out`. -/
def State.carries (s : State) (src out : Nat) : Bool :=
  let (edge, p) := s.home out
  edge == s.ownNode && decide (p < s.ports) && s.rd .XS_CUR_BLACK p == 0 && s.rd .XS_LOCAL p == 0 && s.rd .XS_CUR p == src

theorem release_touches (src out : Nat) : (release src out).Touches legParts := touches_look fun _ => setLegs_touches _

theorem release_legs (src out : Nat) : ((release src out).to s).legs = dropUse s.legs src out := by rw [release, look_runs, setLegs_legs]

theorem exec_pathRelease (src out : Nat) :
    exec (.pathRelease t src out) s = .next ((iff (!s.carries src out) (release src out)).to (s.since t)) := by
  show run _ s = _
  rw [run_eq, all_cons_to, all_cons_to, all_nil_to, at_to_since, look_runs]
  rfl

theorem pathRelease_facts (src out : Nat) : let u := (iff (!s.carries src out) (release src out)).to (s.since t)
    u.legs = (if s.carries src out then s.legs else dropUse s.legs src out) ∧ State.SameBut (.now :: legParts) s u := by
  have hsince := (since_sameBut s t).mono (qs := .now :: legParts) (by decide +kernel)
  cases h : s.carries src out with
  | true => exact ⟨rfl, hsince⟩
  | false => exact ⟨release_legs (s := s.since t) src out, hsince.trans ((release_touches src out).mono.step _)⟩

end

-- VO_OFFSET (R147 to R149) --------------------------------------------------------------------------------------------------------------------------------

section
variable {s : State}

/-- The fields that show which frame buffers are held (R148). -/
def bufferParts : List Part := [.reg .VO_BUF, .reg .VO_BUF_INDEX, .reg .VO_FB_FREE]

/-- The lowest free frame buffer `b` becomes output `n`'s (R148). -/
def reserve (s : State) (n b : Nat) : Act := all [set .VO_BUF 1 n, set .VO_BUF_INDEX b n, set .VO_FB_FREE (s.rd .VO_FB_FREE - 1)]

theorem reserve_touches (n b : Nat) : (reserve s n b).Touches bufferParts := touches_all ⟨touches_set, touches_set, touches_set⟩

theorem freeBuffer_lt {b : Nat} (h : s.freeBuffer = some b) : b < 64 := List.mem_range.mp (List.mem_of_find?_eq_some h)

theorem reserve_rd {n b : Nat} (hs : SMap.sorted s.regs = true) (hfits : s.fits) (hn : n < 256) (hb : b < 64) : let u := (reserve s n b).to s
    u.rd .VO_BUF n = 1 ∧ u.rd .VO_BUF_INDEX n = b ∧ u.rd .VO_FB_FREE = s.rd .VO_FB_FREE - 1 := by
  have hbuf : Fld.VO_BUF.has n 0 = true := (Fld.has_iff ..).mpr ⟨hn, by decide⟩
  have hindex : Fld.VO_BUF_INDEX.has n 0 = true := (Fld.has_iff ..).mpr ⟨hn, by decide⟩
  have h1 := State.setReg_sorted .VO_BUF n 0 1 hs
  have h2 := State.setReg_sorted .VO_BUF_INDEX n 0 b h1
  have hfree : s.rd .VO_FB_FREE < 2 ^ 7 := hfits .VO_FB_FREE 0 0
  intro u
  simp only [u, reserve, all_cons_to, all_nil_to, set_to]
  refine ⟨?_, ?_, ?_⟩
  · rw [State.rd_setReg_other _ _ (.inl (by decide)), State.rd_setReg_other _ _ (.inl (by decide)), State.rd_setReg_same _ hs hbuf]
    rfl
  · rw [State.rd_setReg_other _ _ (.inl (by decide)), State.rd_setReg_same _ h1 hindex]
    exact Nat.mod_eq_of_lt hb
  · rw [State.rd_setReg_same _ h2 (by decide)]
    exact Nat.mod_eq_of_lt (Nat.lt_of_le_of_lt (Nat.sub_le ..) hfree)

/-- A shadowed write waits last of all. -/
theorem shadow_last (f : Fld) (i j v from_ : Nat) : ((shadow f i j v from_).to s).shadows.getLast? = some ⟨f, i, j, v, s.fieldDom f i, from_⟩ :=
  List.getLast?_concat

theorem shadow_touches (f : Fld) (i j v from_ : Nat) : (shadow f i j v from_).Touches [.shadows] := touches_look fun _ => touches_one rfl

/-- A write that is not refused waits for its frame start, a frame buffer being reserved first where it needs one and there is one (R148). -/
theorem offsetWrite_runs {n v from_ : Nat} (hb : s.noBuffer n v = false) (hi : s.idleBlock 5 = false) (hl : s.rd .VO_LINK_MODE n < 2) (hp : s.ipOffset n v = false) :
    ∃ a : Act, a.Touches bufferParts
      ∧ (offsetWrite n v from_).to s = (shadow .VO_OFFSET n 0 (ofSigned (s.clampOffset n v) 25) from_).to (a.to s)
      ∧ ∀ (fm : Format) (b : Nat), s.domFormat (s.rd .VO_DOMAIN n) = some fm → offsetNeeds (s.clampOffset n v) fm = true → s.rd .VO_BUF n = 0 →
          s.freeBuffer = some b → a = reserve s n b := by
  have hgo : ¬(s.noBuffer n v = true ∨ s.idleBlock 5 = true ∨ 2 ≤ s.rd .VO_LINK_MODE n ∨ s.ipOffset n v = true) := by
    simp only [hb, hi, hp, Bool.false_eq_true, false_or, or_false, not_le]
    exact hl
  rw [offsetWrite, look_runs, if_neg hgo]
  dsimp only
  rw [all_cons_to, all_cons_to, all_nil_to]
  refine ⟨_, ?_, rfl, fun fm b hfm hneed hbuf hfree => ?_⟩
  · split
    · exact reserve_touches ..
    · exact touches_skip
  · simp only [hfm, hneed, hbuf, hfree, BEq.rfl, Bool.and_self]
    rfl

/-- The report of a write of VO_OFFSET (R11). -/
def offsetSaid (s : State) (n v : Nat) (st : Status) : Sent :=
  .written (Fld.VO_OFFSET.bitAddr n 0 / 32 * 4) st.code [ofSigned (s.clampOffset n v) 25]

/-- What a write that is accepted does: it waits, and is reported where it was clamped (R148, R159). -/
def offsetTaken (s : State) (n v : Nat) : Act :=
  all [offsetWrite n v (s.house + 1), iff (s.clampOffset n v != toSigned v 25) (emit (offsetSaid s n v .CLAMPED))]

/-- VO_OFFSET_WRITE at an output that its configuration keeps in use and that leads its group (R148, R158, R174). -/
theorem exec_voOffsetWrite {n v : Nat} (hi : s.idleBlock 5 = false) (hl : s.rd .VO_LINK_MODE n < 2) : exec (.voOffsetWrite n v) s = .next (
    if s.ipOffset n v = true then { s with out := s.out ++ [offsetSaid s n v .IP_OUTPUT] }
    else if s.noBuffer n v = true then { s with out := s.out ++ [offsetSaid s n v .NO_BUFFER] }
    else (offsetTaken s n v).to s) := by
  show run _ s = _
  rw [run_eq, look_runs]
  dsimp only
  rw [if_neg (by rw [hi]; decide), if_neg (Nat.not_le.mpr hl)]
  split
  · rfl
  · split
    · rfl
    · rfl

theorem offsetTaken_facts (hs : SMap.sorted s.regs = true) (hfits : s.fits) {n v : Nat} (hn : n < 256) (hb : s.noBuffer n v = false) (hi : s.idleBlock 5 = false)
    (hl : s.rd .VO_LINK_MODE n < 2) (hp : s.ipOffset n v = false) : let u := (offsetTaken s n v).to s
    u.shadows.getLast? = some ⟨.VO_OFFSET, n, 0, ofSigned (s.clampOffset n v) 25, s.rd .VO_DOMAIN n, s.house + 1⟩
      ∧ u.out = s.out ++ (if s.clampOffset n v = toSigned v 25 then [] else [offsetSaid s n v .CLAMPED])
      ∧ (∀ (fm : Format) (b : Nat), s.domFormat (s.rd .VO_DOMAIN n) = some fm → offsetNeeds (s.clampOffset n v) fm = true → s.rd .VO_BUF n = 0 →
          s.freeBuffer = some b → u.rd .VO_BUF n = 1 ∧ u.rd .VO_BUF_INDEX n = b ∧ u.rd .VO_FB_FREE = s.rd .VO_FB_FREE - 1)
      ∧ State.SameBut ([.shadows, .out] ++ bufferParts) s u := by
  obtain ⟨a, ha, hrun, hreserve⟩ := offsetWrite_runs (from_ := s.house + 1) hb hi hl hp
  have hsay : Act.Touches [.out] (iff (s.clampOffset n v != toSigned v 25) (emit (offsetSaid s n v .CLAMPED))) := touches_iff fun _ => touches_emit
  have hwait := shadow_touches .VO_OFFSET n 0 (ofSigned (s.clampOffset n v) 25) (s.house + 1)
  have hdom : (a.to s).fieldDom .VO_OFFSET n = s.rd .VO_DOMAIN n := ha.rd (f := .VO_DOMAIN) s (i := n)
  intro u
  have hu : u = (iff (s.clampOffset n v != toSigned v 25) (emit (offsetSaid s n v .CLAMPED))).to
      ((shadow .VO_OFFSET n 0 (ofSigned (s.clampOffset n v) 25) (s.house + 1)).to (a.to s)) := by
    simp only [u, offsetTaken]
    rw [all_cons_to, all_cons_to, all_nil_to, hrun]
  have hrd (f : Fld) (i : Nat) : u.rd f i = (a.to s).rd f i := by
    rw [hu]
    exact State.rd_congr (((hsay.step _).regs rfl).trans ((hwait.step _).regs rfl)) ..
  refine ⟨?_, ?_, fun fm b hfm hneed hbuf hfree => ?_, ?_⟩
  · rw [hu, (hsay.step _).shadows, shadow_last, hdom]
  · rw [hu, iff_to, ← (ha.step s).out, ← (hwait.step (a.to s)).out]
    by_cases h : s.clampOffset n v = toSigned v 25
    · rw [if_neg (by simpa using h), if_pos h, List.append_nil]
    · rw [if_pos (by simpa using h), if_neg h]
      rfl
  · rw [hrd, hrd, hrd, hreserve fm b hfm hneed hbuf hfree]
    exact reserve_rd hs hfits hn (freeBuffer_lt hfree)
  · rw [hu]
    exact (ha.mono.step s).trans ((hwait.mono.step _).trans (hsay.mono.step _))

end

end Sys2Proof.Machine
end

section
/-! SUPPORT. Takes that execute at an output: what they can change, at that output and elsewhere, and what they leave pending (R126 to R139). -/
set_option Elab.async false
namespace Sys2Proof.Machine
open Host

-- What executing takes can change -------------------------------------------------------------------------------------------------------------------------

/-- The fields of the whole module that follow takes (R60, R138, R142). -/
def takeTotals : List Fld := [.XP_TAKES_ALL, .XP_UNTIMED_ALL, .FAB_SINGLE_PLANE, .SCHED_PENDING, .SCHED_PENDING_PEAK, .XP_PENDING_OUTS]

/-- What takes at outputs of `P` do apart from the list of what waits: they write the fields `fs` of those outputs, and totals. -/
def Eff.ofTake (fs : List Fld) (P : Nat → Prop) : Eff → Prop
  | .wr f i _ _ => f ∈ fs ∧ P i ∨ f ∈ takeTotals ∨ f ∈ eventFields
  | .put x _ _ _ => x ≠ .houseOff ∧ x ≠ .ordHeld
  | .evq _ => True
  | .sessions _ => True
  | .segs _ => True
  | _ => False

/-- The pending action is a take of output `n`, and no RESTORE. -/
def Pend.takes (n : Nat) (p : Pend) : Bool := match p.item with | .take o _ _ false _ => o == n | _ => false

/-- From `s` to `u` takes of outputs of `P` have executed: of these outputs the fields `fs` may have changed, and their takes may have gone. -/
structure State.TookAt (fs : List Fld) (P : Nat → Prop) (s u : State) : Prop where
  rd : ∀ f i j, (f ∈ fs → ¬ P i) → f ∉ takeTotals → f ∉ eventFields → u.rd f i j = s.rd f i j
  house : u.house = s.house
  ordHeld : u.q .ordHeld = s.q .ordHeld
  mem : u.mem = s.mem
  out : u.out = s.out
  acts : ∃ g : Pend → Bool, u.acts = s.acts.filter g ∧ ∀ p, (∀ o, P o → p.takes o = false) → g p = true

section
variable {fs gs : List Fld} {P Q : Nat → Prop} {s t u : State} {n : Nat}

theorem State.takesOf_eq (s : State) (n : Nat) : s.takesOf n = s.acts.filter (Pend.takes n) := rfl

theorem Pend.takes_unique {p : Pend} {m : Nat} (h : p.takes n = true) (hm : p.takes m = true) : m = n := by
  unfold Pend.takes at h hm
  split at h
  · rename_i hi
    simp only [hi, beq_iff_eq] at h hm
    exact hm.symm.trans h
  · cases h

theorem State.TookAt.refl (s : State) : State.TookAt fs P s s := ⟨fun _ _ _ _ _ _ => rfl, rfl, rfl, rfl, rfl, fun _ => true, by simp, fun _ _ => rfl⟩

theorem State.TookAt.trans (h : State.TookAt fs P s t) (k : State.TookAt fs P t u) : State.TookAt fs P s u where
  rd f i j h1 h2 h3 := (k.rd f i j h1 h2 h3).trans (h.rd f i j h1 h2 h3)
  house := k.house.trans h.house
  ordHeld := k.ordHeld.trans h.ordHeld
  mem := k.mem.trans h.mem
  out := k.out.trans h.out
  acts := by
    obtain ⟨g, hg, hg'⟩ := h.acts
    obtain ⟨g2, hk, hk'⟩ := k.acts
    refine ⟨fun p => g2 p && g p, ?_, fun p hp => Bool.and_eq_true_iff.mpr ⟨hk' p hp, hg' p hp⟩⟩
    rw [hk, hg, List.filter_filter]

theorem State.TookAt.mono (h : State.TookAt fs P s u) (hf : ∀ f ∈ fs, f ∈ gs) (hp : ∀ i, P i → Q i) : State.TookAt gs Q s u where
  rd f i j h1 h2 h3 := h.rd f i j (fun hm hi => h1 (hf f hm) (hp i hi)) h2 h3
  house := h.house
  ordHeld := h.ordHeld
  mem := h.mem
  out := h.out
  acts := by
    obtain ⟨g, hg, hg'⟩ := h.acts
    exact ⟨g, hg, fun p hq => hg' p fun o ho => hq o (hp o ho)⟩

/-- With the same registers, time and memory. -/
theorem State.TookAt.of_eq (hr : u.regs = s.regs) (hn : u.now = s.now) (hq : u.qty = s.qty) (hm : u.mem = s.mem) (ho : u.out = s.out) (ha : u.acts = s.acts) :
    State.TookAt fs P s u :=
  ⟨fun _ _ _ _ _ _ => State.rd_congr hr .., by simp only [State.house, State.q, hn, hq], by simp only [State.q, hq], hm, ho,
    fun _ => true, by simp [ha], fun _ _ => rfl⟩

theorem State.app_tookAt {e : Eff} (h : e.ofTake fs P) (s : State) : State.TookAt fs P s (s.app e) := by
  have all_acts {u : State} (ha : u.acts = s.acts) : ∃ g : Pend → Bool, u.acts = s.acts.filter g ∧ ∀ p, (∀ o, P o → p.takes o = false) → g p = true :=
    ⟨fun _ => true, by simp [ha], fun _ _ => rfl⟩
  cases e
  case wr f i j v =>
    refine ⟨fun g k l h1 h2 h3 => State.rd_setReg_other _ _ ?_, by simp [State.house], State.q_setReg .., State.setReg_mem ..,
      State.setReg_out .., all_acts (State.setReg_acts ..)⟩
    by_contra hn
    simp only [not_or, not_not] at hn
    obtain ⟨rfl, rfl, -⟩ := hn
    rcases h with ⟨hf, hp⟩ | ht | he
    · exact h1 hf hp
    · exact h2 ht
    · exact h3 he
  case put x i j v =>
    obtain ⟨hh, ho⟩ := h
    have hoff : (s.setQ x i j v).q .houseOff = s.q .houseOff := State.q_setQ_other _ _ (by decide) (by decide) (.inl hh.symm)
    exact ⟨fun _ _ _ _ _ _ => State.rd_setQ .., by simp only [State.app_put, State.house, State.setQ_now, hoff],
      State.q_setQ_other _ _ (by decide) (by decide) (.inl ho.symm), State.setQ_mem .., State.setQ_out .., all_acts (State.setQ_acts ..)⟩
  case evq => exact .of_eq rfl rfl rfl rfl rfl rfl
  case sessions => exact .of_eq rfl rfl rfl rfl rfl rfl
  case segs => exact .of_eq rfl rfl rfl rfl rfl rfl
  all_goals exact h.elim

theorem Act.Within.tookAt {a : Act} (h : a.Within (Eff.ofTake fs P)) (s : State) : State.TookAt fs P s (a.to s) :=
  h.keeps (P := fun t => State.TookAt fs P s t) (fun t _ he ht => ht.trans (State.app_tookAt he t)) (.refl s)

/-- Such an act leaves what waits alone. -/
theorem Act.Within.take_acts {a : Act} (h : a.Within (Eff.ofTake fs P)) (s : State) : (a.to s).acts = s.acts := by
  refine h.keeps (P := fun t => t.acts = s.acts) (fun t e he ht => Eq.trans ?_ ht) rfl
  cases e
  case wr => exact State.setReg_acts ..
  case put => exact State.setQ_acts ..
  case evq => rfl
  case sessions => rfl
  case segs => rfl
  all_goals exact he.elim

theorem Eff.ofEvent.ofTake {e : Eff} (h : e.ofEvent) : e.ofTake fs P := by
  cases e
  case wr => exact .inr (.inr h)
  case put x i j v =>
    cases (h : x = .evSerial)
    exact ⟨by decide, by decide⟩
  case evq => trivial
  case sessions => trivial
  all_goals exact h.elim

theorem raise_ofTake {e : Ev} {i p : Nat} : (raise e i p).Within (Eff.ofTake fs P) := (raise_within e i p).mono fun _ => Eff.ofEvent.ofTake

theorem within_list {p : Eff → Prop} {as : List Act} (h : as.Forall (Act.Within p)) : (all as).Within p := within_all (List.forall_iff_forall_mem.mp h)

theorem State.TookAt.acts_mem (h : State.TookAt fs P s u) {p : Pend} (hp : p ∈ u.acts) : p ∈ s.acts := by
  obtain ⟨g, hg, -⟩ := h.acts
  rw [hg] at hp
  exact (List.mem_filter.mp hp).1

/-- Takes elsewhere leave the pending takes of an output as they are. -/
theorem State.TookAt.takesOf (h : State.TookAt fs P s u) (hn : ¬ P n) : u.takesOf n = s.takesOf n := by
  obtain ⟨g, hg, hg'⟩ := h.acts
  rw [State.takesOf_eq, State.takesOf_eq, hg, List.filter_filter]
  refine List.filter_congr fun p _ => ?_
  cases hp : p.takes n with
  | false => rfl
  | true =>
    refine (Bool.true_and _).trans (hg' p fun o ho => ?_)
    by_contra hne
    rw [Bool.not_eq_false] at hne
    exact hn (Pend.takes_unique hp hne ▸ ho)

theorem takesDue_congr {imm : Bool} (ht : u.takesOf n = s.takesOf n) (hh : u.house = s.house) (ho : u.q .ordHeld = s.q .ordHeld) :
    u.takesDue n imm = s.takesDue n imm := by simp only [State.takesDue, ht, hh, ho]

theorem State.TookAt.takesDue (h : State.TookAt fs P s u) (hn : ¬ P n) (imm : Bool) : u.takesDue n imm = s.takesDue n imm :=
  takesDue_congr (h.takesOf hn) h.house h.ordHeld

theorem takesDue_takes {imm : Bool} {p : Pend} (h : p ∈ s.takesDue n imm) : p.takes n = true := by
  unfold State.takesDue at h
  dsimp only at h
  split at h
  · exact (List.mem_filter.mp (List.mem_filter.mp h).1).2
  · cases h

end

-- One output ----------------------------------------------------------------------------------------------------------------------------------------------

/-- The fields of an output in which an execution shows (R138). -/
def shownFields : List Fld :=
  [.XS_CUR, .XS_CUR_BLACK, .XS_GEN, .XS_UNTIMED, .XS_LAST_ORDER, .XS_LAST_STAMP_LO, .XS_LAST_STAMP_HI, .XS_LAST_KIND, .XS_PLANES, .XS_LOCAL]

/-- The counters of an output that count executions (R142). -/
def countFields : List Fld := [.XS_TAKES, .XS_IMMEDIATE_CNT, .XS_UNTIMED_CNT]

/-- The fields of an output that follow once takes have executed: what still waits, and what the output carries (R138, R151). -/
def laterFields : List Fld :=
  [.XS_PENDING, .XS_PEND, .XS_PEND_BLACK, .XS_PSTAMP_LO, .XS_PSTAMP_HI, .XS_PEND_CNT, .VO_CHARCOAL, .VO_CHARCOAL_WHY]

/-- All of them. -/
def takeFields : List Fld := shownFields ++ countFields ++ [.XS_FMT_CONFLICTS] ++ laterFields

section
variable {fs : List Fld} {n : Nat}

theorem within_set_take {f : Fld} {v j : Nat} (h : f ∈ fs := by decide) : (set f v n j).Within (Eff.ofTake fs (· = n)) := within_set (.inl ⟨h, rfl⟩)
theorem within_count_take {f : Fld} {k j : Nat} (h : f ∈ fs := by decide) : (count f k n j).Within (Eff.ofTake fs (· = n)) := within_count fun _ => .inl ⟨h, rfl⟩
theorem within_set_total {P : Nat → Prop} {f : Fld} {v i j : Nat} (h : f ∈ takeTotals := by decide) : (set f v i j).Within (Eff.ofTake fs P) :=
  within_set (.inr (.inl h))
theorem within_count_total {P : Nat → Prop} {f : Fld} {k i j : Nat} (h : f ∈ takeTotals := by decide) : (count f k i j).Within (Eff.ofTake fs P) :=
  within_count fun _ => .inr (.inl h)
theorem within_put_take {P : Nat → Prop} {x : Qty} {v : Int} {i j : Nat} (h : x ≠ .houseOff ∧ x ≠ .ordHeld := by decide) :
    (put x v i j).Within (Eff.ofTake fs P) :=
  within_put h

theorem pendShow_ofTake (n : Nat) : (pendShow n).Within (Eff.ofTake laterFields (· = n)) := by
  refine within_look fun s => within_list ⟨?_, within_set_take, within_look fun _ => within_set_total⟩
  cases s.takesOf n with
  | nil => exact within_list ⟨within_set_take, within_set_take, within_set_take, within_set_take, within_set_take⟩
  | cons p ps => exact within_list ⟨within_set_take, within_set_take, within_set_take, within_set_take, within_set_take⟩

theorem segMark_ofTake (n : Nat) : (segMark n).Within (Eff.ofTake laterFields (· = n)) :=
  within_look fun _ => within_ite (fun _ => within_skip) fun _ => within_one trivial

theorem outputFollowAt_ofTake (free : Bool) (n : Nat) : (outputFollowAt free n).Within (Eff.ofTake laterFields (· = n)) :=
  within_look fun _ => within_ite (fun _ => within_skip) fun _ => within_list ⟨within_put_take, within_set_take, within_set_take,
    within_iff fun _ => within_put_take, within_iff fun _ => raise_ofTake, within_iff fun _ => raise_ofTake, segMark_ofTake n⟩

theorem cutIn_ofTake (n : Nat) : (cutIn n).Within (Eff.ofTake laterFields (· = n)) := by
  refine within_look fun s => ?_
  dsimp only
  split
  · split
    · exact within_put_take
    · exact within_skip
  · exact within_skip

/-- What follows once the takes are pending no longer. -/
def takeSettles (n : Nat) : List Act := [pendShow n, outputFollowAt true n, cutIn n]

theorem takeSettles_ofTake (n : Nat) : (all (takeSettles n)).Within (Eff.ofTake laterFields (· = n)) :=
  within_list ⟨pendShow_ofTake n, outputFollowAt_ofTake true n, cutIn_ofTake n⟩

/-- An output whose interface changes carries its stream untimed (R146). -/
def untimedByInterface (n : Nat) : Act := look fun s => iff (s.q .voIfChange n != 0) (set .XS_UNTIMED 1 n)

theorem untimedByInterface_ofTake (n : Nat) : (untimedByInterface n).Within (Eff.ofTake [.XS_UNTIMED] (· = n)) :=
  within_look fun _ => within_iff fun _ => within_set_take

/-- An execution counts, as an immediate or an untimed one where it is (R130, R142). -/
def takeCount (n : Nat) (imm untimed : Bool) : List Act := [count .XS_TAKES 1 n, count .XP_TAKES_ALL,
  if imm then count .XS_IMMEDIATE_CNT 1 n else iff untimed (all [count .XS_UNTIMED_CNT 1 n, count .XP_UNTIMED_ALL])]

theorem takeCount_ofTake {imm untimed : Bool} : (all (takeCount n imm untimed)).Within (Eff.ofTake countFields (· = n)) :=
  within_list ⟨within_count_take, within_count_total, within_ite (fun _ => within_count_take) fun _ => within_iff fun _ =>
    within_list ⟨within_count_take, within_count_total⟩⟩

/-- The fields of output `n` that are listed take the values listed with them. -/
def setFields (n : Nat) (xs : List (Fld × Nat)) : Act := each xs fun x => set x.1 x.2 n

theorem setFields_ofTake {xs : List (Fld × Nat)} (h : xs.map Prod.fst = fs) : (setFields n xs).Within (Eff.ofTake fs (· = n)) :=
  within_each fun _ hx => within_set_take (h ▸ List.mem_map_of_mem hx)

/-- Of fields that differ, each reads the value listed with it. -/
theorem setFields_rd {xs : List (Fld × Nat)} {s : State} {f : Fld} {v : Nat} (hs : SMap.sorted s.regs = true) (hd : (xs.map Prod.fst).Nodup) (hm : (f, v) ∈ xs)
    (hh : f.has n 0 = true) : ((setFields n xs).to s).rd f n = v % 2 ^ f.desc.width := by
  induction xs generalizing s with
  | nil => cases hm
  | cons x xs ih =>
    rw [List.map_cons, List.nodup_cons] at hd
    rw [setFields, each_cons_to]
    rcases List.mem_cons.mp hm with rfl | hm
    · have hrest : (setFields n xs).Within (Eff.writes (xs.map Prod.fst)) := within_each fun _ hx => within_set (List.mem_map_of_mem hx)
      exact (hrest.rd hd.1 _ n 0).trans (set_rd hs hh)
    · exact ih (State.setReg_sorted _ _ _ _ hs) hd.2 hm

/-- What the crosspoint status shows of an execution: fields and values (R138, R142). -/
def takeShown (last : Pend) (gen untimed lo hi kind planes loc : Nat) : List (Fld × Nat) := [
  (.XS_CUR, last.takeSrc.1), (.XS_CUR_BLACK, b2n last.takeSrc.2.1), (.XS_GEN, (gen + 1) % 16), (.XS_UNTIMED, untimed), (.XS_LAST_ORDER, last.order % 2 ^ 32),
  (.XS_LAST_STAMP_LO, lo), (.XS_LAST_STAMP_HI, hi), (.XS_LAST_KIND, kind), (.XS_PLANES, planes), (.XS_LOCAL, loc)]

/-- The first half of an execution: what it shows, the stream that it brings, and the counts. -/
def takeCourse (n : Nat) (shown : List (Fld × Nat)) (brings : Act) (imm untimed : Bool) : Act := all [setFields n shown, brings, all (takeCount n imm untimed)]

/-- The second half: reports, and what follows once `x` alone waits. -/
def takeEnd (n : Nat) (reports : Act) (x : List Pend) : Act := all [reports, setActs x, all (takeSettles n), untimedByInterface n]

theorem all_append_to (as bs : List Act) (s : State) : (all (as ++ bs)).to s = (all bs).to ((all as).to s) := by
  induction as generalizing s with
  | nil => rfl
  | cons a as ih => rw [List.cons_append, all_cons_to, all_cons_to, ih]

/-- A list of acts may be carried out in parts. -/
theorem all_in_parts (as bs cs ds es : List Act) (a b : Act) (s : State) :
    (all (as ++ (bs ++ (cs ++ (ds ++ a :: (es ++ [b])))))).to s = (all [all ds, a, all es, b]).to ((all [all as, all bs, all cs]).to s) := by
  simp only [all_append_to, all_cons_to, all_nil_to]

/-- The course of an execution. -/
theorem takeAt_runs {due : List Pend} {last : Pend} (hl : due.getLast? = some last) (m : TakeMeas) (s : State) :
    ∃ (untimed lo hi kind planes loc : Nat) (late : Bool) (brings reports : Act),
      brings.Within (Eff.ofTake [] (· = n)) ∧ reports.Within (Eff.ofTake [.XS_FMT_CONFLICTS] (· = n))
      ∧ (last.stamp.imm = true → untimed = 1 ∧ (kind = 3 ∨ kind = 6))
      ∧ (takeAt n due m).to s = (takeEnd n reports (s.acts.filter fun p => !due.contains p)).to
          ((takeCourse n (takeShown last (s.rd .XS_GEN n) untimed lo hi kind planes loc) brings last.stamp.imm late).to s) := by
  obtain ⟨⟨src, black, sp⟩, hsrc⟩ : ∃ x, last.takeSrc = x := ⟨_, rfl⟩
  obtain ⟨⟨std, fmt, timed⟩, hin⟩ : ∃ x, s.incoming src black m = x := ⟨_, rfl⟩
  obtain ⟨l, hjudge⟩ : ∃ l, s.judge n last m = l := ⟨_, rfl⟩
  let imm := last.stamp.imm
  let late := l.untimedIn || l.untimedOut
  let loc := !black && (decodeTake sp).local_
  let remote := !black && !loc
  let planes := if black || loc then 0 else b2n (decodeTake sp).viaA + 2 * b2n (decodeTake sp).viaB
  let kind := lastKind l imm (due.any fun p => decide (0 < p.moved + p.shift))
  let done := encodeStamp { last.stamp with frame := if imm then s.frameNow last.dom else last.stamp.frame + last.moved }
  let shown := takeShown last (s.rd .XS_GEN n) (b2n (imm || late)) (done % 2 ^ 32) (done / 2 ^ 32) kind planes (b2n loc)
  let brings := [put .voStdStream std n, put .voFmtStream fmt n, put .voTimed (b2n timed) n,
    put .voVpidIn (if remote then m.inVpid.elim 0 (· + 1) else 0 : Nat) n, put .voTransp (b2n (remote && m.inTransp)) n]
  let reports := [iff l.conflict (all [count .XS_FMT_CONFLICTS 1 n, raise .TAKE_FORMAT_CONFLICT n last.order]),
    iff (remote && (planes == 1 || planes == 2)) (all [count .FAB_SINGLE_PLANE, raise .PATH_SINGLE_PLANE n])]
  have hflat : (takeAt n due m).to s = (all (shown.map (fun x => set x.1 x.2 n) ++ (brings ++ (takeCount n imm late ++ (reports
      ++ setActs (s.acts.filter fun p => !due.contains p) :: (takeSettles n ++ [untimedByInterface n])))))).to s := by
    simp only [shown, takeAt, takeShown, look_runs, hl, hsrc, hin, hjudge]
    rfl
  refine ⟨_, _, _, _, _, _, late, all brings, all reports, ?_, ?_, fun himm => ⟨?_, ?_⟩, hflat.trans (all_in_parts ..)⟩
  · exact within_list ⟨within_put_take, within_put_take, within_put_take, within_put_take, within_put_take⟩
  · exact within_list ⟨within_iff fun _ => within_list ⟨within_count_take, raise_ofTake⟩,
      within_iff fun _ => within_list ⟨within_count_total, raise_ofTake⟩⟩
  · simp only [imm, himm, Bool.true_or]
    rfl
  · simp only [kind, imm, himm, lastKind, if_true]
    split
    · exact .inr rfl
    · exact .inl rfl

end

end Sys2Proof.Machine
end

section
/-! SUPPORT. An output once takes have executed: what it shows, what is pending no longer, what every other output keeps (R56, R126, R127, R138). -/
set_option Elab.async false
namespace Sys2Proof.Machine
open Host

section
variable {n : Nat} {s : State}

-- The two halves of an execution --------------------------------------------------------------------------------------------------------------------------

/-- An execution counts 1, and an immediate one counts as such. -/
theorem takeCount_rd {imm untimed : Bool} (hs : SMap.sorted s.regs = true) (hn : n < 256) : let u := (all (takeCount n imm untimed)).to s
    u.rd .XS_TAKES n = min (s.rd .XS_TAKES n + 1) 0xFFFFFFFF
      ∧ (imm = true → u.rd .XS_IMMEDIATE_CNT n = min (s.rd .XS_IMMEDIATE_CNT n + 1) 0xFFFFFFFF) := by
  have hs2 := Act.to_regs_sorted (count .XP_TAKES_ALL) (Act.to_regs_sorted (count .XS_TAKES 1 n) hs)
  have hown : (count .XS_TAKES 1 n).Within (Eff.writes [.XS_TAKES]) := within_count fun _ => .head _
  have hall : (count .XP_TAKES_ALL).Within (Eff.writes [.XP_TAKES_ALL]) := within_count fun _ => .head _
  have hkind : (if imm then count .XS_IMMEDIATE_CNT 1 n else iff untimed (all [count .XS_UNTIMED_CNT 1 n, count .XP_UNTIMED_ALL]) : Act).Within
      (Eff.writes [.XS_IMMEDIATE_CNT, .XS_UNTIMED_CNT, .XP_UNTIMED_ALL]) :=
    within_ite (fun _ => within_count fun _ => .head _) fun _ => within_iff fun _ =>
      within_list ⟨within_count fun _ => .tail _ (.head _), within_count fun _ => .tail _ (.tail _ (.head _))⟩
  intro u
  have hu : u = (if imm then count .XS_IMMEDIATE_CNT 1 n else iff untimed (all [count .XS_UNTIMED_CNT 1 n, count .XP_UNTIMED_ALL]) : Act).to
      ((count .XP_TAKES_ALL).to ((count .XS_TAKES 1 n).to s)) := by
    simp only [u, takeCount]
    rw [all_cons_to, all_cons_to, all_cons_to, all_nil_to]
  refine ⟨?_, fun himm => ?_⟩
  · rw [hu, hkind.rd (by decide), hall.rd (by decide)]
    exact count_rd hs ((Fld.has_iff ..).mpr ⟨hn, by decide⟩)
  · rw [hu, if_pos himm, count_rd hs2 ((Fld.has_iff ..).mpr ⟨hn, by decide⟩), hall.rd (by decide), hown.rd (by decide)]

variable {shown : List (Fld × Nat)} {brings reports : Act} {imm untimed : Bool}

theorem takeCourse_to : (takeCourse n shown brings imm untimed).to s = (all (takeCount n imm untimed)).to (brings.to ((setFields n shown).to s)) := by
  rw [takeCourse, all_cons_to, all_cons_to, all_cons_to, all_nil_to]

theorem takeCourse_ofTake (hm : shown.map Prod.fst = shownFields) (hb : brings.Within (Eff.ofTake [] (· = n))) :
    (takeCourse n shown brings imm untimed).Within (Eff.ofTake takeFields (· = n)) := by
  have hmono {fs : List Fld} (h : ∀ f ∈ fs, f ∈ takeFields) (e : Eff) (he : e.ofTake fs (· = n)) : e.ofTake takeFields (· = n) := by
    cases e
    case wr => exact he.imp_left fun hf => ⟨h _ hf.1, hf.2⟩
    all_goals exact he
  exact within_list ⟨(setFields_ofTake hm).mono (hmono (by decide)), hb.mono (hmono (by decide)), (takeCount_ofTake (n := n)).mono (hmono (by decide))⟩

theorem takeCourse_counts (hs : SMap.sorted s.regs = true) (hn : n < 256) (hm : shown.map Prod.fst = shownFields) (hb : brings.Within (Eff.ofTake [] (· = n))) :
    let u := (takeCourse n shown brings imm untimed).to s
    u.rd .XS_TAKES n = min (s.rd .XS_TAKES n + 1) 0xFFFFFFFF
      ∧ (imm = true → u.rd .XS_IMMEDIATE_CNT n = min (s.rd .XS_IMMEDIATE_CNT n + 1) 0xFFFFFFFF) := by
  have hbefore {f : Fld} (hf : f ∈ countFields) : (brings.to ((setFields n shown).to s)).rd f n = s.rd f n := by
    obtain ⟨h1, h2, h3⟩ := (by decide : ∀ f ∈ countFields, f ∉ shownFields ∧ f ∉ takeTotals ∧ f ∉ eventFields) f hf
    exact ((hb.tookAt _).rd f n 0 (fun h => absurd h List.not_mem_nil) h2 h3).trans (((setFields_ofTake hm).tookAt s).rd f n 0 (fun h => absurd h h1) h2 h3)
  rw [takeCourse_to, ← hbefore (f := .XS_TAKES) (by decide), ← hbefore (f := .XS_IMMEDIATE_CNT) (by decide)]
  exact takeCount_rd (Act.to_regs_sorted _ (Act.to_regs_sorted _ hs)) hn

theorem takeCourse_shows (hs : SMap.sorted s.regs = true) (hn : n < 256) (hm : shown.map Prod.fst = shownFields) (hb : brings.Within (Eff.ofTake [] (· = n)))
    {f : Fld} {v : Nat} (hv : (f, v) ∈ shown) : ((takeCourse n shown brings imm untimed).to s).rd f n = v % 2 ^ f.desc.width := by
  have hf : f ∈ shownFields := hm ▸ List.mem_map_of_mem hv
  obtain ⟨h1, h2, h3, hsize, hone⟩ :=
    (by decide : ∀ f ∈ shownFields, f ∉ countFields ∧ f ∉ takeTotals ∧ f ∉ eventFields ∧ f.desc.n = 256 ∧ f.desc.m = 1) f hf
  rw [takeCourse_to, (takeCount_ofTake.tookAt _).rd f n 0 (fun h => absurd h h1) h2 h3, (hb.tookAt _).rd f n 0 (fun h => absurd h List.not_mem_nil) h2 h3]
  exact setFields_rd hs (hm ▸ by decide) hv ((Fld.has_iff ..).mpr ⟨hsize ▸ hn, hone ▸ Nat.one_pos⟩)

theorem takeEnd_to (x : List Pend) : (takeEnd n reports x).to s = (untimedByInterface n).to ((all (takeSettles n)).to ((setActs x).to (reports.to s))) := by
  rw [takeEnd, all_cons_to, all_cons_to, all_cons_to, all_cons_to, all_nil_to]

variable (hr : reports.Within (Eff.ofTake [.XS_FMT_CONFLICTS] (· = n)))
include hr

/-- Once `x` waits, what the first half has shown and counted stands but for XS_UNTIMED, which the interface may set. -/
theorem takeEnd_rd (x : List Pend) {f : Fld} (hf : f ∈ shownFields ++ countFields) (hu : f = .XS_UNTIMED → s.rd f n = 1)
    (hs : SMap.sorted s.regs = true) (hn : n < 256) :
    ((takeEnd n reports x).to s).rd f n = s.rd f n := by
  obtain ⟨h1, h2, h3, h4⟩ :=
    (by decide : ∀ f ∈ shownFields ++ countFields, f ∉ laterFields ∧ f ∉ [Fld.XS_FMT_CONFLICTS] ∧ f ∉ takeTotals ∧ f ∉ eventFields) f hf
  have hsettled : ((all (takeSettles n)).to ((setActs x).to (reports.to s))).rd f n = s.rd f n := by
    rw [((takeSettles_ofTake n).tookAt _).rd f n 0 (fun h => absurd h h1) h3 h4,
      setActs_rd _ _ (fun hm => h3 ((by decide : ∀ f ∈ [Fld.SCHED_PENDING, .SCHED_PENDING_PEAK], f ∈ takeTotals) f hm)),
      (hr.tookAt _).rd f n 0 (fun h => absurd h h2) h3 h4]
  have hsorted := Act.to_regs_sorted (all (takeSettles n)) (Act.to_regs_sorted (setActs x) (Act.to_regs_sorted reports hs))
  rw [takeEnd_to, ← hsettled]
  by_cases h : f = .XS_UNTIMED
  · subst h
    rw [hsettled, hu rfl, untimedByInterface, look_runs, iff_to]
    split
    · exact set_rd hsorted ((Fld.has_iff ..).mpr ⟨hn, by decide⟩)
    · exact hsettled.trans (hu rfl)
  · exact ((untimedByInterface_ofTake n).tookAt _).rd f n 0 (fun hm => absurd (List.mem_singleton.mp hm) h) h3 h4

omit hr in
theorem takeEnd_acts (x : List Pend) : ((takeEnd n reports x).to s).acts = x := by
  rw [takeEnd_to, (untimedByInterface_ofTake n).take_acts, (takeSettles_ofTake n).take_acts, setActs_acts]

/-- Where takes of the output alone have gone, the second half is one of an execution there. -/
theorem takeEnd_tookAt {g : Pend → Bool} (hg : ∀ p, p.takes n = false → g p = true) :
    State.TookAt takeFields (· = n) s ((takeEnd n reports (s.acts.filter g)).to s) := by
  have hacts := hr.take_acts s
  have h1 := hr.tookAt s
  rw [takeEnd_to, ← hacts]
  generalize reports.to s = v at *
  have hset := (setActs_touches (v.acts.filter g)).step v
  have h2 : State.TookAt takeFields (· = n) v ((setActs (v.acts.filter g)).to v) :=
    ⟨fun f i j _ ht _ => setActs_rd _ _ (fun hm => ht ((by decide : ∀ f ∈ [Fld.SCHED_PENDING, .SCHED_PENDING_PEAK], f ∈ takeTotals) f hm)) i j, hset.house,
      hset.q (by decide) (by decide) (by decide), hset.mem, hset.out, g, setActs_acts .., fun p hp => hg p (hp n rfl)⟩
  have h3 := (takeSettles_ofTake n).tookAt ((setActs (v.acts.filter g)).to v)
  have h4 := (untimedByInterface_ofTake n).tookAt ((all (takeSettles n)).to ((setActs (v.acts.filter g)).to v))
  exact (h1.mono (by decide) fun _ => id).trans (h2.trans ((h3.mono (by decide) fun _ => id).trans (h4.mono (by decide) fun _ => id)))

end

-- An execution --------------------------------------------------------------------------------------------------------------------------------------------

section
variable {n : Nat} {due : List Pend} {last : Pend} {s : State}

theorem takeShown_names {gen untimed lo hi kind planes loc : Nat} : (takeShown last gen untimed lo hi kind planes loc).map Prod.fst = shownFields := rfl

/-- Takes that execute at an output change that output alone, and no action but they is gone. -/
theorem takeAt_tookAt (hd : ∀ p ∈ due, p.takes n = true) (m : TakeMeas) : State.TookAt takeFields (· = n) s ((takeAt n due m).to s) := by
  cases hl : due.getLast? with
  | none =>
    rw [takeAt, look_runs, hl]
    exact .refl s
  | some last =>
    obtain ⟨untimed, lo, hi, kind, planes, loc, late, brings, reports, hbrings, hreports, -, hrun⟩ := takeAt_runs (n := n) hl m s
    have hcourse := takeCourse_ofTake (n := n) (imm := last.stamp.imm) (untimed := late)
      (takeShown_names (last := last) (gen := s.rd .XS_GEN n) (untimed := untimed) (lo := lo) (hi := hi) (kind := kind) (planes := planes) (loc := loc)) hbrings
    rw [hrun, ← hcourse.take_acts s]
    refine (hcourse.tookAt s).trans (takeEnd_tookAt hreports fun p hp => ?_)
    rw [Bool.not_eq_true', List.contains_eq_mem, decide_eq_false_iff_not]
    exact fun hm => Bool.false_ne_true (hp.symm.trans (hd p hm))

/-- What the output shows once takes have executed: the last of them in order (R56, R126, R138). -/
theorem takeAt_facts (hs : SMap.sorted s.regs = true) (hn : n < 256) (hl : due.getLast? = some last) (m : TakeMeas) : let u := (takeAt n due m).to s
    u.rd .XS_CUR n = last.takeSrc.1 % 4096 ∧ u.rd .XS_CUR_BLACK n = b2n last.takeSrc.2.1 ∧ u.rd .XS_GEN n = (s.rd .XS_GEN n + 1) % 16
      ∧ u.rd .XS_TAKES n = min (s.rd .XS_TAKES n + 1) 0xFFFFFFFF ∧ u.rd .XS_LAST_ORDER n = last.order % 2 ^ 32
      ∧ (last.stamp.imm = true → u.rd .XS_UNTIMED n = 1 ∧ u.rd .XS_IMMEDIATE_CNT n = min (s.rd .XS_IMMEDIATE_CNT n + 1) 0xFFFFFFFF
        ∧ (u.rd .XS_LAST_KIND n = 3 ∨ u.rd .XS_LAST_KIND n = 6))
      ∧ ∀ p ∈ due, p ∉ u.acts := by
  obtain ⟨untimed, lo, hi, kind, planes, loc, late, brings, reports, hbrings, hreports, himm, hrun⟩ := takeAt_runs (n := n) hl m s
  have hnames := takeShown_names (last := last) (gen := s.rd .XS_GEN n) (untimed := untimed) (lo := lo) (hi := hi) (kind := kind) (planes := planes) (loc := loc)
  obtain ⟨htakes, hcnt⟩ := takeCourse_counts (imm := last.stamp.imm) (untimed := late) hs hn hnames hbrings
  have hshows {f : Fld} {v : Nat} := takeCourse_shows (imm := last.stamp.imm) (untimed := late) hs hn hnames hbrings (f := f) (v := v)
  have hs' := Act.to_regs_sorted (takeCourse n (takeShown last (s.rd .XS_GEN n) untimed lo hi kind planes loc) brings last.stamp.imm late) hs
  intro u
  have hu : u = (takeEnd n reports _).to _ := hrun
  clear_value u
  generalize (takeCourse n (takeShown last (s.rd .XS_GEN n) untimed lo hi kind planes loc) brings last.stamp.imm late).to s = v at *
  have hend {f : Fld} (hf : f ∈ shownFields ++ countFields) (h1 : f = .XS_UNTIMED → v.rd f n = 1) : u.rd f n = v.rd f n := by
    rw [hu, takeEnd_rd hreports _ hf h1 hs' hn]
  have hshown {f : Fld} {w : Nat} (hf : f ∈ shownFields ++ countFields) (hne : f ≠ .XS_UNTIMED)
      (hm : (f, w) ∈ takeShown last (s.rd .XS_GEN n) untimed lo hi kind planes loc) : u.rd f n = w % 2 ^ f.desc.width :=
    (hend hf fun h => absurd h hne).trans (hshows hm)
  refine ⟨hshown (f := .XS_CUR) (by decide) (by decide) (by simp [takeShown]), ?_, ?_,
    (hend (f := .XS_TAKES) (by decide) nofun).trans htakes, ?_, fun h => ⟨?_, ?_, ?_⟩, fun p hp => ?_⟩
  · rw [hshown (f := .XS_CUR_BLACK) (w := b2n last.takeSrc.2.1) (by decide) (by decide) (by simp [takeShown])]
    cases last.takeSrc.2.1 <;> rfl
  · rw [hshown (f := .XS_GEN) (w := (s.rd .XS_GEN n + 1) % 16) (by decide) (by decide) (by simp [takeShown])]
    exact Nat.mod_mod ..
  · rw [hshown (f := .XS_LAST_ORDER) (w := last.order % 2 ^ 32) (by decide) (by decide) (by simp [takeShown])]
    exact Nat.mod_mod ..
  · have h1 : v.rd .XS_UNTIMED n = 1 := by
      rw [hshows (f := .XS_UNTIMED) (v := untimed) (by simp [takeShown]), (himm h).1]
      rfl
    exact (hend (by decide) fun _ => h1).trans h1
  · exact (hend (f := .XS_IMMEDIATE_CNT) (by decide) nofun).trans (hcnt h)
  · rw [hshown (f := .XS_LAST_KIND) (w := kind) (by decide) (by decide) (by simp [takeShown])]
    rcases (himm h).2 with rfl | rfl
    · exact .inl rfl
    · exact .inr rfl
  · rw [hu, takeEnd_acts, List.mem_filter]
    exact fun hm => by simp [hp] at hm

end

end Sys2Proof.Machine
end

section
/-! SUPPORT. IMMEDIATE_TAKE_EXECUTE, PATH_RELEASE and VO_OFFSET_WRITE (R54, R108, R126, R127, R148): O20. -/
set_option Elab.async false
namespace Sys2Proof.Machine
open Host

-- Where takes show ----------------------------------------------------------------------------------------------------------------------------------------

/-- Takes write the blocks of the fabric, the crosspoint, the outputs, the time and the events alone. -/
theorem State.TookAt.outside {P : Nat → Prop} {s u : State} (h : State.TookAt takeFields P s u) : s.outside [0x03, 0x04, 0x05, 0x0B, 0x0F] u := by
  intro f i j hf
  have hnot {fs : List Fld} (hfs : ∀ g ∈ fs, blockOf g.desc.addr ∈ [0x03, 0x04, 0x05, 0x0B, 0x0F]) : f ∉ fs := fun hm => hf (hfs f hm)
  exact h.rd f i j (fun hm => absurd hm (hnot (by decide +kernel))) (hnot (by decide +kernel)) (hnot (by decide +kernel))

-- IMMEDIATE_TAKE_EXECUTE ----------------------------------------------------------------------------------------------------------------------------------

section
variable {s : State} {t : Nat} {m : TakeMeas} {p : Pend}

theorem immediateLines_ofTake (n : Nat) : (immediateLines n).Within (Eff.ofTake takeFields (· = n)) := within_look fun _ => within_put_take

theorem immediateAt_to (hl : (s.takesDue m.out true).getLast? = some p) :
    (immediateAt m).to s = (immediateLines m.out).to ((takeAt m.out (s.takesDue m.out true) m).to s) := by
  have hne : (s.takesDue m.out true).isEmpty = false := by
    cases h : s.takesDue m.out true with
    | nil => rw [h] at hl; cases hl
    | cons => rfl
  rw [immediateAt, look_runs]
  dsimp only
  rw [hne, if_neg (by decide), all_cons_to, all_cons_to, all_nil_to]

theorem exec_immediateTakeExecute (hl : (s.since t).lineDue = []) : exec (.immediateTakeExecute t m) s = .next ((immediateAt m).to (s.since t)) := by
  show run _ s = _
  rw [run_eq, all_cons_to, all_cons_to, all_cons_to, all_nil_to, at_to_since, executeLines_none hl]

/-- An immediate take that is due lands at its output, and shows as immediate (R127, R142). -/
theorem immediateAt_facts (hs : SMap.sorted s.regs = true) (hn : m.out < 256) (hl : (s.takesDue m.out true).getLast? = some p) (himm : p.stamp.imm = true) :
    let u := (immediateAt m).to s
    u.rd .XS_CUR m.out = p.takeSrc.1 % 4096 ∧ u.rd .XS_CUR_BLACK m.out = b2n p.takeSrc.2.1 ∧ u.rd .XS_UNTIMED m.out = 1
      ∧ u.rd .XS_IMMEDIATE_CNT m.out = min (s.rd .XS_IMMEDIATE_CNT m.out + 1) 0xFFFFFFFF ∧ (u.rd .XS_LAST_KIND m.out = 3 ∨ u.rd .XS_LAST_KIND m.out = 6)
      ∧ (∀ q ∈ s.takesDue m.out true, q ∉ u.acts) ∧ State.TookAt takeFields (· = m.out) s u := by
  obtain ⟨hcur, hblack, -, -, -, hkind, hacts⟩ := takeAt_facts hs hn hl m
  obtain ⟨huntimed, hcount, hlast⟩ := hkind himm
  have htook := takeAt_tookAt (s := s) (due := s.takesDue m.out true) (fun q hq => takesDue_takes hq) m
  have hfresh : (immediateLines m.out).Within (Eff.writes []) := within_look fun _ => within_put trivial
  intro u
  have hu : u = (immediateLines m.out).to ((takeAt m.out (s.takesDue m.out true) m).to s) := immediateAt_to hl
  have hrd (f : Fld) : u.rd f m.out = ((takeAt m.out (s.takesDue m.out true) m).to s).rd f m.out := by rw [hu, hfresh.rd List.not_mem_nil]
  refine ⟨(hrd _).trans hcur, (hrd _).trans hblack, (hrd _).trans huntimed, (hrd _).trans hcount, ?_, fun q hq => ?_, ?_⟩
  · rw [hrd]
    exact hlast
  · rw [hu, (immediateLines_ofTake m.out).take_acts]
    exact hacts q hq
  · rw [hu]
    exact htook.trans ((immediateLines_ofTake m.out).tookAt _)

end

/-- Settles O20: the take is `immediateAt_facts`, the release `pathRelease_facts`, the offset `exec_voOffsetWrite` with `offsetTaken_facts`. -/
theorem immediateTakesAndReleases : Obligations.ImmediateTakesAndReleases := by
  intro s t hwf hfits
  have hs : SMap.sorted (s.since t).regs = true := State.wf_regs hwf
  refine ⟨fun m p hn hline hl himm => ?_, fun src out => ?_, fun out value hn hi hlink => ?_⟩
  · obtain ⟨hcur, hblack, huntimed, hcount, hkind, hacts, htook⟩ := immediateAt_facts hs hn hl himm
    exact ⟨_, exec_immediateTakeExecute hline, hcur, hblack, huntimed, hcount, hkind, hacts, htook.outside, htook.mem, htook.out⟩
  · obtain ⟨hlegs, hsame⟩ := pathRelease_facts (s := s) (t := t) src out
    exact ⟨_, exec_pathRelease src out, hlegs, hsame.outside (by decide +kernel), hsame.mem, hsame.out⟩
  · refine ⟨_, exec_voOffsetWrite hi hlink, ?_⟩
    cases hp : s.ipOffset out value with
    | true => exact ⟨rfl, fun _ _ _ _ _ => rfl, rfl⟩
    | false =>
      cases hb : s.noBuffer out value with
      | true => exact ⟨rfl, fun _ _ _ _ _ => rfl, rfl⟩
      | false =>
        obtain ⟨hwaits, hout, hbuf, hsame⟩ := offsetTaken_facts (State.wf_regs hwf) hfits hn hb hi hlink hp
        exact ⟨⟨hwaits, hout, hbuf⟩, hsame.only (by decide +kernel), hsame.mem⟩

end Sys2Proof.Machine
end

section
/-! SUPPORT. CLEAN_SWITCH_POINT: the pictures that leave, and the takes of every output of the domain (R51, R56, R126, R129, R139): O19. -/
set_option Elab.async false
namespace Sys2Proof.Machine
open Host

-- The pictures that leave ---------------------------------------------------------------------------------------------------------------------------------

/-- What the sending of pictures touches. -/
def leavingParts : List Part := [.out, .media, .reg .VO_FRAME_CRC, .qty .voFrameAt]

theorem outputSend_touches (F n : Nat) : (outputSend F n).Touches leavingParts := by
  refine touches_look fun s => ?_
  split
  · exact touches_skip
  · exact touches_all ⟨touches_emit, touches_set⟩

theorem segsKeep_touches (F n : Nat) : (segsKeep F n).Touches [.media] := by
  refine touches_look fun s => ?_
  split
  · exact touches_skip
  · exact touches_one rfl

theorem outputsSend_touches (d : Nat) : (outputsSend d).Touches leavingParts :=
  touches_look fun _ => touches_each fun _ _ => touches_all ⟨outputSend_touches .., (segsKeep_touches ..).mono, touches_put⟩

/-- A picture of output `n`. -/
def Sent.pictureOf (n : Nat) (x : Sent) : Prop := ∃ frame std five lines, x = .video n frame std five lines

/-- An output sends a picture of its own, or none. -/
theorem outputSend_out (F n : Nat) (s : State) : ∃ new, ((outputSend F n).to s).out = s.out ++ new ∧ ∀ x ∈ new, x.pictureOf n := by
  rw [outputSend, look_runs]
  split
  · exact ⟨[], (List.append_nil _).symm, by simp⟩
  · dsimp only
    rw [all_cons_to, all_cons_to, all_nil_to, set_to, State.setReg_out, emit_out]
    exact ⟨_, rfl, fun x hx => ⟨_, _, _, _, List.mem_singleton.mp hx⟩⟩

/-- What leaves in the course of several acts is what leaves in each. -/
theorem each_out {α : Type} {f : α → Act} {Q : α → Sent → Prop} (h : ∀ y s, ∃ new, ((f y).to s).out = s.out ++ new ∧ ∀ x ∈ new, Q y x)
    (ys : List α) (s : State) :
    ∃ new, ((each ys f).to s).out = s.out ++ new ∧ ∀ x ∈ new, ∃ y ∈ ys, Q y x := by
  induction ys generalizing s with
  | nil => exact ⟨[], (List.append_nil _).symm, by simp⟩
  | cons y ys ih =>
    obtain ⟨a, ha, hqa⟩ := h y s
    obtain ⟨b, hb, hqb⟩ := ih ((f y).to s)
    refine ⟨a ++ b, by rw [each_cons_to, hb, ha, List.append_assoc], fun x hx => ?_⟩
    rcases List.mem_append.mp hx with hx | hx
    · exact ⟨y, .head _, hqa x hx⟩
    · obtain ⟨z, hz, hq⟩ := hqb x hx
      exact ⟨z, .tail _ hz, hq⟩

/-- Only pictures of outputs of the domain leave. -/
theorem outputsSend_out (d : Nat) (s : State) : ∃ new, ((outputsSend d).to s).out = s.out ++ new
    ∧ ∀ x ∈ new, ∃ n, n < s.ports ∧ s.rd .VO_DOMAIN (s.voBase n) = d ∧ x.pictureOf n := by
  rw [outputsSend, look_runs]
  obtain ⟨new, hout, hq⟩ := each_out (Q := fun n x => x.pictureOf n) (f := fun n => all [outputSend (s.frameNow d - 1) n, segsKeep (s.frameNow d - 1 + 1) n,
      put .voFrameAt 0 n ((s.frameNow d - 1) % 2)]) (fun n v => by
    obtain ⟨new, hout, hq⟩ := outputSend_out (s.frameNow d - 1) n v
    exact ⟨new, by rw [all_cons_to, all_cons_to, all_cons_to, all_nil_to, put_to, State.setQ_out, (segsKeep_touches ..).out, hout], hq⟩)
    ((List.range s.ports).filter fun n => s.rd .VO_DOMAIN (s.voBase n) == d && s.rd .VO_PORT_MODE n == 1 && s.rd .VO_STATE n == 2
      && s.qn .voFrameAt n ((s.frameNow d - 1) % 2) == s.frameNow d - 1 + 1) s
  refine ⟨new, hout, fun x hx => ?_⟩
  obtain ⟨n, hn, hx⟩ := hq x hx
  simp only [List.mem_filter, List.mem_range, Bool.and_eq_true, beq_iff_eq] at hn
  exact ⟨n, hn.1, hn.2.1.1.1, hx⟩

-- The outputs of the domain -------------------------------------------------------------------------------------------------------------------------------

/-- The takes of an output that are due at a clean switch point execute. -/
def takesAtPoint (ms : List TakeMeas) (n : Nat) : Act := look fun s => takeAt n (s.takesDue n false) (measOf ms n)

/-- The outputs of domain `d` with due takes. -/
def State.switching (s : State) (d : Nat) : List Nat := (List.range s.ports).filter fun n => s.rd .VO_DOMAIN (s.voBase n) == d && !(s.takesDue n false).isEmpty

/-- A switch point is that of each of these outputs, and reports. -/
theorem switchPoint_runs (d : Nat) (ms : List TakeMeas) (s : State) :
    ∃ a : Act, (∀ P, a.Within (Eff.ofTake [] P)) ∧ (switchPoint d ms).to s = a.to ((each (s.switching d) (takesAtPoint ms)).to s) := by
  rw [switchPoint, look_runs]
  dsimp only
  rw [all_cons_to, all_cons_to, all_nil_to]
  exact ⟨_, fun _ => within_each fun _ _ => raise_ofTake, rfl⟩

section
variable {s : State} {ms : List TakeMeas} {ns : List Nat} {n : Nat} {P : Nat → Prop}

theorem takesAtPoint_to (ms : List TakeMeas) (n : Nat) (s : State) : (takesAtPoint ms n).to s = (takeAt n (s.takesDue n false) (measOf ms n)).to s := by
  rw [takesAtPoint, look_runs]

theorem takesAtPoint_tookAt (ms : List TakeMeas) (n : Nat) (s : State) : State.TookAt takeFields (· = n) s ((takesAtPoint ms n).to s) := by
  rw [takesAtPoint_to]
  exact takeAt_tookAt (fun _ hq => takesDue_takes hq) _

theorem takesAtPoints_tookAt (h : ∀ k ∈ ns, P k) : State.TookAt takeFields P s ((each ns (takesAtPoint ms)).to s) := by
  induction ns generalizing s with
  | nil => exact .refl s
  | cons k ns ih =>
    rw [each_cons_to]
    exact ((takesAtPoint_tookAt ms k s).mono (fun _ => id) fun i hi => hi ▸ h k (.head _)).trans (ih fun j hj => h j (.tail _ hj))

/-- What takes at other outputs leave alone at output `n`. -/
theorem State.TookAt.rd_own {u : State} (h : State.TookAt takeFields (· ≠ n) s u) {f : Fld} (hf : f ∈ takeFields) : u.rd f n = s.rd f n := by
  obtain ⟨ht, he⟩ := (by decide : ∀ f ∈ takeFields, f ∉ takeTotals ∧ f ∉ eventFields) f hf
  exact h.rd f n 0 (fun _ hn => hn rfl) ht he

/-- Each output once: output `n` shows the last of its own due takes, and none of them is pending any longer (R56, R126). -/
theorem takesAtPoints_facts (hs : SMap.sorted s.regs = true) (hn : n < 256) (hd : ns.Nodup) (hm : n ∈ ns) {p : Pend} (hl : (s.takesDue n false).getLast? = some p) :
    let u := (each ns (takesAtPoint ms)).to s
    u.rd .XS_CUR n = p.takeSrc.1 % 4096 ∧ u.rd .XS_CUR_BLACK n = b2n p.takeSrc.2.1 ∧ u.rd .XS_GEN n = (s.rd .XS_GEN n + 1) % 16
      ∧ u.rd .XS_TAKES n = min (s.rd .XS_TAKES n + 1) 0xFFFFFFFF ∧ u.rd .XS_LAST_ORDER n = p.order % 2 ^ 32 ∧ ∀ q ∈ s.takesDue n false, q ∉ u.acts := by
  obtain ⟨as, bs, rfl⟩ := List.append_of_mem hm
  have hnot : ∀ k ∈ as ++ bs, k ≠ n := fun k hk he => (List.nodup_middle.mp hd).notMem (he ▸ hk)
  have hbefore := takesAtPoints_tookAt (s := s) (ms := ms) (P := (· ≠ n)) fun k hk => hnot k (List.mem_append_left _ hk)
  have hs' := Act.to_regs_sorted (each as (takesAtPoint ms)) hs
  rw [each_append_to, each_cons_to]
  generalize (each as (takesAtPoint ms)).to s = v at *
  have hdue := hbefore.takesDue (n := n) (fun h => h rfl) false
  obtain ⟨hcur, hblack, hgen, htakes, horder, -, hacts⟩ := takeAt_facts hs' hn (hdue.symm ▸ hl : (v.takesDue n false).getLast? = some p) (measOf ms n)
  rw [← takesAtPoint_to] at hcur hblack hgen htakes horder hacts
  have hafter := takesAtPoints_tookAt (s := (takesAtPoint ms n).to v) (ms := ms) (P := (· ≠ n)) fun k hk => hnot k (List.mem_append_right _ hk)
  rw [hbefore.rd_own (by decide)] at hgen htakes
  exact ⟨(hafter.rd_own (by decide)).trans hcur, (hafter.rd_own (by decide)).trans hblack, (hafter.rd_own (by decide)).trans hgen,
    (hafter.rd_own (by decide)).trans htakes, (hafter.rd_own (by decide)).trans horder, fun q hq hu => hacts q (hdue ▸ hq) (hafter.acts_mem hu)⟩

theorem takesAtPoints_none (hn : n ∉ ns) : State.TookAt takeFields (· ≠ n) s ((each ns (takesAtPoint ms)).to s) :=
  takesAtPoints_tookAt fun _ hk he => hn (he ▸ hk)

end

-- The switch point ----------------------------------------------------------------------------------------------------------------------------------------

section
variable {s : State} {d n : Nat} {ms : List TakeMeas}

theorem switchPoint_tookAt (d : Nat) (ms : List TakeMeas) (s : State) : State.TookAt takeFields (fun _ => True) s ((switchPoint d ms).to s) := by
  obtain ⟨a, ha, hrun⟩ := switchPoint_runs d ms s
  rw [hrun]
  exact (takesAtPoints_tookAt fun _ _ => trivial).trans (((ha _).tookAt _).mono (by decide) fun _ => id)

/-- An output of the domain with due takes shows the last of them (R126, R129). -/
theorem switchPoint_takes (hs : SMap.sorted s.regs = true) (hn : n < s.ports) (hd : s.rd .VO_DOMAIN (s.voBase n) = d) {p : Pend}
    (hl : (s.takesDue n false).getLast? = some p) : let u := (switchPoint d ms).to s
    u.rd .XS_CUR n = p.takeSrc.1 % 4096 ∧ u.rd .XS_CUR_BLACK n = b2n p.takeSrc.2.1 ∧ u.rd .XS_GEN n = (s.rd .XS_GEN n + 1) % 16
      ∧ u.rd .XS_TAKES n = min (s.rd .XS_TAKES n + 1) 0xFFFFFFFF ∧ u.rd .XS_LAST_ORDER n = p.order % 2 ^ 32 ∧ ∀ q ∈ s.takesDue n false, q ∉ u.acts := by
  obtain ⟨a, ha, hrun⟩ := switchPoint_runs d ms s
  have hmem : n ∈ s.switching d := by
    refine List.mem_filter.mpr ⟨List.mem_range.mpr hn, ?_⟩
    cases h : s.takesDue n false with
    | nil => rw [h] at hl; cases hl
    | cons => simp [hd]
  obtain ⟨hcur, hblack, hgen, htakes, horder, hacts⟩ :=
    takesAtPoints_facts (ms := ms) hs (Nat.lt_of_lt_of_le hn s.ports_le) (List.nodup_range.filter _) hmem hl
  intro u
  have hu : u = a.to _ := hrun
  have hreport := ((ha (· ≠ n)).tookAt ((each (s.switching d) (takesAtPoint ms)).to s)).mono (gs := takeFields) (by decide) fun _ => id
  rw [← hu] at hreport
  exact ⟨(hreport.rd_own (by decide)).trans hcur, (hreport.rd_own (by decide)).trans hblack, (hreport.rd_own (by decide)).trans hgen,
    (hreport.rd_own (by decide)).trans htakes, (hreport.rd_own (by decide)).trans horder, fun q hq hm => hacts q hq (hreport.acts_mem hm)⟩

/-- An output that is not of the domain, or has no due take, keeps what it shows. -/
theorem switchPoint_none (hn : n ∉ s.switching d) {f : Fld} (hf : f ∈ takeFields) : ((switchPoint d ms).to s).rd f n = s.rd f n := by
  obtain ⟨a, ha, hrun⟩ := switchPoint_runs d ms s
  rw [hrun]
  exact ((takesAtPoints_none hn).trans (((ha _).tookAt _).mono (by decide) fun _ => id)).rd_own hf

theorem not_switching (h : s.rd .VO_DOMAIN (s.voBase n) = d → (s.takesDue n false).getLast? = none) : n ∉ s.switching d := by
  intro hm
  simp only [State.switching, List.mem_filter, Bool.and_eq_true, beq_iff_eq, Bool.not_eq_true'] at hm
  obtain ⟨-, hd, hne⟩ := hm
  rw [List.getLast?_eq_none_iff.mp (h hd)] at hne
  cases hne

end

-- CLEAN_SWITCH_POINT --------------------------------------------------------------------------------------------------------------------------------------

section
variable {s u : State} {ps : List Part}

theorem State.SameBut.lineDue (h : State.SameBut ps s u) (hp : .acts ∉ ps ∧ .now ∉ ps ∧ .qty .houseOff ∉ ps ∧ .qty .ordHeld ∉ ps := by decide +kernel) :
    u.lineDue = s.lineDue := by
  simp only [State.lineDue, h.acts hp.1, h.house ⟨hp.2.1, hp.2.2.1⟩, h.q hp.2.2.2 (i := 0) (j := 0) (by decide) (by decide)]

theorem State.SameBut.takesDue (h : State.SameBut ps s u) (n : Nat) (imm : Bool)
    (hp : .acts ∉ ps ∧ .now ∉ ps ∧ .qty .houseOff ∉ ps ∧ .qty .ordHeld ∉ ps := by decide +kernel) : u.takesDue n imm = s.takesDue n imm :=
  takesDue_congr (by rw [State.takesOf_eq, State.takesOf_eq, h.acts hp.1]) (h.house ⟨hp.2.1, hp.2.2.1⟩) (h.q hp.2.2.2 (by decide) (by decide))

theorem exec_cleanSwitchPoint {t d : Nat} {ms : List TakeMeas} (hl : (s.since t).lineDue = []) :
    exec (.cleanSwitchPoint t d ms) s = .next ((switchPoint d ms).to ((outputsSend d).to (s.since t))) := by
  have hline : ((outputsSend d).to (s.since t)).lineDue = [] := ((outputsSend_touches d).step _).lineDue.trans hl
  show run _ s = _
  rw [run_eq, all_cons_to, all_cons_to, all_cons_to, all_cons_to, all_nil_to, at_to_since, executeLines_none hline]

end

/-- Settles O19: pictures leave first (`outputsSend_out`), then each output of the domain with due takes shows the last of them (`switchPoint_takes`), and
every other output keeps what it shows (`switchPoint_none`). -/
theorem takesExecuteAtTheSwitchPoint : Obligations.TakesExecuteAtTheSwitchPoint := by
  intro s t d ms hwf _ hline
  have hsend := ((since_sameBut s t).mono (qs := .now :: leavingParts) (by decide +kernel)).trans ((outputsSend_touches d).mono.step (s.since t))
  have hs := Act.to_regs_sorted (outputsSend d) (s := s.since t) (State.wf_regs hwf)
  have hdue (n : Nat) : ((outputsSend d).to (s.since t)).takesDue n false = (s.since t).takesDue n false := ((outputsSend_touches d).step _).takesDue n false
  obtain ⟨new, hout, hnew⟩ := outputsSend_out d (s.since t)
  refine ⟨_, exec_cleanSwitchPoint hline, ?_⟩
  generalize (outputsSend d).to (s.since t) = v at *
  have hbase (n : Nat) : v.voBase n = s.voBase n := by rw [State.voBase, hsend.rd (by decide +kernel)]; rfl
  have hdom (n : Nat) : v.rd .VO_DOMAIN (v.voBase n) = s.rd .VO_DOMAIN (s.voBase n) := by rw [hbase, hsend.rd (by decide +kernel)]
  have hrd {f : Fld} (hf : f ∈ takeFields) (n : Nat) : v.rd f n = s.rd f n :=
    hsend.rd (fun hm => (by decide +kernel : ∀ f ∈ takeFields, Part.reg f ∉ .now :: leavingParts) f hf hm) n 0
  have htook := switchPoint_tookAt d ms v
  refine ⟨fun f i j hf => ?_, htook.mem.trans hsend.mem, ⟨new, htook.out.trans hout, fun x hx => ?_⟩, fun n hn => ?_⟩
  · exact (htook.outside f i j hf).trans (hsend.outside (by decide +kernel) f i j hf)
  · obtain ⟨n, hn, hd, frame, std, five, lines, hx⟩ := hnew x hx
    exact ⟨n, frame, std, five, lines, hx, hn, hd⟩
  · cases hl : (if s.rd .VO_DOMAIN (s.voBase n) = d then ((s.since t).takesDue n false).getLast? else none) with
    | none =>
      have hnone : n ∉ v.switching d := not_switching fun hd => by
        rw [hdue]
        rwa [if_pos ((hdom n).symm.trans hd)] at hl
      have hkeep {f : Fld} (hf : f ∈ takeFields) : ((switchPoint d ms).to v).rd f n = s.rd f n := (switchPoint_none hnone hf).trans (hrd hf n)
      exact ⟨hkeep (by decide), hkeep (by decide), hkeep (by decide), hkeep (by decide)⟩
    | some p =>
      rw [Option.ite_none_right_eq_some] at hl
      obtain ⟨hd, hl⟩ := hl
      obtain ⟨hcur, hblack, hgen, htakes, horder, hacts⟩ :=
        switchPoint_takes (ms := ms) hs (hsend.ports.symm ▸ hn) ((hdom n).trans hd) ((hdue n).symm ▸ hl)
      rw [hrd (by decide)] at hgen htakes
      exact ⟨hcur, hblack, hgen, htakes, horder, fun q hq => hacts q ((hdue n).symm ▸ hq)⟩

end Sys2Proof.Machine
end

section
/-! SUPPORT. The manager's frame count and the slip of house time (R46, R48, R60): what judging again can change, O11. -/
set_option Elab.async false
namespace Sys2Proof.Machine
open Host

-- Judging again (R48, R55, R58) ---------------------------------------------------------------------------------------------------------------------------

/-- What judging again touches, beside the refusals that leave: lateness, what waits, paths, and the events of these. -/
def rejudgeParts : List Part := [.reg .ORD_LATE, .reg .RD_LATE, .reg .ORD_REFUSED_LATE, .reg .RD_REFUSED] ++ pendParts ++ legParts

theorem noteLate_judged (order dom k : Nat) : (noteLate order dom k).Touches rejudgeParts := touches_all ⟨touches_count, touches_raise⟩

theorem addPend_judged (p : Pend) : (addPend p).Touches rejudgeParts := (addPend_touches p).mono

theorem placeTake_judged (order kind : Nat) (stamp : Stamp) (k was : Nat) (it : Item) (out : Nat) (pt : Pt) :
    (placeTake order kind stamp k was it out pt).Touches rejudgeParts := by
  refine touches_look fun s => ?_
  dsimp only
  cases s.domFormat stamp.dom with
  | none => exact touches_skip
  | some fx =>
    cases s.domFormat (s.domOfOut out) with
    | none => exact touches_skip
    | some fy =>
      refine touches_ite (fun _ => touches_all ⟨touches_iff fun _ => ?_, addPend_judged _⟩) fun _ => ?_
      · exact touches_all ⟨touches_iff fun _ => touches_count, noteLate_judged ..⟩
      · cases it with
        | path sp => exact touches_ite (fun _ => (establish_touches ..).mono) fun _ => addPend_judged _
        | _ => exact addPend_judged _

theorem placeAt_judged (order kind : Nat) (stamp : Stamp) (k was : Nat) (it : Item) (pt : Pt) : (placeAt order kind stamp k was it pt).Touches rejudgeParts := by
  refine touches_look fun s => ?_
  dsimp only
  have here (pt : Pt) : Act.Touches rejudgeParts (match s.domFormat stamp.dom with
      | some fm => addPend ⟨order, kind, stamp, stamp.dom, stamp.frame + k, pt, pointTime fm (stamp.frame + k) pt, k, 0, it⟩
      | none => skip) := by
    cases s.domFormat stamp.dom with
    | none => exact touches_skip
    | some fm => exact addPend_judged _
  cases it with
  | take out src black restore sp =>
    cases restore with
    | false => exact placeTake_judged ..
    | true => exact here _
  | path sp => exact touches_ite (fun _ => here _) fun _ => placeTake_judged ..
  | _ => exact here _

section
variable {qs : List Part} {s : State} (hq : ∀ p ∈ rejudgeParts, p ∈ qs)
include hq

/-- A refusal leaves only where a session waits for one. -/
theorem refuseLate_judged (hr : s.senders = [] ∨ .out ∈ qs) (order dom : Nat) : State.SameBut qs s ((refuseLate order dom).to s) := by
  have hlate : Act.Touches qs (count .ORD_REFUSED_LATE) := (touches_count : Act.Touches rejudgeParts _).mono hq
  have hdom : Act.Touches qs (count .RD_REFUSED 1 dom) := (touches_count : Act.Touches rejudgeParts _).mono hq
  have hevent : Act.Touches qs (raise .ACTION_REFUSED_LATE 0 order) := (touches_raise : Act.Touches rejudgeParts _).mono hq
  have hsay : Act.Touches qs (match s.senders.find? fun x => x.1 == order with | some x => emit (.refusal x.2 order) | none => skip) := by
    cases hx : s.senders.find? fun x => x.1 == order with
    | none => exact touches_skip
    | some x =>
      have hne : s.senders ≠ [] := fun h => by rw [h] at hx; cases hx
      exact touches_emit (hr.resolve_left hne)
  rw [refuseLate, look_runs]
  refine Act.Touches.step ?_ s
  exact touches_all ⟨hlate, hdom, hevent, hsay⟩

theorem judgeOne_judged (hr : s.senders = [] ∨ .out ∈ qs) (ps : List Pend) : State.SameBut qs s ((judgeOne ps).to s) := by
  have stays : Act.Touches qs (setActs (s.acts ++ ps)) := (setActs_touches _).mono fun p hp => hq p ((by decide +kernel :
    ∀ p ∈ [Part.acts, .reg .SCHED_PENDING, .reg .SCHED_PENDING_PEAK], p ∈ rejudgeParts) p hp)
  rw [judgeOne, look_runs]
  cases ps.head? with
  | none => exact .refl s
  | some p =>
    dsimp only
    cases s.domFormat p.stamp.dom with
    | none => exact stays.step s
    | some fx =>
      dsimp only
      split
      · exact stays.step s
      · cases lateBy fx p.stamp.frame (judgePt ps) s.house with
        | none => exact refuseLate_judged hq hr ..
        | some k0 =>
          refine Act.Touches.step ((?_ : Act.Touches rejudgeParts _).mono hq) s
          exact touches_all ⟨touches_iff fun _ => touches_all ⟨touches_count, noteLate_judged ..⟩, touches_each fun _ _ => placeAt_judged ..⟩

theorem judgeAgain_judged (hs : .senders ∉ qs) (hr : s.senders = [] ∨ .out ∈ qs) : State.SameBut qs s (judgeAgain.to s) := by
  have hclear : Act.Touches qs (setActs []) := ((setActs_touches _).mono : Act.Touches rejudgeParts _).mono hq
  have hshow : Act.Touches qs (each (List.range s.ports) pendShow) := ((touches_each fun n _ => (pendShow_touches n).mono) : Act.Touches rejudgeParts _).mono hq
  have hsend {u v : State} (h : State.SameBut qs u v) : v.senders = u.senders := h.part .senders hs
  have h1 := hclear.step s
  rw [judgeAgain, look_runs, all_cons_to, all_cons_to, all_cons_to, all_nil_to]
  refine h1.trans (State.SameBut.trans ?_ (hshow.step _))
  exact each_sameBut (P := fun u => u.senders = [] ∨ .out ∈ qs) (fun _ _ h => .imp_left (hsend h).trans)
    (fun _ _ _ hu => judgeOne_judged hq hu _) (hr.imp_left (hsend h1).trans)

end

-- RD_COUNT_VALID (R60) ------------------------------------------------------------------------------------------------------------------------------------

/-- A field written at each of some indices: what each reads afterwards. -/
theorem each_set_rd {f : Fld} (g : Nat → Nat) {k : Nat} (hk : f.has k 0 = true) {ks : List Nat} : ∀ {s : State}, SMap.sorted s.regs = true →
    ((each ks fun i => set f (g i) i).to s).rd f k = if k ∈ ks then g k % 2 ^ f.desc.width else s.rd f k := by
  induction ks with
  | nil => exact fun _ => rfl
  | cons i ks ih =>
    intro s hs
    rw [each_cons_to, ih (Act.to_regs_sorted _ hs)]
    by_cases h : k = i
    · subst h
      simp only [set_rd hs hk, ite_self, List.mem_cons, true_or, if_true]
    · simp only [set_to, State.rd_setReg_other _ _ (.inr (.inl h)), List.mem_cons, h, false_or]

theorem countValid_rd {s : State} (hs : SMap.sorted s.regs = true) {d : Nat} (hd : d < 8) :
    (countValid.to s).rd .RD_COUNT_VALID d = b2n (s.domReady d && (s.isManager || (s.q .fabCountSeen == 1 && s.q .slipPending == 0))) := by
  rw [countValid, look_runs]
  refine (each_set_rd _ ((Fld.has_iff ..).mpr ⟨hd, by decide⟩) hs).trans ?_
  rw [if_pos (List.mem_range.mpr hd)]
  cases s.domReady d && (s.isManager || (s.q .fabCountSeen == 1 && s.q .slipPending == 0)) <;> rfl

-- FAB_FRAME_COUNT_RECEIVE ---------------------------------------------------------------------------------------------------------------------------------

section
variable {s : State} {t : Nat}

/-- The count heard, beside the module's own (R48). -/
def countHeard (s : State) (count : Nat) : Act :=
  all [put .fabCountSeen 1, put .slipPending (b2n (s.frameNow 0 != count)), put .slipCount ((count : Int) - s.frameNow 0)]

theorem countHeard_touches (s : State) (count : Nat) : (countHeard s count).Touches [.qty .fabCountSeen, .qty .slipPending, .qty .slipCount] :=
  touches_all ⟨touches_put, touches_put, touches_put⟩

theorem countHeard_q (hs : SMap.sorted s.qty = true) (v : State) (count : Nat) : let u := (countHeard v count).to s
    u.q .fabCountSeen = 1 ∧ u.q .slipPending = b2n (v.frameNow 0 != count) ∧ u.q .slipCount = (count : Int) - v.frameNow 0 := by
  have h1 := State.setQ_sorted .fabCountSeen 0 0 1 hs
  have h2 := State.setQ_sorted .slipPending 0 0 (b2n (v.frameNow 0 != count)) h1
  intro u
  simp only [u, countHeard, all_cons_to, all_nil_to, put_to]
  refine ⟨?_, ?_, State.q_setQ_same _ h2 (by decide) (by decide)⟩
  · rw [State.q_setQ_other _ _ (by decide) (by decide) (.inl (by decide)), State.q_setQ_other _ _ (by decide) (by decide) (.inl (by decide)),
      State.q_setQ_same _ hs (by decide) (by decide)]
  · rw [State.q_setQ_other _ _ (by decide) (by decide) (.inl (by decide)), State.q_setQ_same _ h1 (by decide) (by decide)]

theorem exec_fabFrameCountReceive {count : Nat} (hm : s.isManager = false) (hd : s.domReady 0 = true) :
    exec (.fabFrameCountReceive t count) s = .next (countValid.to ((countHeard (s.since t) count).to (s.since t))) := by
  have hgo : (!(s.since t).isManager && (s.since t).domReady 0) = true := by
    show (!s.isManager && s.domReady 0) = true
    rw [hm, hd]
    rfl
  show run _ s = _
  rw [run_eq, all_cons_to, all_cons_to, all_nil_to, at_to_since, look_runs, hgo, iff_to, if_pos rfl, countHeard]
  simp only [all_cons_to, all_nil_to]

/-- The counts are valid in the domains that are ready where the two counts agree, and nowhere else (R48, R60). -/
theorem countHeard_valid (hwf : s.wf = true) (hm : s.isManager = false) (count : Nat) {d : Nat} (hd : d < 8) :
    (countValid.to ((countHeard (s.since t) count).to (s.since t))).rd .RD_COUNT_VALID d = if s.domReady d = true ∧ (s.since t).frameNow 0 = count then 1 else 0 := by
  have hheard := (countHeard_touches (s.since t) count).step (s.since t)
  obtain ⟨hseen, hslip, -⟩ := countHeard_q (s := s.since t) (State.wf_qty hwf) (s.since t) count
  have hready : ((countHeard (s.since t) count).to (s.since t)).domReady d = s.domReady d := by
    rw [State.domReady, hheard.rd (by decide +kernel)]
    rfl
  rw [countValid_rd (hheard.sorted (State.wf_regs hwf)) hd, hready, hheard.isManager.trans hm, hseen, hslip]
  by_cases hc : (s.since t).frameNow 0 = count
  · cases s.domReady d <;> simp [hc, b2n]
  · cases s.domReady d <;> simp [hc, b2n]

end

-- FRAME_COUNT_SLIP ----------------------------------------------------------------------------------------------------------------------------------------

section
variable {s : State} {t : Nat}

/-- The time of whole D0 frames that a slip adds (R48). -/
def State.slipTime (s : State) (fm : Format) : Int := s.q .slipCount * (fm.den * psS : Nat) / (fm.num : Nat)

/-- The slip itself: house time moves, and it counts (R48). -/
def slipHouse (s : State) (fm : Format) : Act := all [put .slipPending 0, put .houseOff (s.q .houseOff + s.slipTime fm), count .RT_COUNT_SLIPS]

/-- The slip, and what follows it. -/
def slipTaken (s : State) (fm : Format) : Act := all [slipHouse s fm, raise .FRAME_COUNT_SLIP 0, countValid, judgeAgain]

/-- What a slip touches beside what judging again does. -/
def slipParts : List Part := [.qty .slipPending, .qty .houseOff, .reg .RT_COUNT_SLIPS]

theorem slipHouse_touches (s : State) (fm : Format) : (slipHouse s fm).Touches slipParts := touches_all ⟨touches_put, touches_put, touches_count⟩

theorem exec_frameCountSlip_none (h : s.q .slipPending = 0) : exec (.frameCountSlip t) s = .next (s.since t) := by
  have hnone : (s.since t).q .slipPending = 0 := h
  show run _ s = _
  rw [run_eq, all_cons_to, all_cons_to, all_nil_to, at_to_since, look_runs, if_pos hnone]
  rfl

theorem exec_frameCountSlip {fm : Format} (h : s.q .slipPending = 1) (hf : s.domFormat 0 = some fm) :
    exec (.frameCountSlip t) s = .next ((slipTaken (s.since t) fm).to (s.since t)) := by
  have hsome : (s.since t).q .slipPending ≠ 0 := h.trans_ne (by decide)
  have hfm : (s.since t).domFormat 0 = some fm := hf
  show run _ s = _
  rw [run_eq, all_cons_to, all_cons_to, all_nil_to, at_to_since, look_runs, if_neg hsome, hfm, slipTaken, slipHouse]
  dsimp only
  simp only [all_cons_to, all_nil_to]
  rfl

theorem slipHouse_facts (hwf : s.wf = true) (v : State) (fm : Format) : let u := (slipHouse v fm).to s
    u.q .slipPending = 0 ∧ u.q .houseOff = v.q .houseOff + v.slipTime fm ∧ u.rd .RT_COUNT_SLIPS = min (s.rd .RT_COUNT_SLIPS + 1) 0xFFFFFFFF := by
  have h1 := State.setQ_sorted .slipPending 0 0 0 (State.wf_qty hwf)
  have hcount : Act.Touches [.reg .RT_COUNT_SLIPS] (count .RT_COUNT_SLIPS) := touches_count
  intro u
  have hu : u = (count .RT_COUNT_SLIPS).to ((s.setQ .slipPending 0 0 0).setQ .houseOff 0 0 (v.q .houseOff + v.slipTime fm)) := by
    simp only [u, slipHouse, all_cons_to, all_nil_to, put_to]
  refine ⟨?_, ?_, ?_⟩
  · rw [hu, hcount.q, State.q_setQ_other _ _ (by decide) (by decide) (.inl (by decide)), State.q_setQ_same _ (State.wf_qty hwf) (by decide) (by decide)]
  · rw [hu, hcount.q, State.q_setQ_same _ h1 (by decide) (by decide)]
  · rw [hu, count_rd (by simpa using State.wf_regs hwf), State.rd_setQ, State.rd_setQ]

/-- Block 0Bh idles only in a module of no role. -/
theorem State.idleBlock_time (h0 : s.rd .SYS_ROLE ≠ 0) (h4 : s.rd .SYS_ROLE < 4) : s.idleBlock 11 = false := by
  rw [State.idleBlock]
  generalize s.rd .SYS_ROLE = role at *
  interval_cases role
  · exact absurd rfl h0
  all_goals simp [idleIn]

/-- What follows the slip of house time leaves it as it is (R48). -/
theorem slipTaken_sameBut {qs : List Part} {fm : Format} (hq : ∀ p ∈ .reg .RD_COUNT_VALID :: rejudgeParts, p ∈ qs) (hs : .senders ∉ qs) (v : State)
    (hr : v.senders = [] ∨ .out ∈ qs) : State.SameBut qs ((slipHouse s fm).to v) ((slipTaken s fm).to v) := by
  have hhouse := (slipHouse_touches s fm).step v
  have hevent : (raise .FRAME_COUNT_SLIP 0 : Act).Touches qs := (touches_raise : Act.Touches (.reg .RD_COUNT_VALID :: rejudgeParts) _).mono hq
  have hvalid : countValid.Touches qs := (countValid_touches.mono : Act.Touches (.reg .RD_COUNT_VALID :: rejudgeParts) _).mono hq
  have hbefore := (hevent.step ((slipHouse s fm).to v)).trans (hvalid.step _)
  rw [slipTaken, all_cons_to, all_cons_to, all_cons_to, all_cons_to, all_nil_to]
  refine hbefore.trans (judgeAgain_judged (fun p hp => hq p (.tail _ hp)) hs (hr.imp_left fun h => ?_))
  exact (hbefore.part .senders hs).trans ((hhouse.part .senders (by decide +kernel)).trans h)

/-- The event of a slip stays latched (R48). -/
theorem slipTaken_latched {fm : Format} (hwf : s.wf = true) (h0 : s.rd .SYS_ROLE ≠ 0) (h4 : s.rd .SYS_ROLE < 4) (v : State) :
    ((slipTaken v fm).to s).latched .FRAME_COUNT_SLIP = true := by
  have hhouse := (slipHouse_touches v fm).step s
  have hrole : ((slipHouse v fm).to s).rd .SYS_ROLE = s.rd .SYS_ROLE := hhouse.rd (by decide +kernel) 0 0
  have hregs := hhouse.sorted (State.wf_regs hwf)
  have hlatch := raise_latches .FRAME_COUNT_SLIP 0 0 hregs (State.idleBlock_time (hrole.trans_ne h0) (hrole.trans_lt h4)) (by decide)
  have hregs' := Act.to_regs_sorted (raise .FRAME_COUNT_SLIP 0) hregs
  have hjudge (u : State) := judgeAgain_judged (s := u) (qs := .out :: rejudgeParts) (fun _ => .tail _) (by decide +kernel) (.inr (.head _))
  rw [slipTaken, all_cons_to, all_cons_to, all_cons_to, all_cons_to, all_nil_to]
  exact (hjudge _).latched (Act.to_regs_sorted _ hregs') _ ((countValid_touches.step _).latched hregs' _ hlatch)

end

/-- Settles O11: the count heard is `countHeard_q` and `countHeard_valid`; a slip is `slipHouse_facts`, which what follows it leaves as it is (`slipTaken_sameBut`). -/
theorem frameCountsAreCompared : Obligations.FrameCountsAreCompared := by
  intro s t hwf _
  refine ⟨fun count hm hd => ?_, exec_frameCountSlip_none, fun fm hslip hfm => ?_⟩
  · obtain ⟨hseen, hslip, hcount⟩ := countHeard_q (s := s.since t) (State.wf_qty hwf) (s.since t) count
    have hsame := ((since_sameBut s t).mono (qs := [.now, .reg .RD_COUNT_VALID, .qty .fabCountSeen, .qty .slipPending, .qty .slipCount]) (by decide +kernel)).trans
      (((countHeard_touches (s.since t) count).mono.step _).trans (countValid_touches.mono.step _))
    refine ⟨_, exec_fabFrameCountReceive hm hd, (countValid_touches.q _).trans hseen, (countValid_touches.q _).trans (hslip.trans ?_),
      (countValid_touches.q _).trans hcount, fun d => countHeard_valid hwf hm count, hsame.only (by decide +kernel), hsame.mem, hsame.out⟩
    by_cases h : (s.since t).frameNow 0 = count <;> simp [h, b2n]
  · obtain ⟨hpending, hhouse, hcount⟩ := slipHouse_facts (s := s.since t) hwf (s.since t) fm
    have hslipped := ((since_sameBut s t).mono (qs := .now :: slipParts) (by decide +kernel)).trans ((slipHouse_touches (s.since t) fm).mono.step _)
    have hrest := slipTaken_sameBut (s := s.since t) (fm := fm) (qs := .out :: .reg .RD_COUNT_VALID :: rejudgeParts)
      (fun _ => .tail _) (by decide +kernel) (s.since t) (.inr (.head _))
    refine ⟨_, exec_frameCountSlip hslip hfm, (hrest.q (by decide +kernel) (by decide) (by decide)).trans hpending, (hrest.rd (by decide +kernel) 0 0).trans hcount,
      (hrest.q (by decide +kernel) (by decide) (by decide)).trans hhouse, fun h0 h4 => slipTaken_latched (s := s.since t) hwf h0 h4 _, fun f i j hf => ?_,
      hrest.mem.trans hslipped.mem, fun hsend => ?_⟩
    · exact (hrest.outside (by decide +kernel) f i j hf).trans (hslipped.outside (by decide +kernel) f i j hf)
    · have hquiet := slipTaken_sameBut (s := s.since t) (fm := fm) (qs := .reg .RD_COUNT_VALID :: rejudgeParts)
        (fun _ => id) (by decide +kernel) (s.since t) (.inl hsend)
      exact hquiet.out.trans hslipped.out

end Sys2Proof.Machine
end

section
/-! SUPPORT. Numbers and lines of words in memory: what their bytes read once they are stored, and what every other byte reads (R81, R88). -/
set_option Elab.async false
namespace Sys2Proof.Machine

-- One number ------------------------------------------------------------------------------------------------------------

theorem State.peek_congr {s u : State} (h : u.mem = s.mem) (a : Nat) : u.peek a = s.peek a := by simp only [State.peek, h]

/-- What bytes read as one number depends on these bytes alone. -/
theorem State.loadLE_congr {s u : State} {n : Nat} : ∀ {a : Nat}, (∀ b, a ≤ b → b < a + n → u.peek b = s.peek b) → u.loadLE a n = s.loadLE a n := by
  induction n with
  | zero => exact fun _ => rfl
  | succ n ih =>
    intro a h
    rw [State.loadLE, State.loadLE, h a (by omega) (by omega), ih fun b _ _ => h b (by omega) (by omega)]

theorem storeLE_touches (a v n : Nat) : (storeLE a v n).Touches [.mem] := by
  induction n generalizing a v with
  | zero => exact touches_skip
  | succ n ih => exact touches_andThen (touches_one rfl) (ih ..)

/-- A byte outside the stored ones reads as before. -/
theorem storeLE_peek_other {n b : Nat} : ∀ {a v : Nat} {s : State}, b < a ∨ a + n ≤ b → ((storeLE a v n).to s).peek b = s.peek b := by
  induction n with
  | zero => exact fun _ => rfl
  | succ n ih =>
    intro a v s h
    rw [storeLE, andThen_to, one_to, ih (by omega)]
    exact SMap.get_put_other _ _ _ _ (show b ≠ a by omega)

/-- The stored bytes read as the number, cut to as many bytes. -/
theorem storeLE_loadLE {n : Nat} : ∀ {a v : Nat} {s : State}, SMap.sorted s.mem = true → ((storeLE a v n).to s).loadLE a n = v % 256 ^ n := by
  induction n with
  | zero => exact fun _ => (Nat.mod_one _).symm
  | succ n ih =>
    intro a v s hs
    have hfirst : ((storeLE (a + 1) (v / 256) n).to (s.app (.poke a (BitVec.ofNat 8 v)))).peek a = BitVec.ofNat 8 v := by
      rw [storeLE_peek_other (by omega)]
      exact SMap.get_put_same _ _ _ _ hs
    rw [storeLE, andThen_to, one_to, State.loadLE, hfirst, ih (SMap.sorted_put _ _ _ _ hs), BitVec.toNat_ofNat,
      show 256 ^ (n + 1) = 256 * 256 ^ n from Nat.pow_succ', Nat.mod_mul]

-- Lines of words --------------------------------------------------------------------------------------------------------

theorem storeLines_touches (spl a : Nat) (ls : List (List Nat)) : (storeLines spl a ls).Touches [.mem] := by
  induction ls generalizing a with
  | nil => exact touches_skip
  | cons l ls ih => exact touches_andThen (storeLE_touches ..) (ih _)

/-- A byte outside the stored lines reads as before. -/
theorem storeLines_peek_other {spl b : Nat} {ls : List (List Nat)} : ∀ {a : Nat} {s : State}, b < a ∨ a + ls.length * lineBytes spl ≤ b →
    ((storeLines spl a ls).to s).peek b = s.peek b := by
  induction ls with
  | nil => exact fun _ => rfl
  | cons l ls ih =>
    intro a s h
    rw [List.length_cons, Nat.succ_mul] at h
    rw [storeLines, andThen_to, ih (by omega), storeLE_peek_other (by omega)]

/-- Each stored line reads as its words, packed, cut to the bytes of a line. -/
theorem storeLines_loadLE {spl : Nat} {ls : List (List Nat)} : ∀ {a : Nat} {s : State} {L : Nat}, Memory.wf s.mem = true → L < ls.length →
    ((storeLines spl a ls).to s).loadLE (a + L * lineBytes spl) (lineBytes spl) = packWords 10 (ls.getD L []) % 256 ^ lineBytes spl := by
  induction ls with
  | nil => exact fun _ hL => absurd hL (Nat.not_lt_zero _)
  | cons l ls ih =>
    intro a s L hs hL
    have hs' := Act.to_mem_wf (storeLE a (packWords 10 l) (lineBytes spl)) hs
    rw [storeLines, andThen_to]
    cases L with
    | zero =>
      have hsorted : SMap.sorted s.mem = true := by
        simp only [Memory.wf, Bool.and_eq_true] at hs
        exact hs.1
      rw [Nat.zero_mul, Nat.add_zero, State.loadLE_congr fun b _ _ => storeLines_peek_other (by omega), storeLE_loadLE hsorted, List.getD_cons_zero]
    | succ L =>
      rw [List.getD_cons_succ, Nat.succ_mul, Nat.add_comm (L * _), ← Nat.add_assoc]
      exact ih hs' (Nat.lt_of_succ_lt_succ hL)

end Sys2Proof.Machine
end

section
/-! SUPPORT. What follows a step of an SDI input: the outputs that it feeds (R146, R151), and the reference entries that take their edges from it (R290, R293). -/
set_option Elab.async false
namespace Sys2Proof.Machine

/-- What a reference entry touches that becomes absent, or qualifies anew. -/
def entryParts : List Part := [.reg .RE_STATE, .reg .RE_LOSSES, .reg .RI_SYN_OK, .qty .rePresent, .tmr .reQual] ++ eventParts

/-- What follows a step of an SDI input. -/
def feedParts : List Part := entryParts ++ followParts

/-- An entry that becomes absent or qualifies anew is no candidate, so that the reference state stays (R293, R299). -/
theorem refEntry_same {s : State} {e new : Nat} (hs : SMap.sorted s.regs = true) (he : e < 8) (hn : new = reAbsent ∨ new = reQualifying) :
    State.SameBut entryParts s ((refEntry e new).to s) := by
  have hmove := (touches_moveState (f := .RE_STATE) (e := .REF_ENTRY_STATE) (i := e) (new := new) : Act.Touches entryParts _).step s
  have hstate : ((moveState .RE_STATE .REF_ENTRY_STATE e new).to s).rd .RE_STATE e = new :=
    moveState_rd hs ((Fld.has_iff ..).mpr ⟨he, by decide⟩) (by decide) (by rcases hn with rfl | rfl <;> decide)
  have hother : (new == reQualified) = false ∧ (new == reDrifting) = false ∧ (new == reDisqualified) = false := by rcases hn with rfl | rfl <;> decide
  have hstays : (refEntry e new).to s = (driftFollow e).to ((moveState .RE_STATE .REF_ENTRY_STATE e new).to s) := by
    rw [refEntry, look_runs]
    simp only [hother, Bool.false_and, all_cons_to, all_nil_to, iff_to, Bool.false_eq_true, if_false]
  have hdrift : (driftFollow e).to ((moveState .RE_STATE .REF_ENTRY_STATE e new).to s) = (moveState .RE_STATE .REF_ENTRY_STATE e new).to s := by
    rw [driftFollow, look_runs, hstate]
    rcases hn with rfl | rfl <;> simp
  rw [hstays, hdrift]
  exact hmove

theorem entriesOf_lt {s : State} {input e : Nat} (h : e ∈ s.entriesOf input) : e < 8 := List.mem_range.mp (List.mem_of_mem_filter h)

theorem entryStop_touches {e : Nat} (he : e < 8) : (disarm .reQual e).Touches entryParts := touches_disarm (by decide +kernel) (he.trans (by decide))
theorem entryRun_touches {e : Nat} (he : e < 8) (d : Nat) : (arm .reQual d e).Touches entryParts := touches_arm (by decide +kernel) (he.trans (by decide))

theorem qualTimer_touches {e : Nat} (he : e < 8) (on : Bool) : (qualTimer e on).Touches entryParts :=
  touches_look fun _ => touches_ite (fun _ => touches_iff fun _ => entryRun_touches he _) fun _ => entryStop_touches he

theorem qualify_same {s : State} {e : Nat} (hs : SMap.sorted s.regs = true) (he : e < 8) : State.SameBut entryParts s ((qualify e).to s) := by
  have hstop := (entryStop_touches he).step s
  rw [qualify, look_runs, all_cons_to, all_cons_to, all_cons_to, all_nil_to]
  exact (hstop.trans (refEntry_same (hstop.sorted hs) he (.inr rfl))).trans ((qualTimer_touches he _).step _)

theorem inputPresent_same {s : State} (hs : SMap.sorted s.regs = true) (input : Nat) : State.SameBut entryParts s ((inputPresent input).to s) := by
  rw [inputPresent, look_runs]
  split
  · exact .refl s
  · have hnote := (touches_put : Act.Touches entryParts (put .rePresent 1 input)).step s
    have hshow := (touches_iff fun _ => touches_set (f := .RI_SYN_OK) : Act.Touches entryParts
      (iff (decide (input ≤ 1)) (set .RI_SYN_OK (Nat.lor (s.rd .RI_SYN_OK) (2 ^ input))))).step ((put .rePresent 1 input).to s)
    rw [all_cons_to, all_cons_to, all_cons_to, all_nil_to]
    refine (hnote.trans hshow).trans (each_sameBut (P := fun u => SMap.sorted u.regs = true) (fun _ _ h => h.sorted) (fun e he u hu => ?_)
      ((hnote.trans hshow).sorted hs))
    rw [iff_to]
    split
    · exact qualify_same hu (entriesOf_lt he)
    · exact .refl u

theorem inputLost_same {s : State} (hs : SMap.sorted s.regs = true) (input : Nat) : State.SameBut entryParts s ((inputLost input).to s) := by
  have hnote := (touches_put : Act.Touches entryParts (put .rePresent 0 input)).step s
  have hshow := (touches_iff fun _ => touches_set (f := .RI_SYN_OK) : Act.Touches entryParts
    (iff (decide (input ≤ 1) && bit (s.rd .RI_SYN_OK) input) (set .RI_SYN_OK (s.rd .RI_SYN_OK - 2 ^ input)))).step ((put .rePresent 0 input).to s)
  rw [inputLost, look_runs, all_cons_to, all_cons_to, all_cons_to, all_nil_to]
  refine (hnote.trans hshow).trans (each_sameBut (P := fun u => SMap.sorted u.regs = true) (fun _ _ h => h.sorted) (fun e he u hu => ?_)
    ((hnote.trans hshow).sorted hs))
  rw [iff_to]
  split
  · have hcount := (touches_all ⟨entryStop_touches (entriesOf_lt he), touches_count⟩ :
      Act.Touches entryParts (all [disarm .reQual e, count .RE_LOSSES 1 e])).step u
    have hgone := hcount.trans (refEntry_same (hcount.sorted hu) (entriesOf_lt he) (.inl rfl))
    simpa only [all_cons_to, all_nil_to] using hgone
  · exact .refl u

theorem outputsOf_touches (p : Nat) : (outputsOf p).Touches followParts := touches_look fun _ => touches_each fun n _ => outputFollow_touches n

/-- Beside what input `n` does, only outputs and reference entries that depend on it change. -/
theorem sdiInput_same {s : State} (hs : SMap.sorted s.regs = true) (n : Nat) (a : Act) : State.SameBut feedParts (a.to s) ((sdiInput n a).to s) := by
  have hentry {u v : State} (h : State.SameBut entryParts u v) : State.SameBut feedParts u v := h.mono fun p hp => List.mem_append_left _ hp
  have hfeed : State.SameBut feedParts (a.to s) ((feeding n a).to s) := by
    rw [feeding, look_runs, all_cons_to, all_cons_to, all_nil_to, look_runs]
    exact ((touches_each fun p _ => outputsOf_touches p : Act.Touches followParts _).step _).mono fun p hp => List.mem_append_right _ hp
  rw [sdiInput, look_runs, all_cons_to, all_cons_to, all_nil_to, look_runs]
  refine hfeed.trans (each_sameBut (P := fun u => SMap.sorted u.regs = true) (fun _ _ h => h.sorted) (fun k _ u hu => ?_)
    (hfeed.sorted (Act.to_regs_sorted a hs)))
  dsimp only
  split
  · exact .refl u
  · split
    · exact hentry (inputLost_same hu _)
    · rw [iff_to]
      split
      · exact hentry (inputPresent_same hu _)
      · exact .refl u

end Sys2Proof.Machine
end

section
/-! SUPPORT. What a step of an SDI input can do at the input itself: its registers, its notes and frames, and events; and the states that it enters (R66, R68, R78). -/
set_option Elab.async false
namespace Sys2Proof.Machine

-- The effects at one input ----------------------------------------------------------------------------------------------

/-- What a step of input `n` does beside storing a frame's words: it writes the fields `fs` of the input, notes `xs`, keeps frames and pictures, and raises events. -/
def Eff.ofInput (fs : List Fld) (xs : List Qty) (n : Nat) : Eff → Prop
  | .wr f i _ _ => f ∈ fs ∧ i = n ∨ f ∈ eventFields
  | .put x _ _ _ => x ∈ xs ∨ x = .evSerial
  | .evq _ => True
  | .sessions _ => True
  | .frames _ => True
  | .pics _ => True
  | _ => False

section
variable {fs gs : List Fld} {xs ys : List Qty} {n : Nat} {a : Act}

theorem Eff.ofInput.mono {e : Eff} (h : e.ofInput fs xs n) (hf : ∀ f ∈ fs, f ∈ gs) (hx : ∀ x ∈ xs, x ∈ ys) : e.ofInput gs ys n := by
  cases e
  case wr => exact h.imp_left fun hw => ⟨hf _ hw.1, hw.2⟩
  case put => exact h.imp_left (hx _)
  all_goals exact h

theorem Act.Within.wider (h : a.Within (Eff.ofInput fs xs n)) (hf : ∀ f ∈ fs, f ∈ gs := by decide +kernel) (hx : ∀ x ∈ xs, x ∈ ys := by decide +kernel) :
    a.Within (Eff.ofInput gs ys n) := Act.Within.mono h fun _ he => he.mono hf hx

theorem within_set_input {f : Fld} {v j : Nat} (hf : f ∈ fs := by decide +kernel) : (set f v n j).Within (Eff.ofInput fs xs n) := within_set (.inl ⟨hf, rfl⟩)
theorem within_setS_input {f : Fld} {v : Int} {j : Nat} (hf : f ∈ fs := by decide +kernel) : (setS f v n j).Within (Eff.ofInput fs xs n) :=
  within_setS fun _ => .inl ⟨hf, rfl⟩
theorem within_count_input {f : Fld} {k j : Nat} (hf : f ∈ fs := by decide +kernel) : (count f k n j).Within (Eff.ofInput fs xs n) :=
  within_count fun _ => .inl ⟨hf, rfl⟩
theorem within_put_input {x : Qty} {v : Int} {i j : Nat} (hx : x ∈ xs := by decide +kernel) : (put x v i j).Within (Eff.ofInput fs xs n) := within_put (.inl hx)

theorem Eff.ofEvent.ofInput {e : Eff} (h : e.ofEvent) : e.ofInput fs xs n := by
  cases e
  case wr => exact .inr h
  case put => exact .inr h
  case evq => trivial
  case sessions => trivial
  all_goals exact h.elim

theorem within_raise_input {e : Ev} {i p : Nat} : (raise e i p).Within (Eff.ofInput fs xs n) := (raise_within e i p).mono fun _ => Eff.ofEvent.ofInput

variable (h : a.Within (Eff.ofInput fs xs n)) (s : State)
include h

/-- A register that is none of the fields of input `n`, and shows no event, keeps its value. -/
theorem Act.Within.input_rd {f : Fld} {i : Nat} (hf : f ∉ fs ∨ i ≠ n) (he : f ∉ eventFields := by decide) (j : Nat := 0) : (a.to s).rd f i j = s.rd f i j :=
  h.keeps (P := fun t => t.rd f i j = s.rd f i j) (fun t e hp ht => by
    rw [← ht]
    cases e
    case wr g k l v =>
      refine State.rd_setReg_other _ _ ?_
      by_contra hn
      simp only [not_or, not_not] at hn
      obtain ⟨rfl, rfl, -⟩ := hn
      exact hp.elim (fun hw => hf.elim (fun hf => hf hw.1) fun hi => hi hw.2) he
    case put => exact State.rd_setQ ..
    case evq => rfl
    case sessions => rfl
    case frames => rfl
    case pics => rfl
    all_goals exact hp.elim) rfl

theorem Act.Within.input_q {x : Qty} {i : Nat} (hi : i < 2 ^ 40) (hx : x ∉ xs := by decide) (he : x ≠ .evSerial := by decide) : (a.to s).q x i = s.q x i :=
  h.keeps (P := fun t => t.q x i = s.q x i) (fun t e hp ht => by
    rw [← ht]
    cases e
    case wr => exact State.q_setReg ..
    case put y _ _ _ => exact State.q_setQ_other _ _ hi (by decide) (.inl fun hy => hp.elim (fun hm => hx (hy ▸ hm)) fun hm => he (hy.trans hm))
    case evq => rfl
    case sessions => rfl
    case frames => rfl
    case pics => rfl
    all_goals exact hp.elim) rfl

theorem Act.Within.input_mem : (a.to s).mem = s.mem :=
  Act.Within.mem (Act.Within.mono h fun e he => by cases e <;> first | exact he.elim | trivial) s

theorem Act.Within.input_out : (a.to s).out = s.out :=
  h.keeps (P := fun t => t.out = s.out) (fun t e hp ht => by
    rw [← ht]
    cases e
    case wr => exact State.setReg_out ..
    case put => exact State.setQ_out ..
    case evq => rfl
    case sessions => rfl
    case frames => rfl
    case pics => rfl
    all_goals exact hp.elim) rfl

end

-- The input's states ----------------------------------------------------------------------------------------------------

/-- The fields that an input writes as it changes state, beside that state and the converter of its audio; the notes of its state and of the frames that it judges. -/
def deliveryFields : List Fld := [.VI_MISMATCH_WHY, .VI_ALIGN_STATE, .VI_TIMED, .VI_LATENCY_LINES]
def leaveFields : List Fld := .VI_STATE :: deliveryFields
def judgeFields : List Fld := .VI_ASRC :: leaveFields
def judgeNotes : List Qty := [.viReadP, .viHold, .viAlignCnt, .viOther, .viSame, .viLastFmt, .viLastOk]

/-- What changes with the input's state (R66, R78). -/
def stateTail (s : State) (n new : Nat) : List Act :=
  [put .viOther 0 n, iff (new != viMismatch) (set .VI_MISMATCH_WHY 0 n), iff (s.rd .VI_STATE n == viReady && s.rd .VI_ALIGN n != 0) (inputNoSource n),
    iff (new == viReady) (all [set .VI_ASRC (1 - s.rd .VI_SYNC_SRC n) n, inputAligning n])]

theorem inputState_eq (n new : Nat) : inputState n new = look fun s =>
    if s.rd .VI_STATE n = new then skip else all (moveState .VI_STATE .INPUT_STATE_CHANGE n new :: stateTail s n new) := rfl

theorem inputSilent_ofInput (n : Nat) : (inputSilent n).Within (Eff.ofInput deliveryFields judgeNotes n) :=
  within_look fun _ => within_ite (fun _ => within_skip) fun _ =>
    within_list ⟨within_set_input, within_set_input, within_set_input, within_put_input, within_put_input, within_raise_input⟩

theorem inputNoSource_ofInput (n : Nat) : (inputNoSource n).Within (Eff.ofInput deliveryFields judgeNotes n) :=
  within_look fun _ => within_ite (fun _ => within_skip) fun _ => within_list ⟨inputSilent_ofInput n, within_one trivial⟩

theorem inputAligning_ofInput (n : Nat) : (inputAligning n).Within (Eff.ofInput deliveryFields judgeNotes n) := by
  refine within_look fun s => within_ite (fun _ => within_skip) fun _ => ?_
  split
  · exact within_list ⟨within_set_input, within_set_input, within_put_input⟩
  · exact within_list ⟨within_set_input, within_set_input, within_set_input⟩
  · exact within_skip

theorem moveInput_ofInput (n new : Nat) : (moveState .VI_STATE .INPUT_STATE_CHANGE n new).Within (Eff.ofInput leaveFields judgeNotes n) :=
  within_look fun _ => within_ite (fun _ => within_skip) fun _ => within_list ⟨within_set_input, within_raise_input⟩

section
variable {fs : List Fld} {n new why : Nat} {s : State}

/-- The converter of the input's audio is set where the input becomes READY alone. -/
theorem stateTail_ofInput (hf : ∀ f ∈ deliveryFields, f ∈ fs) (ha : new = viReady → .VI_ASRC ∈ fs) :
    (all (stateTail s n new)).Within (Eff.ofInput fs judgeNotes n) :=
  within_list ⟨within_put_input, within_iff fun _ => within_set_input (hf _ (.head _)), within_iff fun _ => (inputNoSource_ofInput n).wider hf,
    within_iff fun h => within_list ⟨within_set_input (ha (by simpa using h)), (inputAligning_ofInput n).wider hf⟩⟩

theorem inputState_ofInput (n new : Nat) : (inputState n new).Within (Eff.ofInput judgeFields judgeNotes n) := by
  rw [inputState_eq]
  exact within_look fun _ => within_ite (fun _ => within_skip) fun _ => within_all_cons (moveInput_ofInput n new).wider
    (stateTail_ofInput (by decide) fun _ => .head _)

theorem inputState_leaves (hnew : new ≠ viReady) : (inputState n new).Within (Eff.ofInput leaveFields judgeNotes n) := by
  rw [inputState_eq]
  exact within_look fun _ => within_ite (fun _ => within_skip) fun _ => within_all_cons (moveInput_ofInput n new)
    (stateTail_ofInput (by decide) fun h => absurd h hnew)

theorem inputMismatch_ofInput (n why : Nat) : (inputMismatch n why).Within (Eff.ofInput leaveFields judgeNotes n) :=
  within_look fun _ => within_ite (fun _ => within_list ⟨within_iff fun _ => within_raise_input, within_set_input⟩) fun _ =>
    within_list ⟨inputState_leaves (by decide), within_set_input, within_raise_input, within_iff fun _ => within_raise_input⟩

theorem inputRejudge_ofInput (n : Nat) : (inputRejudge n).Within (Eff.ofInput judgeFields judgeNotes n) :=
  within_look fun _ => within_ite (fun _ => within_skip) fun _ => within_ite
    (fun _ => within_list ⟨within_iff fun _ => within_put_input, inputState_ofInput n _⟩) fun _ => (inputMismatch_ofInput n _).wider

/-- The state that an input enters is shown (R66). -/
theorem inputState_rd (hs : SMap.sorted s.regs = true) (hn : n < 256) (hnew : new < 8) : ((inputState n new).to s).rd .VI_STATE n = new := by
  have htail := stateTail_ofInput (fs := .VI_ASRC :: deliveryFields) (s := s) (n := n) (new := new) (by decide) fun _ => .head _
  rw [inputState_eq, look_runs]
  split
  · assumption
  · rw [all_cons_to, htail.input_rd _ (.inl (by decide))]
    exact moveState_rd hs ((Fld.has_iff ..).mpr ⟨hn, by decide⟩) (by decide) hnew

/-- An input in MISMATCH shows why (R66, R68). -/
theorem inputMismatch_shows (hs : SMap.sorted s.regs = true) (hn : n < 256) (hwhy : why < 8) :
    ((inputMismatch n why).to s).rd .VI_STATE n = viMismatch ∧ ((inputMismatch n why).to s).rd .VI_MISMATCH_WHY n = why := by
  have hh : Fld.VI_MISMATCH_WHY.has n 0 = true := (Fld.has_iff ..).mpr ⟨hn, by decide⟩
  have hset {v : State} (hv : SMap.sorted v.regs = true) : ((set .VI_MISMATCH_WHY why n).to v).rd .VI_MISMATCH_WHY n = why :=
    (set_rd hv hh).trans (Nat.mod_eq_of_lt hwhy)
  have hkeep (v : State) : ((set .VI_MISMATCH_WHY why n).to v).rd .VI_STATE n = v.rd .VI_STATE n := State.rd_setReg_other _ _ (.inl (by decide))
  have hraise (e : Ev) (p : Nat) : (raise e n p).Within (Eff.ofInput [] [] n) := within_raise_input
  rw [inputMismatch, look_runs]
  split
  next h =>
    have hpre (c : Bool) := (within_iff fun _ => hraise .QUAD_LINK_FAULT 0 : (iff c (raise .QUAD_LINK_FAULT n)).Within _)
    rw [all_cons_to, all_cons_to, all_nil_to, hkeep, (hpre _).input_rd _ (.inl (by decide))]
    exact ⟨h, hset (Act.to_regs_sorted _ hs)⟩
  next =>
    have hpost := within_list (as := [raise .FORMAT_MISMATCH n why, iff (why == 4) (raise .QUAD_LINK_FAULT n)])
      ⟨hraise .FORMAT_MISMATCH why, within_iff fun _ => hraise .QUAD_LINK_FAULT 0⟩
    rw [all_cons_to, all_cons_to, hpost.input_rd _ (.inl (by decide)), hpost.input_rd _ (.inl (by decide)), hkeep]
    exact ⟨inputState_rd hs hn (by decide), hset (Act.to_regs_sorted _ hs)⟩

/-- Entering MISMATCH is latched (R83, R394). -/
theorem inputMismatch_latches (hs : SMap.sorted s.regs = true) (hst : s.rd .VI_STATE n ≠ viMismatch) (hidle : s.idleBlock 2 = false) :
    ((inputMismatch n why).to s).latched .FORMAT_MISMATCH = true := by
  have hmove := within_list (as := [inputState n viMismatch, set .VI_MISMATCH_WHY why n])
    ⟨inputState_leaves (by decide), (within_set_input : Act.Within (Eff.ofInput leaveFields judgeNotes n) _)⟩
  have hstill : ((all [inputState n viMismatch, set .VI_MISMATCH_WHY why n]).to s).idleBlock 2 = false := by
    rw [State.idleBlock, hmove.input_rd s (.inl (by decide)), hmove.input_rd s (.inl (by decide))]
    exact hidle
  have hlatch := raise_latches .FORMAT_MISMATCH n why (Act.to_regs_sorted _ hs) hstill (by decide)
  rw [inputMismatch, look_runs, if_neg hst, all_cons_to, all_cons_to, all_cons_to, all_cons_to, all_nil_to, iff_to]
  rw [all_cons_to, all_cons_to, all_nil_to] at hlatch
  split
  · exact raise_latched_mono _ _ _ (Act.to_regs_sorted _ (Act.to_regs_sorted _ (Act.to_regs_sorted _ hs))) hlatch
  · exact hlatch

end

-- Judging a complete frame ----------------------------------------------------------------------------------------------

/-- The last two frames of the input count as good (log 8). -/
def framesGood (n : Nat) : Act := look fun s =>
  one (.frames (s.frames.map fun f => if f.input == n && f.idx + 2 > s.qn .viFrameLast n then { f with good := true } else f))

/-- How many complete frames of a structure came in a row, with this one. -/
def State.sameRun (s : State) (n sig : Nat) : Nat := if s.qn .viLastFmt n = sig then s.qn .viSame n + 1 else 1

/-- The structure of the last frame is noted. -/
def sigNoted (n same sig : Nat) : Act := all [put .viSame same n, put .viLastFmt sig n]

/-- The input becomes READY with a structure. -/
def qualifies (n sig : Nat) : Act := all [put .viLastOk sig n, framesGood n, inputState n viReady]

section
variable {n sig why : Nat} {s : State}

theorem qualifies_ofInput (n sig : Nat) : (qualifies n sig).Within (Eff.ofInput judgeFields judgeNotes n) :=
  within_list ⟨within_put_input, within_look fun _ => within_one trivial, inputState_ofInput n _⟩

theorem qualifies_rd (hs : SMap.sorted s.regs = true) (hn : n < 256) : ((qualifies n sig).to s).rd .VI_STATE n = viReady := by
  rw [qualifies, all_cons_to, all_cons_to, all_cons_to, all_nil_to]
  exact inputState_rd (Act.to_regs_sorted _ (Act.to_regs_sorted _ hs)) hn (by decide)

theorem sigNoted_ofInput (n same sig : Nat) : (sigNoted n same sig).Within (Eff.ofInput [] judgeNotes n) := within_list ⟨within_put_input, within_put_input⟩

theorem inputJudge_ofInput (n sig why : Nat) : (inputJudge n sig why).Within (Eff.ofInput judgeFields judgeNotes n) := by
  refine within_look fun s => within_list ⟨within_put_input, within_put_input, ?_⟩
  split
  · exact within_ite (fun _ => within_ite (fun _ => qualifies_ofInput n sig) fun _ => (inputMismatch_ofInput n why).wider) fun _ => within_skip
  · exact within_ite (fun _ => within_put_input) fun _ => within_ite (fun _ => within_list ⟨inputState_ofInput n _, within_put_input⟩) fun _ => within_put_input
  · exact within_ite (fun _ => within_ite (fun _ => qualifies_ofInput n sig) fun _ => within_put_input) fun _ =>
      within_list ⟨within_put_input, (inputMismatch_ofInput n why).wider⟩
  · exact within_skip

/-- In TRS_LOCKED the second complete frame of an accepted structure qualifies the input, the second one of another makes it a mismatch (R66). -/
theorem inputJudge_trsLocked (hst : s.rd .VI_STATE n = viTrsLocked) (hrun : 2 ≤ s.sameRun n sig) : (inputJudge n sig why).to s
    = (if why = 0 then qualifies n sig else inputMismatch n why : Act).to ((sigNoted n (s.sameRun n sig) sig).to s) := by
  simp only [State.sameRun] at hrun ⊢
  simp only [inputJudge, look_runs, hst, all_cons_to, all_nil_to, if_pos hrun, sigNoted]
  rfl

/-- In READY a frame of the accepted structure keeps the input, and the second complete one of others takes it to TRS_LOCKED (R66). -/
theorem inputJudge_ready (hst : s.rd .VI_STATE n = viReady) : (inputJudge n sig why).to s
    = (if sig = s.qn .viLastOk n then put .viOther 0 n else if 1 ≤ s.qn .viOther n then all [inputState n viTrsLocked, put .viSame 0 n] else put .viOther 1 n : Act).to
      ((sigNoted n (s.sameRun n sig) sig).to s) := by
  simp only [State.sameRun, inputJudge, look_runs, hst, all_cons_to, all_nil_to, sigNoted]

/-- In MISMATCH the second accepted frame qualifies the input (R66). -/
theorem inputJudge_mismatch (hst : s.rd .VI_STATE n = viMismatch) (hother : 1 ≤ s.qn .viOther n) : (inputJudge n sig 0).to s
    = (qualifies n sig).to ((sigNoted n (s.sameRun n sig) sig).to s) := by
  simp only [State.sameRun, inputJudge, look_runs, hst, all_cons_to, all_nil_to, sigNoted, qualifies, framesGood, if_pos hother, if_true]

/-- Why a structure is not accepted at an input of its own (R63, R67, R68). -/
theorem whyNot_single (hl : s.rd .VI_LINK_MODE n = 0) (fmt rate : Nat) (unsupported : Bool) (ppm : Int) : s.whyNot n fmt rate unsupported ppm =
    if unsupported || fmt == 0 then 3 else if s.rd .VI_ALIGN n != 2 && fmt != s.rd .RD_FORMAT (s.rd .VI_DOMAIN n) then 1
      else if ppm < -50000 || 50000 < ppm then 2 else 0 := by
  simp [State.whyNot, State.isQuad12, State.viBase, State.groupFmt, hl]

end
end Sys2Proof.Machine
end

section
/-! SUPPORT. A received SDI frame: what is stored, counted, shown and judged of it (R63 to R73, R76, R81), and O13. -/
set_option Elab.async false
namespace Sys2Proof.Machine

-- The parts of a reception ----------------------------------------------------------------------------------------------

/-- The frame is numbered and stored, and a good one passes on (R75, R81). -/
def frameStored (n idx std fmt : Nat) (good : Bool) (f : SdiFrame) : Act :=
  all [put .viFrameLast idx n, put .viSquare (b2n f.square) n, storeFrame n idx std fmt good f, iff good (passFrame n f)]

/-- Its errors are counted, and a bad frame (R66, R70, R71, R73). -/
def frameCounted (n : Nat) (bad : Bool) (f : SdiFrame) : Act :=
  all [iff (decide (2 ≤ f.rate)) (count .VI_CRC_LINES f.crcLines n), count .VI_ANC_CS_ERRS f.ancErrs n, count .VI_AUD_PKT_ERRS f.audErrs n,
    iff bad (count .VI_BAD_FRAMES 1 n)]

/-- Its link and its identifier are noted (R64, R67). -/
def frameNamed (n : Nat) (f : SdiFrame) : Act := all [put .viLink f.linkNo n, put .viSkew f.skew n, vpidTake n f]

/-- A complete frame shows its format and rate, unless it is of another structure than the accepted one (R66, R67). -/
def frameShown (n : Nat) (wrong : Bool) (f : SdiFrame) : Act :=
  all [put .viUnsup (b2n f.unsupported) n,
    iff (!wrong) (all [set .VI_FMT (sdiFmt f) n, set .VI_RATE f.rate n, set .VI_RATE_FRAC f.frac n, set .VI_LEVEL f.level n])]

/-- A complete frame moves the input, an incomplete one ends the runs of frames (R66). -/
def frameJudged (n : Nat) (f : SdiFrame) : Act :=
  if f.complete then look fun s => inputJudge n (sdiSig f) (s.whyNot n (sdiFmt f) f.rate f.unsupported (s.q .viPpm n))
  else all [put .viSame 0 n, put .viOther 0 n]

/-- A frame in READY of another structure than the accepted one (R66). -/
def State.frameWrong (s : State) (n : Nat) (f : SdiFrame) : Bool := s.rd .VI_STATE n == viReady && sdiSig f != s.qn .viLastOk n

/-- What is counted and shown of a frame before it is judged. -/
def frameSeen (n : Nat) (wrong : Bool) (f : SdiFrame) : Act :=
  all [frameCounted n (!f.complete || wrong) f, frameNamed n f, iff f.complete (frameShown n wrong f)]

/-- What a frame does at the registers and notes of its input. -/
def frameTaken (n : Nat) (wrong : Bool) (f : SdiFrame) : Act := (frameSeen n wrong f).andThen (frameJudged n f)

def errorFields : List Fld := [.VI_CRC_LINES, .VI_ANC_CS_ERRS, .VI_AUD_PKT_ERRS, .VI_BAD_FRAMES]
def vpidFields : List Fld := [.VI_VPID, .VI_VPID_PRESENT, .VI_PSF, .VI_VPID_CONFLICT]
def formatFields : List Fld := [.VI_FMT, .VI_RATE, .VI_RATE_FRAC, .VI_LEVEL]
def seenFields : List Fld := errorFields ++ vpidFields ++ formatFields
def seenNotes : List Qty := [.viLink, .viSkew, .viClash, .viUnsup]
def frameInFields : List Fld := seenFields ++ judgeFields
def frameInNotes : List Qty := seenNotes ++ judgeNotes

section
variable {n : Nat} {f : SdiFrame} {wrong bad : Bool} {s : State}

theorem frameCounted_ofInput (n : Nat) (bad : Bool) (f : SdiFrame) : (frameCounted n bad f).Within (Eff.ofInput errorFields [] n) :=
  within_list ⟨within_iff fun _ => within_count_input, within_count_input, within_count_input, within_iff fun _ => within_count_input⟩

theorem vpidTake_ofInput (n : Nat) (f : SdiFrame) : (vpidTake n f).Within (Eff.ofInput vpidFields [.viClash] n) := by
  refine within_look fun s => ?_
  split
  · exact within_list ⟨within_set_input, within_set_input, within_set_input, within_put_input, within_iff fun _ => within_raise_input, within_set_input⟩
  · exact within_list ⟨within_set_input, within_set_input, within_put_input⟩

theorem frameNamed_ofInput (n : Nat) (f : SdiFrame) : (frameNamed n f).Within (Eff.ofInput vpidFields [.viLink, .viSkew, .viClash] n) :=
  within_list ⟨within_put_input, within_put_input, (vpidTake_ofInput n f).wider⟩

theorem frameShown_ofInput (n : Nat) (wrong : Bool) (f : SdiFrame) : (frameShown n wrong f).Within (Eff.ofInput formatFields [.viUnsup] n) :=
  within_list ⟨within_put_input, within_iff fun _ => within_list ⟨within_set_input, within_set_input, within_set_input, within_set_input⟩⟩

theorem frameJudged_ofInput (n : Nat) (f : SdiFrame) : (frameJudged n f).Within (Eff.ofInput judgeFields judgeNotes n) :=
  within_ite (fun _ => within_look fun _ => inputJudge_ofInput n _ _) fun _ => within_list ⟨within_put_input, within_put_input⟩

theorem frameSeen_ofInput (n : Nat) (wrong : Bool) (f : SdiFrame) : (frameSeen n wrong f).Within (Eff.ofInput seenFields seenNotes n) :=
  within_list ⟨(frameCounted_ofInput n _ f).wider, (frameNamed_ofInput n f).wider, within_iff fun _ => (frameShown_ofInput n wrong f).wider⟩

theorem frameTaken_ofInput (n : Nat) (wrong : Bool) (f : SdiFrame) : (frameTaken n wrong f).Within (Eff.ofInput frameInFields frameInNotes n) :=
  within_andThen (frameSeen_ofInput n wrong f).wider (frameJudged_ofInput n f).wider

/-- An input of its own has no group to follow. -/
theorem quadFollow_single (h : s.rd .VI_LINK_MODE n = 0) : (quadFollow n).to s = s := by rw [quadFollow, look_runs, if_pos h, skip_to]

theorem frameStored_touches (n idx std fmt : Nat) (good : Bool) (f : SdiFrame) :
    (frameStored n idx std fmt good f).Touches [.qty .viFrameLast, .qty .viSquare, .qty .picFrame, .mem, .media] :=
  touches_all ⟨touches_put, touches_put, touches_look fun _ => touches_all ⟨(storeLines_touches ..).mono, touches_one rfl⟩,
    touches_iff fun _ => touches_look fun _ => touches_iff fun _ => touches_all ⟨touches_look fun _ => touches_one rfl, touches_put⟩⟩

/-- A frame at an SDI input of its own (R66 to R73, R81). -/
theorem sdiFrame_to (hm : s.rd .VI_PORT_MODE n = 1) (hst : 3 ≤ s.rd .VI_STATE n) (hl : s.rd .VI_LINK_MODE n = 0) : ∃ idx std good,
    (sdiFrame n f).to s = (frameTaken n (s.frameWrong n f) f).to ((frameStored n idx std (sdiFmt f) good f).to s) := by
  have hgo : ¬ ((s.rd .VI_PORT_MODE n ≠ 1 ∧ s.rd .VI_PORT_MODE n ≠ 2) ∨ s.rd .VI_STATE n < viTrsLocked) := by
    rw [hm]
    simp only [viTrsLocked]
    omega
  refine ⟨s.qn .viFrameLast n + 1, s.stdOf n f.rate f.level, f.complete && s.rd .VI_STATE n == viReady && !s.frameWrong n f, ?_⟩
  have hlast (idx std : Nat) (good : Bool) : ((frameTaken n (s.frameWrong n f) f).to ((frameStored n idx std (sdiFmt f) good f).to s)).rd .VI_LINK_MODE n = 0 := by
    rw [(frameTaken_ofInput n _ f).input_rd _ (.inl (by decide))]
    exact ((frameStored_touches n idx std (sdiFmt f) good f).rd (f := .VI_LINK_MODE) s (by decide) n).trans hl
  rw [← quadFollow_single (hlast ..), sdiFrame, look_runs, if_neg hgo]
  have hq : s.isQuad12 n f.rate = false := by simp [State.isQuad12, hl]
  have hl1 : (s.rd .VI_LINK_MODE n == 1) = false := by simp [hl]
  simp only [hq, hl1, Bool.and_false, Bool.false_eq_true, if_false, frameTaken, frameSeen, andThen_to, frameStored, frameCounted,
    frameNamed, frameShown, frameJudged, State.frameWrong, all_cons_to, all_nil_to]
  cases f.complete <;> simp only [if_true, Bool.false_eq_true, if_false, all_cons_to, all_nil_to, iff_to, Bool.not_true, Bool.not_false]

-- The frame store -------------------------------------------------------------------------------------------------------

/-- The lines stand in the slot that the frame takes, and every other byte is as before (R81). -/
theorem frameStored_lines (hwf : Memory.wf s.mem = true) (hn : n < 256) (hl : s.rd .VI_LINK_MODE n = 0) {idx std fmt : Nat} {good : Bool} :
    let at_ := s.storeAt n (s.slotFor n)
    let len := lineBytes f.samples
    let u := (frameStored n idx std fmt good f).to s
    (∀ L, L < f.lines.length → u.loadLE (at_ + L * len) len = packWords 10 (f.lines.getD L []) % 256 ^ len)
      ∧ ∀ a, a < at_ ∨ at_ + f.lines.length * len ≤ a → u.peek a = s.peek a := by
  intro at_ len u
  have hsmall : n < 2 ^ 40 := hn.trans (by decide)
  have hnoted := (touches_all ⟨touches_put, touches_put⟩ : Act.Touches [.qty .viFrameLast, .qty .viSquare]
    (all [put .viFrameLast idx n, put .viSquare (b2n f.square) n])).step s
  have hframes : ((all [put .viFrameLast idx n, put .viSquare (b2n f.square) n]).to s).frames = s.frames := by
    simp only [all_cons_to, all_nil_to, put_to, State.setQ_frames]
  generalize hv : (all [put .viFrameLast idx n, put .viSquare (b2n f.square) n]).to s = v at hnoted hframes
  have hlv : v.rd .VI_LINK_MODE n = 0 := (hnoted.rd (by decide) _ _).trans hl
  have hslot : v.slotFor n = s.slotFor n := by
    simp only [State.slotFor, State.viBase, hlv, hl, if_true, hframes, State.qn, hnoted.q (x := .viReadP) (j := 0) (by decide) hsmall (by decide)]
  have hat : v.storeAt n (v.slotFor n) = at_ := by
    simp only [at_, hslot, State.storeAt, hlv, hl, ne_eq, not_true, false_and, if_false]
  have hmem : u.mem = ((storeLines f.samples at_ f.lines).to v).mem := by
    have hpass : (iff good (passFrame n f)).Touches [.qty .picFrame, .media] :=
      touches_iff fun _ => touches_look fun _ => touches_iff fun _ => touches_all ⟨touches_look fun _ => touches_one rfl, touches_put⟩
    simp only [u, frameStored]
    rw [all_cons_to, all_cons_to, all_cons_to, all_cons_to, all_nil_to, hpass.mem]
    rw [all_cons_to, all_cons_to, all_nil_to] at hv
    rw [hv, storeFrame, look_runs]
    simp only [all_cons_to, all_nil_to, one_to, State.app_frames, hat]
  have hvwf : Memory.wf v.mem = true := by
    rw [show v.mem = s.mem from hnoted.part .mem (by decide)]
    exact hwf
  refine ⟨fun L hL => ?_, fun a ha => ?_⟩
  · rw [State.loadLE_congr fun b _ _ => State.peek_congr hmem b]
    exact storeLines_loadLE hvwf hL
  · rw [State.peek_congr hmem, storeLines_peek_other ha]
    exact State.peek_congr (hnoted.part .mem (by decide)) a

-- What is counted and shown ---------------------------------------------------------------------------------------------

/-- A counter of 32 bits that counts where `c` holds. -/
theorem iff_count_rd {g : Fld} {k : Nat} {c : Bool} (hs : SMap.sorted s.regs = true) (hh : g.has n 0 = true) (hw : g.desc.width = 32 := by decide) :
    ((iff c (count g k n)).to s).rd g n = if c then min (s.rd g n + k) 0xFFFFFFFF else s.rd g n := by
  rw [iff_to]
  split
  · rw [count_to, State.rd_setReg_same _ hs hh, hw]
    exact Nat.mod_eq_of_lt (by omega)
  · rfl

theorem frameCounted_counts (hs : SMap.sorted s.regs = true) (hn : n < 256) : let u := (frameCounted n bad f).to s
    u.rd .VI_CRC_LINES n = (if 2 ≤ f.rate then min (s.rd .VI_CRC_LINES n + f.crcLines) 0xFFFFFFFF else s.rd .VI_CRC_LINES n)
      ∧ u.rd .VI_ANC_CS_ERRS n = min (s.rd .VI_ANC_CS_ERRS n + f.ancErrs) 0xFFFFFFFF
      ∧ u.rd .VI_AUD_PKT_ERRS n = min (s.rd .VI_AUD_PKT_ERRS n + f.audErrs) 0xFFFFFFFF
      ∧ u.rd .VI_BAD_FRAMES n = if bad then min (s.rd .VI_BAD_FRAMES n + 1) 0xFFFFFFFF else s.rd .VI_BAD_FRAMES n := by
  have hkeep {c : Bool} {g g' : Fld} {k : Nat} {v : State} (h : g' ∉ [g]) : ((iff c (count g k n)).to v).rd g' n = v.rd g' n :=
    (within_iff fun _ => within_count fun _ => .head _ : (iff c (count g k n)).Within (Eff.writes [g])).rd h v n 0
  have hcount (g : Fld) (k : Nat) : count g k n = iff true (count g k n) := rfl
  have hs1 := Act.to_regs_sorted (iff (decide (2 ≤ f.rate)) (count .VI_CRC_LINES f.crcLines n)) hs
  have hs2 := Act.to_regs_sorted (iff true (count .VI_ANC_CS_ERRS f.ancErrs n)) hs1
  have hs3 := Act.to_regs_sorted (iff true (count .VI_AUD_PKT_ERRS f.audErrs n)) hs2
  intro u
  simp only [u, frameCounted]
  rw [all_cons_to, all_cons_to, all_cons_to, all_cons_to, all_nil_to, hcount .VI_ANC_CS_ERRS, hcount .VI_AUD_PKT_ERRS]
  refine ⟨?_, ?_, ?_, ?_⟩
  · rw [hkeep (by decide), hkeep (by decide), hkeep (by decide), iff_count_rd hs ((Fld.has_iff ..).mpr ⟨hn, by decide⟩)]
    simp only [decide_eq_true_eq]
  · rw [hkeep (by decide), hkeep (by decide), iff_count_rd hs1 ((Fld.has_iff ..).mpr ⟨hn, by decide⟩), hkeep (by decide)]
    exact if_pos rfl
  · rw [hkeep (by decide), iff_count_rd hs2 ((Fld.has_iff ..).mpr ⟨hn, by decide⟩), hkeep (by decide), hkeep (by decide)]
    exact if_pos rfl
  · rw [iff_count_rd hs3 ((Fld.has_iff ..).mpr ⟨hn, by decide⟩), hkeep (by decide), hkeep (by decide), hkeep (by decide)]

/-- VI_VPID_PRESENT shows whether the frame carries an identifier (R67). -/
theorem frameNamed_vpidPresent (hs : SMap.sorted s.regs = true) (hn : n < 256) : ((frameNamed n f).to s).rd .VI_VPID_PRESENT n = b2n f.vpid.isSome := by
  have hh : Fld.VI_VPID_PRESENT.has n 0 = true := (Fld.has_iff ..).mpr ⟨hn, by decide⟩
  have hs2 := Act.to_regs_sorted (put .viSkew f.skew n) (Act.to_regs_sorted (put .viLink f.linkNo n) hs)
  rw [frameNamed, all_cons_to, all_cons_to, all_cons_to, all_nil_to, vpidTake, look_runs]
  cases f.vpid with
  | none =>
    have hrest := within_list (as := [set .VI_PSF 0 n, put .viClash 0 n]) (p := Eff.ofInput [.VI_PSF] [.viClash] n) ⟨within_set_input, within_put_input⟩
    dsimp only
    rw [all_cons_to, hrest.input_rd _ (.inl (by decide)), set_rd hs2 hh]
    rfl
  | some v =>
    dsimp only
    rw [all_cons_to, all_cons_to]
    refine (Act.Within.input_rd (fs := [.VI_PSF, .VI_VPID_CONFLICT]) (xs := [.viClash]) (n := n) ?_ _ (.inl (by decide))).trans ?_
    · exact within_list ⟨within_set_input, within_put_input, within_iff fun _ => within_raise_input, within_set_input⟩
    · rw [set_rd (Act.to_regs_sorted _ hs2) hh]
      rfl

theorem sdiFmt_lt (f : SdiFrame) : sdiFmt f < 256 := by
  unfold sdiFmt fmtOf
  cases h : (List.range 22).find? _ with
  | none => decide
  | some c => exact (List.mem_range.mp (List.mem_of_find?_eq_some h)).trans (by decide)

/-- The format and the rate of a frame of the accepted structure (R67). -/
theorem frameShown_rd (hs : SMap.sorted s.regs = true) (hn : n < 256) (hr : f.rate < 8) :
    ((frameShown n false f).to s).rd .VI_FMT n = sdiFmt f ∧ ((frameShown n false f).to s).rd .VI_RATE n = f.rate := by
  have hfmt : Fld.VI_FMT.has n 0 = true := (Fld.has_iff ..).mpr ⟨hn, by decide⟩
  have hrate : Fld.VI_RATE.has n 0 = true := (Fld.has_iff ..).mpr ⟨hn, by decide⟩
  have hs1 : SMap.sorted (s.setQ .viUnsup n 0 (b2n f.unsupported)).regs = true := by rwa [State.setQ_regs]
  simp only [frameShown, Bool.not_false, iff_to, if_true, all_cons_to, all_nil_to, put_to, set_to]
  constructor
  · rw [State.rd_setReg_other _ _ (.inl (by decide)), State.rd_setReg_other _ _ (.inl (by decide)), State.rd_setReg_other _ _ (.inl (by decide)),
      State.rd_setReg_same _ hs1 hfmt]
    exact Nat.mod_eq_of_lt (sdiFmt_lt f)
  · rw [State.rd_setReg_other _ _ (.inl (by decide)), State.rd_setReg_other _ _ (.inl (by decide)),
      State.rd_setReg_same _ (State.setReg_sorted _ _ _ _ hs1) hrate]
    exact Nat.mod_eq_of_lt hr

/-- A frame of another structure leaves the format (R66). -/
theorem frameShown_wrong (g : Fld) : ((frameShown n true f).to s).rd g n = s.rd g n := by
  simp [frameShown, all_cons_to, all_nil_to, iff_to]

-- How the input moves ---------------------------------------------------------------------------------------------------

/-- A format that the input's alignment accepts: any in transparent alignment, else its domain's (R68). -/
def State.fitsDomain (s : State) (n fmt : Nat) : Prop := s.rd .VI_ALIGN n = 2 ∨ fmt = s.rd .RD_FORMAT (s.rd .VI_DOMAIN n)

/-- A supported structure whose rate lies within 500 ppm is accepted where its format fits, and a mismatch of reason 1 elsewhere (R68). -/
theorem whyNot_inRange {fmt rate : Nat} {ppm : Int} (hl : s.rd .VI_LINK_MODE n = 0) (hfmt : fmt ≠ 0) (hppm : -50000 ≤ ppm ∧ ppm ≤ 50000) :
    (s.fitsDomain n fmt → s.whyNot n fmt rate false ppm = 0) ∧ (¬ s.fitsDomain n fmt → s.whyNot n fmt rate false ppm = 1) := by
  have hrate : (decide (ppm < -50000) || decide (50000 < ppm)) = false := by simp; omega
  rw [whyNot_single hl, hrate]
  simp only [State.fitsDomain]
  by_cases h1 : s.rd .VI_ALIGN n = 2 <;> by_cases h2 : fmt = s.rd .RD_FORMAT (s.rd .VI_DOMAIN n) <;> simp [h1, h2, hfmt] <;> omega

section
variable (hl : s.rd .VI_LINK_MODE n = 0) (hn : n < 256) (hc : f.complete = true)
include hl hn hc

theorem frameTaken_complete : (frameTaken n wrong f).to s
    = (inputJudge n (sdiSig f) (s.whyNot n (sdiFmt f) f.rate f.unsupported (s.q .viPpm n))).to ((frameSeen n wrong f).to s) := by
  have hrd {g : Fld} (hg : g ∉ seenFields) (he : g ∉ eventFields) (i : Nat) : ((frameSeen n wrong f).to s).rd g i = s.rd g i :=
    (frameSeen_ofInput n wrong f).input_rd s (.inl hg) he
  rw [frameTaken, andThen_to, frameJudged, if_pos hc, look_runs, whyNot_single hl, whyNot_single ((hrd (by decide) (by decide) _).trans hl),
    hrd (by decide) (by decide), hrd (by decide) (by decide), hrd (by decide) (by decide), (frameSeen_ofInput n wrong f).input_q s (hn.trans (by decide))]

variable (hs : SMap.sorted s.regs = true)
include hs

/-- The second complete frame of one supported structure in TRS_LOCKED (R66, R68). -/
theorem frameTaken_trsLocked (hst : s.rd .VI_STATE n = 3) (hlast : s.qn .viLastFmt n = sdiSig f) (hsame : 1 ≤ s.qn .viSame n)
    (hknown : f.unsupported = false ∧ sdiFmt f ≠ 0) (hppm : -50000 ≤ s.q .viPpm n ∧ s.q .viPpm n ≤ 50000) : let u := (frameTaken n wrong f).to s
    (s.fitsDomain n (sdiFmt f) → u.rd .VI_STATE n = 4)
      ∧ (¬ s.fitsDomain n (sdiFmt f) → u.rd .VI_STATE n = 5 ∧ u.rd .VI_MISMATCH_WHY n = 1 ∧ (s.idleBlock 2 = false → u.latched .FORMAT_MISMATCH = true)) := by
  have hseen := frameSeen_ofInput n wrong f
  have hq {x : Qty} (hx : x ∉ seenNotes) (he : x ≠ .evSerial) : ((frameSeen n wrong f).to s).q x n = s.q x n := hseen.input_q s (hn.trans (by decide)) hx he
  have hst' : ((frameSeen n wrong f).to s).rd .VI_STATE n = viTrsLocked := (hseen.input_rd s (.inl (by decide))).trans hst
  have hrun : 2 ≤ ((frameSeen n wrong f).to s).sameRun n (sdiSig f) := by
    rw [State.qn] at hlast hsame
    rw [State.sameRun, State.qn, State.qn, hq (by decide) (by decide), hq (by decide) (by decide), if_pos hlast]
    omega
  have hnoted := sigNoted_ofInput n (((frameSeen n wrong f).to s).sameRun n (sdiSig f)) (sdiSig f)
  have hsorted := Act.to_regs_sorted (sigNoted n (((frameSeen n wrong f).to s).sameRun n (sdiSig f)) (sdiSig f)) (Act.to_regs_sorted (frameSeen n wrong f) hs)
  have hwhy := whyNot_inRange (rate := f.rate) hl hknown.2 hppm
  intro u
  simp only [u, frameTaken_complete hl hn hc, hknown.1, inputJudge_trsLocked hst' hrun]
  refine ⟨fun hfit => ?_, fun hfit => ?_⟩
  · rw [if_pos (hwhy.1 hfit)]
    exact qualifies_rd hsorted hn
  · rw [hwhy.2 hfit, if_neg (by decide)]
    obtain ⟨h5, h1⟩ := inputMismatch_shows (why := 1) hsorted hn (by decide)
    refine ⟨h5, h1, fun hidle => inputMismatch_latches hsorted ?_ ?_⟩
    · rw [hnoted.input_rd _ (.inl (by decide)), hst']
      decide
    · rw [State.idleBlock, hnoted.input_rd _ (.inl (by decide)), hnoted.input_rd _ (.inl (by decide)), hseen.input_rd s (.inl (by decide)),
        hseen.input_rd s (.inl (by decide))]
      exact hidle

/-- A complete frame in READY (R66). -/
theorem frameTaken_ready (hst : s.rd .VI_STATE n = 4) : let u := (frameTaken n wrong f).to s
    (sdiSig f = s.qn .viLastOk n → u.rd .VI_STATE n = 4) ∧ (sdiSig f ≠ s.qn .viLastOk n → 1 ≤ s.qn .viOther n → u.rd .VI_STATE n = 3) := by
  have hseen := frameSeen_ofInput n wrong f
  have hq {x : Qty} (hx : x ∉ seenNotes) (he : x ≠ .evSerial) : ((frameSeen n wrong f).to s).qn x n = s.qn x n :=
    congrArg Int.toNat (hseen.input_q s (hn.trans (by decide)) hx he)
  have hst' : ((frameSeen n wrong f).to s).rd .VI_STATE n = viReady := (hseen.input_rd s (.inl (by decide))).trans hst
  have hnoted := sigNoted_ofInput n (((frameSeen n wrong f).to s).sameRun n (sdiSig f)) (sdiSig f)
  intro u
  simp only [u, frameTaken_complete hl hn hc, inputJudge_ready hst', hq (x := .viLastOk) (by decide) (by decide), hq (x := .viOther) (by decide) (by decide)]
  refine ⟨fun hsig => ?_, fun hsig hother => ?_⟩
  · rw [if_pos hsig, put_to, State.rd_setQ, hnoted.input_rd _ (.inl (by decide)), hst']
  · rw [if_neg hsig, if_pos hother, all_cons_to, all_cons_to, all_nil_to, put_to, State.rd_setQ]
    exact inputState_rd (Act.to_regs_sorted _ (Act.to_regs_sorted _ hs)) hn (by decide)

/-- The second accepted frame in MISMATCH (R66). -/
theorem frameTaken_mismatch (hst : s.rd .VI_STATE n = 5) (hother : 1 ≤ s.qn .viOther n) (hknown : f.unsupported = false ∧ sdiFmt f ≠ 0)
    (hppm : -50000 ≤ s.q .viPpm n ∧ s.q .viPpm n ≤ 50000) (hfit : s.fitsDomain n (sdiFmt f)) : ((frameTaken n wrong f).to s).rd .VI_STATE n = 4 := by
  have hseen := frameSeen_ofInput n wrong f
  have hst' : ((frameSeen n wrong f).to s).rd .VI_STATE n = viMismatch := (hseen.input_rd s (.inl (by decide))).trans hst
  have hother' : 1 ≤ ((frameSeen n wrong f).to s).qn .viOther n := by rwa [State.qn, hseen.input_q s (hn.trans (by decide))]
  rw [frameTaken_complete hl hn hc, hknown.1, (whyNot_inRange hl hknown.2 hppm).1 hfit, inputJudge_mismatch hst' hother']
  exact qualifies_rd (Act.to_regs_sorted _ (Act.to_regs_sorted _ hs)) hn

end

/-- An incomplete frame moves nothing (R66). -/
theorem frameTaken_incomplete (hc : f.complete = false) : ((frameTaken n wrong f).to s).rd .VI_STATE n = s.rd .VI_STATE n := by
  rw [frameTaken, andThen_to, frameJudged, if_neg (by simp [hc]), all_cons_to, all_cons_to, all_nil_to, put_to, put_to, State.rd_setQ, State.rd_setQ,
    (frameSeen_ofInput n wrong f).input_rd _ (.inl (by decide))]

/-- What is counted and shown of the frame stays while it is judged. -/
theorem frameTaken_shows (hs : SMap.sorted s.regs = true) (hn : n < 256) (hr : f.rate < 8) : let u := (frameTaken n wrong f).to s
    u.rd .VI_CRC_LINES n = (if 2 ≤ f.rate then min (s.rd .VI_CRC_LINES n + f.crcLines) 0xFFFFFFFF else s.rd .VI_CRC_LINES n)
      ∧ u.rd .VI_ANC_CS_ERRS n = min (s.rd .VI_ANC_CS_ERRS n + f.ancErrs) 0xFFFFFFFF
      ∧ u.rd .VI_AUD_PKT_ERRS n = min (s.rd .VI_AUD_PKT_ERRS n + f.audErrs) 0xFFFFFFFF
      ∧ u.rd .VI_VPID_PRESENT n = b2n f.vpid.isSome
      ∧ u.rd .VI_BAD_FRAMES n = (if !f.complete || wrong then min (s.rd .VI_BAD_FRAMES n + 1) 0xFFFFFFFF else s.rd .VI_BAD_FRAMES n)
      ∧ (f.complete = true → wrong = false → u.rd .VI_FMT n = sdiFmt f ∧ u.rd .VI_RATE n = f.rate)
      ∧ (wrong = true → u.rd .VI_FMT n = s.rd .VI_FMT n) := by
  have hnamed := frameNamed_ofInput n f
  have hshown : (iff f.complete (frameShown n wrong f)).Within (Eff.ofInput formatFields [.viUnsup] n) := within_iff fun _ => frameShown_ofInput n wrong f
  have hjudged := frameJudged_ofInput n f
  obtain ⟨hcrc, hanc, haud, hbad⟩ := frameCounted_counts (bad := !f.complete || wrong) (f := f) hs hn
  have hs1 := Act.to_regs_sorted (frameCounted n (!f.complete || wrong) f) hs
  have hs2 := Act.to_regs_sorted (frameNamed n f) hs1
  intro u
  have hu (g : Fld) : u.rd g n = ((frameJudged n f).to ((iff f.complete (frameShown n wrong f)).to
      ((frameNamed n f).to ((frameCounted n (!f.complete || wrong) f).to s)))).rd g n := by
    simp only [u, frameTaken, frameSeen, andThen_to, all_cons_to, all_nil_to]
  have hcount {g : Fld} (hg : g ∉ vpidFields ++ formatFields ++ judgeFields) (he : g ∉ eventFields) :
      u.rd g n = ((frameCounted n (!f.complete || wrong) f).to s).rd g n := by
    simp only [List.mem_append, not_or] at hg
    rw [hu, hjudged.input_rd _ (.inl hg.2) he, hshown.input_rd _ (.inl hg.1.2) he, hnamed.input_rd _ (.inl hg.1.1) he]
  refine ⟨(hcount (by decide) (by decide)).trans hcrc, (hcount (by decide) (by decide)).trans hanc, (hcount (by decide) (by decide)).trans haud, ?_,
    (hcount (by decide) (by decide)).trans hbad, fun hc hw => ?_, fun hw => ?_⟩
  · rw [hu, hjudged.input_rd _ (.inl (by decide)), hshown.input_rd _ (.inl (by decide))]
    exact frameNamed_vpidPresent hs1 hn
  · rw [hu, hu, hjudged.input_rd _ (.inl (by decide)), hjudged.input_rd _ (.inl (by decide)), iff_to, if_pos hc]
    subst hw
    exact frameShown_rd hs2 hn hr
  · rw [hu, hjudged.input_rd _ (.inl (by decide)), iff_to]
    subst hw
    have hkept : ((frameNamed n f).to ((frameCounted n (!f.complete || true) f).to s)).rd .VI_FMT n = s.rd .VI_FMT n := by
      rw [hnamed.input_rd _ (.inl (by decide)), (frameCounted_ofInput n _ f).input_rd _ (.inl (by decide))]
    split
    · exact (frameShown_wrong _).trans hkept
    · exact hkept

end

-- O13 -------------------------------------------------------------------------------------------------------------------

/-- The fields outside the input that follow it (R146, R290). -/
def feedFields : List Fld := [.RE_STATE, .RE_LOSSES, .RI_SYN_OK, .VO_CHARCOAL, .VO_CHARCOAL_WHY]

/-- The parts that storing a frame touches, once time has reached it. -/
def storedParts : List Part := [.now, .qty .viFrameLast, .qty .viSquare, .qty .picFrame, .mem, .media]

/-- A frame is stored first; what it does at its input's registers comes after. -/
theorem sdiFrame_stores {s : State} {n : Nat} (hwf : s.wf = true) (hn : n < 256) (hm : s.rd .VI_PORT_MODE n = 1) (hst : 3 ≤ s.rd .VI_STATE n)
    (hl : s.rd .VI_LINK_MODE n = 0) (t : Nat) (f : SdiFrame) :
    let at_ := s.storeAt n (s.slotFor n)
    let len := lineBytes f.samples
    ∃ v, (sdiFrame n f).to (s.since t) = (frameTaken n (s.frameWrong n f) f).to v ∧ State.SameBut storedParts s v
      ∧ (∀ L, L < f.lines.length → v.loadLE (at_ + L * len) len = packWords 10 (f.lines.getD L []) % 256 ^ len)
      ∧ ∀ a, a < at_ ∨ at_ + f.lines.length * len ≤ a → v.peek a = s.peek a := by
  intro at_ len
  have hmemwf : Memory.wf s.mem = true := by
    simp only [State.wf, Bool.and_eq_true] at hwf
    exact hwf.1.2
  obtain ⟨idx, std, good, hto⟩ := sdiFrame_to (s := s.since t) (f := f) hm hst hl
  obtain ⟨hlines, hbytes⟩ := frameStored_lines (s := s.since t) (f := f) (idx := idx) (std := std) (fmt := sdiFmt f) (good := good) hmemwf hn hl
  exact ⟨_, hto, ((since_sameBut s t).mono (by decide)).trans (((frameStored_touches n idx std (sdiFmt f) good f).mono).step (s.since t)), hlines, hbytes⟩

theorem exec_sdiFrameReceived {s : State} {n : Nat} (hm : s.rd .VI_PORT_MODE n = 1) (t : Nat) (f : SdiFrame) :
    exec (.sdiFrameReceived t n f) s = .next ((sdiInput n (sdiFrame n f)).to (s.since t)) := by
  have hgo : ((s.since t).rd .VI_PORT_MODE n == 1) = true := beq_iff_eq.mpr hm
  show run _ s = _
  rw [run_eq, all_cons_to, all_cons_to, all_nil_to, at_to_since, look_runs, hgo]
  rfl

/-- Settles O13: the frame is stored (`sdiFrame_stores`), counted and shown (`frameTaken_shows`), and moves the input (`frameTaken_trsLocked`,
`frameTaken_ready`, `frameTaken_mismatch`, `frameTaken_incomplete`); beside it only what it feeds changes (`sdiInput_same`). -/
theorem sdiFramesQualifyInputs : Obligations.SdiFramesQualifyInputs := by
  intro s t n f hwf _ hn hm hst hl hr sig st known fits inRange at_ len
  have hregs := State.wf_regs hwf
  obtain ⟨v, hto, hstored, hlines, hbytes⟩ := sdiFrame_stores hwf hn hm hst hl t f
  have hrd (g : Fld) (i j : Nat) : v.rd g i j = s.rd g i j := State.rd_congr (hstored.regs rfl) g i j
  have hq {x : Qty} (hx : Part.qty x ∉ storedParts) : v.q x n = s.q x n := hstored.q hx (hn.trans (by decide)) (by decide)
  have hqn {x : Qty} (hx : Part.qty x ∉ storedParts) : v.qn x n = s.qn x n := congrArg Int.toNat (hq hx)
  have hppm' : s.q .viPpm n = v.q .viPpm n := (hq (by decide)).symm
  have hvs : SMap.sorted v.regs = true := hstored.sorted hregs
  have hvl : v.rd .VI_LINK_MODE n = 0 := (hrd ..).trans hl
  have hfits : v.fitsDomain n (sdiFmt f) ↔ fits := by
    simp only [State.fitsDomain, hrd]
    exact Iff.rfl
  have htaken := frameTaken_ofInput n (s.frameWrong n f) f
  have hfeed := sdiInput_same (s := s.since t) hregs n (sdiFrame n f)
  rw [hto] at hfeed
  obtain ⟨hcrc, hanc, haud, hvpid, hbad, hfmt, hkept⟩ := frameTaken_shows (wrong := s.frameWrong n f) (f := f) hvs hn hr
  refine ⟨_, exec_sdiFrameReceived hm t f, ?_⟩
  generalize (sdiInput n (sdiFrame n f)).to (s.since t) = u at hfeed
  have hmem : u.mem = v.mem := (hfeed.part .mem (by decide +kernel)).trans (htaken.input_mem v)
  have hout {g : Fld} (hg : Part.reg g ∉ feedParts) : u.rd g n = ((frameTaken n (s.frameWrong n f) f).to v).rd g n := hfeed.rd hg n 0
  have hstate := hout (g := .VI_STATE) (by decide +kernel)
  refine ⟨fun g i j hg => ?_, fun g k j hk he h5 hB => ?_, ?_, fun L hL => ?_, fun a ha => ?_, ?_, ?_, ?_, ?_, ?_, fun h3 hc hlast hsame hknown hppm => ?_,
    fun h4 hc hsig => ?_, fun h4 hc hsig hother => ?_, fun h5 hc hknown hfit hppm hother => ?_, fun hc => ?_⟩
  · have hblocks : ∀ g ∈ frameInFields ++ eventFields, blockOf g.desc.addr ∈ [0x02, 0x05, 0x0B, 0x0F] := by decide +kernel
    have hnot : g ∉ frameInFields ∧ g ∉ eventFields := by
      rw [← not_or, ← List.mem_append]
      exact fun h => hg (hblocks g h)
    rw [hfeed.outside (bs := [0x02, 0x05, 0x0B, 0x0F]) (by decide +kernel) g i j hg, htaken.input_rd v (.inl hnot.1) hnot.2 j, hrd]
  · have hblocks : ∀ g ∈ feedFields, blockOf g.desc.addr = 5 ∨ blockOf g.desc.addr = 0x0B := by decide +kernel
    rw [hfeed.only (fs := feedFields) (by decide +kernel) g k j (fun h => (hblocks g h).elim h5 hB) he, htaken.input_rd v (.inr hk) he j, hrd]
  · exact (hfeed.part .out (by decide +kernel)).trans ((htaken.input_out v).trans (hstored.part .out (by decide)))
  · exact (State.loadLE_congr fun b _ _ => State.peek_congr hmem b).trans (hlines L hL)
  · exact (State.peek_congr hmem a).trans (hbytes a ha)
  · rw [hout (by decide +kernel), hcrc, hrd]
  · rw [hout (by decide +kernel), hanc, hrd]
  · rw [hout (by decide +kernel), haud, hrd]
  · rw [hout (by decide +kernel), hvpid]
  · rw [hout (by decide +kernel), hbad, hrd]
    simp [State.frameWrong, sig, st]
  · have hw : s.frameWrong n f = false := by
      simp only [State.frameWrong, show s.rd .VI_STATE n = 3 from h3]
      rfl
    have hmove := frameTaken_trsLocked (wrong := s.frameWrong n f) hvl hn hc hvs ((hrd ..).trans h3) ((hqn (by decide)).trans hlast)
      (hsame.trans_eq (hqn (by decide)).symm) hknown (hppm' ▸ hppm)
    refine ⟨fun hfit => ?_, fun hfit => ?_⟩
    · obtain ⟨hf, hrate⟩ := hfmt hc hw
      exact ⟨hstate.trans (hmove.1 (hfits.mpr hfit)), (hout (by decide +kernel)).trans hf, (hout (by decide +kernel)).trans hrate⟩
    · obtain ⟨h5, h1, hlatch⟩ := hmove.2 fun h => hfit (hfits.mp h)
      refine ⟨hstate.trans h5, (hout (by decide +kernel)).trans h1, fun hidle => hfeed.latched (Act.to_regs_sorted _ hvs) _ (hlatch ?_)⟩
      rw [State.idleBlock, hrd, hrd]
      exact hidle
  · exact hstate.trans ((frameTaken_ready hvl hn hc hvs ((hrd ..).trans h4)).1 (hsig.trans (hqn (by decide)).symm))
  · have hw : s.frameWrong n f = true := by
      simp only [State.frameWrong, show s.rd .VI_STATE n = 4 from h4, beq_self_eq_true, Bool.true_and, bne_iff_ne]
      exact hsig
    have hmove := (frameTaken_ready (wrong := s.frameWrong n f) hvl hn hc hvs ((hrd ..).trans h4)).2
    exact ⟨hstate.trans (hmove (fun h => hsig (h.trans (hqn (by decide)))) (hother.trans_eq (hqn (by decide)).symm)),
      (hout (by decide +kernel)).trans ((hkept hw).trans (hrd ..))⟩
  · exact hstate.trans (frameTaken_mismatch hvl hn hc hvs ((hrd ..).trans h5) (hother.trans_eq (hqn (by decide)).symm) hknown (hppm' ▸ hppm)
      (hfits.mpr hfit))
  · exact hstate.trans ((frameTaken_incomplete hc).trans (hrd ..))

end Sys2Proof.Machine
end

section
/-! SUPPORT. A 16-frame rate measurement at an input (R66, R68, R74, R490), and O14. -/
set_option Elab.async false
namespace Sys2Proof.Machine
open Host

-- Two's complement ------------------------------------------------------------------------------------------------------

/-- A field of `w` bits shows an integer that fits it in two's complement. -/
theorem toSigned_ofSigned {v : Int} {w : Nat} (hw : 0 < w) (hlo : -(2 ^ (w - 1) : Nat) ≤ v) (hhi : v < (2 ^ (w - 1) : Nat)) :
    toSigned (ofSigned v w % 2 ^ w) w = v := by
  have htwice : 2 ^ w = 2 * 2 ^ (w - 1) := by rw [← Nat.pow_succ']; congr 1; omega
  have hpos : 0 < 2 ^ (w - 1) := Nat.two_pow_pos _
  simp only [toSigned, ofSigned, Nat.mod_mod, htwice]
  generalize 2 ^ (w - 1) = h at *
  have hlt : (v % ((2 * h : Nat) : Int)).toNat < 2 * h := by
    have := Int.emod_lt_of_pos v (show (0 : Int) < ((2 * h : Nat) : Int) by omega)
    have := Int.emod_nonneg v (show ((2 * h : Nat) : Int) ≠ 0 by omega)
    omega
  rw [Nat.mod_eq_of_lt hlt]
  rcases lt_or_ge v 0 with hv | hv
  · have hmod : v % ((2 * h : Nat) : Int) = v + (2 * h : Nat) := by
      rw [← Int.add_emod_right, Int.emod_eq_of_lt (by omega) (by omega)]
    rw [hmod, if_neg (by omega)]
    omega
  · rw [Int.emod_eq_of_lt hv (by omega), if_pos (by omega)]
    omega

/-- A field that holds an integer reads it back. -/
theorem setS_rdS {f : Fld} {v : Int} {i : Nat} {s : State} (hs : SMap.sorted s.regs = true) (hh : f.has i 0 = true) (hw : 0 < f.desc.width)
    (hlo : -(2 ^ (f.desc.width - 1) : Nat) ≤ v) (hhi : v < (2 ^ (f.desc.width - 1) : Nat)) : ((setS f v i).to s).rdS f i = v := by
  rw [State.rdS, setS_to, State.rd_setReg_same _ hs hh]
  exact toSigned_ofSigned hw hlo hhi

-- The group follows -----------------------------------------------------------------------------------------------------

def quadFields : List Fld := [.VI_QL_ORDER, .VI_QL_SKEW]

section
variable {n : Nat} {s : State}

theorem quadFollow_ofInput (n : Nat) : (quadFollow n).Within (Eff.ofInput (quadFields ++ judgeFields) judgeNotes (n / 4 * 4)) :=
  within_look fun _ => within_ite (fun _ => within_skip) fun _ => within_list ⟨within_iff fun _ => within_raise_input, within_set_input, within_set_input,
    within_iff fun _ => (inputRejudge_ofInput _).wider⟩

/-- The base of the group is judged again as its link moves; of the link itself it shows the group's order and skew alone (R64). -/
theorem quadFollow_rd {f : Fld} (hf : f ∉ quadFields) (he : f ∉ eventFields) : ((quadFollow n).to s).rd f n = s.rd f n := by
  by_cases hb : n = n / 4 * 4
  · have hbase : (quadFollow n).Within (Eff.ofInput quadFields [] (n / 4 * 4)) :=
      within_look fun _ => within_ite (fun _ => within_skip) fun _ => within_list ⟨within_iff fun _ => within_raise_input, within_set_input, within_set_input,
        within_iff fun h => absurd hb (by simpa using h)⟩
    exact hbase.input_rd s (.inl hf) he
  · exact (quadFollow_ofInput n).input_rd s (.inr hb) he

-- The measurement -------------------------------------------------------------------------------------------------------

/-- The run of frames that lay within 1 ppm of the domain's rate, with the sixteen measured (R74). -/
def State.syncRun (s : State) (n : Nat) (ppm : Int) : Int := if s.rateOfDomain n && decide (-100 ≤ ppm) && decide (ppm ≤ 100) then s.q .viSyncCnt n + 16 else 0

/-- The input is synchronous after the measurement (R74). -/
def State.syncNow (s : State) (n : Nat) (ppm : Int) : Bool :=
  if s.rd .VI_SYNC_SRC n = 1 then s.rateOfDomain n && decide (-200 ≤ ppm) && decide (ppm ≤ 200) else decide (64 ≤ s.syncRun n ppm)

/-- What a measurement shows (R74). -/
def rateShown (n : Nat) (ppm run : Int) (sync : Bool) : Act :=
  all [put .viPpm ppm n, setS .VI_OFFSET_PPM ppm n, put .viSyncCnt run n, set .VI_SYNC_SRC (b2n sync) n, set .VI_ASRC (b2n !sync) n]

def rateFields : List Fld := [.VI_OFFSET_PPM, .VI_SYNC_SRC, .VI_ASRC]

theorem rateShown_ofInput (n : Nat) (ppm run : Int) (sync : Bool) : (rateShown n ppm run sync).Within (Eff.ofInput rateFields [.viPpm, .viSyncCnt] n) :=
  within_list ⟨within_put_input, within_setS_input, within_put_input, within_set_input, within_set_input⟩

theorem rateJudge_ofInput (n : Nat) : (rateJudge n).Within (Eff.ofInput leaveFields judgeNotes n) := within_look fun _ => within_iff fun _ => inputMismatch_ofInput n _

theorem sdiRate_to (hm : s.rd .VI_PORT_MODE n = 1 ∨ s.rd .VI_PORT_MODE n = 2) (hst : 3 ≤ s.rd .VI_STATE n) (ppm : Int) : (sdiRate n ppm).to s
    = (quadFollow n).to ((rateJudge n).to ((rateShown n ppm (s.syncRun n ppm) (s.syncNow n ppm)).to s)) := by
  have hgo : ¬ ((s.rd .VI_PORT_MODE n ≠ 1 ∧ s.rd .VI_PORT_MODE n ≠ 2) ∨ s.rd .VI_STATE n < viTrsLocked) := by
    simp only [viTrsLocked]
    omega
  rw [sdiRate, look_runs, if_neg hgo]
  simp only [rateShown, State.syncNow, State.syncRun, all_cons_to, all_nil_to]
  rfl

/-- The offset, synchronism, and the converter that an input needs that is not synchronous (R74). -/
theorem rateShown_rd (hs : SMap.sorted s.regs = true) (hn : n < 256) {ppm run : Int} {sync : Bool} (hlo : -2 ^ 19 ≤ ppm) (hhi : ppm < 2 ^ 19) :
    let u := (rateShown n ppm run sync).to s
    u.rdS .VI_OFFSET_PPM n = ppm ∧ u.rd .VI_SYNC_SRC n = b2n sync ∧ u.rd .VI_ASRC n = b2n !sync := by
  have h1 := Act.to_regs_sorted (put .viPpm ppm n) hs
  have h2 := Act.to_regs_sorted (put .viSyncCnt run n) (Act.to_regs_sorted (setS .VI_OFFSET_PPM ppm n) h1)
  have h3 := Act.to_regs_sorted (set .VI_SYNC_SRC (b2n sync) n) h2
  have hsrc : Fld.VI_SYNC_SRC.has n 0 = true := (Fld.has_iff ..).mpr ⟨hn, by decide⟩
  have hasrc : Fld.VI_ASRC.has n 0 = true := (Fld.has_iff ..).mpr ⟨hn, by decide⟩
  have hoffset := setS_rdS (f := .VI_OFFSET_PPM) (v := ppm) h1 ((Fld.has_iff ..).mpr ⟨hn, by decide⟩) (by decide) hlo hhi
  intro u
  simp only [u, rateShown]
  rw [all_cons_to, all_cons_to, all_cons_to, all_cons_to, all_cons_to, all_nil_to]
  refine ⟨?_, ?_, ?_⟩
  · simp only [State.rdS] at hoffset ⊢
    rw [set_to, State.rd_setReg_other _ _ (.inl (by decide)), set_to, State.rd_setReg_other _ _ (.inl (by decide)), put_to, State.rd_setQ]
    exact hoffset
  · rw [set_to, State.rd_setReg_other _ _ (.inl (by decide)), set_rd h2 hsrc]
    cases sync <;> rfl
  · rw [set_rd h3 hasrc]
    cases sync <;> rfl

/-- The offset is noted for the next judgement. -/
theorem rateShown_q (hq : SMap.sorted s.qty = true) (hn : n < 256) {ppm run : Int} {sync : Bool} : ((rateShown n ppm run sync).to s).q .viPpm n = ppm := by
  have hsmall : n < 2 ^ 40 := hn.trans (by decide)
  have hrest := within_list (as := [setS .VI_OFFSET_PPM ppm n, put .viSyncCnt run n, set .VI_SYNC_SRC (b2n sync) n, set .VI_ASRC (b2n !sync) n])
    (p := Eff.ofInput rateFields [.viSyncCnt] n) ⟨within_setS_input, within_put_input, within_set_input, within_set_input⟩
  rw [rateShown, all_cons_to, hrest.input_q _ hsmall, put_to]
  exact State.q_setQ_same _ hq hsmall (by decide)

/-- The judgement of an offset beyond 500 ppm at a READY input of its own (R68). -/
theorem rateJudge_mismatch (hs : SMap.sorted s.regs = true) (hn : n < 256) (hst : s.rd .VI_STATE n = 4) (hl : s.rd .VI_LINK_MODE n = 0)
    (hfmt : s.rd .VI_FMT n ≠ 0) (h255 : s.rd .VI_FMT n ≠ 255) (hun : s.q .viUnsup n = 0) (hfit : s.fitsDomain n (s.rd .VI_FMT n))
    (hfar : s.q .viPpm n < -50000 ∨ 50000 < s.q .viPpm n) :
    ((rateJudge n).to s).rd .VI_STATE n = 5 ∧ ((rateJudge n).to s).rd .VI_MISMATCH_WHY n = 2 := by
  have hwhy : s.whyNot n (if s.rd .VI_FMT n = 255 then 0 else s.rd .VI_FMT n) (s.rd .VI_RATE n) (s.q .viUnsup n == 1) (s.q .viPpm n) = 2 := by
    have hfar' : (decide (s.q .viPpm n < -50000) || decide (50000 < s.q .viPpm n)) = true := by simpa using hfar
    have hfit' : (s.rd .VI_ALIGN n != 2 && s.rd .VI_FMT n != s.rd .RD_FORMAT (s.rd .VI_DOMAIN n)) = false := by
      rcases hfit with h | h
      · simp [h]
      · rw [← h]
        simp
    rw [whyNot_single hl, if_neg h255, hun, hfar', hfit']
    simp [hfmt]
  rw [rateJudge, look_runs, hwhy, hst]
  exact inputMismatch_shows hs hn (by decide)

-- The whole measurement -------------------------------------------------------------------------------------------------

/-- The fields of inputs that a measurement writes. -/
def measureFields : List Fld := quadFields ++ rateFields ++ judgeFields

section
variable (hm : s.rd .VI_PORT_MODE n = 1 ∨ s.rd .VI_PORT_MODE n = 2) (hst : 3 ≤ s.rd .VI_STATE n)
include hm hst

/-- No register but those of the measured input and of its group's base changes, and nothing is stored or sent. -/
theorem sdiRate_keeps (ppm : Int) : let u := (sdiRate n ppm).to s
    (∀ g i j, g ∉ measureFields → g ∉ eventFields → u.rd g i j = s.rd g i j) ∧ u.mem = s.mem ∧ u.out = s.out := by
  have hshown := rateShown_ofInput n ppm (s.syncRun n ppm) (s.syncNow n ppm)
  have hjudge := rateJudge_ofInput n
  have hquad := quadFollow_ofInput n
  intro u
  simp only [u, sdiRate_to hm hst]
  refine ⟨fun g i j hg he => ?_, ?_, ?_⟩
  · have hsub : ∀ x, x ∈ quadFields ++ judgeFields ∨ x ∈ leaveFields ∨ x ∈ rateFields → x ∈ measureFields := by
      simp only [measureFields, judgeFields, List.mem_append, List.mem_cons]
      tauto
    have hnot := fun h => hg (hsub g h)
    simp only [imp_false, not_or] at hnot
    rw [hquad.input_rd _ (.inl hnot.1) he j, hjudge.input_rd _ (.inl hnot.2.1) he j, hshown.input_rd s (.inl hnot.2.2) he j]
  · rw [hquad.input_mem, hjudge.input_mem, hshown.input_mem]
  · rw [hquad.input_out, hjudge.input_out, hshown.input_out]

/-- What a measurement shows of the rate, the judgement and the group leave as it is (R74). -/
theorem sdiRate_shows (hs : SMap.sorted s.regs = true) (hn : n < 256) {ppm : Int} (hlo : -2 ^ 19 ≤ ppm) (hhi : ppm < 2 ^ 19) : let u := (sdiRate n ppm).to s
    u.rdS .VI_OFFSET_PPM n = ppm ∧ u.rd .VI_SYNC_SRC n = b2n (s.syncNow n ppm) ∧ u.rd .VI_ASRC n = b2n !s.syncNow n ppm := by
  have hkeep {g : Fld} (hg : g ∉ quadFields ++ leaveFields) (he : g ∉ eventFields) (v : State) : ((quadFollow n).to ((rateJudge n).to v)).rd g n = v.rd g n := by
    rw [List.mem_append, not_or] at hg
    exact (quadFollow_rd hg.1 he).trans ((rateJudge_ofInput n).input_rd v (.inl hg.2) he)
  intro u
  simp only [u, sdiRate_to hm hst, State.rdS]
  rw [hkeep (by decide) (by decide), hkeep (by decide) (by decide), hkeep (by decide) (by decide)]
  exact rateShown_rd hs hn hlo hhi

/-- A READY input of its own is a mismatch of reason 2 where its offset lies beyond 500 ppm (R66, R68). -/
theorem sdiRate_mismatch (hwf : s.wf = true) (hn : n < 256) (h4 : s.rd .VI_STATE n = 4) (hl : s.rd .VI_LINK_MODE n = 0) (hfmt : s.rd .VI_FMT n ≠ 0)
    (h255 : s.rd .VI_FMT n ≠ 255) (hun : s.q .viUnsup n = 0) (hfit : s.fitsDomain n (s.rd .VI_FMT n)) {ppm : Int} (hfar : ppm < -50000 ∨ 50000 < ppm) :
    ((sdiRate n ppm).to s).rd .VI_STATE n = 5 ∧ ((sdiRate n ppm).to s).rd .VI_MISMATCH_WHY n = 2 := by
  have hshown := rateShown_ofInput n ppm (s.syncRun n ppm) (s.syncNow n ppm)
  have hppm := rateShown_q (s := s) (ppm := ppm) (run := s.syncRun n ppm) (sync := s.syncNow n ppm) (State.wf_qty hwf) hn
  have hs := Act.to_regs_sorted (rateShown n ppm (s.syncRun n ppm) (s.syncNow n ppm)) (State.wf_regs hwf)
  have hrd {g : Fld} (hg : g ∉ rateFields) (he : g ∉ eventFields) (i : Nat) : ((rateShown n ppm (s.syncRun n ppm) (s.syncNow n ppm)).to s).rd g i = s.rd g i :=
    hshown.input_rd s (.inl hg) he
  rw [sdiRate_to hm hst, quadFollow_rd (by decide) (by decide), quadFollow_rd (by decide) (by decide)]
  refine rateJudge_mismatch hs hn ((hrd (by decide) (by decide) n).trans h4) ((hrd (by decide) (by decide) n).trans hl) ?_ ?_
    ((hshown.input_q s (hn.trans (by decide))).trans hun) ?_ (by rwa [hppm])
  · rwa [hrd (by decide) (by decide)]
  · rwa [hrd (by decide) (by decide)]
  · simpa only [State.fitsDomain, hrd (g := .VI_FMT) (by decide) (by decide), hrd (g := .VI_ALIGN) (by decide) (by decide),
      hrd (g := .RD_FORMAT) (by decide) (by decide), hrd (g := .VI_DOMAIN) (by decide) (by decide)] using hfit

end

end

-- O14 -------------------------------------------------------------------------------------------------------------------

/-- LN_RX_PPM of a locked SDI lane follows the measurement (R490). -/
def lanePpm (n : Nat) (ppm : Int) : Act := look fun s =>
  iff (s.rd .VI_PORT_MODE n == 1 && decide (rxRateLocked ≤ s.rd .LN_RX_STATE n)) (setS .LN_RX_PPM (roundQ ppm 10) n)

theorem exec_sdiRateMeasure (s : State) (t n : Nat) (ppm : Int) :
    exec (.sdiRateMeasure t n ppm) s = .next ((sdiInput n (sdiRate n ppm)).to ((lanePpm n ppm).to (s.since t))) := by
  show run _ s = _
  rw [run_eq, all_cons_to, all_cons_to, all_cons_to, all_nil_to, at_to_since]
  rfl

theorem lanePpm_touches (n : Nat) (ppm : Int) : (lanePpm n ppm).Touches [.reg .LN_RX_PPM] := touches_look fun _ => touches_iff fun _ => touches_setS

/-- The lane's offset counts in tenths of a part per million. -/
theorem lanePpm_shows {s : State} {n : Nat} {ppm : Int} (hs : SMap.sorted s.regs = true) (hn : n < 256) (hm : s.rd .VI_PORT_MODE n = 1)
    (hrx : 3 ≤ s.rd .LN_RX_STATE n) (hlo : -327670 ≤ ppm) (hhi : ppm < 327670) : ((lanePpm n ppm).to s).rdS .LN_RX_PPM n = roundQ ppm 10 := by
  have hround : -32768 ≤ roundQ ppm 10 ∧ roundQ ppm 10 < 32768 := by
    have hup : b2n (Config.roundsUp ppm 10) ≤ 1 := by cases Config.roundsUp ppm 10 <;> decide
    simp only [roundQ]
    split <;> omega
  rw [lanePpm, look_runs, hm, iff_to, if_pos (by simpa [rxRateLocked] using hrx)]
  exact setS_rdS hs ((Fld.has_iff ..).mpr ⟨hn.trans (by decide), by decide⟩) (by decide) hround.1 hround.2

/-- Another lane's offset stays. -/
theorem lanePpm_rd_other {s : State} {n : Nat} {ppm : Int} {g : Fld} {k : Nat} (h : g ≠ .LN_RX_PPM ∨ k ≠ n) (j : Nat) :
    ((lanePpm n ppm).to s).rd g k j = s.rd g k j := by
  rw [lanePpm, look_runs, iff_to]
  split
  · exact State.rd_setReg_other _ _ (h.imp_right .inl)
  · rfl

theorem b2n_eq_ite (b : Bool) : b2n b = if b = true then 1 else 0 := by cases b <;> rfl

/-- An input that was synchronous stays so within 2 ppm of its domain's rate (R74). -/
theorem syncNow_stays {s : State} {n : Nat} {ppm : Int} (h : s.rd .VI_SYNC_SRC n = 1) :
    b2n (s.syncNow n ppm) = if s.rateOfDomain n = true ∧ -200 ≤ ppm ∧ ppm ≤ 200 then 1 else 0 := by
  simp only [b2n_eq_ite, State.syncNow, if_pos h, Bool.and_eq_true, decide_eq_true_eq, and_assoc]

/-- An input that was not becomes so once 64 frames lay within 1 ppm (R74). -/
theorem syncNow_begins {s : State} {n : Nat} {ppm : Int} (h : s.rd .VI_SYNC_SRC n = 0) :
    b2n (s.syncNow n ppm) = 1 ↔ (s.rateOfDomain n = true ∧ -100 ≤ ppm ∧ ppm ≤ 100) ∧ 48 ≤ s.q .viSyncCnt n := by
  have hone : (b2n (s.syncNow n ppm) = 1) ↔ 64 ≤ s.syncRun n ppm := by
    simp [b2n_eq_ite, State.syncNow, h]
  rw [hone, State.syncRun]
  simp only [Bool.and_eq_true, decide_eq_true_eq, and_assoc]
  split
  next hnear => exact ⟨fun _ => ⟨hnear.1, hnear.2.1, hnear.2.2, by omega⟩, fun _ => by omega⟩
  next hnear => exact ⟨fun h => absurd h (by decide), fun h => absurd ⟨h.1, h.2.1, h.2.2.1⟩ hnear⟩

/-- Settles O14: the lane is `lanePpm_shows`, what the input shows is `sdiRate_shows`, its mismatch `sdiRate_mismatch`, what it leaves `sdiRate_keeps`; beside it only
what it feeds changes (`sdiInput_same`). -/
theorem sourceRateIsMeasured : Obligations.SourceRateIsMeasured := by
  intro s t n ppm hwf _ hn hm hst hlo hhi near
  have hregs := State.wf_regs hwf
  have hlane := ((since_sameBut s t).mono (qs := [.now, .reg .LN_RX_PPM]) (by decide)).trans ((lanePpm_touches n ppm).mono.step (s.since t))
  have hshows := fun h1 h3 hl hh => lanePpm_shows (s := s.since t) (n := n) (ppm := ppm) hregs hn h1 h3 hl hh
  have hother {g : Fld} {k : Nat} (h : g ≠ .LN_RX_PPM ∨ k ≠ n) (j : Nat) := lanePpm_rd_other (s := s.since t) (ppm := ppm) h j
  have hvwf : ((lanePpm n ppm).to (s.since t)).wf = true := Act.to_wf _ (Act.to_wf (at_ t) hwf)
  refine ⟨_, exec_sdiRateMeasure s t n ppm, ?_⟩
  generalize (lanePpm n ppm).to (s.since t) = v at hlane hshows hother hvwf
  have hv {g : Fld} (hg : g ≠ .LN_RX_PPM) (i : Nat) : v.rd g i = s.rd g i := hother (.inl hg) 0
  have hsync : v.syncNow n ppm = s.syncNow n ppm := by
    have hrate : v.rateOfDomain n = s.rateOfDomain n := by
      simp only [State.rateOfDomain, State.domFormat, State.viBase, hv (g := .VI_FMT) (by decide), hv (g := .RD_FORMAT) (by decide),
        hv (g := .VI_DOMAIN) (by decide), hv (g := .VI_LINK_MODE) (by decide)]
    rw [State.syncNow, State.syncNow, State.syncRun, State.syncRun, hv (by decide), hrate, hlane.q (by decide) (hn.trans (by decide)) (by decide)]
  have hvm : v.rd .VI_PORT_MODE n = 1 ∨ v.rd .VI_PORT_MODE n = 2 := by rwa [hv (by decide)]
  have hvst : 3 ≤ v.rd .VI_STATE n := by rwa [hv (by decide)]
  obtain ⟨hkeep, hmem, hout⟩ := sdiRate_keeps hvm hvst ppm
  obtain ⟨hoffset, hsrc, hasrc⟩ := sdiRate_shows hvm hvst (State.wf_regs hvwf) hn hlo hhi
  have hmismatch := fun h4 hl h0 h255 hun hfit => sdiRate_mismatch hvm hvst hvwf hn h4 hl h0 h255 hun hfit (ppm := ppm)
  have hfeed := sdiInput_same (State.wf_regs hvwf) n (sdiRate n ppm)
  rw [hsync] at hsrc hasrc
  generalize (sdiInput n (sdiRate n ppm)).to v = u at hfeed
  have hshown {g : Fld} (hg : Part.reg g ∉ feedParts) : u.rd g n = ((sdiRate n ppm).to v).rd g n := hfeed.rd hg n 0
  have hfar {g : Fld} (hg : g ∉ measureFields ++ feedFields ++ eventFields) (i j : Nat) : u.rd g i j = v.rd g i j := by
    simp only [List.mem_append, not_or] at hg
    rw [hfeed.only (fs := feedFields) (by decide +kernel) g i j hg.1.2 hg.2, hkeep g i j hg.1.1 hg.2]
  have hsrcU : u.rd .VI_SYNC_SRC n = b2n (s.syncNow n ppm) := (hshown (by decide +kernel)).trans hsrc
  refine ⟨fun g i j hg => ?_, fun g k j hg hb => ?_, fun h1 h3 hl hh => ?_, ?_, ?_, ?_, ?_, fun h1 => ?_, fun h0 => ?_, fun h4 hl h0 h255 hun hfit hfar => ?_⟩
  · have hblocks : ∀ x ∈ measureFields ++ feedFields ++ eventFields, blockOf x.desc.addr ∈ [0x01, 0x02, 0x05, 0x0B, 0x0F] := by decide +kernel
    have hln : g ≠ .LN_RX_PPM := by
      rintro rfl
      exact hg (by decide +kernel)
    exact (hfar (fun h => hg (hblocks g h)) i j).trans (hother (.inl hln) j)
  · have hblocks : ∀ x ∈ measureFields ++ feedFields ++ eventFields, blockOf x.desc.addr ≠ 1 := by decide +kernel
    exact (hfar (fun h => hblocks g h hb) k j).trans (hother hg j)
  · rw [State.rdS, hfar (by decide)]
    exact hshows h1 h3 hl hh
  · exact (hfeed.part .mem (by decide +kernel)).trans (hmem.trans (hlane.part .mem (by decide)))
  · exact (hfeed.part .out (by decide +kernel)).trans (hout.trans (hlane.part .out (by decide)))
  · rw [State.rdS, hshown (by decide +kernel)]
    exact hoffset
  · rw [hsrcU, hshown (by decide +kernel), hasrc]
    cases s.syncNow n ppm <;> rfl
  · exact hsrcU.trans (syncNow_stays h1)
  · rw [hsrcU]
    exact syncNow_begins h0
  · rw [hshown (by decide +kernel), hshown (by decide +kernel)]
    refine hmismatch ((hv (by decide) n).trans h4) ((hv (by decide) n).trans hl) ?_ ?_ ?_ ?_ hfar
    · rwa [hv (by decide)]
    · rwa [hv (by decide)]
    · exact (hlane.q (by decide) (hn.trans (by decide)) (by decide)).trans hun
    · simpa only [State.fitsDomain, hv (g := .VI_FMT) (by decide), hv (g := .RD_FORMAT) (by decide), hv (g := .VI_DOMAIN) (by decide),
        hv (g := .VI_ALIGN) (by decide)] using hfit

end Sys2Proof.Machine
end

section
/-! SUPPORT. What an act writes at one object alone, and the number that a field of bits holds once it is replaced. -/
set_option Elab.async false
namespace Sys2Proof.Machine

-- Registers of one object -------------------------------------------------------------------------------------------------

/-- The effects that write no register but the listed fields of object `k`, and those in which an event shows. -/
def Eff.writesAt (k : Nat) (fs : List Fld) : Eff → Prop
  | .wr f i _ _ => f ∈ fs ∧ i = k ∨ f ∈ eventFields
  | .burnRollback _ _ => False
  | .restart => False
  | _ => True

section
variable {k : Nat} {fs : List Fld} {a : Act}

theorem Act.Within.onlyAt (h : a.Within (Eff.writesAt k fs)) (s : State) : s.onlyAt k fs (a.to s) := fun f i j hf he =>
  h.keeps (P := fun t => t.rd f i j = s.rd f i j) (fun t e hp ht => by
    rw [← ht]
    cases e
    case wr g l m v =>
      refine State.rd_setReg_other _ _ ?_
      by_contra hn
      simp only [not_or, not_not] at hn
      obtain ⟨rfl, rfl, -⟩ := hn
      exact hp.elim (fun hw => hf.elim (fun hf => hf hw.1) fun hi => hi hw.2) he
    case put => exact State.rd_setQ ..
    case burnRollback => exact hp.elim
    case restart => exact hp.elim
    all_goals exact State.rd_congr (by simp only [State.app]) ..) rfl

theorem writesAt_set {f : Fld} {v j : Nat} (hf : f ∈ fs := by decide) : (set f v k j).Within (Eff.writesAt k fs) := within_set (.inl ⟨hf, rfl⟩)
theorem writesAt_count {f : Fld} {d j : Nat} (hf : f ∈ fs := by decide) : (count f d k j).Within (Eff.writesAt k fs) := within_count fun _ => .inl ⟨hf, rfl⟩
theorem writesAt_put {x : Qty} {v : Int} {i j : Nat} : (put x v i j).Within (Eff.writesAt k fs) := within_put trivial
theorem writesAt_addQ {x : Qty} {d : Int} {i j : Nat} : (addQ x d i j).Within (Eff.writesAt k fs) := within_addQ fun _ => trivial
theorem writesAt_raise {e : Ev} {i p : Nat} : (raise e i p).Within (Eff.writesAt k fs) := (raise_within e i p).mono fun e he => by
  cases e
  case wr => exact .inr he
  case put => trivial
  case evq => trivial
  case sessions => trivial
  all_goals exact he.elim

theorem writesAt_all {as : List Act} (h : as.Forall (Act.Within (Eff.writesAt k fs))) : (all as).Within (Eff.writesAt k fs) :=
  within_all (List.forall_iff_forall_mem.mp h)

end

theorem State.onlyAt_trans {k : Nat} {fs : List Fld} {s t u : State} (h : s.onlyAt k fs t) (h' : t.onlyAt k fs u) : s.onlyAt k fs u :=
  fun f i j hf he => (h' f i j hf he).trans (h f i j hf he)

theorem State.onlyAt_of_regs {k : Nat} {fs : List Fld} {s u : State} (h : u.regs = s.regs) : s.onlyAt k fs u := fun f i j _ _ => State.rd_congr h f i j

-- A field of bits -----------------------------------------------------------------------------------------------------------

/-- A replaced field of bits reads as the new value. -/
theorem bits_setBits (x lo w v : Nat) : bits (setBits x lo w v) lo w = v % 2 ^ w := by
  unfold setBits bits
  generalize hA : 2 ^ lo = A
  generalize hB : 2 ^ w = B
  have hA0 : 0 < A := hA ▸ Nat.two_pow_pos lo
  have hsplit : x = x % A + A * (x / A % B + B * (x / A / B)) := by rw [Nat.mod_add_div, Nat.mod_add_div]
  have hrest : x - x / A % B * A = x % A + A * (B * (x / A / B)) := by
    rw [Nat.mul_add] at hsplit
    rw [Nat.mul_comm (x / A % B)]
    omega
  rw [hrest, Nat.mul_comm (v % B), Nat.add_assoc, ← Nat.mul_add, Nat.add_mul_div_left _ _ hA0, Nat.div_eq_of_lt (Nat.mod_lt _ hA0), Nat.zero_add,
    Nat.mul_add_mod, Nat.mod_mod]

end Sys2Proof.Machine
end

section
/-! SUPPORT. The delivery moment of a cell (R103, R105, R127, R132, R133), and O18. -/
set_option Elab.async false
namespace Sys2Proof.Machine

-- What the selector takes -----------------------------------------------------------------------------------------------------

/-- The copy in plane `p` of the cell with SEQ `seq` of the stream that output `n` carries (R105). -/
def State.copyAt (s : State) (n seq p : Nat) : Option CellCopy :=
  s.copies.find? fun c => c.src == s.rd .XS_CUR n && c.plane == p && c.seq == seq % 2 ^ 16

/-- The plane that the selector of output `n` takes for the cell with SEQ `seq`, 2 for neither (R132). -/
def State.pickAt (s : State) (n seq : Nat) : Nat :=
  selectPlane (s.rd .XS_SEL_MODE n) (s.rd .XS_PLANE_PREF n) (s.rd .XS_PLANES n) (s.copyAt n seq 0).isSome (s.copyAt n seq 1).isSome

/-- AUTO takes the plane that is not preferred, of a path on two (R133). -/
def State.picksOther (s : State) (n seq : Nat) : Bool := s.rd .XS_SEL_MODE n == 0 && s.rd .XS_PLANES n == 3 && s.pickAt n seq != s.rd .XS_PLANE_PREF n

/-- The place in its frame of the cell with SEQ `seq` of the stream that output `n` carries (R102). -/
def State.idxAt (s : State) (f : Format) (n seq : Nat) : Nat := placeInFrame f.cells seq (s.qn .rxFs (s.rd .XS_CUR n))

/-- The frame to which that cell belongs, at its delivery moment (R103). -/
def State.frameOfCell (s : State) (f fm : Format) (n seq : Nat) : Nat :=
  fm.frameAt (s.house - s.idxAt f n seq * cellBits * fm.den * psS / (fm.num * f.frameBits))

section
variable {mode pref planes : Nat} {a b : Bool}

theorem selectPlane_prefers : selectPlane 0 pref 3 true true = pref := by simp [selectPlane]

theorem selectPlane_forceA : selectPlane 1 pref planes true b = 0 := by simp [selectPlane]

theorem selectPlane_forceB : selectPlane 2 pref planes a true = 1 := by simp [selectPlane]

theorem selectPlane_neither : selectPlane mode pref planes false false = 2 := by
  simp only [selectPlane, Bool.false_eq_true, if_false, ite_self]
  split <;> rfl

end

-- The branches of a delivery ---------------------------------------------------------------------------------------------------

section
variable {s : State} {n seq : Nat}

theorem exec_deliveryMoment (t src : Nat) : exec (.fabricDeliveryMoment t n src seq) s = .next ((iff (s.rd .XS_CUR n == src) (deliver n seq)).to (s.since t)) := by
  show run _ s = _
  rw [run_eq, all_cons_to, all_cons_to, all_nil_to, at_to_since]

theorem deliver_notRemote (h : s.feed n ≠ .remote) : (deliver n seq).to s = s := by
  unfold deliver
  rw [look_runs]
  split
  · exact absurd ‹_› h
  · rfl

section
variable {f fm : Format} (hfeed : s.feed n = .remote) (hf : s.linkFormat n = some f) (hfm : s.domFormat (s.rd .VO_DOMAIN (s.voBase n)) = some fm)
include hfeed hf hfm

theorem deliver_taken {c : CellCopy} (hc : s.copyAt n seq (s.pickAt n seq) = some c) : (deliver n seq).to s
    = (all [putCell n (s.frameOfCell f fm n seq) (s.idxAt f n seq) c.payload, put .voFresh 0 n, iff (s.picksOther n seq) (tookOther n)]).to s := by
  unfold State.copyAt State.pickAt State.copyAt at hc
  unfold deliver
  simp only [look_runs, hfeed, hf, hfm, hc]
  rfl

theorem deliver_fresh (hc : s.copyAt n seq (s.pickAt n seq) = none) (hv : s.q .voFresh n ≠ 0) : (deliver n seq).to s
    = (freshLines f n (s.frameOfCell f fm n seq) (s.idxAt f n seq)).to s := by
  unfold State.copyAt State.pickAt State.copyAt at hc
  unfold deliver
  simp only [look_runs, hfeed, hf, hfm, hc, if_pos hv]
  rfl

theorem deliver_repeated (hc : s.copyAt n seq (s.pickAt n seq) = none) (hv : s.q .voFresh n = 0) : (deliver n seq).to s
    = (all [putCell n (s.frameOfCell f fm n seq) (s.idxAt f n seq) (s.lineBefore f n (s.frameOfCell f fm n seq) (s.idxAt f n seq)),
        iff (!(s.copyAt n seq 0).isSome && !(s.copyAt n seq 1).isSome) (all [count .FAB_LOST_BOTH, raisePerSecond .CELLS_LOST_BOTH .lostBothAt (s.rd .XS_CUR n) 1])]).to s := by
  unfold State.copyAt State.pickAt State.copyAt at hc
  unfold deliver
  simp only [look_runs, hfeed, hf, hfm, hc, if_neg (not_not.mpr hv)]
  rfl

end
end

theorem picksOther_iff {s : State} {n seq : Nat} : s.picksOther n seq = true ↔ s.rd .XS_SEL_MODE n = 0 ∧ s.rd .XS_PLANES n = 3 ∧ s.pickAt n seq ≠ s.rd .XS_PLANE_PREF n := by
  simp [State.picksOther, and_assoc]

theorem neither_iff {a b : Bool} : (!a && !b) = true ↔ a = false ∧ b = false := by simp

/-- The words of the line before fill one cell (R105). -/
theorem lineBefore_lt (s : State) (f : Format) (n F idx : Nat) : s.lineBefore f n F idx < 2 ^ cellBits := Nat.mod_lt _ (Nat.two_pow_pos _)

-- What a branch leaves ---------------------------------------------------------------------------------------------------------

theorem putCell_touches (n F idx v : Nat) : (putCell n F idx v).Touches [.qty .voBits] := touches_look fun _ => touches_put

/-- The words of a cell stand in the output's picture (R88). -/
theorem putCell_bits {s : State} (hwf : s.wf = true) {n : Nat} (hn : n < 256) (F idx v : Nat) :
    bits (((putCell n F idx v).to s).qn .voBits n (F % 2)) (idx * cellBits) cellBits = v % 2 ^ cellBits := by
  have hq : ((putCell n F idx v).to s).q .voBits n (F % 2) = (setBits (s.qn .voBits n (F % 2)) (idx * cellBits) cellBits v : Nat) :=
    put_q hwf _ _ (linkIndex_small hn) ((Nat.mod_lt F (by decide)).trans (by decide))
  rw [State.qn, hq, Int.toNat_natCast, bits_setBits]

/-- The report of the other plane's copies, at most once a second (R133). -/
def reportOther (n : Nat) : Act := all [addQ .xsAltSince 1 n, look fun s =>
  if s.q .xsAltAt n = 0 ∨ s.q .xsAltAt n + psS ≤ (s.now : Int) + 1 then
    all [put .xsAltAt (s.now + 1) n, raise .PLANE_ALTERNATE n (s.qn .xsAltSince n), put .xsAltSince 0 n]
  else skip]

def reportOtherParts : List Part := [.qty .xsAltSince, .qty .xsAltAt] ++ eventParts

theorem reportOther_touches (n : Nat) : (reportOther n).Touches reportOtherParts :=
  touches_all ⟨touches_addQ, touches_look fun _ => touches_ite (fun _ => touches_all ⟨touches_put, touches_raise, touches_put⟩) fun _ => touches_skip⟩

theorem tookOther_to (n : Nat) (s : State) : (tookOther n).to s = (reportOther n).to ((count .XS_ALT_CELLS 1 n).to s) := by
  rw [tookOther, all_cons_to]
  rfl

def otherParts : List Part := .reg .XS_ALT_CELLS :: reportOtherParts

theorem tookOther_touches (n : Nat) : (tookOther n).Touches otherParts where
  step s := by
    rw [tookOther_to]
    exact ((touches_count (f := .XS_ALT_CELLS)).step s).trans ((reportOther_touches n).mono.step _)

theorem tookOther_writesAt (n : Nat) : (tookOther n).Within (Eff.writesAt n [.XS_ALT_CELLS]) :=
  writesAt_all ⟨writesAt_count, writesAt_addQ, within_look fun _ =>
    within_ite (fun _ => writesAt_all ⟨writesAt_put, writesAt_raise, writesAt_put⟩) fun _ => within_skip⟩

/-- The copy of the other plane is counted (R133). -/
theorem tookOther_counts {s : State} (hs : SMap.sorted s.regs = true) {n : Nat} (hn : n < 256) :
    ((tookOther n).to s).rd .XS_ALT_CELLS n = min (s.rd .XS_ALT_CELLS n + 1) 0xFFFFFFFF := by
  rw [tookOther_to, (reportOther_touches n).rd _ (by decide +kernel) n]
  exact count_rd hs ((Fld.has_iff ..).mpr ⟨hn, by decide⟩)

def deliverParts : List Part := [.qty .voBits, .qty .voFresh, .qty .lostBothAt, .reg .VO_CHARCOAL_LINES, .reg .FAB_LOST_BOTH] ++ otherParts

theorem freshLines_touches (f : Format) (n F idx : Nat) : (freshLines f n F idx).Touches [.qty .voBits, .qty .voFresh, .reg .VO_CHARCOAL_LINES] :=
  touches_look fun _ => touches_all ⟨(putCell_touches ..).mono, touches_iff fun _ => touches_all ⟨touches_count, touches_put⟩⟩

theorem freshLines_writesAt (f : Format) (n F idx : Nat) : (freshLines f n F idx).Within (Eff.writesAt n [.VO_CHARCOAL_LINES]) :=
  within_look fun _ => writesAt_all ⟨within_look fun _ => writesAt_put, within_iff fun _ => writesAt_all ⟨writesAt_count, writesAt_put⟩⟩

section
variable {s : State} {n : Nat} (hwf : s.wf = true) (hn : n < 256)
include hwf hn

/-- A copy that is taken stands in the picture; the other plane's is counted (R132, R133). -/
theorem taken_facts (F idx v : Nat) (other : Bool) : let u := (all [putCell n F idx v, put .voFresh 0 n, iff other (tookOther n)]).to s
    State.SameBut deliverParts s u ∧ bits (u.qn .voBits n (F % 2)) (idx * cellBits) cellBits = v % 2 ^ cellBits ∧ u.q .voFresh n = 0
    ∧ (if other = true then u.rd .XS_ALT_CELLS n = min (s.rd .XS_ALT_CELLS n + 1) 0xFFFFFFFF ∧ s.onlyAt n [.XS_ALT_CELLS] u else u.regs = s.regs) := by
  have hi := linkIndex_small hn
  have hF : F % 2 < 2 ^ 40 := (Nat.mod_lt F (by decide)).trans (by decide)
  have hput := putCell_touches n F idx v
  have hfresh : (put .voFresh 0 n).Touches [.qty .voFresh] := touches_put
  have hbits := putCell_bits hwf hn F idx v
  have hwf1 := Act.to_wf (putCell n F idx v) hwf
  have hsame1 := hput.step s
  intro u
  have hu : u = (iff other (tookOther n)).to ((put .voFresh 0 n).to ((putCell n F idx v).to s)) := by
    show (all _).to s = _
    rw [all_cons_to, all_cons_to, all_cons_to, all_nil_to]
  clear_value u
  generalize (putCell n F idx v).to s = w at *
  have hq0 : ((put .voFresh 0 n).to w).q .voFresh n = 0 := put_q hwf1 _ _ hi
  have hwf2 := Act.to_wf (put .voFresh 0 n) hwf1
  have hsame2 : State.SameBut [.qty .voBits, .qty .voFresh] s ((put .voFresh 0 n).to w) := (hsame1.mono (by decide)).trans (hfresh.mono.step w)
  have hbits2 : bits (((put .voFresh 0 n).to w).qn .voBits n (F % 2)) (idx * cellBits) cellBits = v % 2 ^ cellBits := by
    rw [State.qn, hfresh.q w (by decide) hi hF]
    exact hbits
  generalize (put .voFresh 0 n).to w = x at *
  cases other
  · obtain rfl : u = x := hu
    exact ⟨hsame2.mono (by decide +kernel), hbits2, hq0, hsame2.regs rfl⟩
  · have hother := tookOther_touches n
    obtain rfl : u = (tookOther n).to x := hu
    refine ⟨(hsame2.mono (by decide +kernel)).trans ((hother.step x).mono (by decide +kernel)), ?_, (hother.q x (by decide +kernel) hi).trans hq0, ?_⟩
    · rw [State.qn, hother.q x (by decide +kernel) hi hF]
      exact hbits2
    · rw [if_pos rfl]
      refine ⟨?_, State.onlyAt_trans (State.onlyAt_of_regs (hsame2.regs rfl)) ((tookOther_writesAt n).onlyAt x)⟩
      rw [tookOther_counts (State.wf_regs hwf2) hn, hsame2.rd (by decide)]

/-- A cell that is missing repeats the line before, and is counted and reported where no plane has brought it (R105). -/
theorem repeated_facts (F idx v src : Nat) (lost : Bool) (hsrc : src < 2 ^ 40) :
    let u := (all [putCell n F idx v, iff lost (all [count .FAB_LOST_BOTH, raisePerSecond .CELLS_LOST_BOTH .lostBothAt src 1])]).to s
    State.SameBut deliverParts s u ∧ bits (u.qn .voBits n (F % 2)) (idx * cellBits) cellBits = v % 2 ^ cellBits
    ∧ (if lost = true then u.rd .FAB_LOST_BOTH = min (s.rd .FAB_LOST_BOTH + 1) 0xFFFFFFFF ∧ s.only [.FAB_LOST_BOTH] u
        ∧ (s.idleBlock 3 = false → s.q .lostBothAt src = 0 → u.latched .CELLS_LOST_BOTH = true)
      else u.regs = s.regs) := by
  have hi := linkIndex_small hn
  have hF : F % 2 < 2 ^ 40 := (Nat.mod_lt F (by decide)).trans (by decide)
  have hput := putCell_touches n F idx v
  have hbits := putCell_bits hwf hn F idx v
  have hwf1 := Act.to_wf (putCell n F idx v) hwf
  have hsame1 := hput.step s
  have hcount : (count .FAB_LOST_BOTH).Touches [.reg .FAB_LOST_BOTH] := touches_count
  have hraise : (raisePerSecond .CELLS_LOST_BOTH .lostBothAt src 1).Touches (.qty .lostBothAt :: eventParts) := raisePerSecond_touches (by decide +kernel)
  intro u
  have hu : u = (iff lost (all [count .FAB_LOST_BOTH, raisePerSecond .CELLS_LOST_BOTH .lostBothAt src 1])).to ((putCell n F idx v).to s) := by
    show (all _).to s = _
    rw [all_cons_to, all_cons_to, all_nil_to]
  clear_value u
  generalize (putCell n F idx v).to s = w at *
  cases lost
  · obtain rfl : u = w := hu
    exact ⟨hsame1.mono (by decide +kernel), hbits, hsame1.regs rfl⟩
  · rw [iff_to, if_pos rfl, all_cons_to, all_cons_to, all_nil_to] at hu
    have hsame2 : State.SameBut (.reg .FAB_LOST_BOTH :: .qty .lostBothAt :: eventParts) w u := by
      rw [hu]
      exact (hcount.mono (by decide +kernel) |>.step w).trans (hraise.mono (by decide +kernel) |>.step _)
    have hsame := (hsame1.mono (qs := .reg .FAB_LOST_BOTH :: .qty .voBits :: .qty .lostBothAt :: eventParts) (by decide +kernel)).trans (hsame2.mono (by decide +kernel))
    refine ⟨hsame.mono (by decide +kernel), ?_, ?_⟩
    · rw [State.qn, hsame2.q (by decide +kernel) hi hF]
      exact hbits
    · rw [if_pos rfl]
      refine ⟨?_, hsame.only (by decide +kernel), fun hidle hlast => ?_⟩
      · rw [hu, hraise.rd, count_rd (State.wf_regs hwf1), hsame1.rd (by decide)]
      · have hw : ((count .FAB_LOST_BOTH).to w).q .lostBothAt src = 0 := (hcount.q w (by decide) hsrc).trans ((hsame1.q (by decide) hsrc (by decide)).trans hlast)
        have hwf2 := Act.to_wf (count .FAB_LOST_BOTH) hwf1
        have hidle2 : ((count .FAB_LOST_BOTH).to w).idleBlock 3 = false := by
          rw [State.idleBlock, hcount.rd, hcount.rd, hsame1.rd (by decide), hsame1.rd (by decide)]
          exact hidle
        rw [hu]
        generalize (count .FAB_LOST_BOTH).to w = x at *
        rw [raisePerSecond, look_runs, if_pos (.inl hw), all_cons_to, all_cons_to, all_nil_to]
        exact raise_latches .CELLS_LOST_BOTH src 1 (State.wf_regs (Act.to_wf _ hwf2)) (by
          have hq : (put .lostBothAt (x.now + 1) src).Touches [.qty .lostBothAt] := touches_put
          rw [State.idleBlock, hq.rd, hq.rd]
          exact hidle2) (by decide)

end

-- A delivery ------------------------------------------------------------------------------------------------------------------

section
variable {s : State} {n seq : Nat} {f fm : Format} (hwf : s.wf = true) (hn : n < 256)
  (hfeed : s.feed n = .remote) (hf : s.linkFormat n = some f) (hfm : s.domFormat (s.rd .VO_DOMAIN (s.voBase n)) = some fm)
include hwf hn hfeed hf hfm

/-- The copy that the selector takes stands in the picture (R127, R132, R133). -/
theorem deliver_taken_facts {c : CellCopy} (hc : s.copyAt n seq (s.pickAt n seq) = some c) : let u := (deliver n seq).to s
    u.mem = s.mem ∧ u.out = s.out
    ∧ bits (u.qn .voBits n (s.frameOfCell f fm n seq % 2)) (s.idxAt f n seq * cellBits) cellBits = c.payload % 2 ^ cellBits ∧ u.q .voFresh n = 0
    ∧ (if s.rd .XS_SEL_MODE n = 0 ∧ s.rd .XS_PLANES n = 3 ∧ s.pickAt n seq ≠ s.rd .XS_PLANE_PREF n then
        u.rd .XS_ALT_CELLS n = min (s.rd .XS_ALT_CELLS n + 1) 0xFFFFFFFF ∧ s.onlyAt n [.XS_ALT_CELLS] u
      else u.regs = s.regs) := by
  obtain ⟨hsame, hbits, hfresh, hregs⟩ := taken_facts hwf hn (s.frameOfCell f fm n seq) (s.idxAt f n seq) c.payload (s.picksOther n seq)
  rw [deliver_taken hfeed hf hfm hc]
  refine ⟨hsame.mem, hsame.out, hbits, hfresh, ?_⟩
  split
  next ho => rwa [if_pos (picksOther_iff.mpr ho)] at hregs
  next ho => rwa [if_neg fun h => ho (picksOther_iff.mp h)] at hregs

/-- A cell of which no copy is taken is a line of a new source that has not arrived, or repeats the line before (R105, R127). -/
theorem deliver_missing_facts (hsrc : s.rd .XS_CUR n < 2 ^ 40) (hc : s.copyAt n seq (s.pickAt n seq) = none) : let u := (deliver n seq).to s
    u.mem = s.mem ∧ u.out = s.out
    ∧ (if s.q .voFresh n ≠ 0 then s.onlyAt n [.VO_CHARCOAL_LINES] u
      else bits (u.qn .voBits n (s.frameOfCell f fm n seq % 2)) (s.idxAt f n seq * cellBits) cellBits = s.lineBefore f n (s.frameOfCell f fm n seq) (s.idxAt f n seq)
        ∧ (if (s.copyAt n seq 0).isSome = false ∧ (s.copyAt n seq 1).isSome = false then
            u.rd .FAB_LOST_BOTH = min (s.rd .FAB_LOST_BOTH + 1) 0xFFFFFFFF ∧ s.only [.FAB_LOST_BOTH] u
            ∧ (s.idleBlock 3 = false → s.q .lostBothAt (s.rd .XS_CUR n) = 0 → u.latched .CELLS_LOST_BOTH = true)
          else u.regs = s.regs)) := by
  by_cases hv : s.q .voFresh n = 0
  · obtain ⟨hsame, hbits, hlost⟩ := repeated_facts hwf hn (s.frameOfCell f fm n seq) (s.idxAt f n seq)
      (s.lineBefore f n (s.frameOfCell f fm n seq) (s.idxAt f n seq)) (s.rd .XS_CUR n) (!(s.copyAt n seq 0).isSome && !(s.copyAt n seq 1).isSome) hsrc
    rw [deliver_repeated hfeed hf hfm hc hv]
    refine ⟨hsame.mem, hsame.out, ?_⟩
    rw [if_neg (not_not.mpr hv)]
    refine ⟨hbits.trans (Nat.mod_eq_of_lt (lineBefore_lt ..)), ?_⟩
    split
    next ho => rwa [if_pos (neither_iff.mpr ho)] at hlost
    next ho => rwa [if_neg fun h => ho (neither_iff.mp h)] at hlost
  · have hsame := (freshLines_touches f n (s.frameOfCell f fm n seq) (s.idxAt f n seq)).step s
    rw [deliver_fresh hfeed hf hfm hc hv]
    exact ⟨hsame.mem, hsame.out, by
      rw [if_pos hv]
      exact (freshLines_writesAt _ _ _ _).onlyAt s⟩

end

/-- Settles O18: outside the remote feed `deliver_notRemote`, a copy that is taken `deliver_taken_facts`, none taken `deliver_missing_facts`. -/
theorem selectorTakesOnePlaneCopy : Obligations.SelectorTakesOnePlaneCopy := by
  intro s t out seq hwf hfits hout
  refine ⟨fun src h => ?_, fun f fm hfeed hf hfm => ⟨?_, ?_, ?_, ?_, ?_⟩⟩
  · rw [exec_deliveryMoment, iff_to]
    split
    case isTrue hsrc => rw [deliver_notRemote (s := s.since t) (h.resolve_right fun hne => hne (beq_iff_eq.mp hsrc).symm)]
    case isFalse => rfl
  · have hexec : exec (.fabricDeliveryMoment t out (s.rd .XS_CUR out) seq) s = .next ((deliver out seq).to (s.since t)) := by
      rw [exec_deliveryMoment, iff_to, if_pos (beq_iff_eq.mpr rfl)]
    refine ⟨_, hexec, ?_⟩
    dsimp only
    split
    next c hc => exact deliver_taken_facts (s := s.since t) hwf hout hfeed hf hfm hc
    next hc => exact deliver_missing_facts (s := s.since t) hwf hout hfeed hf hfm ((hfits ..).trans (by decide)) hc
  · rintro ⟨ha, hb⟩ hp hm
    dsimp only at ha hb hp hm ⊢
    rw [ha, hb, hp, hm]
    exact selectPlane_prefers
  · intro ha hm
    dsimp only at ha hm ⊢
    rw [ha, hm]
    exact selectPlane_forceA
  · intro hb hm
    dsimp only at hb hm ⊢
    rw [hb, hm]
    exact selectPlane_forceB
  · intro ha hb
    dsimp only at ha hb ⊢
    rw [ha, hb]
    exact selectPlane_neither

end Sys2Proof.Machine
end

section
/-! SUPPORT. What a fabric link's change of state touches, what a failure leaves, and what stays where it is (R110, R114). -/
set_option Elab.async false
namespace Sys2Proof.Machine

-- What stands with parts of the state --------------------------------------------------------------------------------------------

section
variable {ps : List Part} {s u : State} (h : State.SameBut ps s u)
include h

theorem State.SameBut.idleBlock (b : Nat) (hp : Part.reg .SYS_ROLE ∉ ps ∧ Part.reg .SU_STATE ∉ ps := by decide +kernel) : u.idleBlock b = s.idleBlock b := by
  rw [State.idleBlock, h.rd hp.1, h.rd hp.2]
  rfl

/-- The fields that place this module's inputs, outputs, links and paths in the router (R19 to R22). -/
def siteFields : List Fld := [.SYS_ROLE, .SYS_NODE, .SYS_GEOM, .RD_PARTNER]

theorem State.SameBut.ownNode (hp : ∀ f ∈ siteFields, Part.reg f ∉ ps := by decide +kernel) : u.ownNode = s.ownNode := by
  rw [State.ownNode, State.node, h.rd (hp _ (by decide)), h.rd (hp _ (by decide))]
  rfl

theorem State.SameBut.ownEnd (n k : Nat) (hp : ∀ f ∈ siteFields, Part.reg f ∉ ps := by decide +kernel) : u.ownEnd n k = s.ownEnd n k := by
  have hper : u.linksPer = s.linksPer := by
    rw [State.linksPer, State.centres, h.rd (hp _ (by decide))]
    rfl
  rw [State.ownEnd, h.ownNode hp, State.isCentre, h.rd (hp _ (by decide)), hper]
  rfl

theorem State.SameBut.inService {l : Nat} (hp : Part.reg .FL_STATE ∉ ps := by decide +kernel) : u.inService l = s.inService l := by
  rw [State.inService, h.rd hp]
  rfl

end

/-- A state field that moves has its event latched (R391, R394). -/
theorem moveState_latches {f : Fld} {e : Ev} {i new : Nat} {s : State} (hs : SMap.sorted s.regs = true) (hne : s.rd f i ≠ new)
    (hidle : s.idleBlock (e.num / 48) = false) (hf : f ≠ .SYS_ROLE ∧ f ≠ .SU_STATE := by decide) (hl : f ≠ .EP_LATCH := by decide)
    (hh : Fld.EP_LATCH.has (e.num / 32) 0 = true := by decide) : ((moveState f e i new).to s).latched e = true := by
  have hset : (set f new i).Touches [.reg f] := touches_set ⟨.head _, by simpa using hl⟩
  rw [moveState, look_runs, if_neg hne, all_cons_to, all_cons_to, all_nil_to]
  refine raise_latches _ _ _ (Act.to_regs_sorted _ hs) ?_ hh
  rw [(hset.step s).idleBlock _ (by simpa using ⟨hf.1.symm, hf.2.symm⟩)]
  exact hidle

-- The acts of a change of state ----------------------------------------------------------------------------------------------------

/-- What a link reports as it enters state `new`, and its timers of hold-down and admission (R114). -/
def linkEnters (s : State) (l new : Nat) : Act := all [
  iff (new == flDegraded) (raise .LINK_DEGRADED l),
  iff (new == flFailed) (all [count .FL_FAILS 1 l, raise .LINK_FAILED l]),
  iff (new == flHeldDown) (all [raise .LINK_HELD_DOWN l, arm .flHold (s.rd .FAB_HOLDDOWN_S * psS) l]),
  iff (new != flHeldDown) (disarm .flHold l),
  iff (new != flAdmitting) (disarm .flAdmit l)]

/-- A link that leaves service closes to new paths, and what ran on it is no longer live (R110, R114). -/
def linkLeaves (l : Nat) : Act := all [set .FL_NEW_PATHS 0 l, disarm .flNew l, legsBreak l, wireDrop l]

/-- A link that begins anew knows no far end. -/
def linkForgets (l : Nat) : Act := all [set .FL_FAR_VALID 0 l, set .FL_FAR_NODE 0 l, set .FL_FAR_LINK 0 l]

/-- What follows the new state of a link in state `old` of the state `s`. -/
def linkFollows (s : State) (l new : Nat) : Act := all [linkEnters s l new,
  iff ((new == 4 || new == 5) && !s.inService l) (arm .flNew psS l),
  iff (s.inService l && !(new == 4 || new == 5)) (linkLeaves l),
  iff (new == flTraining || new == flDown) (linkForgets l), linkReports]

section
variable {s : State} {l new : Nat}

theorem linkState_same (h : s.rd .FL_STATE l = new) : (linkState l new).to s = s := by
  rw [linkState, look_runs]
  simp [h]

theorem linkState_to (h : s.rd .FL_STATE l ≠ new) :
    (linkState l new).to s = (linkFollows s l new).to ((moveState .FL_STATE .LINK_STATE_CHANGE l new).to s) := by
  rw [linkState, look_runs]
  simp only [if_neg h, linkFollows, linkEnters, linkLeaves, linkForgets, linkReports, all_cons_to, all_nil_to, iff_to]

end

def freeParts : List Part := [.qty .flNewCtrl, .qty .flNewAud, .qty .flFreeAt]

theorem freeCell_touches (ctrl : Bool) (l : Nat) : (freeCell ctrl l).Touches freeParts :=
  touches_look fun _ => touches_all ⟨touches_addQ (by cases ctrl <;> decide), touches_iff fun _ => touches_put⟩

theorem wireDrop_touches (l : Nat) : (wireDrop l).Touches ([.txRecs, .media] ++ freeParts) :=
  touches_look fun _ => touches_all ⟨touches_each fun _ _ => (freeCell_touches ..).mono, touches_one rfl, touches_one rfl, touches_one rfl⟩

theorem legsBreak_touches (l : Nat) : (legsBreak l).Touches (.reg .XS_PLANES :: legParts) :=
  touches_look fun _ => touches_all ⟨(setLegs_touches _).mono, touches_each fun _ _ => touches_each fun _ _ => touches_look fun _ => touches_set⟩

/-- The legs on the other links stay (R110). -/
theorem legsBreak_legs (l : Nat) (s : State) : ((legsBreak l).to s).legs = s.legs.filter fun g => !(s.ownEnd g.node g.link == l) := by
  have hplanes (xs : List Leg) : (each xs fun g => each (g.outs.map fun o => (s.home o).2) fun p => look fun s =>
      set .XS_PLANES (s.rd .XS_PLANES p - Nat.land (s.rd .XS_PLANES p) (2 ^ g.plane)) p).Touches [.reg .XS_PLANES] :=
    touches_each fun _ _ => touches_each fun _ _ => touches_look fun _ => touches_set
  rw [legsBreak, look_runs, all_cons_to, all_cons_to, all_nil_to, ((hplanes _).step _).legs, setLegs_legs]

def enterParts : List Part := [.tmr .flHold, .tmr .flAdmit] ++ eventParts

def leaveParts : List Part := [.reg .FL_NEW_PATHS, .tmr .flNew, .reg .XS_PLANES, .txRecs, .media] ++ freeParts ++ legParts

def forgetParts : List Part := [.reg .FL_FAR_VALID, .reg .FL_FAR_NODE, .reg .FL_FAR_LINK]

def followsParts : List Part := .reg .FL_FAILS :: (enterParts ++ leaveParts ++ forgetParts ++ reportParts)

/-- The parts that a command of a link's state touches (R114). -/
def linkParts : List Part := [.now, .reg .FL_STATE, .reg .FL_ENABLE, .reg .FL_BER, .qty .flUncSince, .qty .flFailAt] ++ followsParts

theorem linkForgets_touches (l : Nat) : (linkForgets l).Touches forgetParts := touches_all ⟨touches_set, touches_set, touches_set⟩

section
variable {l : Nat} (hl : l < 256)
include hl

theorem linkEnters_touches (s : State) (new : Nat) : (linkEnters s l new).Touches (.reg .FL_FAILS :: enterParts) :=
  touches_all ⟨touches_iff fun _ => touches_raise, touches_iff fun _ => touches_all ⟨touches_count, touches_raise⟩,
    touches_iff fun _ => touches_all ⟨touches_raise, (armLink_touches _ _ hl).mono⟩, touches_iff fun _ => (disarmLink_touches _ hl).mono,
    touches_iff fun _ => (disarmLink_touches _ hl).mono⟩

theorem linkLeaves_touches : (linkLeaves l).Touches leaveParts :=
  touches_all ⟨touches_set, (disarmLink_touches _ hl).mono, (legsBreak_touches l).mono, (wireDrop_touches l).mono⟩

theorem linkFollows_touches (s : State) (new : Nat) : (linkFollows s l new).Touches followsParts :=
  touches_all ⟨(linkEnters_touches hl s new).mono, touches_iff fun _ => (armLink_touches _ _ hl).mono, touches_iff fun _ => (linkLeaves_touches hl).mono,
    touches_iff fun _ => (linkForgets_touches l).mono, linkReports_touches.mono⟩

end

-- Near a link --------------------------------------------------------------------------------------------------------------------------

/-- From `s` to `u` nothing has changed but what a command of link `l` touches, and no other link's state. -/
structure State.NearLink (l : Nat) (s u : State) : Prop where
  same : State.SameBut linkParts s u
  others : ∀ k, k ≠ l → u.rd .FL_STATE k = s.rd .FL_STATE k

section
variable {l : Nat} {s t u : State}

theorem State.NearLink.trans (h : State.NearLink l s t) (h' : State.NearLink l t u) : State.NearLink l s u :=
  ⟨h.same.trans h'.same, fun k hk => (h'.others k hk).trans (h.others k hk)⟩

theorem State.NearLink.of_same {ps : List Part} (h : State.SameBut ps s u) (hf : .reg .FL_STATE ∉ ps := by decide +kernel)
    (hp : ∀ p ∈ ps, p ∈ linkParts := by decide +kernel) : State.NearLink l s u := ⟨h.mono hp, fun k _ => h.rd hf k 0⟩

theorem State.NearLink.outside (h : State.NearLink l s u) : s.outside [0x00, 0x03, 0x04, 0x0E, 0x0F] u ∧ (∀ k, k ≠ l → u.rd .FL_STATE k = s.rd .FL_STATE k)
    ∧ u.mem = s.mem ∧ u.out = s.out := ⟨h.same.outside (by decide +kernel), h.others, h.same.mem, h.same.out⟩

end

section
variable {s : State} {l new : Nat} (hl : l < 256)
include hl

omit hl in
theorem moveLink_others {k : Nat} (hk : k ≠ l) : ((moveState .FL_STATE .LINK_STATE_CHANGE l new).to s).rd .FL_STATE k = s.rd .FL_STATE k := by
  rw [moveState, look_runs]
  split
  · rfl
  · rw [all_cons_to, all_cons_to, all_nil_to, raise_rd _ _ _ _ (by decide), set_to, State.rd_setReg_other _ _ (.inr (.inl hk))]

omit s in
theorem linkState_touches : (linkState l new).Touches (.reg .FL_STATE :: followsParts) where
  step s := by
    by_cases h : s.rd .FL_STATE l = new
    · rw [linkState_same h]
      exact .refl s
    · rw [linkState_to h]
      exact ((touches_moveState (f := .FL_STATE)).step s).trans ((linkFollows_touches hl s new).mono.step _)

theorem linkState_near : State.NearLink l s ((linkState l new).to s) where
  same := (linkState_touches hl).mono.step s
  others k hk := by
    by_cases h : s.rd .FL_STATE l = new
    · rw [linkState_same h]
    · rw [linkState_to h, (linkFollows_touches hl s new).rd _ (by decide +kernel) k]
      exact moveLink_others hk

variable (hwf : s.wf = true)
include hwf

theorem linkState_state (hn : new < 8) : ((linkState l new).to s).rd .FL_STATE l = new := by
  by_cases h : s.rd .FL_STATE l = new
  · rw [linkState_same h, h]
  · rw [linkState_to h, (linkFollows_touches hl s new).rd _ (by decide +kernel) l]
    exact moveState_rd (State.wf_regs hwf) ((Fld.has_iff ..).mpr ⟨hl, by decide⟩) (by decide) hn

theorem linkState_latches (h : s.rd .FL_STATE l ≠ new) (hidle : s.idleBlock 3 = false) : ((linkState l new).to s).latched .LINK_STATE_CHANGE = true := by
  rw [linkState_to h]
  exact ((linkFollows_touches hl s new).step _).latched (Act.to_regs_sorted _ (State.wf_regs hwf)) _ (moveState_latches (State.wf_regs hwf) h hidle)

end

-- Single changes of state --------------------------------------------------------------------------------------------------------------

section
variable {s : State} {l : Nat}

/-- A link that is not in service begins to train (R114). -/
theorem linkState_training (h : s.rd .FL_STATE l ≠ flTraining) (hin : s.inService l = false) : (linkState l flTraining).to s
    = linkReports.to ((linkForgets l).to ((disarm .flAdmit l).to ((disarm .flHold l).to ((moveState .FL_STATE .LINK_STATE_CHANGE l flTraining).to s)))) := by
  rw [linkState_to h]
  simp [linkFollows, linkEnters, hin]

/-- A failed link is held down for FAB_HOLDDOWN_S (R114). -/
theorem linkState_holdsDown (h : s.rd .FL_STATE l = flFailed) : (linkState l flHeldDown).to s
    = linkReports.to ((disarm .flAdmit l).to ((arm .flHold (s.rd .FAB_HOLDDOWN_S * psS) l).to ((raise .LINK_HELD_DOWN l).to
        ((moveState .FL_STATE .LINK_STATE_CHANGE l flHeldDown).to s)))) := by
  rw [linkState_to (by rw [h]; decide)]
  simp [linkFollows, linkEnters, State.inService, h]

/-- A link in service degrades (R114). -/
theorem linkState_degraded (h : s.rd .FL_STATE l = flInService) : (linkState l flDegraded).to s
    = linkReports.to ((disarm .flAdmit l).to ((disarm .flHold l).to ((raise .LINK_DEGRADED l).to
        ((moveState .FL_STATE .LINK_STATE_CHANGE l flDegraded).to s)))) := by
  rw [linkState_to (by rw [h]; decide)]
  simp [linkFollows, linkEnters, State.inService, h]

/-- A link fails: its state, the count and the report, its timers (R114). -/
def failNotes (l : Nat) : Act := all [moveState .FL_STATE .LINK_STATE_CHANGE l flFailed, count .FL_FAILS 1 l, raise .LINK_FAILED l, disarm .flHold l, disarm .flAdmit l]

/-- A link in service fails (R114). -/
theorem linkState_failed (h : s.inService l = true) : (linkState l flFailed).to s = linkReports.to ((linkLeaves l).to ((failNotes l).to s)) := by
  have hne : s.rd .FL_STATE l ≠ flFailed := by
    intro h6
    simp [State.inService, h6] at h
  rw [linkState_to hne]
  simp [linkFollows, linkEnters, failNotes, h]

/-- What the end of a failure touches: the link trains, or is held down. -/
def settleParts : List Part := [.reg .FL_STATE] ++ enterParts ++ forgetParts ++ reportParts

section
variable (hl : l < 256)
include hl

theorem linkState_training_same (hin : s.inService l = false) : State.SameBut settleParts s ((linkState l flTraining).to s) := by
  by_cases h : s.rd .FL_STATE l = flTraining
  · rw [linkState_same h]
    exact .refl s
  · rw [linkState_training h hin]
    exact ((touches_moveState (f := .FL_STATE)).step s).trans (((disarmLink_touches _ hl).mono.step _).trans (((disarmLink_touches _ hl).mono.step _).trans
      (((linkForgets_touches l).mono.step _).trans (linkReports_touches.mono.step _))))

variable (hwf : s.wf = true)
include hwf

theorem linkState_training_hold (h : s.rd .FL_STATE l ≠ flTraining) (hin : s.inService l = false) : ((linkState l flTraining).to s).timer .flHold l = none := by
  have hi := linkIndex_small hl
  rw [linkState_training h hin, linkReports_touches.timer _ (by decide +kernel) hi, (linkForgets_touches l).timer _ (by decide) hi,
    (disarmLink_touches .flAdmit hl).timer _ (by decide) hi]
  exact disarm_timer (Act.to_wf _ hwf) _ _

omit hwf in
theorem linkState_holdsDown_facts (h : s.rd .FL_STATE l = flFailed) : State.SameBut settleParts s ((linkState l flHeldDown).to s)
    ∧ ((linkState l flHeldDown).to s).timer .flHold l = some (s.now + s.rd .FAB_HOLDDOWN_S * psS) := by
  have hi := linkIndex_small hl
  have hmove : (moveState .FL_STATE .LINK_STATE_CHANGE l flHeldDown).Touches settleParts := touches_moveState
  have hraise := touches_raise_eventParts .LINK_HELD_DOWN l 0
  rw [linkState_holdsDown h]
  constructor
  · exact (hmove.step s).trans ((hraise.mono.step _).trans (((armLink_touches _ _ hl).mono.step _).trans (((disarmLink_touches _ hl).mono.step _).trans
      (linkReports_touches.mono.step _))))
  · rw [linkReports_touches.timer _ (by decide +kernel) hi, (disarmLink_touches .flAdmit hl).timer _ (by decide) hi, arm_timer, hraise.now, hmove.now]

theorem linkState_degraded_latches (h : s.rd .FL_STATE l = flInService) (hidle : s.idleBlock 3 = false) :
    ((linkState l flDegraded).to s).latched .LINK_DEGRADED = true := by
  have hmove : (moveState .FL_STATE .LINK_STATE_CHANGE l flDegraded).Touches settleParts := touches_moveState
  have hrest : (all [disarm .flHold l, disarm .flAdmit l, linkReports]).Touches settleParts :=
    touches_all ⟨(disarmLink_touches _ hl).mono, (disarmLink_touches _ hl).mono, linkReports_touches.mono⟩
  have hs := Act.to_regs_sorted (moveState .FL_STATE .LINK_STATE_CHANGE l flDegraded) (State.wf_regs hwf)
  have hr := raise_latches .LINK_DEGRADED l 0 hs (((hmove.step s).idleBlock 3).trans hidle) (by decide)
  rw [linkState_degraded h]
  simpa only [all_cons_to, all_nil_to] using (hrest.step _).latched (Act.to_regs_sorted _ hs) _ hr

/-- A link that leaves service closes to new paths, and no leg runs on it any more (R110, R114). -/
theorem linkLeaves_facts : ((linkLeaves l).to s).rd .FL_NEW_PATHS l = 0 ∧ ((linkLeaves l).to s).legs = s.legs.filter fun g => !(s.ownEnd g.node g.link == l) := by
  have hset : (set .FL_NEW_PATHS 0 l).Touches [.reg .FL_NEW_PATHS] := touches_set
  have hdis := disarmLink_touches .flNew hl
  have hzero : ((set .FL_NEW_PATHS 0 l).to s).rd .FL_NEW_PATHS l = 0 := set_regs_wf hwf ((Fld.has_iff ..).mpr ⟨hl, by decide⟩) (by decide)
  have hsame := ((hset.mono (qs := [.reg .FL_NEW_PATHS, .tmr .flNew])).step s).trans (hdis.mono.step _)
  rw [linkLeaves, all_cons_to, all_cons_to, all_cons_to, all_cons_to, all_nil_to]
  constructor
  · rw [(wireDrop_touches l).rd _ (by decide) l, (legsBreak_touches l).rd _ (by decide +kernel) l, hdis.rd _ (by decide) l, hzero]
  · rw [((wireDrop_touches l).step _).legs, legsBreak_legs, hsame.legs]
    exact List.filter_congr fun g _ => by rw [hsame.ownEnd]

omit hwf in
theorem failNotes_touches : (failNotes l).Touches ([.reg .FL_STATE, .reg .FL_FAILS] ++ enterParts) :=
  touches_all ⟨touches_moveState, touches_count, touches_raise, (disarmLink_touches _ hl).mono, (disarmLink_touches _ hl).mono⟩

/-- A failure is counted and reported (R114). -/
theorem failNotes_facts : ((failNotes l).to s).rd .FL_FAILS l = min (s.rd .FL_FAILS l + 1) 0xFFFFFFFF
    ∧ (s.idleBlock 3 = false → ((failNotes l).to s).latched .LINK_FAILED = true) := by
  have hmove : (moveState .FL_STATE .LINK_STATE_CHANGE l flFailed).Touches (.reg .FL_STATE :: eventParts) := touches_moveState
  have hcount : (count .FL_FAILS 1 l).Touches [.reg .FL_FAILS] := touches_count
  have hrest : (all [disarm .flHold l, disarm .flAdmit l]).Touches enterParts := touches_all ⟨(disarmLink_touches _ hl).mono, (disarmLink_touches _ hl).mono⟩
  have hraise : (all [raise .LINK_FAILED l, disarm .flHold l, disarm .flAdmit l]).Touches enterParts :=
    touches_all ⟨touches_raise, (disarmLink_touches _ hl).mono, (disarmLink_touches _ hl).mono⟩
  have hs1 := Act.to_regs_sorted (moveState .FL_STATE .LINK_STATE_CHANGE l flFailed) (State.wf_regs hwf)
  have hs2 := Act.to_regs_sorted (count .FL_FAILS 1 l) hs1
  have hidle2 := ((hcount.step ((moveState .FL_STATE .LINK_STATE_CHANGE l flFailed).to s)).idleBlock 3).trans ((hmove.step s).idleBlock 3)
  refine ⟨?_, fun hidle => ?_⟩
  · rw [failNotes, all_cons_to, all_cons_to]
    exact (hraise.rd _ (by decide +kernel) l).trans ((count_rd hs1 ((Fld.has_iff ..).mpr ⟨hl, by decide⟩)).trans (by rw [hmove.rd _ (by decide +kernel) l]))
  · rw [failNotes, all_cons_to, all_cons_to, all_cons_to]
    exact (hrest.step _).latched (Act.to_regs_sorted _ hs2) _ (raise_latches .LINK_FAILED l 0 hs2 (hidle2.trans hidle) (by decide))

/-- A failure is counted and reported, and the link closes (R110, R114). -/
theorem linkState_failed_facts (hin : s.inService l = true) : let u := (linkState l flFailed).to s
    u.rd .FL_FAILS l = min (s.rd .FL_FAILS l + 1) 0xFFFFFFFF ∧ (s.idleBlock 3 = false → u.latched .LINK_FAILED = true) ∧ u.rd .FL_NEW_PATHS l = 0
    ∧ ∀ g ∈ u.legs, s.ownEnd g.node g.link ≠ l := by
  have hleaves := linkLeaves_touches hl
  have hnotes := (failNotes_touches hl).step s
  obtain ⟨hfails, hlatch⟩ := failNotes_facts hl hwf
  have hwf1 := Act.to_wf (failNotes l) hwf
  have hwf2 := Act.to_wf (linkLeaves l) hwf1
  obtain ⟨hopen, hlegs⟩ := linkLeaves_facts hl hwf1
  rw [linkState_failed hin]
  refine ⟨?_, fun hidle => ?_, ?_, fun g hg => ?_⟩
  · exact (linkReports_touches.rd _ (by decide +kernel) l).trans ((hleaves.rd _ (by decide +kernel) l).trans hfails)
  · exact (linkReports_touches.step _).latched (State.wf_regs hwf2) _ ((hleaves.step _).latched (State.wf_regs hwf1) _ (hlatch hidle))
  · exact (linkReports_touches.rd _ (by decide +kernel) l).trans hopen
  · rw [(linkReports_touches.step _).legs, hlegs] at hg
    have hne := (List.mem_filter.mp hg).2
    rw [hnotes.ownEnd] at hne
    simpa using hne

end
end
end Sys2Proof.Machine
end

section
/-! SUPPORT. The commands of a fabric link's state: FL_ENABLE, bit error windows, failure, hold-down and the opening to new paths (R110, R114, R117), and O15. -/
set_option Elab.async false
namespace Sys2Proof.Machine

-- A failure (R114) -----------------------------------------------------------------------------------------------------------------------

/-- A failure now is the third within 60 s (R114). -/
def State.failsThird (s : State) (l : Nat) : Bool := decide (s.q .flFailAt l 0 ≠ 0) && decide ((s.now : Int) + 1 - s.q .flFailAt l 0 ≤ 60 * psS)

section
variable {s : State} {l : Nat}

theorem linkFails_inService (h : s.inService l = true) : (linkFails l).to s = (linkState l (if s.failsThird l then flHeldDown else flTraining)).to
    ((all [put .flFailAt (s.q .flFailAt l 1) l 0, put .flFailAt (s.now + 1) l 1]).to ((linkState l flFailed).to s)) := by
  have hthird : (if s.q .flFailAt l 0 ≠ 0 ∧ (s.now : Int) + 1 - s.q .flFailAt l 0 ≤ 60 * psS then flHeldDown else flTraining)
      = if s.failsThird l then flHeldDown else flTraining := by simp [State.failsThird]
  rw [linkFails, look_runs, if_pos h]
  dsimp only
  rw [hthird]
  simp only [all_cons_to, all_nil_to]

theorem linkFails_miswired (h : s.rd .FL_STATE l = flMiswired) : (linkFails l).to s = (linkState l flTraining).to s := by
  rw [linkFails, look_runs, if_neg (by simp [State.inService, h]), iff_to, if_pos (beq_iff_eq.mpr h)]

theorem linkFails_touches (hl : l < 256) : (linkFails l).Touches ([.reg .FL_STATE, .qty .flFailAt] ++ followsParts) :=
  touches_look fun _ => touches_ite (fun _ => touches_all ⟨(linkState_touches hl).mono, touches_put, touches_put, (linkState_touches hl).mono⟩) fun _ =>
    touches_iff fun _ => (linkState_touches hl).mono

/-- A link in service that fails is counted and reported, closes, and trains or is held down (R110, R114). -/
theorem linkFails_facts (hwf : s.wf = true) (hl : l < 256) (hin : s.inService l = true) : let u := (linkFails l).to s
    State.NearLink l s u ∧ u.rd .FL_FAILS l = min (s.rd .FL_FAILS l + 1) 0xFFFFFFFF ∧ (s.idleBlock 3 = false → u.latched .LINK_FAILED = true)
    ∧ u.rd .FL_NEW_PATHS l = 0
    ∧ (∀ g ∈ u.legs, s.ownEnd g.node g.link ≠ l)
    ∧ (if s.failsThird l = true then u.rd .FL_STATE l = flHeldDown ∧ u.timer .flHold l = some (s.now + s.rd .FAB_HOLDDOWN_S * psS)
      else u.rd .FL_STATE l = flTraining) := by
  have hputs : (all [put .flFailAt (s.q .flFailAt l 1) l 0, put .flFailAt (s.now + 1) l 1]).Touches [.qty .flFailAt] := touches_all ⟨touches_put, touches_put⟩
  obtain ⟨hfails, hlatch, hopen, hlegs⟩ := linkState_failed_facts hl hwf hin
  have hnear := linkState_near (s := s) (new := flFailed) hl
  have hstate := linkState_state hl hwf (new := flFailed) (by decide)
  have hfirst := (linkState_touches (new := flFailed) hl).step s
  have hwf1 := Act.to_wf (linkState l flFailed) hwf
  intro u
  have hu : u = _ := linkFails_inService hin
  clear_value u
  generalize (linkState l flFailed).to s = v at *
  have hsame := hputs.step v
  have hwf2 := Act.to_wf (all [put .flFailAt (s.q .flFailAt l 1) l 0, put .flFailAt (s.now + 1) l 1]) hwf1
  have hnear2 := hnear.trans (.of_same hsame)
  generalize (all [put .flFailAt (s.q .flFailAt l 1) l 0, put .flFailAt (s.now + 1) l 1]).to v = w at *
  have hstate2 : w.rd .FL_STATE l = flFailed := (hsame.rd (by decide) l 0).trans hstate
  have hend : State.SameBut settleParts w u ∧ (if s.failsThird l = true then u.rd .FL_STATE l = flHeldDown ∧ u.timer .flHold l = some (s.now + s.rd .FAB_HOLDDOWN_S * psS)
      else u.rd .FL_STATE l = flTraining) := by
    subst hu
    split
    · obtain ⟨hs, ht⟩ := linkState_holdsDown_facts hl hstate2
      rw [hsame.rd (by decide +kernel), hfirst.rd (by decide +kernel), hsame.now, hfirst.now] at ht
      exact ⟨hs, linkState_state hl hwf2 (by decide), ht⟩
    · exact ⟨linkState_training_same hl (by simp [State.inService, hstate2]), linkState_state hl hwf2 (by decide)⟩
  obtain ⟨hlast, hwhere⟩ := hend
  refine ⟨?_, ?_, fun hidle => hlast.latched (State.wf_regs hwf2) _ (hsame.latched (State.wf_regs hwf1) _ (hlatch hidle)), ?_, ?_, hwhere⟩
  · rw [hu]
    exact hnear2.trans (linkState_near hl)
  · rw [hlast.rd (by decide +kernel), hsame.rd (by decide), hfails]
  · rw [hlast.rd (by decide +kernel), hsame.rd (by decide), hopen]
  · rw [hlast.legs, hsame.legs]
    exact hlegs

end

-- FL_ENABLE (R114, R117) --------------------------------------------------------------------------------------------------------------------

section
variable {ps : List Part} {s u : State}

theorem State.SameBut.linkUsed (h : State.SameBut ps s u) (l : Nat) (hp : ∀ p ∈ farParts, p ∉ ps := by decide +kernel) : u.linkUsed l = s.linkUsed l := by
  have hlinks : u.links = s.links := by
    rw [State.links, State.isEdge, State.isCentre, h.far_rd hp .SYS_ROLE (by decide)]
    rfl
  have hpop : u.populated = s.populated := by
    rw [State.populated, State.centres, h.far_rd hp .SYS_GEOM (by decide), h.far_rd hp .SYS_EDGE_COUNT (by decide), h.cfg (hp .cfg (by decide))]
    rfl
  rw [State.linkUsed, hlinks, hpop, h.farOf hp]
  rfl

end

section
variable {s : State} {t l : Nat}

theorem exec_flEnableWrite (v : Nat) : exec (.flEnableWrite t l v) s = .next ((enableLink l v).to (s.since t)) := by
  show run _ s = _
  rw [run_eq, all_cons_to, all_cons_to, all_nil_to, at_to_since]

/-- What FL_ENABLE = 1 does on a used link that is DOWN. -/
theorem enableLink_on (hidle : s.idleBlock 3 = false) (h : s.rd .FL_STATE l = flDown) (hused : s.linkUsed l = true) :
    (enableLink l 1).to s = (linkState l flTraining).to ((set .FL_ENABLE 1 l).to s) := by
  have hset : (set .FL_ENABLE 1 l).Touches [.reg .FL_ENABLE] := touches_set
  rw [enableLink, look_runs]
  dsimp only
  rw [if_neg (by rw [hidle]; decide), if_neg (fun hv => absurd hv.1 (by decide)), all_cons_to, all_cons_to, all_nil_to, if_neg (by decide), look_runs, iff_to,
    if_pos (by rw [hset.rd _ (by decide) l, h, (hset.step s).linkUsed, hused]; decide)]

/-- What FL_ENABLE = 0 does on a link without a path. -/
theorem enableLink_off (hidle : s.idleBlock 3 = false) (hbusy : s.linkBusy l = false) :
    (enableLink l 0).to s = (linkState l flDown).to ((set .FL_ENABLE 0 l).to s) := by
  rw [enableLink, look_runs]
  dsimp only
  rw [if_neg (by rw [hidle]; decide), if_neg (fun hv => absurd hv.2 (by rw [hbusy]; decide)), all_cons_to, all_cons_to, all_nil_to, if_pos rfl]

/-- FL_ENABLE = 0 on a link with a path is refused. -/
theorem enableLink_busy (hidle : s.idleBlock 3 = false) (hbusy : s.linkBusy l = true) :
    (enableLink l 0).to s = (sayWritten .FL_ENABLE l 0 .LINK_BUSY (s.rd .FL_ENABLE l)).to s := by
  rw [enableLink, look_runs]
  dsimp only
  rw [if_neg (by rw [hidle]; decide), if_pos ⟨rfl, hbusy⟩]

/-- The effect of FL_ENABLE on the field and the state (R114). -/
theorem enableLink_facts {v new : Nat} (hwf : s.wf = true) (hl : l < 256) (hv : v < 2) (hn : new < 8) (h : (enableLink l v).to s = (linkState l new).to ((set .FL_ENABLE v l).to s)) :
    State.NearLink l s ((enableLink l v).to s) ∧ ((enableLink l v).to s).rd .FL_ENABLE l = v ∧ ((enableLink l v).to s).rd .FL_STATE l = new := by
  have hset : (set .FL_ENABLE v l).Touches [.reg .FL_ENABLE] := touches_set
  have hnear := linkState_near (s := (set .FL_ENABLE v l).to s) (l := l) (new := new) hl
  have hwf1 := Act.to_wf (set .FL_ENABLE v l) hwf
  rw [h]
  refine ⟨(State.NearLink.of_same (hset.step s)).trans hnear, ?_, linkState_state hl hwf1 hn⟩
  exact ((linkState_touches hl).rd _ (by decide +kernel) l).trans (set_regs_wf hwf ((Fld.has_iff ..).mpr ⟨hl, by decide⟩) hv)

end

-- Bit error windows (R114, R117) ------------------------------------------------------------------------------------------------------------

/-- FL_BER (R117). -/
def berOf (errors total : Nat) : Nat := min 2047 (Nat.log 10 (total ^ 100 / (max errors 1) ^ 100))

/-- What every window of one second shows (R117). -/
def berShown (l errors total : Nat) : Act := all [set .FL_BER (berOf errors total) l, put .flUncSince 0 l]

/-- More than 1 uncorrectable codeword in 10^6 in a second in service (R114). -/
def State.berFails (s : State) (l total : Nat) : Bool := s.inService l && decide (total < s.qn .flUncSince l * 1000000 * codewordBits)

section
variable {s : State} {l errors total : Nat}

theorem berWindow_second : (berWindow l 1 errors total).to s = (iff (s.berFails l total) (linkFails l)).to ((berShown l errors total).to s) := by
  rw [berWindow, look_runs, if_pos rfl, berShown]
  simp only [all_cons_to, all_nil_to]
  rfl

theorem berWindow_ten (h : s.rd .FL_STATE l = flInService) (hber : total < errors * 100000) : (berWindow l 10 errors total).to s = (linkState l flDegraded).to s := by
  rw [berWindow, look_runs, if_neg (by decide), if_pos ⟨rfl, h, hber⟩]

theorem berWindow_sixty (h : s.rd .FL_STATE l = flDegraded) (hber : errors * 1000000 < total) :
    (berWindow l 60 errors total).to s = (linkState l flInService).to s := by
  rw [berWindow, look_runs, if_neg (by decide), if_neg (fun hc => absurd hc.1 (by decide)), if_pos ⟨rfl, h, hber⟩]

theorem berShown_touches : (berShown l errors total).Touches [.reg .FL_BER, .qty .flUncSince] := touches_all ⟨touches_set, touches_put⟩

theorem berShown_rd (hs : SMap.sorted s.regs = true) (hl : l < 256) : ((berShown l errors total).to s).rd .FL_BER l = berOf errors total := by
  rw [berShown, all_cons_to, all_cons_to, all_nil_to, put_to, State.rd_setQ, set_rd hs ((Fld.has_iff ..).mpr ⟨hl, by decide⟩)]
  exact Nat.mod_eq_of_lt (Nat.lt_succ_of_le (min_le_left ..))

/-- A window of one second shows the ratio, and fails a link in service with too many uncorrectable codewords (R114, R117). -/
theorem berWindow_second_facts (hwf : s.wf = true) (hl : l < 256) : let u := (berWindow l 1 errors total).to s
    u.rd .FL_BER l = berOf errors total ∧ State.NearLink l s u
    ∧ (if s.inService l = true ∧ total < s.qn .flUncSince l * 1000000 * codewordBits then
        u.rd .FL_FAILS l = min (s.rd .FL_FAILS l + 1) 0xFFFFFFFF ∧ u.rd .FL_STATE l = (if s.failsThird l = true then flHeldDown else flTraining)
      else s.onlyAt l [.FL_BER] u) := by
  have hi := linkIndex_small hl
  have hshown := (berShown_touches (l := l) (errors := errors) (total := total)).step s
  have hber := berShown_rd (errors := errors) (total := total) (State.wf_regs hwf) hl
  have hat : s.onlyAt l [.FL_BER] ((berShown l errors total).to s) := (writesAt_all ⟨writesAt_set, writesAt_put⟩ : (berShown l errors total).Within _).onlyAt s
  have hwf1 := Act.to_wf (berShown l errors total) hwf
  rw [berWindow_second]
  generalize (berShown l errors total).to s = v at *
  by_cases h : s.inService l = true ∧ total < s.qn .flUncSince l * 1000000 * codewordBits
  · have hfails : s.berFails l total = true := by simpa [State.berFails] using h
    obtain ⟨hnear, hcount, -, -, -, hstate⟩ := linkFails_facts hwf1 hl (hshown.inService.trans h.1)
    have hthird : v.failsThird l = s.failsThird l := by rw [State.failsThird, State.failsThird, hshown.q (by decide) hi (by decide), hshown.now]
    rw [hfails, iff_to, if_pos rfl]
    refine ⟨((linkFails_touches hl).rd _ (by decide +kernel) l).trans hber, (State.NearLink.of_same hshown).trans hnear, ?_⟩
    rw [if_pos h]
    refine ⟨hcount.trans (by rw [hshown.rd (by decide)]), ?_⟩
    rw [← hthird]
    split at hstate
    next ht => rw [if_pos ht, hstate.1]
    next ht => rw [if_neg ht, hstate]
  · have hfails : s.berFails l total = false := by
      rw [← Bool.not_eq_true]
      simpa [State.berFails] using h
    rw [hfails, iff_to, if_neg Bool.false_ne_true]
    refine ⟨hber, .of_same hshown, ?_⟩
    rw [if_neg h]
    exact hat

end

-- Commands ---------------------------------------------------------------------------------------------------------------------------------------

section
variable {s : State} {t l : Nat}

theorem exec_linkBerWindow (secs errors total : Nat) : exec (.linkBerWindow t l secs errors total) s = .next ((berWindow l secs errors total).to (s.since t)) := by
  show run _ s = _
  rw [run_eq, all_cons_to, all_cons_to, all_nil_to, at_to_since]

theorem exec_linkFailed : exec (.linkFailed t l) s = .next ((linkFails l).to (s.since t)) := by
  show run _ s = _
  rw [run_eq, all_cons_to, all_cons_to, all_nil_to, at_to_since]

theorem exec_linkHolddownExpiry (h : s.rd .FL_STATE l = flHeldDown) (hdue : (s.since t).due .flHold l = true) :
    exec (.linkHolddownExpiry t l) s = .next ((linkState l flTraining).to (s.since t)) := by
  have hst : ((s.since t).rd .FL_STATE l == flHeldDown) = true := beq_iff_eq.mpr h
  show run _ s = _
  rw [run_eq, all_cons_to, all_cons_to, all_nil_to, at_to_since, look_runs, iff_to, hdue, hst, if_pos (by decide)]

/-- The link opens to new paths (R114). -/
def linkOpens (l : Nat) : Act := all [disarm .flNew l, set .FL_NEW_PATHS 1 l]

theorem exec_linkNewPathsOpen (h : s.inService l = true) (hdue : (s.since t).due .flNew l = true) :
    exec (.linkNewPathsOpen t l) s = .next ((linkOpens l).to (s.since t)) := by
  have hin : (s.since t).inService l = true := h
  show run _ s = _
  rw [run_eq, all_cons_to, all_cons_to, all_nil_to, at_to_since, look_runs, iff_to, hdue, hin, if_pos (by decide)]
  rfl

theorem linkOpens_touches (hl : l < 256) : (linkOpens l).Touches [.tmr .flNew, .reg .FL_NEW_PATHS] := touches_all ⟨(disarmLink_touches _ hl).mono, touches_set⟩

theorem linkOpens_facts (hwf : s.wf = true) (hl : l < 256) : ((linkOpens l).to s).rd .FL_NEW_PATHS l = 1 ∧ ((linkOpens l).to s).timer .flNew l = none
    ∧ s.onlyAt l [.FL_NEW_PATHS] ((linkOpens l).to s) := by
  have hset : (set .FL_NEW_PATHS 1 l).Touches [.reg .FL_NEW_PATHS] := touches_set
  refine ⟨?_, ?_, (writesAt_all ⟨within_disarm trivial, writesAt_set⟩ : (linkOpens l).Within _).onlyAt s⟩
  · rw [linkOpens, all_cons_to, all_cons_to, all_nil_to]
    exact set_regs_wf (Act.to_wf _ hwf) ((Fld.has_iff ..).mpr ⟨hl, by decide⟩) (by decide)
  · rw [linkOpens, all_cons_to, all_cons_to, all_nil_to, hset.timer _ (by decide) (linkIndex_small hl)]
    exact disarm_timer hwf _ _

end

/-- Settles O15: FL_ENABLE is `enableLink_facts`, a second's window `berWindow_second_facts`, a failure `linkFails_facts`, the opening `linkOpens_facts`, every
other change of state `linkState_state` and `linkState_near`. -/
theorem fabricLinksChangeState : Obligations.FabricLinksChangeState := by
  intro s t link hwf hfits hl hidle near third
  have hnear {u : State} (h : State.NearLink link (s.since t) u) : near u := h.outside
  have hstate {new : Nat} (hn : new < 8) := linkState_state (s := s.since t) hl hwf hn
  have hmoves {new : Nat} : near ((linkState link new).to (s.since t)) := hnear (linkState_near hl)
  refine ⟨fun h hused => ?_, ?_, fun errors total => ?_, fun errors total h hber => ?_, fun errors total h hber => ?_, fun hin => ?_, fun h => ?_,
    fun h hdue => ?_, fun hin hdue => ?_⟩
  · have hto := enableLink_on (s := s.since t) hidle h hused
    obtain ⟨hsame, hen, hst⟩ := enableLink_facts (s := s.since t) hwf hl (by decide) (by decide) hto
    have hset : (set .FL_ENABLE 1 link).Touches [.reg .FL_ENABLE] := touches_set
    refine ⟨_, exec_flEnableWrite 1, hen, hst, ?_, hnear hsame⟩
    rw [hto]
    exact linkState_latches hl (Act.to_wf _ (s := s.since t) hwf) (by rw [hset.rd _ (by decide) link, State.rd_since, h]; decide)
      (((hset.step _).idleBlock 3).trans hidle)
  · refine ⟨_, exec_flEnableWrite 0, ?_⟩
    split
    next hbusy =>
      rw [enableLink_busy (s := s.since t) hidle hbusy]
      rfl
    next hbusy =>
      obtain ⟨hsame, hen, hst⟩ := enableLink_facts (s := s.since t) hwf hl (by decide) (by decide)
        (enableLink_off (s := s.since t) hidle (Bool.eq_false_iff.mpr hbusy))
      exact ⟨hnear hsame, hen, hst⟩
  · obtain ⟨hber, hsame, hend⟩ := berWindow_second_facts (s := s.since t) (errors := errors) (total := total) hwf hl
    exact ⟨_, exec_linkBerWindow 1 errors total, hber, hnear hsame, hend⟩
  · have hto := berWindow_ten (s := s.since t) h hber
    refine ⟨_, exec_linkBerWindow 10 errors total, ?_⟩
    rw [hto]
    exact ⟨hstate (by decide), linkState_degraded_latches (s := s.since t) hl hwf h hidle, hmoves⟩
  · have hto := berWindow_sixty (s := s.since t) h hber
    refine ⟨_, exec_linkBerWindow 60 errors total, ?_⟩
    rw [hto]
    exact ⟨hstate (by decide), hmoves⟩
  · obtain ⟨hsame, hfails, hlatch, hopen, hlegs, hend⟩ := linkFails_facts (s := s.since t) hwf hl hin
    exact ⟨_, exec_linkFailed, hfails, hlatch hidle, hopen, hlegs, hend, hnear hsame⟩
  · refine ⟨_, exec_linkFailed, ?_⟩
    rw [linkFails_miswired (s := s.since t) h]
    exact ⟨hstate (by decide), hmoves⟩
  · exact ⟨_, exec_linkHolddownExpiry h hdue, hstate (by decide),
      linkState_training_hold (s := s.since t) hl hwf (fun h1 => absurd (h.symm.trans h1) (by decide)) (by simp [State.inService, h]), hmoves⟩
  · obtain ⟨hopen, htimer, hat⟩ := linkOpens_facts (s := s.since t) hwf hl
    exact ⟨_, exec_linkNewPathsOpen hin hdue, hopen, htimer, hat, hnear (.of_same ((linkOpens_touches hl).step _))⟩

end Sys2Proof.Machine
end

section
/-! SUPPORT. The cells that a fabric link sends: the calendar's turns, the Spore that a cell carries, and what each class of cell leaves (R86 to R94, R102). -/
set_option Elab.async false
namespace Sys2Proof.Machine

-- A cell leaves (R86, R94) -------------------------------------------------------------------------------------------------------------------

/-- A cell as it stands on link `l`: with its plane, the next Spore that waits, and its CRC (R86, R94). -/
def State.sealed (s : State) (l : Nat) (c : Cell) : Cell := sealCell (match s.nextSpore l with
  | some (k, v) => { c with plane := s.planeOf l, sp := true, su := k == 0, sl := k == 1, spore := v }
  | none => { c with plane := s.planeOf l })

theorem sendCell_touches (l : Nat) (c : Cell) : (sendCell l c).Touches [.out, .txRecs] := by
  refine touches_look fun s => ?_
  dsimp only
  split
  · exact touches_all ⟨touches_one rfl, touches_emit⟩
  · exact touches_emit

theorem sendCell_out (l : Nat) (c : Cell) (s : State) : ((sendCell l c).to s).out = s.out ++ [.cell l (s.sealed l c)] := by
  rw [sendCell, look_runs, State.sealed]
  dsimp only
  cases s.nextSpore l with
  | none => rfl
  | some x => rfl

section
variable {s u : State} {l : Nat}

theorem State.nextSpore_congr (h : u.txRecs = s.txRecs) : u.nextSpore l = s.nextSpore l := by rw [State.nextSpore, State.nextSpore, h]

theorem State.SameBut.sealed {ps : List Part} (h : State.SameBut ps s u) (hnext : u.nextSpore l = s.nextSpore l) (c : Cell)
    (hp : ∀ p ∈ farParts, p ∉ ps := by decide +kernel) : u.sealed l c = s.sealed l c := by
  rw [State.sealed, State.sealed, hnext, h.planeOf hp]

/-- A cell leaves after what books it (R86, R94). -/
theorem sendCell_after {ps : List Part} (h : State.SameBut ps s u) (hnext : u.nextSpore l = s.nextSpore l) (c : Cell)
    (hp : ∀ p ∈ .out :: farParts, p ∉ ps := by decide +kernel) : ((sendCell l c).to u).out = s.out ++ [.cell l (s.sealed l c)] := by
  rw [sendCell_out, h.sealed hnext c fun p hm => hp p (.tail _ hm), h.out (hp _ (.head _))]

end

/-- Control cells leave the Spores that wait for chains and of link-local records where they are (R91, R94). -/
theorem ctrlGone_find {p : TxRec → Bool} {l c : Nat} (hp : ∀ x, p x = true → x.cls ≠ c) (n : Nat) (xs : List TxRec) :
    (ctrlGone p n xs).find? (fun x => x.link == l && x.cls == c) = xs.find? fun x => x.link == l && x.cls == c := by
  have hskip {x : TxRec} (hx : p x = true) : (x.link == l && x.cls == c) = false := by simp [hp x hx]
  induction xs generalizing n with
  | nil => cases n <;> rfl
  | cons x r ih =>
    cases n with
    | zero => rfl
    | succ n =>
      rw [ctrlGone]
      split
      next hx =>
        rw [List.find?_cons_of_neg (by simpa using hskip hx)]
        split
        · exact ih _
        · exact List.find?_cons_of_neg (by simpa using hskip hx)
      next hx => rw [List.find?_cons, List.find?_cons, ih]

theorem ctrlGone_nextSpore {s u : State} {x : TxRec} {n l : Nat} (h : u.txRecs = ctrlGone x.sharesWith n s.txRecs) : u.nextSpore l = s.nextSpore l := by
  have hcls {c : Nat} (hc : c ≠ 3) (y : TxRec) (hy : x.sharesWith y = true) : y.cls ≠ c := by
    simp only [TxRec.sharesWith, Bool.and_eq_true, beq_iff_eq] at hy
    exact fun h => hc (h.symm.trans hy.1.2)
  simp only [State.nextSpore, h, List.findSome?_cons, List.findSome?_nil, ctrlGone_find (hcls (by decide : 0 ≠ 3)), ctrlGone_find (hcls (by decide : 1 ≠ 3)),
    ctrlGone_find (hcls (by decide : 2 ≠ 3))]

-- Video cells --------------------------------------------------------------------------------------------------------------------------------

section
variable {s : State} {l : Nat}

/-- The video cell of leg `g`. -/
def videoCell (g : Leg) (c : FwdCell) : Cell :=
  { emptyCell with cls := clVideo, fs := c.fs, slot := g.slot, sub := g.sub, fmt := g.fmt, stream := g.src, seq := c.seq, payload := c.payload }

def videoParts : List Part := [.media, .qty .fwSent, .qty .seqTx]

theorem fwdSent_touches (l : Nat) (g : Leg) (c : FwdCell) : (fwdSent l g c).Touches [.qty .fwSent] := by
  refine touches_look fun s => ?_
  split <;> exact touches_put

/-- A video cell leaves, and no register changes (R91). -/
theorem sendVideo_facts (g : Leg) (c : FwdCell) : ((sendVideo l g c).to s).out = s.out ++ [.cell l (s.sealed l (videoCell g c))]
    ∧ State.SameBut ([.out, .txRecs] ++ videoParts) s ((sendVideo l g c).to s) := by
  have hbook : (if s.isCentre then all [one (.fwds (s.fwds.erase c)), fwdSent l g c] else put .seqTx (c.idx + 1 : Nat) g.src l : Act).Touches videoParts :=
    touches_ite (fun _ => touches_all ⟨touches_one rfl, (fwdSent_touches ..).mono⟩) fun _ => touches_put
  have hsame := hbook.step s
  rw [sendVideo, look_runs, all_cons_to, all_cons_to, all_nil_to]
  exact ⟨sendCell_after hsame (State.nextSpore_congr hsame.txRecs) _, (hsame.mono (by decide)).trans ((sendCell_touches ..).mono.step _)⟩

-- Control cells (R88, R92) -----------------------------------------------------------------------------------------------------------------------

/-- The control cell that carries what shares a cell with `x`. -/
def State.ctrlCell (s : State) (l : Nat) (x : TxRec) : Cell :=
  { emptyCell with cls := clControl, fs := !x.begun, stream := x.target % 64 + x.sender % 64 * 2 ^ 8, seq := s.qn .flCtrlSeq l % 2 ^ 16,
                   payload := packWords 64 (((s.txRecs.filter x.sharesWith).flatMap TxRec.spores).take 64) }

/-- What a control cell takes: a credit, a sequence number, the Spores, the place that it held. -/
def ctrlBooked (s : State) (l : Nat) (x : TxRec) : Act := all [set .FL_CREDITS_CTRL (s.rd .FL_CREDITS_CTRL l - 1) l,
  put .flTxCtrl ((s.qn .flTxCtrl l + 1) % 2 ^ 24 : Nat) l, addQ .flCtrlSeq 1 l, one (.txRecs (ctrlGone x.sharesWith 64 s.txRecs)),
  iff (x.from_ != 0) (freeCell true (x.from_ - 1))]

def ctrlParts : List Part := [.reg .FL_CREDITS_CTRL, .qty .flTxCtrl, .qty .flCtrlSeq, .txRecs] ++ freeParts

theorem sendCtrl_to (x : TxRec) : (sendCtrl l x).to s = (sendCell l (s.ctrlCell l x)).to ((ctrlBooked s l x).to s) := by
  rw [sendCtrl, look_runs]
  simp only [ctrlBooked, all_cons_to, all_nil_to]
  rfl

theorem ctrlBooked_touches (s : State) (l : Nat) (x : TxRec) : (ctrlBooked s l x).Touches ctrlParts :=
  touches_all ⟨touches_set, touches_put, touches_addQ, touches_one rfl, touches_iff fun _ => (freeCell_touches ..).mono⟩

theorem ctrlBooked_txRecs (x : TxRec) : ((ctrlBooked s l x).to s).txRecs = ctrlGone x.sharesWith 64 s.txRecs := by
  rw [ctrlBooked, all_cons_to, all_cons_to, all_cons_to, all_cons_to, all_cons_to, all_nil_to]
  exact ((touches_iff fun _ => freeCell_touches ..: (iff (x.from_ != 0) (freeCell true (x.from_ - 1))).Touches freeParts).step _).txRecs

theorem freeCell_writesAt (ctrl : Bool) (n k : Nat) (fs : List Fld) : (freeCell ctrl n).Within (Eff.writesAt k fs) :=
  within_look fun _ => writesAt_all ⟨writesAt_addQ, within_iff fun _ => writesAt_put⟩

theorem sendCell_writesAt (l : Nat) (c : Cell) (k : Nat) (fs : List Fld) : (sendCell l c).Within (Eff.writesAt k fs) := by
  refine within_look fun s => ?_
  dsimp only
  split
  · exact writesAt_all ⟨within_one trivial, within_emit trivial⟩
  · exact within_emit trivial

theorem sendCtrl_writesAt (x : TxRec) : (sendCtrl l x).Within (Eff.writesAt l [.FL_CREDITS_CTRL]) :=
  within_look fun _ => writesAt_all ⟨writesAt_set, writesAt_put, writesAt_addQ, within_one trivial, within_iff fun _ => freeCell_writesAt _ _ _ _, sendCell_writesAt _ _ _ _⟩

section
variable (hwf : s.wf = true) (hfits : s.fits) (hl : l < 256)
include hwf hfits hl

/-- A credit less. -/
theorem creditTaken {f : Fld} (hn : f.desc.n = 256 ∧ f.desc.m = 1 := by decide) : ((set f (s.rd f l - 1) l).to s).rd f l = s.rd f l - 1 :=
  set_regs_wf hwf ((Fld.has_iff ..).mpr ⟨hn.1.symm ▸ hl, by rw [hn.2]; decide⟩) ((Nat.sub_le ..).trans_lt (hfits ..))

/-- A control cell leaves and takes a credit (R88, R92). -/
theorem sendCtrl_facts (x : TxRec) : ((sendCtrl l x).to s).out = s.out ++ [.cell l (s.sealed l (s.ctrlCell l x))]
    ∧ ((sendCtrl l x).to s).rd .FL_CREDITS_CTRL l = s.rd .FL_CREDITS_CTRL l - 1 ∧ s.onlyAt l [.FL_CREDITS_CTRL] ((sendCtrl l x).to s)
    ∧ State.SameBut (.out :: ctrlParts) s ((sendCtrl l x).to s) := by
  have hsame := (ctrlBooked_touches s l x).step s
  have hrest : (all [put .flTxCtrl ((s.qn .flTxCtrl l + 1) % 2 ^ 24 : Nat) l, addQ .flCtrlSeq 1 l, one (.txRecs (ctrlGone x.sharesWith 64 s.txRecs)),
      iff (x.from_ != 0) (freeCell true (x.from_ - 1))]).Touches ([.qty .flTxCtrl, .qty .flCtrlSeq, .txRecs] ++ freeParts) :=
    touches_all ⟨touches_put, touches_addQ, touches_one rfl, touches_iff fun _ => (freeCell_touches ..).mono⟩
  have hcredit : ((ctrlBooked s l x).to s).rd .FL_CREDITS_CTRL l = s.rd .FL_CREDITS_CTRL l - 1 := by
    rw [ctrlBooked, all_cons_to]
    exact (hrest.rd _ (by decide) l).trans (creditTaken hwf hfits hl)
  refine ⟨?_, ?_, (sendCtrl_writesAt x).onlyAt s, ?_⟩
  · rw [sendCtrl_to]
    exact sendCell_after hsame (ctrlGone_nextSpore (ctrlBooked_txRecs x)) _
  · rw [sendCtrl_to, (sendCell_touches ..).rd _ (by decide) l, hcredit]
  · rw [sendCtrl_to]
    exact (hsame.mono (by decide)).trans ((sendCell_touches ..).mono.step _)

end

-- Audio cells (R88, R102) ------------------------------------------------------------------------------------------------------------------------

/-- The audio cell of a bundle. -/
def audioCell (c : FwdCell) : Cell := { emptyCell with cls := clAudio, stream := c.stream, seq := c.seq, payload := c.payload }

/-- What an audio cell takes beside its credit: it goes from the cells to forward and may free its place, or its bundle goes on. -/
def audNoted (s : State) (l : Nat) (c : FwdCell) (idx : Nat) : Act := all [put .flTxAud ((s.qn .flTxAud l + 1) % 2 ^ 24 : Nat) l,
  if s.isCentre then all [one (.fwds (s.fwds.erase c)),
    iff (!((s.fwds.erase c).any fun x => x.cls == clAudio && x.stream == c.stream && x.seq == c.seq)) (freeCell false (c.idx - 1))]
  else put .audSent (idx + 1 : Nat) c.stream l]

def audParts : List Part := [.media, .qty .flTxAud, .qty .audSent] ++ freeParts

theorem sendAud_to (c : FwdCell) (idx : Nat) :
    (sendAud l c idx).to s = (sendCell l (audioCell c)).to ((audNoted s l c idx).to ((set .FL_CREDITS_AUD (s.rd .FL_CREDITS_AUD l - 1) l).to s)) := by
  rw [sendAud, look_runs]
  simp only [audNoted, all_cons_to, all_nil_to]
  rfl

theorem audNoted_touches (s : State) (l : Nat) (c : FwdCell) (idx : Nat) : (audNoted s l c idx).Touches audParts :=
  touches_all ⟨touches_put, touches_ite (fun _ => touches_all ⟨touches_one rfl, touches_iff fun _ => (freeCell_touches ..).mono⟩) fun _ => touches_put⟩

theorem sendAud_writesAt (c : FwdCell) (idx : Nat) : (sendAud l c idx).Within (Eff.writesAt l [.FL_CREDITS_AUD]) :=
  within_look fun _ => writesAt_all ⟨writesAt_set, writesAt_put,
    within_ite (fun _ => writesAt_all ⟨within_one trivial, within_iff fun _ => freeCell_writesAt _ _ _ _⟩) fun _ => writesAt_put, sendCell_writesAt _ _ _ _⟩

/-- An audio cell leaves and takes a credit (R88, R92). -/
theorem sendAud_facts (hwf : s.wf = true) (hfits : s.fits) (hl : l < 256) (c : FwdCell) (idx : Nat) :
    ((sendAud l c idx).to s).out = s.out ++ [.cell l (s.sealed l (audioCell c))]
    ∧ ((sendAud l c idx).to s).rd .FL_CREDITS_AUD l = s.rd .FL_CREDITS_AUD l - 1 ∧ s.onlyAt l [.FL_CREDITS_AUD] ((sendAud l c idx).to s)
    ∧ State.SameBut ([.out, .txRecs, .reg .FL_CREDITS_AUD] ++ audParts) s ((sendAud l c idx).to s) := by
  have hset : (set .FL_CREDITS_AUD (s.rd .FL_CREDITS_AUD l - 1) l).Touches [.reg .FL_CREDITS_AUD] := touches_set
  have hnoted := audNoted_touches s l c idx
  have hsame := ((hset.mono (qs := .reg .FL_CREDITS_AUD :: audParts)).step s).trans (hnoted.mono.step _)
  rw [sendAud_to]
  refine ⟨sendCell_after hsame (State.nextSpore_congr hsame.txRecs) _, ?_, ?_, (hsame.mono (by decide)).trans ((sendCell_touches ..).mono.step _)⟩
  · rw [(sendCell_touches ..).rd _ (by decide) l, hnoted.rd _ (by decide) l, creditTaken hwf hfits hl]
  · rw [← sendAud_to]
    exact (sendAud_writesAt c idx).onlyAt s

-- The calendar's turns (R89, R91) ------------------------------------------------------------------------------------------------------------------

/-- The link's place in the calendar. -/
def State.calAt (s : State) (l : Nat) : Nat := s.qn .flCalPos l % 512

/-- The place in the calendar moves on. -/
def turn (s : State) (l : Nat) : Act := put .flCalPos ((s.calAt l + 1) % 512 : Nat) l

/-- The module sends media cells on link `l` (R35, R361, R450). -/
def State.sendsMedia (s : State) (l : Nat) : Bool := s.inService l && !s.controlOnly && !(s.isEdge && s.fenced)

/-- The control cell that waits for link `l` with a credit, or else `next`. -/
def State.ctrlOr (s : State) (l : Nat) (next : Act) : Act := match s.txRecs.find? fun x => x.link == l && x.cls == 3 with
  | some x => if 0 < s.rd .FL_CREDITS_CTRL l ∧ s.inService l then sendCtrl l x else next
  | none => next

/-- The audio cell that is ready for link `l` with a credit, or else `next`. -/
def State.audOr (s : State) (l : Nat) (next : Act) : Act := match s.audioReady l with
  | some (c, i) => if 0 < s.rd .FL_CREDITS_AUD l ∧ s.sendsMedia l then sendAud l c i else next
  | none => next

theorem ctrlOr_some {x : TxRec} (hx : (s.txRecs.find? fun x => x.link == l && x.cls == 3) = some x) (hc : 0 < s.rd .FL_CREDITS_CTRL l) (hin : s.inService l = true)
    (next : Act) : s.ctrlOr l next = sendCtrl l x := by
  simp only [State.ctrlOr, hx]
  rw [if_pos ⟨hc, hin⟩]

theorem ctrlOr_none (hx : (s.txRecs.find? fun x => x.link == l && x.cls == 3) = none) (next : Act) : s.ctrlOr l next = next := by
  simp only [State.ctrlOr, hx]

theorem audOr_some {c : FwdCell} {i : Nat} (ha : s.audioReady l = some (c, i)) (hc : 0 < s.rd .FL_CREDITS_AUD l) (hm : s.sendsMedia l = true) (next : Act) :
    s.audOr l next = sendAud l c i := by
  simp only [State.audOr, ha]
  rw [if_pos ⟨hc, hm⟩]

theorem audOr_none (ha : s.audioReady l = none) (next : Act) : s.audOr l next = next := by simp only [State.audOr, ha]

section
variable {r : Option CellReady} (hin : s.inService l = true)
include hin

theorem cellSend_audio (hcal : calPos (s.calAt l) = .audio) :
    (cellSend l r).to s = (s.audOr l (s.ctrlOr l (sendCell l emptyCell))).to ((turn s l).to s) := by
  unfold State.calAt at hcal
  rw [cellSend, look_runs]
  dsimp only
  rw [if_neg (by simp [hin]), all_cons_to, all_cons_to, all_nil_to, hcal]
  rfl

theorem cellSend_control (hcal : calPos (s.calAt l) = .control) :
    (cellSend l r).to s = (s.ctrlOr l (s.audOr l (sendCell l emptyCell))).to ((turn s l).to s) := by
  unfold State.calAt at hcal
  rw [cellSend, look_runs]
  dsimp only
  rw [if_neg (by simp [hin]), all_cons_to, all_cons_to, all_nil_to, hcal]
  rfl

end
end
end Sys2Proof.Machine
end

section
/-! SUPPORT. What leaves at the next calendar position of a fabric link in service (R88 to R92, R94, R102). -/
set_option Elab.async false
namespace Sys2Proof.Machine

/-- The calendar of link `l` has moved on, and the stream that it takes up may be noted; nothing else has changed. -/
structure State.Turned (s : State) (l : Nat) (v : State) : Prop where
  same : State.SameBut [.qty .flCalPos, .qty .seqTx] s v
  wf : v.wf = true
  pos : v.q .flCalPos l = ((s.calAt l + 1) % 512 : Nat)

/-- The place in the calendar has moved on, memory is unchanged, and cell `c` leaves with what every cell of the link carries (R86, R91, R94). -/
def State.Sent (s : State) (l : Nat) (c : Cell) (u : State) : Prop :=
  u.q .flCalPos l = ((s.calAt l + 1) % 512 : Nat) ∧ u.mem = s.mem ∧ u.out = s.out ++ [.cell l (s.sealed l c)]

section
variable {s v : State} {l : Nat}

theorem turn_turned (hwf : s.wf = true) (hl : l < 256) : s.Turned l ((turn s l).to s) where
  same := (touches_put : (turn s l).Touches [.qty .flCalPos, .qty .seqTx]).step s
  wf := Act.to_wf _ hwf
  pos := put_q hwf _ _ (linkIndex_small hl)

theorem State.Turned.takesUp (h : s.Turned l v) (hl : l < 256) (c : Bool) (n : Int) (i j : Nat) : s.Turned l ((iff c (put .seqTx n i j)).to v) :=
  have hput : (iff c (put .seqTx n i j)).Touches [.qty .seqTx] := touches_iff fun _ => touches_put
  ⟨h.same.trans (hput.mono.step v), Act.to_wf _ h.wf, (hput.q _ (by decide) (linkIndex_small hl)).trans h.pos⟩

theorem State.Turned.rd (h : s.Turned l v) (f : Fld) (i j : Nat) : v.rd f i j = s.rd f i j := State.rd_congr (h.same.regs rfl) f i j

theorem State.Turned.sealed (h : s.Turned l v) (c : Cell) : v.sealed l c = s.sealed l c := h.same.sealed (State.nextSpore_congr h.same.txRecs) c

theorem State.Turned.onlyAt {u : State} {fs : List Fld} (h : s.Turned l v) (hu : v.onlyAt l fs u) : s.onlyAt l fs u :=
  State.onlyAt_trans (State.onlyAt_of_regs (h.same.regs rfl)) hu

/-- A cell leaves once the place has moved on. -/
theorem State.Turned.sent {ps : List Part} {c : Cell} {u : State} (h : s.Turned l v) (hl : l < 256) (hu : State.SameBut ps v u)
    (hout : u.out = v.out ++ [.cell l (v.sealed l c)]) (hp : .qty .flCalPos ∉ ps ∧ .mem ∉ ps := by decide +kernel) : s.Sent l c u :=
  ⟨(hu.q hp.1 (linkIndex_small hl) (by decide)).trans h.pos, (hu.mem hp.2).trans h.same.mem, by rw [hout, h.sealed, h.same.out]⟩

theorem State.Turned.sendVideo (h : s.Turned l v) (hl : l < 256) (g : Leg) (c : FwdCell) :
    s.Sent l (videoCell g c) ((sendVideo l g c).to v) ∧ ((sendVideo l g c).to v).regs = s.regs := by
  obtain ⟨hout, hsame⟩ := sendVideo_facts (s := v) (l := l) g c
  exact ⟨h.sent hl hsame hout, (hsame.regs rfl).trans (h.same.regs rfl)⟩

theorem State.Turned.sendIdle (h : s.Turned l v) (hl : l < 256) :
    s.Sent l emptyCell ((sendCell l emptyCell).to v) ∧ ((sendCell l emptyCell).to v).regs = s.regs := by
  have hsame := (sendCell_touches l emptyCell).step v
  exact ⟨h.sent hl hsame (sendCell_out ..), (hsame.regs rfl).trans (h.same.regs rfl)⟩

theorem State.Turned.sendCtrl (h : s.Turned l v) (hfits : s.fits) (hl : l < 256) (x : TxRec) : s.Sent l (s.ctrlCell l x) ((sendCtrl l x).to v)
    ∧ ((sendCtrl l x).to v).rd .FL_CREDITS_CTRL l = s.rd .FL_CREDITS_CTRL l - 1 ∧ s.onlyAt l [.FL_CREDITS_CTRL] ((sendCtrl l x).to v) := by
  obtain ⟨hout, hcred, hat, hsame⟩ := sendCtrl_facts h.wf (fun f i j => by rw [h.rd]; exact hfits f i j) hl x
  have hcell : v.ctrlCell l x = s.ctrlCell l x := by
    rw [State.ctrlCell, State.ctrlCell, State.qn, h.same.q (by decide) (linkIndex_small hl) (by decide), h.same.txRecs]
    rfl
  rw [hcell] at hout
  rw [h.rd] at hcred
  exact ⟨h.sent hl hsame hout, hcred, h.onlyAt hat⟩

theorem State.Turned.sendAud (h : s.Turned l v) (hfits : s.fits) (hl : l < 256) (c : FwdCell) (i : Nat) : s.Sent l (audioCell c) ((sendAud l c i).to v)
    ∧ ((sendAud l c i).to v).rd .FL_CREDITS_AUD l = s.rd .FL_CREDITS_AUD l - 1 ∧ s.onlyAt l [.FL_CREDITS_AUD] ((sendAud l c i).to v) := by
  obtain ⟨hout, hcred, hat, hsame⟩ := sendAud_facts h.wf (fun f i j => by rw [h.rd]; exact hfits f i j) hl c i
  rw [h.rd] at hcred
  exact ⟨h.sent hl hsame hout, hcred, h.onlyAt hat⟩

-- The claimants of a position (R91) ---------------------------------------------------------------------------------------------------------

/-- The owner's ready cell leaves at a video position. -/
theorem cellSend_video {r : Option CellReady} {slot i : Nat} {g : Leg} {c : FwdCell} (hm : s.sendsMedia l = true) (hcal : calPos (s.calAt l) = .video slot i)
    (hg : s.owner l (s.calAt l) = some g) (hc : s.videoReady l g r = some c) : (cellSend l r).to s = (sendVideo l g c).to ((turn s l).to s) := by
  have hin : s.inService l = true := by
    unfold State.sendsMedia at hm
    simp only [Bool.and_eq_true] at hm
    exact hm.1.1
  unfold State.sendsMedia at hm
  unfold State.calAt at hcal hg
  rw [cellSend, look_runs]
  dsimp only
  rw [if_neg (by simp [hin]), all_cons_to, all_cons_to, all_nil_to]
  simp only [hcal, hg, hm, hc, if_true]
  rfl

/-- With no video cell ready a position that is not audio's is a control cell's, else an audio cell's. -/
theorem cellSend_noVideo {r : Option CellReady} (hwf : s.wf = true) (hl : l < 256) (hin : s.inService l = true) (hcal : calPos (s.calAt l) ≠ .audio)
    (hno : ∀ g, s.owner l (s.calAt l) = some g → s.videoReady l g r = none) :
    ∃ v, s.Turned l v ∧ (cellSend l r).to s = (s.ctrlOr l (s.audOr l (sendCell l emptyCell))).to v := by
  have hturn := turn_turned hwf hl
  cases hpos : calPos (s.calAt l) with
  | audio => exact absurd hpos hcal
  | control => exact ⟨_, hturn, cellSend_control hin hpos⟩
  | video slot i =>
    unfold State.calAt at hpos hno
    rw [cellSend, look_runs]
    dsimp only
    rw [if_neg (by simp [hin]), all_cons_to, all_cons_to, all_nil_to, hpos]
    cases hg : s.owner l (s.qn .flCalPos l % 512) with
    | none => exact ⟨_, hturn, rfl⟩
    | some g =>
      dsimp only
      split
      · rw [hno g hg, all_cons_to, all_cons_to, all_nil_to]
        exact ⟨_, hturn.takesUp hl .., rfl⟩
      · exact ⟨_, hturn, rfl⟩

/-- With nothing ready an idle cell leaves. -/
theorem cellSend_idle {r : Option CellReady} (hwf : s.wf = true) (hl : l < 256) (hin : s.inService l = true)
    (hno : ∀ g, s.owner l (s.calAt l) = some g → s.videoReady l g r = none) (hx : (s.txRecs.find? fun x => x.link == l && x.cls == 3) = none)
    (ha : s.audioReady l = none) : ∃ v, s.Turned l v ∧ (cellSend l r).to s = (sendCell l emptyCell).to v := by
  by_cases hcal : calPos (s.calAt l) = .audio
  · exact ⟨_, turn_turned hwf hl, by rw [cellSend_audio hin hcal, audOr_none ha, ctrlOr_none hx]⟩
  · obtain ⟨v, hv, hto⟩ := cellSend_noVideo hwf hl hin hcal hno
    exact ⟨v, hv, by rw [hto, ctrlOr_none hx, audOr_none ha]⟩

-- FABRIC_CELL_SEND (R91) ------------------------------------------------------------------------------------------------------------------------

theorem exec_fabricCellSend (t : Nat) (r : Option CellReady) (hnone : (s.legs.any fun g => g.hand && g.node == s.ownNode && g.link == s.mirror l) = false) :
    exec (.fabricCellSend t l r) s = .next ((cellSend l r).to (s.since t)) := by
  have hlegs : ((s.since t).legs.filter fun g => g.hand && g.node == (s.since t).ownNode && g.link == (s.since t).mirror l && (s.since t).handDue l g) = [] := by
    refine List.filter_eq_nil_iff.mpr fun g hg hc => ?_
    simp only [Bool.and_eq_true] at hc
    have hneg := List.any_eq_false.mp hnone g hg
    simp only [Bool.and_eq_true] at hneg
    exact hneg hc.1
  show run _ s = _
  rw [run_eq, all_cons_to, all_cons_to, all_cons_to, all_nil_to, at_to_since, look_runs, hlegs, each_nil_to]

end
end Sys2Proof.Machine
end

section
/-! SUPPORT. What arrives on a fabric link in service: uncorrectable codewords, cells that fail their CRC, and good cells by class (R85, R87, R92, R98, R103). -/
set_option Elab.async false
namespace Sys2Proof.Machine

-- Counts and quantities ---------------------------------------------------------------------------------------------------------------------

/-- A counter of 32 bits adds `k` and stays at its greatest number. -/
theorem count_rd_add {f : Fld} {k i j : Nat} {s : State} (hs : SMap.sorted s.regs = true) (hh : f.has i j = true) (hw : f.desc.width = 32 := by decide) :
    ((count f k i j).to s).rd f i j = min (s.rd f i j + k) 0xFFFFFFFF := by
  rw [count_to, State.rd_setReg_same _ hs hh, hw]
  exact Nat.mod_eq_of_lt (by omega)

/-- A quantity that stands after another in the model's list keeps its value, at any index. -/
theorem put_q_before (s : State) {x y : Qty} (v : Int) {i j : Nat} (k l : Nat) (h : x.ctorIdx < y.ctorIdx) : ((put x v i j).to s).q y k l = s.q y k l := by
  rw [put_to, State.setQ]
  split
  next hij =>
    simp only [State.q]
    apply SMap.get_put_other
    simp only [Qty.key]
    omega
  next => rfl

section
variable {s : State} {l : Nat}

-- FABRIC_CELL_RECEIVE (R87) ------------------------------------------------------------------------------------------------------------------

theorem exec_fabricCellReceive (t : Nat) (c : CellIn) : exec (.fabricCellReceive t l c) s = .next ((cellReceive l c).to (s.since t)) := by
  show run _ s = _
  rw [run_eq, all_cons_to, all_cons_to, all_nil_to, at_to_since]

/-- A link in service does not train. -/
theorem notTraining_of_inService (hin : s.inService l = true) : s.rd .FL_STATE l ≠ flTraining := fun h => by simp [State.inService, h] at hin

/-- An uncorrectable codeword counts, once for all its cells (R87, R114). -/
def codewordLost (l : Nat) (c : CellIn) : Act := iff c.newCw (all [count .FL_CW_UNCORR 1 l, addQ .flUncSince 1 l])

theorem codewordLost_touches (c : CellIn) : (codewordLost l c).Touches [.reg .FL_CW_UNCORR, .qty .flUncSince] :=
  touches_iff fun _ => touches_all ⟨touches_count, touches_addQ⟩

section
variable {c : CellIn} (hin : s.inService l = true)
include hin

theorem cellReceive_uncorr (hu : c.uncorr = true) : (cellReceive l c).to s = (codewordLost l c).to ((count .FL_CW_CORR c.corr l).to s) := by
  rw [cellReceive, look_runs]
  dsimp only
  rw [if_neg (by simp [hin]), all_cons_to, all_cons_to, all_nil_to, if_pos hu]
  rfl

theorem cellReceive_bad (hu : c.uncorr = false) (hcrc : c.cell.crc ≠ cellCrc c.cell) : (cellReceive l c).to s = (cellBad l).to ((count .FL_CW_CORR c.corr l).to s) := by
  rw [cellReceive, look_runs]
  dsimp only
  rw [if_neg (by simp [hin]), all_cons_to, all_cons_to, all_nil_to, if_neg (by simp [hu]), if_pos hcrc]

theorem cellReceive_good (hu : c.uncorr = false) (hcrc : c.cell.crc = cellCrc c.cell) : (cellReceive l c).to s
    = (iff (!(c.cell.su && c.cell.sl)) (cellTake l c.cell c.late)).to ((put .flBad 0 l).to ((count .FL_CW_CORR c.corr l).to s)) := by
  have hcount : (count .FL_CW_CORR c.corr l).Touches [.reg .FL_CW_CORR] := touches_count
  have hst : ((count .FL_CW_CORR c.corr l).to s).rd .FL_STATE l = s.rd .FL_STATE l := hcount.rd _ (by decide) l
  have hnot := notTraining_of_inService hin
  rw [cellReceive, look_runs]
  dsimp only
  rw [if_neg (by simp [hin]), all_cons_to, all_cons_to, all_nil_to, if_neg (by simp [hu]), if_neg (not_not.mpr hcrc), all_cons_to, all_cons_to, all_nil_to,
    cellGood, look_runs, hst, beq_false_of_ne hnot, bne_iff_ne.mpr hnot]
  rfl

end

section
variable (hwf : s.wf = true) (hl : l < 256)
include hwf hl

/-- A cell of an uncorrectable codeword is counted and discarded (R87). -/
theorem cellReceive_uncorr_facts {c : CellIn} (hfits : s.fits) (hin : s.inService l = true) (hu : c.uncorr = true) : let u := (cellReceive l c).to s
    u.rd .FL_CW_CORR l = min (s.rd .FL_CW_CORR l + c.corr) 0xFFFFFFFF ∧ u.rd .FL_CW_UNCORR l = min (s.rd .FL_CW_UNCORR l + b2n c.newCw) 0xFFFFFFFF
    ∧ s.onlyAt l [.FL_CW_CORR, .FL_CW_UNCORR] u ∧ u.mem = s.mem ∧ u.out = s.out := by
  have hlost := codewordLost_touches (l := l) c
  have hcount : (count .FL_CW_CORR c.corr l).Touches [.reg .FL_CW_CORR] := touches_count
  have hsame := ((hcount.mono (qs := [.reg .FL_CW_CORR, .reg .FL_CW_UNCORR, .qty .flUncSince])).step s).trans (hlost.mono.step _)
  rw [cellReceive_uncorr hin hu]
  refine ⟨?_, ?_, ?_, hsame.mem, hsame.out⟩
  · rw [hlost.rd _ (by decide) l, count_rd_add (State.wf_regs hwf) ((Fld.has_iff ..).mpr ⟨hl, by decide⟩)]
  · have hold := hcount.rd s (f := .FL_CW_UNCORR) (by decide) l
    rw [codewordLost, iff_to]
    split
    next hnew =>
      rw [all_cons_to, all_cons_to, all_nil_to, addQ_to, State.rd_setQ, count_rd (Act.to_regs_sorted _ (State.wf_regs hwf)) ((Fld.has_iff ..).mpr ⟨hl, by decide⟩),
        hold, hnew]
      rfl
    next hnew =>
      have hfit := hfits .FL_CW_UNCORR l 0
      rw [hold, Bool.eq_false_iff.mpr hnew]
      exact (Nat.min_eq_left (Nat.le_of_lt_succ hfit)).symm
  · exact State.onlyAt_trans ((writesAt_count : (count .FL_CW_CORR c.corr l).Within _).onlyAt s)
      ((within_iff fun _ => writesAt_all ⟨writesAt_count, writesAt_addQ⟩ : (codewordLost l c).Within _).onlyAt _)

-- Cells that fail their CRC (R85, R87) ----------------------------------------------------------------------------------------------------------

/-- A cell that fails its CRC is counted. -/
def badCounted (l : Nat) : Act := all [count .FL_CRC_ERRS 1 l, put .flGood 0 l, addQ .flBad 1 l]

omit hwf hl in
theorem badCounted_touches : (badCounted l).Touches [.reg .FL_CRC_ERRS, .qty .flGood, .qty .flBad] := touches_all ⟨touches_count, touches_put, touches_addQ⟩

omit hwf hl in
theorem cellBad_to : (cellBad l).to s = (iff (s.q .flBad l == 7) (all [put .flBad 0 l, linkFails l])).to ((badCounted l).to s) := by
  rw [cellBad, look_runs]
  simp only [badCounted, all_cons_to, all_nil_to]

theorem badCounted_facts : ((badCounted l).to s).rd .FL_CRC_ERRS l = min (s.rd .FL_CRC_ERRS l + 1) 0xFFFFFFFF ∧ ((badCounted l).to s).q .flBad l = s.q .flBad l + 1 := by
  have hrest : (all [put .flGood 0 l, addQ .flBad 1 l]).Touches [.qty .flGood, .qty .flBad] := touches_all ⟨touches_put, touches_addQ⟩
  have hfirst : (all [count .FL_CRC_ERRS 1 l, put .flGood 0 l]).Touches [.reg .FL_CRC_ERRS, .qty .flGood] := touches_all ⟨touches_count, touches_put⟩
  constructor
  · rw [badCounted, all_cons_to, hrest.rd _ (by decide) l, count_rd (State.wf_regs hwf) ((Fld.has_iff ..).mpr ⟨hl, by decide⟩)]
  · have hto : (badCounted l).to s = (addQ .flBad 1 l).to ((all [count .FL_CRC_ERRS 1 l, put .flGood 0 l]).to s) := by
      simp only [badCounted, all_cons_to, all_nil_to]
    rw [hto, addQ_to]
    exact (put_q (Act.to_wf _ hwf) .flBad _ (linkIndex_small hl)).trans (congrArg (· + 1) (hfirst.q _ (by decide) (linkIndex_small hl)))

theorem cellBad_counted : let u := (cellBad l).to s
    u.rd .FL_CRC_ERRS l = min (s.rd .FL_CRC_ERRS l + 1) 0xFFFFFFFF ∧ u.mem = s.mem ∧ u.out = s.out := by
  have hcounted := badCounted_touches (l := l)
  have hfails : (iff (s.q .flBad l == 7) (all [put .flBad 0 l, linkFails l])).Touches ([.qty .flBad, .reg .FL_STATE, .qty .flFailAt] ++ followsParts) :=
    touches_iff fun _ => touches_all ⟨touches_put, (linkFails_touches hl).mono⟩
  have hsame := ((hcounted.mono (qs := [.reg .FL_CRC_ERRS, .qty .flGood, .qty .flBad, .reg .FL_STATE, .qty .flFailAt] ++ followsParts)).step s).trans (hfails.mono.step _)
  rw [cellBad_to]
  exact ⟨(hfails.rd _ (by decide +kernel) l).trans (badCounted_facts hwf hl).1, hsame.mem, hsame.out⟩

/-- The eighth bad CRC in a row fails the link (R85, R114). -/
theorem cellBad_eighth (hin : s.inService l = true) (h : s.q .flBad l = 7) : let u := (cellBad l).to s
    u.rd .FL_FAILS l = min (s.rd .FL_FAILS l + 1) 0xFFFFFFFF ∧ u.inService l = false := by
  have hzero : (put .flBad 0 l).Touches [.qty .flBad] := touches_put
  have hsame := ((badCounted_touches (l := l)).step s).trans (hzero.mono.step _)
  have hfails := linkFails_facts (Act.to_wf (put .flBad 0 l) (Act.to_wf (badCounted l) hwf)) hl (hsame.inService.trans hin)
  obtain ⟨-, hcount, -, -, -, hstate⟩ := hfails
  rw [cellBad_to, iff_to, if_pos (by simp [h]), all_cons_to, all_cons_to, all_nil_to]
  refine ⟨hcount.trans (by rw [hsame.rd (by decide)]), ?_⟩
  unfold State.inService
  split at hstate
  next => rw [hstate.1]; rfl
  next => rw [hstate]; rfl

theorem cellBad_before (h : s.q .flBad l ≠ 7) : let u := (cellBad l).to s
    u.q .flBad l = s.q .flBad l + 1 ∧ s.onlyAt l [.FL_CRC_ERRS] u := by
  rw [cellBad_to, iff_to, if_neg (by simpa using h)]
  exact ⟨(badCounted_facts hwf hl).2, (writesAt_all ⟨writesAt_count, writesAt_put, writesAt_addQ⟩ : (badCounted l).Within _).onlyAt s⟩

end
end
end Sys2Proof.Machine
end

section
/-! SUPPORT. What a good cell does by its class (R92, R98, R102, R103, R215). -/
set_option Elab.async false
namespace Sys2Proof.Machine

-- What a cell without a Spore touches --------------------------------------------------------------------------------------------------------

/-- What a centre touches as it keeps a cell for other links (R102, R214, R371). -/
def forwardParts : List Part := [.media, .qty .fwdFrom, .qty .fwFs, .qty .fwAt] ++ freeParts

/-- What a video cell at its destination touches (R103). -/
def copyParts : List Part := [.media, .qty .rxFs, .qty .rxAt, .reg .FL_LATE_CELLS]

/-- What an audio cell at its destination touches (R215). -/
def bundleParts : List Part := [.media, .reg .AI_LATE]

/-- What a cell without a credit touches (R92). -/
def overrunParts : List Part := .reg .FL_CREDIT_OVERRUNS :: eventParts

/-- What a control cell's payload touches (R98, R99). -/
def payloadParts : List Part := [.txRecs, .media, .reg .FAB_TAG_FAILS, .qty .msgRx] ++ freeParts ++ eventParts

/-- What a control cell with a credit touches. -/
def controlParts : List Part := [.qty .flRxCtrl, .reg .FL_CTRL_GAPS, .qty .flCtrlSeqRx] ++ payloadParts

def takenParts : List Part := forwardParts ++ copyParts ++ .qty .flRxAud :: bundleParts ++ overrunParts ++ controlParts

section
variable {l : Nat} {c : Cell}

theorem creditOverrun_touches (cls : Nat) : (creditOverrun l cls).Touches overrunParts := touches_all ⟨touches_count, touches_raise⟩

theorem forwardFrom_touches (stream : Nat) (fs : Bool) : (forwardFrom l stream fs).Touches forwardParts := touches_look fun _ => touches_iff fun _ => touches_put

theorem cellForward_touches : (cellForward l c).Touches forwardParts := by
  refine touches_look fun s => touches_ite (fun _ => ?_) fun _ => ?_
  · exact touches_all ⟨touches_iff fun _ => touches_all ⟨touches_put, touches_put⟩, touches_look fun _ => touches_one rfl⟩
  · exact touches_ite (fun _ => (freeCell_touches ..).mono) fun _ => touches_one rfl

theorem copyTake_touches (late : Bool) : (copyTake l c late).Touches copyParts := by
  rw [copyTake]
  refine touches_look fun s => ?_
  generalize s.fedBy c.stream = fed
  obtain ⟨outs, slot⟩ := fed
  cases outs with
  | nil => exact touches_skip
  | cons n r =>
    refine touches_all ⟨touches_iff fun _ => touches_all ⟨touches_put, touches_put⟩, touches_look fun u => ?_⟩
    dsimp only
    split
    · exact touches_ite (fun _ => touches_count) fun _ => touches_one rfl
    · exact touches_skip

theorem bundleArrive_touches (bundle idx : Nat) (smps : List (List (Int × Nat))) : (bundleArrive bundle idx smps).Touches bundleParts := by
  refine touches_look fun s => ?_
  split
  · exact touches_skip
  · exact touches_ite (fun _ => touches_count) fun _ => touches_ite (fun _ => touches_skip) fun _ => touches_one rfl

theorem recordDone_touches (cls sender : Nat) (got : List Nat) : (recordDone l cls sender got).Touches (.reg .FAB_TAG_FAILS :: .qty .msgRx :: eventParts) :=
  touches_look fun _ => recordTest_touches ..

theorem ctrlTake_touches : (ctrlTake l c).Touches payloadParts := by
  refine touches_look fun s => touches_ite (fun _ => ?_) fun _ => ?_
  · split
    · exact (pushSpores_touches _).mono
    · exact (freeCell_touches ..).mono
  · exact touches_all ⟨(freeCell_touches ..).mono, touches_one rfl, touches_each fun _ _ => (recordDone_touches ..).mono⟩

/-- A control cell with a credit is taken (R92, R98, R99). -/
def controlTaken (s : State) (l : Nat) (c : Cell) : Act := all [put .flRxCtrl ((s.qn .flRxCtrl l + 1) % 2 ^ 24 : Nat) l,
  iff (c.seq % 2 ^ 16 != s.qn .flCtrlSeqRx l % 2 ^ 16) (count .FL_CTRL_GAPS 1 l), put .flCtrlSeqRx (c.seq + 1 : Nat) l, ctrlTake l c]

theorem controlTaken_touches (s : State) : (controlTaken s l c).Touches controlParts :=
  touches_all ⟨touches_put, touches_iff fun _ => touches_count, touches_put, ctrlTake_touches.mono⟩

theorem cellTake_touches (late : Bool) (hsp : c.sp = false) : (cellTake l c late).Touches takenParts := by
  refine touches_look fun s => touches_all ⟨?_, ?_⟩
  · rw [hsp]
    exact touches_skip
  · split
    · exact touches_look fun _ => touches_ite
        (fun _ => touches_all ⟨(forwardFrom_touches ..).mono, touches_look fun _ => touches_iff fun _ => cellForward_touches.mono⟩) fun _ => (copyTake_touches late).mono
    · exact touches_ite (fun _ => (creditOverrun_touches _).mono) fun _ => touches_all ⟨touches_put, touches_ite (fun _ => cellForward_touches.mono) fun _ =>
        touches_all ⟨(freeCell_touches ..).mono, (bundleArrive_touches ..).mono⟩⟩
    · exact touches_ite (fun _ => (creditOverrun_touches _).mono) fun _ => (controlTaken_touches s).mono
    · exact touches_skip

-- The branches of a cell without a Spore ------------------------------------------------------------------------------------------------------

/-- The control cells that the receiver of link `l` holds (R92). -/
def State.ctrlHeld (s : State) (l : Nat) : Nat := (s.qn .flRxCtrl l + 2 ^ 24 - s.qn .flFreedCtrl l) % 2 ^ 24

section
variable {s : State} {late : Bool} (hsp : c.sp = false) (hin : s.inService l = true)
include hsp hin

/-- A video cell at an edge module in operation is taken there. -/
theorem cellTake_video (hco : s.controlOnly = false) (hcls : c.cls = 1) (hedge : s.isCentre = false) : (cellTake l c late).to s = (copyTake l c late).to s := by
  have hwhat : (if !s.inService l || (s.controlOnly && c.cls != clControl) then clIdle else c.cls) = 1 := by simp [hin, hco, hcls]
  rw [cellTake, look_runs]
  dsimp only
  rw [all_cons_to, all_cons_to, all_nil_to]
  simp only [hwhat, hsp, Bool.not_false, if_true, skip_to]
  rw [look_runs, hedge, if_neg Bool.false_ne_true]

omit hsp in
theorem controlClass (hcls : c.cls = 3) : (if !s.inService l || (s.controlOnly && c.cls != clControl) then clIdle else c.cls) = 3 := by
  rw [hin, hcls, Bool.not_true, Bool.false_or, if_neg (by simp)]

/-- A control cell beyond the credits is discarded (R92). -/
theorem cellTake_overrun (hcls : c.cls = 3) (h : 8 ≤ s.ctrlHeld l) : (cellTake l c late).to s = (creditOverrun l clControl).to s := by
  unfold State.ctrlHeld at h
  rw [cellTake, look_runs]
  dsimp only
  rw [all_cons_to, all_cons_to, all_nil_to]
  simp only [controlClass hin hcls, hsp, Bool.not_false, if_true, skip_to]
  rw [if_pos h]

/-- A control cell with a credit is taken (R92). -/
theorem cellTake_control (hcls : c.cls = 3) (h : ¬8 ≤ s.ctrlHeld l) : (cellTake l c late).to s = (controlTaken s l c).to s := by
  unfold State.ctrlHeld at h
  rw [cellTake, look_runs]
  dsimp only
  rw [all_cons_to, all_cons_to, all_nil_to]
  simp only [controlClass hin hcls, hsp, Bool.not_false, if_true, skip_to]
  rw [if_neg h, controlTaken]

end
end
end Sys2Proof.Machine
end

section
/-! SUPPORT. What a link's receiver keeps of good cells: copies for their delivery moment, control cells with a credit (R92, R103), and the credits it gives back. -/
set_option Elab.async false
namespace Sys2Proof.Machine

-- What stands with parts of the state ----------------------------------------------------------------------------------------------------------

section
variable {ps : List Part} {s u : State} (h : State.SameBut ps s u)
include h

theorem State.SameBut.fedBy (src : Nat) (hp : .legs ∉ ps ∧ ∀ f ∈ siteFields, Part.reg f ∉ ps := by decide +kernel) : u.fedBy src = s.fedBy src := by
  have hhome : u.home = s.home := funext fun n => by
    rw [State.home, h.rd (hp.2 _ (by decide))]
    rfl
  rw [State.fedBy, h.legs hp.1, h.ownNode hp.2, hhome]
  rfl

theorem State.SameBut.voBase (n : Nat) (hp : .reg .VO_LINK_MODE ∉ ps := by decide +kernel) : u.voBase n = s.voBase n := by
  rw [State.voBase, h.rd hp]
  rfl

/-- The fields that give the raster of an output's link (R42, R62, R144). -/
def rasterFields : List Fld := [.VO_LINK_MODE, .VO_DOMAIN, .RD_FORMAT, .VO_STD_NOW]

theorem State.SameBut.linkFormat (n : Nat) (hp : ∀ f ∈ rasterFields, Part.reg f ∉ ps := by decide +kernel) : u.linkFormat n = s.linkFormat n := by
  have hfmt : u.fmtOut n = s.fmtOut n := by
    rw [State.fmtOut, h.voBase n (hp _ (by decide)), h.rd (hp .VO_DOMAIN (by decide)), h.rd (hp .RD_FORMAT (by decide))]
    rfl
  rw [State.linkFormat, hfmt, h.rd (hp _ (by decide))]
  rfl

theorem State.SameBut.deliveryAt (fm f : Format) (slot x idx : Nat) (hp : .reg .FAB_DELIVERY_NS ∉ ps := by decide +kernel) :
    u.deliveryAt fm f slot x idx = s.deliveryAt fm f slot x idx := by
  have hps (n : Nat) : u.deliveryPs n = s.deliveryPs n := by
    rw [State.deliveryPs, h.rd hp]
    rfl
  rw [State.deliveryAt, State.withDomain, hps]
  rfl

end

-- Video cells at their destination (R103) ----------------------------------------------------------------------------------------------------------

/-- The place of a cell in its frame (R102). -/
def State.placeOf (s : State) (f : Format) (c : Cell) : Nat := placeInFrame f.cells c.seq (s.qn .rxFs c.stream)

/-- The delivery moment of a cell has passed (R103). -/
def State.tooLate (s : State) (fm f : Format) (slot : Nat) (c : Cell) (late : Bool) : Bool :=
  (s.deliveryAt fm f slot (s.qn .rxAt c.stream - 1) (s.placeOf f c)).elim late fun d => decide (d < s.house)

/-- The copies that stay when cell `c` arrives on link `l`: of its plane and stream the last 64. -/
def State.copiesNear (s : State) (l : Nat) (c : Cell) : List CellCopy := s.copies.filter fun x =>
  !(x.src == c.stream && x.plane == s.planeOf l) || decide ((c.seq + 2 ^ 16 - x.seq % 2 ^ 16) % 2 ^ 16 < 64)

section
variable {s : State} {l n slot : Nat} {c : Cell} {late : Bool} {outs : List Nat} {f fm : Format} (hfs : c.fs = false) (hfed : s.fedBy c.stream = (n :: outs, slot))
  (hf : s.linkFormat n = some f) (hfm : s.domFormat (s.rd .VO_DOMAIN (s.voBase n)) = some fm)
include hfs hfed hf hfm

theorem copyTake_late (h : s.tooLate fm f slot c late = true) : (copyTake l c late).to s = (count .FL_LATE_CELLS 1 l).to s := by
  unfold State.tooLate State.placeOf at h
  rw [copyTake, look_runs, hfed]
  dsimp only
  rw [all_cons_to, all_cons_to, all_nil_to, hfs, Bool.false_and, iff_to, if_neg Bool.false_ne_true, look_runs, hf, hfm]
  dsimp only
  cases hd : s.deliveryAt fm f slot (s.qn .rxAt c.stream - 1) (placeInFrame f.cells c.seq (s.qn .rxFs c.stream)) with
  | none => rw [hd, Option.elim_none] at h; rw [if_pos h]
  | some d => rw [hd, Option.elim_some] at h; rw [if_pos h]

theorem copyTake_kept (h : s.tooLate fm f slot c late = false) : (copyTake l c late).to s
    = (one (.copies (s.copiesNear l c ++ [⟨c.stream, s.planeOf l, c.seq % 2 ^ 16, s.placeOf f c, c.payload⟩]))).to s := by
  unfold State.tooLate State.placeOf at h
  rw [copyTake, look_runs, hfed]
  dsimp only
  rw [all_cons_to, all_cons_to, all_nil_to, hfs, Bool.false_and, iff_to, if_neg Bool.false_ne_true, look_runs, hf, hfm]
  dsimp only
  cases hd : s.deliveryAt fm f slot (s.qn .rxAt c.stream - 1) (placeInFrame f.cells c.seq (s.qn .rxFs c.stream)) with
  | none => rw [hd, Option.elim_none] at h; rw [if_neg (Bool.eq_false_iff.mp h)]; rfl
  | some d => rw [hd, Option.elim_some] at h; rw [if_neg (Bool.eq_false_iff.mp h)]; rfl

end

-- Control cells (R88, R92, R99) ---------------------------------------------------------------------------------------------------------------------

section
variable {s : State} {l : Nat} (hwf : s.wf = true) (hl : l < 256)
include hwf hl

/-- A cell without a credit is counted and reported (R92). -/
theorem creditOverrun_facts (cls : Nat) : let u := (creditOverrun l cls).to s
    u.rd .FL_CREDIT_OVERRUNS l = min (s.rd .FL_CREDIT_OVERRUNS l + 1) 0xFFFFFFFF ∧ (s.idleBlock 3 = false → u.latched .CREDIT_OVERRUN = true)
    ∧ s.onlyAt l [.FL_CREDIT_OVERRUNS] u := by
  have hcount : (count .FL_CREDIT_OVERRUNS 1 l).Touches [.reg .FL_CREDIT_OVERRUNS] := touches_count
  have hto : (creditOverrun l cls).to s = (raise .CREDIT_OVERRUN l cls).to ((count .FL_CREDIT_OVERRUNS 1 l).to s) := by
    rw [creditOverrun, all_cons_to, all_cons_to, all_nil_to]
  have hat : (creditOverrun l cls).Within (Eff.writesAt l [.FL_CREDIT_OVERRUNS]) := writesAt_all ⟨writesAt_count, writesAt_raise⟩
  refine ⟨?_, fun hidle => ?_, hat.onlyAt s⟩
  · rw [hto, raise_rd _ _ _ _ (by decide)]
    exact count_rd (State.wf_regs hwf) ((Fld.has_iff ..).mpr ⟨hl, by decide⟩)
  · rw [hto]
    exact raise_latches _ _ _ (Act.to_regs_sorted _ (State.wf_regs hwf)) (((hcount.step s).idleBlock 3).trans hidle) (by decide)

/-- A control cell with a credit takes a place, and a gap in the sequence numbers counts (R88, R92). -/
theorem controlTaken_facts (hfit : s.rd .FL_CTRL_GAPS l ≤ 0xFFFFFFFF) (c : Cell) : let u := (controlTaken s l c).to s
    u.rd .FL_CTRL_GAPS l = min (s.rd .FL_CTRL_GAPS l + (if c.seq % 2 ^ 16 = s.qn .flCtrlSeqRx l % 2 ^ 16 then 0 else 1)) 0xFFFFFFFF
    ∧ u.qn .flRxCtrl l = (s.qn .flRxCtrl l + 1) % 2 ^ 24 ∧ ∀ k, k ≠ l → u.rd .FL_CTRL_GAPS k = s.rd .FL_CTRL_GAPS k := by
  have hplace : (put .flRxCtrl ((s.qn .flRxCtrl l + 1) % 2 ^ 24 : Nat) l).Touches [.qty .flRxCtrl] := touches_put
  have hplaced := put_q hwf .flRxCtrl ((s.qn .flRxCtrl l + 1) % 2 ^ 24 : Nat) (linkIndex_small hl) (j := 0)
  have hgap : (iff (c.seq % 2 ^ 16 != s.qn .flCtrlSeqRx l % 2 ^ 16) (count .FL_CTRL_GAPS 1 l)).Touches [.reg .FL_CTRL_GAPS] := touches_iff fun _ => touches_count
  have hrest : (all [put .flCtrlSeqRx (c.seq + 1 : Nat) l, ctrlTake l c]).Touches (.qty .flCtrlSeqRx :: payloadParts) := touches_all ⟨touches_put, ctrlTake_touches.mono⟩
  have hafter := hgap.mono (qs := [.reg .FL_CTRL_GAPS, .qty .flCtrlSeqRx] ++ payloadParts)
  have hs := Act.to_regs_sorted (put .flRxCtrl ((s.qn .flRxCtrl l + 1) % 2 ^ 24 : Nat) l) (State.wf_regs hwf)
  have hold (k : Nat) := hplace.rd s (f := .FL_CTRL_GAPS) (by decide) k
  rw [controlTaken, all_cons_to, all_cons_to]
  generalize (put .flRxCtrl ((s.qn .flRxCtrl l + 1) % 2 ^ 24 : Nat) l).to s = v at *
  refine ⟨?_, ?_, fun k hk => ?_⟩
  · rw [hrest.rd _ (by decide +kernel) l, iff_to]
    split
    next hne =>
      rw [if_neg (bne_iff_ne.mp hne), count_rd hs ((Fld.has_iff ..).mpr ⟨hl, by decide⟩), hold]
    next heq =>
      rw [if_pos (by simpa using heq), hold]
      exact (Nat.min_eq_left hfit).symm
  · rw [State.qn, ((hafter.step v).trans (hrest.mono.step _)).q (by decide +kernel) (linkIndex_small hl) (by decide), hplaced]
    rfl
  · rw [hrest.rd _ (by decide +kernel) k, iff_to]
    split
    · rw [count_to, State.rd_setReg_other _ _ (.inr (.inl hk)), hold]
    · exact hold k

end

-- A good cell (R87, R92, R103) -----------------------------------------------------------------------------------------------------------------------

/-- A good cell has arrived on link `l`, and nothing of it has been taken yet: its codewords' corrections count. -/
structure State.Heard (s : State) (l : Nat) (v : State) : Prop where
  same : State.SameBut [.reg .FL_CW_CORR, .qty .flBad] s v
  wf : v.wf = true
  bad : v.q .flBad l = 0
  regs : s.onlyAt l [.FL_CW_CORR] v
  copies : v.copies = s.copies
  frames : ∀ k, v.qn .rxFs k = s.qn .rxFs k ∧ v.qn .rxAt k = s.qn .rxAt k

section
variable {s v : State} {l : Nat}

theorem heard (hwf : s.wf = true) (hl : l < 256) (k : Nat) : s.Heard l ((put .flBad 0 l).to ((count .FL_CW_CORR k l).to s)) where
  same := (touches_all ⟨touches_count, touches_put⟩ : (all [count .FL_CW_CORR k l, put .flBad 0 l]).Touches [.reg .FL_CW_CORR, .qty .flBad]).step s
  wf := Act.to_wf _ (Act.to_wf _ hwf)
  bad := put_q (Act.to_wf _ hwf) _ _ (linkIndex_small hl)
  regs := (writesAt_all ⟨writesAt_count, writesAt_put⟩ : (all [count .FL_CW_CORR k l, put .flBad 0 l]).Within _).onlyAt s
  copies := by rw [put_to, State.setQ_copies, count_to, State.setReg_copies]
  frames j := by
    constructor
    · rw [State.qn, put_q_before _ _ _ _ (by decide), count_to, State.q_setReg, State.qn]
    · rw [State.qn, put_q_before _ _ _ _ (by decide), count_to, State.q_setReg, State.qn]

end
end Sys2Proof.Machine
end

section
/-! SUPPORT. A link's receiver by the class of the good cell, the records complete at their target, and CREDIT (R92, R98, R427), and O17. -/
set_option Elab.async false
namespace Sys2Proof.Machine

theorem State.onlyAt_mono {k : Nat} {fs gs : List Fld} {s u : State} (h : s.onlyAt k fs u) (hg : ∀ f ∈ fs, f ∈ gs := by decide) : s.onlyAt k gs u :=
  fun f i j hf he => h f i j (hf.imp_left fun hn hm => hn (hg f hm)) he

-- A good cell that is heard (R87, R92, R103) -------------------------------------------------------------------------------------------------------

section
variable {s v : State} {l : Nat} {c : Cell} {late : Bool} (h : s.Heard l v) (hl : l < 256)
include h

theorem State.Heard.rd {f : Fld} (i : Nat) (hf : f ≠ .FL_CW_CORR := by decide) : v.rd f i = s.rd f i := h.same.rd (by simpa using hf) i 0

include hl in
theorem State.Heard.ctrlHeld : v.ctrlHeld l = s.ctrlHeld l := by
  have hi := linkIndex_small hl
  unfold State.ctrlHeld State.qn
  rw [h.same.q (by decide) hi (by decide), h.same.q (by decide) hi (by decide)]

/-- What a good cell without a Spore does leaves memory, what is sent and the row of bad CRCs. -/
theorem State.Heard.leaves {ps : List Part} {u : State} (hl : l < 256) (hu : State.SameBut ps v u) (hp : .mem ∉ ps ∧ .out ∉ ps ∧ .qty .flBad ∉ ps := by decide +kernel) :
    u.mem = s.mem ∧ u.out = s.out ∧ u.q .flBad l = 0 :=
  ⟨(hu.mem hp.1).trans h.same.mem, (hu.out hp.2.1).trans h.same.out, (hu.q hp.2.2 (linkIndex_small hl) (by decide)).trans h.bad⟩

section
variable (hsp : c.sp = false) (hin : s.inService l = true)
include hsp hin

/-- A control cell beyond the credits is discarded and reported (R92). -/
theorem State.Heard.overrun (hl : l < 256) (hcls : c.cls = 3) (hheld : 8 ≤ s.ctrlHeld l) : let u := (cellTake l c late).to v
    u.rd .FL_CREDIT_OVERRUNS l = min (s.rd .FL_CREDIT_OVERRUNS l + 1) 0xFFFFFFFF ∧ (s.idleBlock 3 = false → u.latched .CREDIT_OVERRUN = true)
    ∧ s.onlyAt l [.FL_CW_CORR, .FL_CREDIT_OVERRUNS] u := by
  obtain ⟨hcount, hlatch, hat⟩ := creditOverrun_facts h.wf hl clControl
  rw [cellTake_overrun hsp (h.same.inService.trans hin) hcls ((h.ctrlHeld hl).symm ▸ hheld)]
  exact ⟨hcount.trans (by rw [h.rd]), fun hidle => hlatch ((h.same.idleBlock 3).trans hidle), State.onlyAt_trans (State.onlyAt_mono h.regs) (State.onlyAt_mono hat)⟩

/-- A control cell with a credit takes a place, and a gap in the sequence numbers counts (R88, R92). -/
theorem State.Heard.control (hfits : s.fits) (hl : l < 256) (hcls : c.cls = 3) (hheld : ¬8 ≤ s.ctrlHeld l) : let u := (cellTake l c late).to v
    u.rd .FL_CTRL_GAPS l = min (s.rd .FL_CTRL_GAPS l + (if c.seq % 2 ^ 16 = s.qn .flCtrlSeqRx l % 2 ^ 16 then 0 else 1)) 0xFFFFFFFF
    ∧ u.qn .flRxCtrl l = (s.qn .flRxCtrl l + 1) % 2 ^ 24 ∧ s.only [.FL_CW_CORR, .FL_CTRL_GAPS, .FAB_TAG_FAILS] u
    ∧ ∀ k, k ≠ l → u.rd .FL_CW_CORR k = s.rd .FL_CW_CORR k ∧ u.rd .FL_CTRL_GAPS k = s.rd .FL_CTRL_GAPS k := by
  have hi := linkIndex_small hl
  have htouch := controlTaken_touches (l := l) (c := c) v
  have hsame := (h.same.mono (qs := [Part.reg .FL_CW_CORR, .qty .flBad] ++ controlParts) (by decide +kernel)).trans (htouch.mono.step v)
  have hqn {x : Qty} (hx : x ≠ .flBad) : v.qn x l = s.qn x l := congrArg Int.toNat (h.same.q (by simpa using hx) hi (by decide))
  obtain ⟨hgaps, hplace, hothers⟩ := controlTaken_facts h.wf hl (by rw [h.rd]; exact Nat.le_of_lt_succ (hfits ..)) c
  rw [h.rd, hqn (by decide)] at hgaps
  rw [hqn (by decide)] at hplace
  rw [cellTake_control hsp (h.same.inService.trans hin) hcls ((h.ctrlHeld hl).symm ▸ hheld)]
  refine ⟨hgaps, hplace, hsame.only (by decide +kernel), fun k hk => ⟨?_, ?_⟩⟩
  · rw [htouch.rd _ (by decide +kernel) k]
    exact h.regs .FL_CW_CORR k 0 (.inr hk) (by decide)
  · rw [hothers k hk, h.rd]

/-- A good video cell is kept for its delivery moment, or counts as late (R103). -/
theorem State.Heard.video {n slot : Nat} {outs : List Nat} {f fm : Format} (hfits : s.fits) (hl : l < 256) (hco : s.controlOnly = false) (hcls : c.cls = 1)
    (hedge : s.isCentre = false) (hfs : c.fs = false) (hfed : s.fedBy c.stream = (n :: outs, slot)) (hf : s.linkFormat n = some f)
    (hfm : s.domFormat (s.rd .VO_DOMAIN (s.voBase n)) = some fm) : let u := (cellTake l c late).to v
    u.rd .FL_LATE_CELLS l = min (s.rd .FL_LATE_CELLS l + b2n (s.tooLate fm f slot c late)) 0xFFFFFFFF ∧ s.onlyAt l [.FL_CW_CORR, .FL_LATE_CELLS] u
    ∧ (if s.tooLate fm f slot c late = true then u.copies = s.copies
      else u.copies.getLast? = some ⟨c.stream, s.planeOf l, c.seq % 2 ^ 16, s.placeOf f c, c.payload⟩) := by
  have hfed' := (h.same.fedBy c.stream).trans hfed
  have hf' := (h.same.linkFormat n).trans hf
  have hfm' : v.domFormat (v.rd .VO_DOMAIN (v.voBase n)) = some fm := by rw [h.same.voBase, h.rd, h.same.domFormat, hfm]
  have hco' : v.controlOnly = false := by rw [State.controlOnly, h.rd, h.rd]; exact hco
  have hplace : v.placeOf f c = s.placeOf f c := by rw [State.placeOf, (h.frames c.stream).1, State.placeOf]
  have hlate : v.tooLate fm f slot c late = s.tooLate fm f slot c late := by
    rw [State.tooLate, h.same.deliveryAt, (h.frames c.stream).2, hplace, h.same.house, State.tooLate]
  have hat : s.onlyAt l [.FL_CW_CORR, .FL_LATE_CELLS] v := State.onlyAt_mono h.regs
  rw [cellTake_video hsp (h.same.inService.trans hin) hco' hcls (h.same.isCentre (by decide +kernel) |>.trans hedge)]
  cases hwas : s.tooLate fm f slot c late with
  | true =>
    rw [copyTake_late hfs hfed' hf' hfm' (hlate.trans hwas)]
    refine ⟨?_, State.onlyAt_trans hat ((writesAt_count : (count .FL_LATE_CELLS 1 l).Within _).onlyAt v), ?_⟩
    · rw [count_rd (State.wf_regs h.wf) ((Fld.has_iff ..).mpr ⟨hl, by decide⟩), h.rd]
      rfl
    · rw [if_pos rfl, count_to, State.setReg_copies, h.copies]
  | false =>
    rw [copyTake_kept hfs hfed' hf' hfm' (hlate.trans hwas), hplace, h.same.planeOf (by decide +kernel)]
    refine ⟨?_, State.onlyAt_trans hat (State.onlyAt_of_regs rfl), ?_⟩
    · exact (h.rd l).trans (Nat.min_eq_left (Nat.le_of_lt_succ (hfits ..))).symm
    · rw [if_neg Bool.false_ne_true]
      exact List.getLast?_concat

end
end

-- Records complete at their target (R98, R427) --------------------------------------------------------------------------------------------------------

section
variable {s : State} {among got : List Nat} {named : Nat} (hkind : bits (got.headD 0) 48 4 ≠ 12)
include hkind

theorem recordTest_unverified (h : s.senderOf got among = none) : (recordTest among named got).to s = (tagFails named (bits (got.headD 0) 0 48)).to s := by
  rw [recordTest, look_runs, if_neg hkind, h]

/-- An unordered record lies more than 64 below the last of its sender (R427). -/
def State.replayed (s : State) (got : List Nat) (n : Nat) : Prop := ordered (bits (got.headD 0) 48 4) = false ∧ bits (got.headD 0) 0 48 + 65 < s.qn .msgRx n

theorem recordTest_replayed {n : Nat} (h : s.senderOf got among = some n) (hold : s.replayed got n) : (recordTest among named got).to s = (count .FAB_TAG_FAILS).to s := by
  obtain ⟨hord, hfar⟩ := hold
  rw [recordTest, look_runs, if_neg hkind, h]
  dsimp only
  rw [hord, iff_to, if_pos (by decide), if_pos hfar]

theorem recordTest_verified {n : Nat} (h : s.senderOf got among = some n) (hnew : ¬s.replayed got n) : ((recordTest among named got).to s).regs = s.regs := by
  rw [recordTest, look_runs, if_neg hkind, h]
  dsimp only
  rw [iff_to]
  split
  next hord =>
    rw [if_neg fun hfar => hnew ⟨by simpa using hord, hfar⟩, put_to, State.setQ_regs]
  next => rfl

end

-- CREDIT (R92) -----------------------------------------------------------------------------------------------------------------------------------------

section
variable {s : State} {l : Nat}

/-- The control cells freed since the start, where `ctrl` of those taken still stand in the receiver's places. -/
def State.givenCtrl (s : State) (l ctrl : Nat) : Nat := (s.qn .flFreedCtrl l + (s.qn .flNewCtrl l - ctrl)) % 2 ^ 24

/-- The audio cells freed since the start, where `aud` of those taken still stand in the receiver's places. -/
def State.givenAud (s : State) (l aud : Nat) : Nat := (s.qn .flFreedAud l + (s.qn .flNewAud l - aud)) % 2 ^ 24

/-- CREDIT leaves on link `l`. -/
def creditLeaves (s : State) (l ctrl aud : Nat) : Act := all [
  put .flFreeAt (if min ctrl (s.qn .flNewCtrl l) + min aud (s.qn .flNewAud l) = 0 then 0 else s.now + 1) l,
  emit (.credit l (s.givenCtrl l ctrl) (s.givenAud l aud)), sendLocal l (s.givenCtrl l ctrl + s.givenAud l aud * 2 ^ 24 + 14 * 2 ^ 48)]

/-- The counts of freed cells that a CREDIT leaves behind. -/
def creditCounts (s : State) (l ctrl aud : Nat) : Act := all [put .flFreedCtrl (s.givenCtrl l ctrl) l, put .flFreedAud (s.givenAud l aud) l,
  put .flNewCtrl (min ctrl (s.qn .flNewCtrl l) : Nat) l, put .flNewAud (min aud (s.qn .flNewAud l) : Nat) l]

theorem exec_creditSend (t ctrl aud : Nat) (h : (s.since t).creditDue l ctrl aud = true) :
    exec (.creditSend t l ctrl aud) s = .next ((creditLeaves (s.since t) l ctrl aud).to ((creditCounts (s.since t) l ctrl aud).to (s.since t))) := by
  show run _ s = _
  rw [run_eq, all_cons_to, all_cons_to, all_nil_to, at_to_since, look_runs, if_pos h]
  dsimp only
  rw [creditLeaves, creditCounts, State.givenCtrl, State.givenAud]
  repeat rw [all_cons_to]
  repeat rw [all_nil_to]

theorem exec_creditSend_idle (t ctrl aud : Nat) (h : (s.since t).creditDue l ctrl aud = false) : exec (.creditSend t l ctrl aud) s = .next (s.since t) := by
  show run _ s = _
  rw [run_eq, all_cons_to, all_cons_to, all_nil_to, at_to_since, look_runs, if_neg (Bool.eq_false_iff.mp h), skip_to]

theorem creditLeaves_touches (s : State) (ctrl aud : Nat) : (creditLeaves s l ctrl aud).Touches [.qty .flFreeAt, .out, .txRecs] :=
  touches_all ⟨touches_put, touches_emit, (pushSpores_touches _).mono⟩

/-- What leaves with a CREDIT: the message, and its link-local Spore (R92, R94). -/
theorem creditLeaves_facts (u : State) (ctrl aud : Nat) : let v := (creditLeaves s l ctrl aud).to u
    v.out = u.out ++ [.credit l (s.givenCtrl l ctrl) (s.givenAud l aud)]
    ∧ v.txRecs = u.txRecs ++ [⟨l, 1, 0, 0, 0, 0, false, [s.givenCtrl l ctrl + s.givenAud l aud * 2 ^ 24 + 14 * 2 ^ 48]⟩] := by
  have hput {n : Int} : (put .flFreeAt n l).Touches [.qty .flFreeAt] := touches_put
  have hout := (hput (n := if min ctrl (s.qn .flNewCtrl l) + min aud (s.qn .flNewAud l) = 0 then 0 else s.now + 1)).step u
  rw [creditLeaves, all_cons_to, all_cons_to, all_cons_to, all_nil_to]
  constructor
  · rw [sendLocal, ((pushSpores_touches _).step _).out, emit_to, hout.out]
  · rw [sendLocal, pushSpores, look_runs]
    show _ ++ _ = _
    rw [emit_to, hout.txRecs]

theorem creditCounts_touches (s : State) (ctrl aud : Nat) : (creditCounts s l ctrl aud).Touches [.qty .flFreedCtrl, .qty .flFreedAud, .qty .flNewCtrl, .qty .flNewAud] :=
  touches_all ⟨touches_put, touches_put, touches_put, touches_put⟩

/-- What is put stays while the acts that follow leave the quantity alone. -/
theorem put_qn_stays {ps : List Part} {x : Qty} {n : Nat} {rest : Act} (hwf : s.wf = true) (hl : l < 256) (hrest : rest.Touches ps) (hx : .qty x ∉ ps := by decide) :
    (rest.to ((put x n l).to s)).qn x l = n := by
  rw [State.qn, hrest.q _ hx (linkIndex_small hl), put_q hwf x n (linkIndex_small hl), Int.toNat_natCast]

theorem creditCounts_facts (hwf : s.wf = true) (hl : l < 256) (ctrl aud : Nat) : let u := (creditCounts s l ctrl aud).to s
    u.qn .flFreedCtrl l = s.givenCtrl l ctrl ∧ u.qn .flFreedAud l = s.givenAud l aud
    ∧ u.qn .flNewCtrl l = min ctrl (s.qn .flNewCtrl l) ∧ u.qn .flNewAud l = min aud (s.qn .flNewAud l) := by
  have hthird : (all [put .flNewAud (min aud (s.qn .flNewAud l) : Nat) l]).Touches [.qty .flNewAud] := touches_all touches_put
  have hsecond : (all [put .flNewCtrl (min ctrl (s.qn .flNewCtrl l) : Nat) l, put .flNewAud (min aud (s.qn .flNewAud l) : Nat) l]).Touches
      [.qty .flNewCtrl, .qty .flNewAud] := touches_all ⟨touches_put, touches_put⟩
  have hfirst : (all [put .flFreedAud (s.givenAud l aud) l, put .flNewCtrl (min ctrl (s.qn .flNewCtrl l) : Nat) l, put .flNewAud (min aud (s.qn .flNewAud l) : Nat) l]).Touches
      [.qty .flFreedAud, .qty .flNewCtrl, .qty .flNewAud] := touches_all ⟨touches_put, touches_put, touches_put⟩
  have hwf1 := Act.to_wf (put .flFreedCtrl (s.givenCtrl l ctrl) l) hwf
  have hwf2 := Act.to_wf (put .flFreedAud (s.givenAud l aud) l) hwf1
  have hwf3 := Act.to_wf (put .flNewCtrl (min ctrl (s.qn .flNewCtrl l) : Nat) l) hwf2
  rw [creditCounts, all_cons_to]
  refine ⟨put_qn_stays hwf hl hfirst, ?_⟩
  rw [all_cons_to]
  refine ⟨put_qn_stays hwf1 hl hsecond, ?_⟩
  rw [all_cons_to]
  refine ⟨put_qn_stays hwf2 hl hthird, ?_⟩
  rw [all_cons_to]
  exact put_qn_stays hwf3 hl (touches_skip (ps := []))

end

-- Every clause (R85 to R103, R427) --------------------------------------------------------------------------------------------------------------------

section
variable {s : State} {l : Nat}

/-- A cell that fails its CRC (R85, R87, R114). -/
theorem cellReceive_bad_facts {c : CellIn} (hwf : s.wf = true) (hl : l < 256) (hin : s.inService l = true) (hu : c.uncorr = false) (hcrc : c.cell.crc ≠ cellCrc c.cell) :
    let u := (cellReceive l c).to s
    u.rd .FL_CRC_ERRS l = min (s.rd .FL_CRC_ERRS l + 1) 0xFFFFFFFF ∧ u.mem = s.mem ∧ u.out = s.out
    ∧ (if s.q .flBad l = 7 then u.rd .FL_FAILS l = min (s.rd .FL_FAILS l + 1) 0xFFFFFFFF ∧ u.inService l = false
      else u.q .flBad l = s.q .flBad l + 1 ∧ s.onlyAt l [.FL_CW_CORR, .FL_CRC_ERRS] u) := by
  have hcount : (count .FL_CW_CORR c.corr l).Touches [.reg .FL_CW_CORR] := touches_count
  have hsame := hcount.step s
  have hat : s.onlyAt l [.FL_CW_CORR, .FL_CRC_ERRS] ((count .FL_CW_CORR c.corr l).to s) := (writesAt_count : (count .FL_CW_CORR c.corr l).Within _).onlyAt s
  have hwf1 := Act.to_wf (count .FL_CW_CORR c.corr l) hwf
  rw [cellReceive_bad hin hu hcrc]
  generalize (count .FL_CW_CORR c.corr l).to s = v at *
  have hbad : v.q .flBad l = s.q .flBad l := hsame.q (by decide) (linkIndex_small hl) (by decide)
  obtain ⟨herrs, hmem, hout⟩ := cellBad_counted hwf1 hl
  refine ⟨herrs.trans (by rw [hsame.rd (by decide)]), hmem.trans hsame.mem, hout.trans hsame.out, ?_⟩
  split
  next h7 =>
    obtain ⟨hfails, hclosed⟩ := cellBad_eighth hwf1 hl (hsame.inService.trans hin) (hbad.trans h7)
    exact ⟨hfails.trans (by rw [hsame.rd (by decide)]), hclosed⟩
  next h7 =>
    obtain ⟨hmore, honly⟩ := cellBad_before hwf1 hl (fun h => h7 (hbad.symm.trans h))
    exact ⟨hmore.trans (by rw [hbad]), State.onlyAt_trans hat (State.onlyAt_mono honly)⟩

/-- CREDIT_SEND with a CREDIT due (R92). -/
theorem creditSend_facts (hwf : s.wf = true) (hl : l < 256) (ctrl aud : Nat) : let u := (creditLeaves s l ctrl aud).to ((creditCounts s l ctrl aud).to s)
    u.regs = s.regs ∧ u.mem = s.mem ∧ u.out = s.out ++ [.credit l (s.givenCtrl l ctrl) (s.givenAud l aud)]
    ∧ u.qn .flFreedCtrl l = s.givenCtrl l ctrl ∧ u.qn .flFreedAud l = s.givenAud l aud
    ∧ u.qn .flNewCtrl l = min ctrl (s.qn .flNewCtrl l) ∧ u.qn .flNewAud l = min aud (s.qn .flNewAud l)
    ∧ u.txRecs = s.txRecs ++ [⟨l, 1, 0, 0, 0, 0, false, [s.givenCtrl l ctrl + s.givenAud l aud * 2 ^ 24 + 14 * 2 ^ 48]⟩] := by
  have hcounts := (creditCounts_touches (l := l) s ctrl aud).step s
  obtain ⟨hfc, hfa, hkc, hka⟩ := creditCounts_facts hwf hl ctrl aud
  generalize (creditCounts s l ctrl aud).to s = v at *
  have hleaves := (creditLeaves_touches (l := l) s ctrl aud).step v
  obtain ⟨hout, hrecs⟩ := creditLeaves_facts (s := s) (l := l) v ctrl aud
  have hqn {x : Qty} (hx : .qty x ∉ [Part.qty .flFreeAt, .out, .txRecs]) : ((creditLeaves s l ctrl aud).to v).qn x l = v.qn x l :=
    congrArg Int.toNat (hleaves.q hx (linkIndex_small hl) (by decide))
  refine ⟨(hleaves.regs rfl).trans (hcounts.regs rfl), hleaves.mem.trans hcounts.mem, hout.trans (by rw [hcounts.out]), ?_, ?_, ?_, ?_, hrecs.trans (by rw [hcounts.txRecs])⟩
  · exact (hqn (by decide)).trans hfc
  · exact (hqn (by decide)).trans hfa
  · exact (hqn (by decide)).trans hkc
  · exact (hqn (by decide)).trans hka

end

/-- Settles O17: what leaves is `cellSend_video`, `cellSend_noVideo` and `cellSend_audio` on a link whose place has moved on, what arrives is
`cellReceive_uncorr_facts`, `cellReceive_bad_facts` and `State.Heard` by class, records are `recordTest`'s three cases, and CREDIT is `creditSend_facts`. -/
theorem cellsAreSentAndReceived : Obligations.CellsAreSentAndReceived := by
  intro s t link hwf hfits hl hin hco p moved goes spores noVideo
  have hsent {c : Cell} {u : State} (h : (s.since t).Sent link c u) : moved u ∧ goes u c := by
    obtain ⟨hpos, hmem, hout⟩ := h
    refine ⟨⟨hpos, hmem⟩, hout.trans ?_⟩
    unfold State.sealed
    show _ ++ [Sent.cell link (sealCell (match s.nextSpore link with | some (k, v) => _ | none => _))] = _
    cases s.nextSpore link <;> rfl
  have hturned := turn_turned (s := s.since t) (l := link) hwf hl
  refine ⟨fun hedge hhand => ?_, fun c hu => ?_, fun c hu hcrc => ?_, fun c hu hcrc hsp => ?_, fun among got named hkind => ?_, fun ctrl aud => ?_⟩
  · have hmedia : (s.since t).sendsMedia link = true := by
      show (s.inService link && !s.controlOnly && !(s.isEdge && s.fenced)) = true
      rw [hin, hco, hedge]
      rfl
    have hexec (r : Option CellReady) := exec_fabricCellSend t r hhand
    refine ⟨fun r slot i g c hcal hg hc => ⟨_, hexec r, ?_⟩, fun r x hcal hno hx hcred => ⟨_, hexec r, ?_⟩, fun r c idx hcal ha hcred => ⟨_, hexec r, ?_⟩,
      fun r hno hx ha => ⟨_, hexec r, ?_⟩⟩
    · rw [cellSend_video (s := s.since t) hmedia hcal hg hc]
      obtain ⟨h, hregs⟩ := hturned.sendVideo hl g c
      exact ⟨(hsent h).1, hregs, (hsent h).2⟩
    · obtain ⟨v, hv, hto⟩ := cellSend_noVideo (s := s.since t) hwf hl hin hcal hno
      rw [hto, ctrlOr_some (s := s.since t) hx hcred hin]
      obtain ⟨h, htaken, hat⟩ := hv.sendCtrl hfits hl x
      exact ⟨(hsent h).1, htaken, (hsent h).2, hat⟩
    · rw [cellSend_audio (s := s.since t) hin hcal, audOr_some (s := s.since t) ha hcred hmedia]
      obtain ⟨h, htaken, hat⟩ := hturned.sendAud hfits hl c idx
      exact ⟨(hsent h).1, htaken, (hsent h).2, hat⟩
    · obtain ⟨v, hv, hto⟩ := cellSend_idle (s := s.since t) hwf hl hin hno hx ha
      rw [hto]
      obtain ⟨h, hregs⟩ := hv.sendIdle hl
      exact ⟨(hsent h).1, hregs, (hsent h).2⟩
  · exact ⟨_, exec_fabricCellReceive t c, cellReceive_uncorr_facts (s := s.since t) hwf hl hfits hin hu⟩
  · exact ⟨_, exec_fabricCellReceive t c, cellReceive_bad_facts (s := s.since t) hwf hl hin hu hcrc⟩
  · intro held
    refine ⟨_, exec_fabricCellReceive t c, ?_⟩
    have hheard := heard (s := s.since t) hwf hl c.corr
    rw [cellReceive_good (s := s.since t) hin hu hcrc]
    generalize (put .flBad 0 link).to ((count .FL_CW_CORR c.corr link).to (s.since t)) = v at *
    obtain ⟨hmem, hout, hbad⟩ := hheard.leaves hl ((touches_iff fun _ => cellTake_touches c.late hsp).step v)
    refine ⟨hmem, hout, hbad, fun hs => ?_, fun hs => ?_⟩
    · rw [hs, iff_to, if_neg (by decide)]
      exact hheard.regs
    · rw [hs, iff_to, if_pos (by decide)]
      refine ⟨fun n slot outs f fm hcls hfs hedge hfed hf hfm => hheard.video hsp hin hfits hl hco hcls hedge hfs hfed hf hfm, fun hcls => ?_⟩
      split
      next hover => exact hheard.overrun hsp hin hl hcls hover
      next hroom => exact hheard.control hsp hin hfits hl hcls hroom
  · intro v
    have htouch := recordTest_touches among named got
    have honly : s.only [.FAB_TAG_FAILS] v := (htouch.step s).only (by decide +kernel)
    have hv : v = (recordTest among named got).to s := rfl
    clear_value v
    cases hfrom : s.senderOf got among with
    | none =>
      refine ⟨?_, honly⟩
      rw [hv, recordTest_unverified hkind hfrom]
      exact tagFails_counts _ _ (State.wf_regs hwf)
    | some n =>
      refine ⟨?_, honly⟩
      split
      next hold =>
        rw [hv, recordTest_replayed hkind hfrom hold]
        exact count_rd (State.wf_regs hwf)
      next hnew =>
        rw [hv]
        exact State.rd_congr (recordTest_verified hkind hfrom hnew) ..
  · intro fc fa
    cases hdue : (s.since t).creditDue link ctrl aud with
    | true =>
      obtain ⟨hregs, hmem, hrest⟩ := creditSend_facts (s := s.since t) hwf hl ctrl aud
      refine ⟨_, exec_creditSend t ctrl aud hdue, hregs, hmem, ?_⟩
      rw [if_pos rfl]
      exact hrest
    | false =>
      refine ⟨_, exec_creditSend_idle t ctrl aud hdue, rfl, rfl, ?_⟩
      rw [if_neg Bool.false_ne_true]

end Sys2Proof.Machine
end
